-- ==== Sys2Proof/Word.lean ====
section
/-! DEFINITION. The word types of the register space: registers are 32 bits wide (R29), tables and the frame store are bytes. -/

namespace Sys2Proof

/-- A 32-bit register word (R29). -/
abbrev W := BitVec 32

/-- One byte of memory. -/
abbrev Byte := BitVec 8

/-- A 64-bit quantity read or written as a _LO/_HI pair (R29). -/
abbrev W64 := BitVec 64

end Sys2Proof
end

