-- ==== Sys2Proof/Config.lean ====
section
/-! DEFINITION. What one implementation fixes and the values the spec leaves open: opaque constants without a body, so that no proof can see a value of them. -/

namespace Sys2Proof.Config

/-- A value the spec leaves open: the k-th free draw of the machine, where k is the counter State.freeCount (log entry 3). -/
opaque freeValue : Nat → Nat

/-- The contents of the boot ROM, which no rule of the spec gives (log entry 4). -/
opaque romByte : Nat → BitVec 8

/-- SHA-384 of a byte string as a big-endian number (FIPS 180-4, which the spec names and does not define; log entry 5). -/
opaque sha384 : List (BitVec 8) → Nat

/-- HMAC-SHA-384 of key and message as a big-endian number (log entry 5). -/
opaque hmacSha384 : List (BitVec 8) → List (BitVec 8) → Nat

/-- AES-256-GCM encryption: key, IV, associated data and plaintext give ciphertext and tag (log entry 5). -/
opaque gcmEncrypt : List (BitVec 8) → Nat → List (BitVec 8) → List (BitVec 8) → List (BitVec 8) × Nat

/-- AES-256-GCM decryption: key, IV, associated data, ciphertext and tag give the plaintext, none where the tag fails (log entry 5). -/
opaque gcmDecrypt : List (BitVec 8) → Nat → List (BitVec 8) → List (BitVec 8) → Nat → Option (List (BitVec 8))

/-- ECDSA P-384 signing of a digest with a private scalar and a nonce: r and s (log entry 5). -/
opaque ecdsaSign : Nat → Nat → Nat → Nat × Nat

/-- ECDSA P-384 verification: public point, digest, r and s (log entry 5). -/
opaque ecdsaVerify : Nat × Nat → Nat → Nat × Nat → Bool

/-- P-384 point multiplication of a public point by a scalar, the shared point of ECDH (log entry 5). -/
opaque ecMul : Nat → Nat × Nat → Nat × Nat

/-- P-384 public point of a private scalar (log entry 5). -/
opaque ecPublic : Nat → Nat × Nat

/-- Video format whose frames time the packets of an ancillary output that is linked to no video output, which no rule states (log entry 30). -/
opaque ancVideo : Nat → BitVec 16

/-- offsetScaledLogVariance that the device announces as grandmaster, which no rule states (log entry 34). -/
opaque ptpVariance : BitVec 16

end Sys2Proof.Config
end

