-- ==== Sys2Proof/Syntax.lean ====
section
/-! DEFINITION. The commands of the device, one constructor for each row of spec/opcode_table.json, and the data they carry. -/

namespace Sys2Proof

/-- Privilege mode of a core's transaction (R366); other masters carry machine. -/
inductive PrivMode where
  | user | supervisor | machine
  deriving DecidableEq, Repr

/-- Who makes an access: the BMX master number of Table 15.3 and the privilege mode. -/
structure Requester where
  num : Nat
  mode : PrivMode
  deriving DecidableEq, Repr

/-- The operation of an atomic memory access of the RISC-V A extension (R383). -/
inductive AmoOp where
  | swap | add | xor | and | or | min | max | minu | maxu
  deriving DecidableEq, Repr

/-- What a bus transaction does (R374, R383). -/
inductive TxnKind where
  | read | write | fetch | lr | sc | amo (op : AmoOp)
  deriving DecidableEq, Repr

/-- How the ECC of a word read came out (R241, R365). -/
inductive Ecc where
  | clean | corrected | uncorrectable
  deriving DecidableEq, Repr

/-- A line cell: the fields of its descriptor token (Table 3.2) and its payload bytes, 64 to a token. Flag n of flags is descriptor bit 320 + n (Table 3.3). -/
structure LineCell where
  essence : Nat
  format : Nat
  frameCount : Nat
  line : Nat
  field2 : Bool
  seq : Nat
  ptpTime : Nat
  flags : Nat
  outputId : Nat
  units : Nat
  payload : List Byte
  pcrc : Nat
  dcrc : Nat
  deriving DecidableEq, Repr

/-- The announced dataset of a PTP timing master (Table 14.4, PTP_DS; R333). -/
structure PtpDs where
  gm : Nat
  clockClass : Nat
  accuracy : Nat
  variance : Nat
  priority1 : Nat
  priority2 : Nat
  steps : Nat
  timeSource : Nat
  utcOffset : Nat
  deriving DecidableEq, Repr

/-- A record of the twin link's control messages and hash messages (Table 14.4). -/
inductive CtlRec where
  | status (selftest revertInh : Bool) (profile dpll ql : Nat) (imgValid : Bool) (imageId hdrCrc : Nat)
  | time (tm : Bool) (dpll ql : Nat) (meanRaw : Int)
  | ptpDs (ds : PtpDs)
  | take (tag op stamp time : Nat) (members : List (Nat × Nat)) (last : Bool)
  | agree (tag : Nat) (refuse : Bool) (reason : Nat)
  | imageArm (epoch imageId hdrCrc : Nat)
  | prof (op profile epoch imageId hdrCrc : Nat)
  | sync (slot k stamp : Nat)
  | audSlip (port instant stamp : Nat)
  | fence (engine : Nat) (ready : Bool) (epoch : Nat)
  | hash (epoch first : Nat) (hashes : List Nat)
  | role (op roles epoch : Nat)
  | lane (active epoch : Nat)
  | snap (time : Nat)
  deriving DecidableEq, Repr

/-- A PTP message that a port sends (R331): its sequence number, origin or receive timestamp in ps, the port a Delay_Resp answers, the dataset announced with UTC flags (31 VALID, 30 LEAP61, 29 LEAP59, as RTU_UTC), or the metadata TLV's data field. -/
inductive PtpMsg where
  | sync (seq origin : Nat)
  | followUp (seq origin : Nat)
  | delayReq (seq : Nat)
  | delayResp (seq receipt sender port : Nat)
  | announce (seq : Nat) (ds : PtpDs) (utc : Nat)
  | management (seq : Nat) (tlv : List (BitVec 8))
  deriving DecidableEq, Repr

/-- An ancillary packet (R71): its 10-bit DID, SDID and DC words, its line and horizontal offset, data stream and link, its user data words and its checksum word. -/
structure AncPkt where
  did : Nat
  sdid : Nat
  dc : Nat
  line : Nat
  hoff : Nat
  c : Bool
  link : Bool
  words : List Nat
  cs : Nat
  deriving DecidableEq, Repr

/-- Where a received burst stands against the structure its context names (Table 7.3): in its place, with EAV, SAV or line number elsewhere, or of another structure of Table 7.1. -/
inductive LinePlace where
  | inPlace | misplaced | other
  deriving DecidableEq, Repr

/-- An embedded audio data packet as its standard codes it (R186): group 1 to 8, samples as channel, sample number on the PTP grid and word of Table 3.7, and the outcome of its BCH code. -/
structure SdiAudio where
  group : Nat
  samples : List (Nat × Nat × Nat)
  ecc : Ecc
  deriving DecidableEq, Repr

/-- One received line period as the interface standards of Table 7.1 read it from a burst's words (R178, R184): its place, whether it is the first burst of a frame, its line number, the second burst of a 6G or 12G line period, the active samples, the line CRC and line-number checks, ancillary packets other than audio, audio data packets, and the audio control packets as group and asynchronous mark. -/
structure SdiLine where
  place : LinePlace
  first : Bool
  line : Nat
  half : Bool
  video : List Nat
  crcOk : Bool
  lnOk : Bool
  anc : List AncPkt
  audio : List SdiAudio
  control : List (Nat × Bool)
  deriving DecidableEq, Repr

/-- The commands of the device, in the order of spec/opcode_table.json. -/
inductive Instr where
  /-- POWER_ON_RESET (R463): POR_N low, or a rail monitor seeing a rail below 90 % of nominal, holds the device in power-on reset, and it leaves reset once every rail has been in range for 1 ms with POR_N high. -/
  | powerOnReset
  /-- COLD_RESET (R455): A low of at least 1 µs on COLD_RST_N makes a cold reset of the device. -/
  | coldReset (lowNs : Nat)
  /-- GLITCH_TRIP (R405): A VDD_CORE glitch detector trips; within 1 µs the KSU zeroes every slot and the device makes a cold reset, and KSU_GLITCH_LOG records the trip. -/
  | glitchTrip (die : Nat) (step level : Bool)
  /-- BOOT_ROM (R390): On reset release the boot core runs the ROM: it reads the fuses, identifies the flash, checks the banks under R389 and jumps to stage-2, or halts at 0xEE. -/
  | bootRom (flashOk : Bool)
  /-- PMAP_SEAL (R395): A write of 1 to BMX_PMAP_SEAL seals the protection map, after which the boot core is subject to the map. -/
  | pmapSeal (m : Requester) (v : Nat)
  /-- PMAP_WRITE (R394): A write to a page-class or region entry of the protection map, accepted from the boot core before the seal and refused after it. -/
  | pmapWrite (m : Requester) (n v : Nat)
  /-- HART_RUN_WRITE (R392): The boot core writes CPC_HART_RUN to release harts; the write is answered STATE before the seal. -/
  | hartRunWrite (m : Requester) (v : Nat)
  /-- REQ_OFF (R38): CTRL.REQ = OFF from ISOLATED powers the block domain down, and its registers are lost. -/
  | reqOff (m : Requester) (b k : Nat)
  /-- REQ_ISOLATED (R38): CTRL.REQ = ISOLATED powers an OFF block up, starts DRAIN from IDLE or RUN, or resets a FAULT block whose record has been acknowledged. -/
  | reqIsolated (m : Requester) (b k : Nat)
  /-- REQ_IDLE (R38): CTRL.REQ = IDLE opens the collar of an ISOLATED block, or stops a running data-path block at the next epoch boundary. -/
  | reqIdle (m : Requester) (b k : Nat)
  /-- REQ_RUN (R38): CTRL.REQ = RUN starts a control block at once, or a data-path block at the next epoch boundary, subject to the block's own refusal checks. -/
  | reqRun (m : Requester) (b k : Nat)
  /-- DRAIN_END (R38): All replies are delivered, or 50 µs elapse in DRAIN; the remaining requests are discarded and the block enters ISOLATED or FAULT. -/
  | drainEnd (b k : Nat)
  /-- REG_WRITE (R44): A write to a register that has no row of its own: it takes effect, or is refused with the response that applies under R34. -/
  | regWrite (m : Requester) (addr v : Nat)
  /-- PAIR_LO_WRITE (R29): A 32-bit write to the _LO half of a register pair is held in the pair's holding register and changes nothing else. -/
  | pairLoWrite (m : Requester) (addr v : Nat)
  /-- PAIR_HI_WRITE (R29): A write to the _HI half of a pair gives the pair the held _LO and the written _HI together, as one event. -/
  | pairHiWrite (m : Requester) (addr v : Nat)
  /-- PAIR_LO_READ (R29): A read of the _LO half of a pair latches _HI until _HI is read or _LO is read again. -/
  | pairLoRead (m : Requester) (addr : Nat)
  /-- STICKY_CLEAR (R36): A write of 1 to a W1C field clears the bit, unless hardware sets it in the same instant. -/
  | stickyClear (m : Requester) (addr v hw : Nat)
  /-- FORCE_WRITE (R37): A Privileged write of 1 to FORCE bit n raises the page's fault source n once, as a forced raise. -/
  | forceWrite (m : Requester) (b k v : Nat)
  /-- LOCK_WRITE (R51): A write of 1 to a LOCK.GROUP bit locks that group of the page's RL registers until cold reset. -/
  | lockWrite (m : Requester) (b k v : Nat)
  /-- WM_CLR_COUNT (R53): A write of 1 to CLR_COUNT sets the COUNT of the watermark to 0. -/
  | wmClrCount (m : Requester) (addr : Nat)
  /-- SHADOW_WRITE (R46): A write to a shadow offset changes the shadow copy and makes the status DIRTY, or is answered STATE while armed. -/
  | shadowWrite (m : Requester) (addr v : Nat)
  /-- SHADOW_ARM (R47): A write of SHADOW_CTRL.ARM arms the shadow for the epoch that EPOCH names, or ends REFUSED_LATE when the arm deadline is missed. -/
  | shadowArm (m : Requester) (b k epoch : Nat)
  /-- SHADOW_ARM_NEXT (R46): ARM with NEXT arms the shadow for the earliest boundary that meets the block's arm deadline. -/
  | shadowArmNext (m : Requester) (b k : Nat)
  /-- SHADOW_CANCEL (R46): A write of SHADOW_CTRL.CANCEL cancels an armed flip, or is answered STATE with CANCEL_LATE after the commit point. -/
  | shadowCancel (m : Requester) (b k : Nat)
  /-- SHADOW_COMMIT (R46): At the block's commit point the armed shadow freezes and the block's checks run, giving COMMITTED or REFUSED_CHECK. -/
  | shadowCommit (b k : Nat)
  /-- EPOCH_BOUNDARY (R10): The RTU generates an epoch boundary on a TCLK edge and sends the boundary token into the core, where every plane starts its list. -/
  | epochBoundary
  /-- SLACK_STALE (R136): After 8 epochs in a row without a measurement, PTM_SLACK_STALE rises and the set point is held. -/
  | slackStale
  /-- LOOP_DOWN_STEP (R137): When S has stayed at or above TARGET + BAND for a whole span of DOWN_MS, VDD_CORE falls by one step. -/
  | loopDownStep
  /-- RUN_DESC_EXEC (R75): A plane executes one RUN descriptor, carrying the named cells of SRC to the egress buffer of DST. -/
  | runDescExec (p : Nat) (damaged : List Nat)
  /-- GAP_EXEC (R86): A plane reaches a GAP and inserts Fumarole probes there while its executed token count is below MIN_TOKENS. -/
  | gapExec (p mismatches : Nat)
  /-- PLANE_LIST_DONE (R80): A plane reaches END or LIST_LEN, and ELAPSED, SLACK and SLACK_PROJ are recorded. -/
  | planeListDone (p elapsed : Nat)
  /-- CARRY_DONE (R80): A plane completes its carried runs and starts index 0 of the new list. -/
  | carryDone (p : Nat)
  /-- CELL_ASSEMBLE (R65): A producer completes a cell in its ingress buffer and assigns it to an epoch, or drops it with CXF_IBUF_FULL when the pool has no slot. -/
  | cellAssemble (die : Nat) (c : LineCell) (complete : Bool)
  /-- CELL_RELEASE (R67): At a release time the egress rim releases the output's cell, restamped with SEQ, or a fill cell under R84. -/
  | cellRelease (dst i : Nat)
  /-- LATE_CELL_RELEASE (R85): A LATE cell that reaches the egress buffer after its release time leaves as soon as it arrives. -/
  | lateCellRelease (dst : Nat)
  /-- IMG_LOAD (R98): GSE_IMG_CMD LOAD starts copying and checking a timeline image for the target epoch named in EPOCH. -/
  | imgLoad (m : Requester) (epoch : Nat)
  /-- IMG_LOAD_NEXT (R98): LOAD with NEXT targets the earliest flip epoch whose arm deadline falls after the load completes. -/
  | imgLoadNext (m : Requester)
  /-- IMG_CANCEL (R103): GSE_IMG_CMD CANCEL before the commit point cancels every page of the image group and restores every shadow the image wrote. -/
  | imgCancel (m : Requester)
  /-- IMG_COPY_DONE (R98): The GSE completes the copy and checks of an image, then arms the group, refuses the image, or completes a load made in IDLE. -/
  | imgCopyDone
  /-- TAKE_CMD (R111): GSE_P_CMD OP TAKE submits a single take, which the port accepts or refuses under Table 4.9. -/
  | takeCmd (m : Requester) (n : Nat) (next : Bool)
  /-- SALVO_CMD (R112): GSE_P_CMD OP SALVO submits a set of takes, accepted or refused whole. -/
  | salvoCmd (m : Requester) (n count : Nat) (next : Bool)
  /-- TAKE_CANCEL_CMD (R119): GSE_P_CMD OP CANCEL cancels a take or salvo cleanly before its commit point, or is refused with LATE after it. -/
  | takeCancelCmd (m : Requester) (n tag : Nat)
  /-- TAKE_ARM (R110): At the start of F − 2 the GSE writes the new SRC into the CXF shadow and arms the flip group for F. -/
  | takeArm
  /-- TAKE_COMMIT (R110): At the start of F − 1 the shadow freezes; takes still without an agreement are removed, and the CXF checks run. -/
  | takeCommit
  /-- PREFETCH_DONE (R118): The run-ahead read of the first four cells of a new FST source completes into the read port's staging buffer. -/
  | prefetchDone (src : Nat)
  /-- CREDIT_TICK (R121): Every 15.258789 µs GSE_CREDIT gains one credit, up to 8,192. -/
  | creditTick
  /-- PROF_REQ (R128): PTM_PROF_CMD REQ starts a profile change with its image, target epoch and request to the twin. -/
  | profReq (m : Requester) (profile epoch : Nat)
  /-- PROF_REQ_NEXT (R129): REQ with NEXT chooses the earliest qualifying boundary after the GSE completes its image checks. -/
  | profReqNext (m : Requester) (profile : Nat)
  /-- PROF_CANCEL (R131): PTM_PROF_CMD CANCEL cancels a pending profile change on both twins before the commit point. -/
  | profCancel (m : Requester)
  /-- RAMP_STEP (R140): During RAMPING the PTM raises VDD_CORE by one step every RAMP_US until the projection is met. -/
  | rampStep
  /-- PROF_COMMIT (R134): At the change's commit point the image group freezes when both READYs are present; otherwise the change is refused. -/
  | profCommit
  /-- SETTLE_STEP (R135): In SETTLING the PTM lowers VDD_CORE by one step every RAMP_US until the set point is inside the new window. -/
  | settleStep
  /-- SENSOR_SAMPLE (R142): Every 100 µs the PTM reads the 28 temperature sensors and forms the junction temperature. -/
  | sensorSample (readings : List Int)
  /-- RAIL_POLL (R149): Every PTM_R_POLL the PTM polls an enabled rail's readings and status and checks them against its limits. -/
  | railPoll (k vout iout : Nat) (pout : Option Nat) (temp : Int) (status : Nat)
  /-- RAIL_ENABLE (R150): PTM_R_CFG.EN going from 0 to 1 applies the rail entry, and for VDD_CORE the PTM checks VOUT_MODE. -/
  | railEnable (m : Requester) (k v mode : Nat)
  /-- PMBUS_TXN_FAIL (R150): A NACK or PEC mismatch is retried up to 3 times; then PTM_PMBUS_ERR rises and a failing VDD_CORE transaction freezes the loop. -/
  | pmbusTxnFail (k attempts : Nat) (pec : Bool)
  /-- PMBUS_CLK_TIMEOUT (R453): A PMBus target holding the clock low for more than 35 ms fails the transaction, and the master sends nine clocks and a stop. -/
  | pmbusClkTimeout (k attempts : Nat)
  /-- SMBALERT (R453): SMBALERT_N low makes the PTM read STATUS_WORD of every enabled rail on that master at once. -/
  | smbalert (master : Nat) (words : List Nat)
  /-- POWER_AVERAGE (R151): Every 100 ms PTM_POWER is updated, and PTM_POWER_HIGH rises after 10 consecutive averages above the cap. -/
  | powerAverage
  /-- CAL_LOAD (R156): PTM_CAL_CMD LOAD validates both calibration slots and loads the newer valid record. -/
  | calLoad (m : Requester)
  /-- CAL_SAVE (R155): PTM_CAL_CMD SAVE writes a new record to the slot not in use, in five ordered stages. -/
  | calSave (m : Requester)
  /-- CAL_OP_DONE (R155): A calibration LOAD or SAVE completes, or a SAVE ends with FLASH_ERR. -/
  | calOpDone (ok : Bool) (left : List (BitVec 8))
  /-- PLL_LOCK (R160): A quad's lane PLL locks; the page enters RUN once both PLLs are locked and the next boundary has passed. -/
  | pllLock (q : Nat) (tx : Bool)
  /-- PLL_LOCK_TIMEOUT (R160): The PLLs have not locked within 1 ms; the page stays in IDLE and SLC_PLL_UNLOCK rises. -/
  | pllLockTimeout (q : Nat)
  /-- PLL_UNLOCK (R160): A PLL loses lock in RUN; the transmitters of its direction stop driving until it relocks by itself. -/
  | pllUnlock (q : Nat) (tx : Bool)
  /-- SYNC_HEADER_INVALID (R170): A receive lane sees an invalid sync header; the block is discarded and counts towards loss of lock. -/
  | syncHeaderInvalid (lane block : Nat)
  /-- LANE_LOCK (R170): After 64 consecutive valid headers a receive lane enters LOCK. -/
  | laneLock (lane : Nat)
  /-- LOCK_RECOVERY_TIMEOUT (R170): A lane that has not relocked at the same POS within 100 µs enters ALIGN. -/
  | lockRecoveryTimeout (lane : Nat)
  /-- ALIGN_SLIP (R170): A write of SLC_Q_ALIGN.SLIP moves the lane's block boundary one bit later. -/
  | alignSlip (m : Requester) (q v : Nat)
  /-- SLF_BURST_RX (R169): A whole SLF line burst is received and checked, and is delivered to the SFE or dropped under Table 6.6. -/
  | slfBurstRx (lane header : Nat) (body : List (Bool × Nat))
  /-- SLF_MARKER_RX (R165): A MARKER block is received and its MCOUNT is checked. -/
  | slfMarkerRx (lane payload : Nat)
  /-- SLF_SLEEP_RX (R171): A receiver with RX_SLEEP_EN sees a SLEEP block, holds its CDR and equaliser, and sleeps. -/
  | slfSleepRx (lane : Nat)
  /-- RX_WAKE (R173): A sleeping receiver detects WAKE blocks and measures the offset, then makes a fast wake or starts a full retrain. -/
  | rxWake (lane : Nat) (ppm : Int)
  /-- RX_RETRAIN_DONE (R173): A full retrain from the seed completes and the lane enters ALIGN. -/
  | rxRetrainDone (lane : Nat)
  /-- SLF_BURST_TX (R168): At a line's departure time the SLC sends its burst with SEQ from PTP time. -/
  | slfBurstTx (lane stream : Nat)
  /-- SLF_MARKER_TX (R165): At the first point between bursts after every 16,384 blocks, the transmitter sends a MARKER. -/
  | slfMarkerTx (lane : Nat)
  /-- TX_SLEEP_SET (R171): Setting TX_SLEEP on a lane with no stream sends 16 SLEEP blocks and stops the transmitter. -/
  | txSleepSet (m : Requester) (q v : Nat)
  /-- TX_SLEEP_CLEAR (R172): Clearing TX_SLEEP wakes the transmitter, which sends 128 WAKE blocks before traffic. -/
  | txSleepClear (m : Requester) (q v : Nat)
  /-- EYE_SCAN_START (R174): SLC_Q_EYE_CMD.START starts an eye scan of the selected lane at HOFF and VOFF. -/
  | eyeScanStart (m : Requester) (q v : Nat)
  /-- EYE_SCAN_DONE (R174): An eye scan completes after 2^(16 + DWELL) bits and reports its mismatch count. -/
  | eyeScanDone (q errors : Nat)
  /-- ADAPT_STEP (R175): At most once per millisecond a locked lane changes one equaliser setting by one code towards a larger eye. -/
  | adaptStep (lane setting : Nat) (up : Bool) (eyeW eyeH : Nat)
  /-- SFE_CTX_WRITE (R182): A write to a context word is accepted or answered STATE, and it takes effect at the next epoch boundary. -/
  | sfeCtxWrite (m : Requester) (q dir i w v : Nat)
  /-- SFE_LINE_RX (R184): The SFE deframes one received line period and produces its video, ancillary and audio content under its context state. -/
  | sfeLineRx (lane stream : Nat) (line : SdiLine)
  /-- SFE_INPUT_LOSS_TIMEOUT (R183): A LOCKED context with no burst for 2 ms raises SFE_INPUT_LOSS and returns to SEARCH. -/
  | sfeInputLossTimeout (q i : Nat)
  /-- SFE_LINE_TX (R188): At each line period's departure time the SFE builds and sends the line's burst from cells. -/
  | sfeLineTx (lane stream n line : Nat)
  /-- FRAME_RX (R200): A received Ethernet frame, taken whole, is checked, filtered and steered to its queue or flow, or dropped for the first failing cause. -/
  | frameRx (q port : Nat) (frame : List Byte) (pcsErr : Bool) (fixed lost : Nat)
  /-- FLOW_CELL_CLOSE (R212): 1 µs before the end of its assigned epoch, the MAC closes a receive flow's cell. -/
  | flowCellClose (q i : Nat)
  /-- MERGE_LEG_TIMEOUT (R213): One ST 2022-7 leg delivers nothing for 10 ms while the other does, and FMAC_MERGE_LEG rises. -/
  | mergeLegTimeout (q i : Nat)
  /-- MEDIA_PKT_TX (R217): At its due time a media packet of a transmit flow leaves its port. -/
  | mediaPktTx (q i n : Nat)
  /-- HOST_FRAME_TX (R204): A frame from a host transmit ring is sent once it fits before the port's next media packet. -/
  | hostFrameTx (q port : Nat)
  /-- PORT_LINK_CHANGE (R198): A port goes up or down with its PCS lock and faults, and FMAC_LINK_DOWN rises when it goes down. -/
  | portLinkChange (q port : Nat) (block am fec lf rf : Bool)
  /-- SEC_TX_AN_WRITE (R224): A write of TX_AN changes the port's transmit association from the next frame. -/
  | secTxAnWrite (m : Requester) (q v : Nat)
  /-- FST_ZERO_FILL_DONE (R228): The zero fill of all four stacks, begun on entry to IDLE, completes and BUSY clears. -/
  | fstZeroFillDone (hundredths : Nat)
  /-- FST_READ_DONE (R241): A frame-store read completes, with ECC correction or an uncorrectable result. -/
  | fstReadDone (i ns tok : Nat) (ecc : Ecc)
  /-- STACK_POWER_DOWN (R240): A stack idle for IDLE_US, with its tolerances permitting, enters power-down. -/
  | stackPowerDown (st : Nat)
  /-- STACK_WAKE (R240): A request or URGENT wakes a stack from power-down, and it serves again within 10 µs. -/
  | stackWake (st ns : Nat)
  /-- SCRUB_READ (R242): The scrubber reads the next granule, so that every granule is read within HOURS. -/
  | scrubRead (st : Nat) (ecc : Ecc)
  /-- PXP_FRAME_START (R247): At the start of each frame the engine marks every line of the frame it writes invalid. -/
  | pxpFrameStart (e k : Nat)
  /-- PXP_LINE_COMPOSITE (R253): An engine composites one output line from its layers and writes it to its slot. -/
  | pxpLineComposite (e line : Nat)
  /-- FENCE_WRITE (R257): A write to a fence word on PXP page 0x50 updates it and counts in PXP_FENCE_WRITES. -/
  | fenceWrite (m : Requester) (n v : Nat)
  /-- FENCE_POINT (R258): At the fence point the PXP evaluates fence-readiness and sends it to the twin. -/
  | fencePoint (e : Nat)
  /-- MRS_FRAME_START (R266): The MRS starts a frame at a line boundary after a READY and MIN_US, or on the fixed beat. -/
  | mrsFrameStart
  /-- MRS_MAX_US_EXPIRE (R266): No READY arrives by MAX_US, and the frame starts, repeating the last completed frame. -/
  | mrsMaxUsExpire
  /-- MRS_FRAME_READY_WRITE (R267): A host write of MRS_FRAME_READY gives a READY under KIND HOST. -/
  | mrsFrameReadyWrite (m : Requester) (v : Nat)
  /-- MRS_UNDERRUN (R272): An active line is due and not wholly in the buffer, and the MRS aborts the frame with MRS_BG. -/
  | mrsUnderrun
  /-- AUX_NATIVE_WRITE (R274): MRS_AUX_CMD REQ 0x8 issues a native AUX write from MRS_AUX_DATA. -/
  | auxNativeWrite (m : Requester) (addr len : Nat)
  /-- AUX_NATIVE_READ (R274): MRS_AUX_CMD REQ 0x9 issues a native AUX read into MRS_AUX_DATA. -/
  | auxNativeRead (m : Requester) (addr len : Nat)
  /-- AUX_I2C_WRITE (R274): MRS_AUX_CMD REQ 0x0 or 0x4 issues an I2C-over-AUX write. -/
  | auxI2cWrite (m : Requester) (mot : Bool) (addr len : Nat)
  /-- AUX_I2C_READ (R274): MRS_AUX_CMD REQ 0x1 or 0x5 issues an I2C-over-AUX read. -/
  | auxI2cRead (m : Requester) (mot : Bool) (addr len : Nat)
  /-- AUX_REPLY (R274): An AUX reply arrives and ends the request as ACK or NACK, or schedules a DEFER retry. -/
  | auxReply (kind : Nat) (data : List Byte)
  /-- AUX_DEFER_RETRY (R274): 100 µs after a DEFER the request is retried, up to 7 times. -/
  | auxDeferRetry
  /-- AUX_TIMEOUT (R274): No AUX reply within 400 µs ends the request as TIMEOUT. -/
  | auxTimeout
  /-- HPD_IRQ (R275): A low pulse of 0.25–2 ms on DP_HPD is an IRQ_HPD. -/
  | hpdIrq
  /-- HPD_UNPLUG (R275): DP_HPD low for more than 2 ms is an unplug; the transmitters stop and TRAINED clears. -/
  | hpdUnplug
  /-- HPD_PLUG (R275): A rise of DP_HPD after more than 2 ms low raises MRS_HPD_EVENT. -/
  | hpdPlug
  /-- LINK_TRAIN (R276): MRS_LINK_CMD.TRAIN reads the DPCD and runs clock recovery and channel equalisation. -/
  | linkTrain (m : Requester) (v : Nat)
  /-- LINK_TRAIN_DONE (R276): Training ends with RESULT OK, CR_FAIL or EQ_FAIL. -/
  | linkTrainDone (result swing preemph lanes : Nat) (dpcd : List Byte)
  /-- AES_FRAME_RX (R280): An AES3 input frame is received, checked and assigned to a sample instant or an elastic buffer. -/
  | aesFrameRx (p w0 w1 : Nat) (par0 par1 bad : Bool) (ppm : Int)
  /-- AES_LOSS_TIMEOUT (R283): No valid preamble for 8 frame periods puts the input in ACQUIRE and raises AUD_AES_LOSS. -/
  | aesLossTimeout (p : Nat)
  /-- AUD_SAMPLE_INSTANT (R279): At each sample instant the AUD takes each input's frame, repeating or discarding frames as the rules give. -/
  | audSampleInstant (rate n : Nat)
  /-- AUD_SOURCE_CELL (R294): The AUD writes a source group cell once the last sample it draws on is available. -/
  | audSourceCell (g b : Nat)
  /-- AES_FRAME_TX (R285): An AES3 output frame starts on the sample-instant grid. -/
  | aesFrameTx (p n : Nat)
  /-- WS_FRAME_RX (R288): A word-select port receives the pair of one sample period. -/
  | wsFrameRx (w n left right bclks : Nat) (ppm : Int)
  /-- WS_FRAME_TX (R288): A word-select port sends the pair of one sample period. -/
  | wsFrameTx (w n : Nat)
  /-- QM_MSG_RX (R307): A quality message on REF_QM is received and validated, and the candidate's QL is updated. -/
  | qmMsgRx (n : Nat) (bytes : List (BitVec 8))
  /-- QM_MISSING (R307): No valid message within 12 ms counts as missing, and after 5 the candidate's QL becomes unknown. -/
  | qmMissing (n : Nat)
  /-- REF_CLK_LOSS (R313): The selected REF candidate has no REF_CLK edge for 1 µs; it is lost and the DPLL enters HOLDOVER. -/
  | refClkLoss (n : Nat)
  /-- REF_FP_MISS (R313): The selected REF candidate misses two expected REF_FP pulses and is lost. -/
  | refFpMiss (n : Nat)
  /-- DPLL_UPDATE (R318): At each phase measurement of the selected candidate the system DPLL updates y. -/
  | dpllUpdate (phase freq : Int)
  /-- DPLL_LOCK (R317): The lock criteria hold for LOCK_S, and the DPLL enters LOCKED with bandwidth BW. -/
  | dpllLock
  /-- WTR_EXPIRE (R311): A better candidate's lead has held for WTR_S seconds, and selection switches to it. -/
  | wtrExpire
  /-- QUAL_COMPLETE (R312): After QUAL_MS a qualifying candidate passes and the DPLL acquires it, or it is disqualified. -/
  | qualComplete (phase freq : Int) (pulses : Bool) (exchanges : Nat) (unbroken : Bool)
  /-- DISQUAL_EXPIRE (R312): 60 s after a failed qualification, the candidate is no longer disqualified. -/
  | disqualExpire (c : Nat)
  /-- PBO_DRAW_DONE (R320): The build-out draw-down reaches zero, and PBO_DONE sets. -/
  | pboDrawDone
  /-- HOLDOVER_SPEC_EXPIRE (R321): After SPEC_S in HOLDOVER, IN_SPEC clears and RTU_HOLD_SPEC rises. -/
  | holdoverSpecExpire
  /-- SLEW_CLAMP_LIMIT (R319): A slew clamp lasting longer than 1 s raises RTU_SLEW_LIMIT. -/
  | slewClampLimit
  /-- LO_CLK_FAULT (R301): LO_CLK has no edge for 1 µs, or is measured beyond ±20 ppm, and RTU_LO_FAULT rises. -/
  | loClkFault (present : Bool) (ppb : Int)
  /-- TIME_STEP (R302): RTU_TIME_CMD.STEP sets the timescale to RTU_TIME_SET, only while the CXF is out of RUN and DRAIN. -/
  | timeStep (m : Requester)
  /-- TIME_STEP_REF (R302): RTU_TIME_CMD.STEP_REF sets the timescale to the time of the selected candidate. -/
  | timeStepRef (m : Requester)
  /-- PHASE_ADJ_WRITE (R320): A write to RTU_PHASE_ADJ adds its value to the build-out. -/
  | phaseAdjWrite (m : Requester) (v : Nat)
  /-- DPLL_MODE_WRITE (R317): A write of RTU_DPLL_CFG.MODE opens the loop (SW) or closes it again (HW). -/
  | dpllModeWrite (m : Requester) (v : Nat)
  /-- SEL_FORCE_WRITE (R314): A write of RTU_SEL_CFG.FORCE forces a candidate, HOLDOVER or FREE_RUN, or returns selection to R311. -/
  | selForceWrite (m : Requester) (v : Nat)
  /-- ACLK_FAMILY_WRITE (R323): A write that changes RTU_ACLK.AFAM switches the audio family, and ACLK stops for at most 10 ms. -/
  | aclkFamilyWrite (m : Requester) (v : Nat)
  /-- TOUT_EDGE (R324): A timing output drives its leading edge at its due time. -/
  | toutEdge (k : Nat)
  /-- TOUT_OFFSET_WRITE (R325): A write of RTU_O_OFFSET takes effect at the first due edge at least 1 ms later. -/
  | toutOffsetWrite (m : Requester) (k v : Nat)
  /-- TOUT_REALIGN (R326): RTU_O_CTRL.REALIGN realigns a REF_PULSE output to its input at the next pulse. -/
  | toutRealign (m : Requester) (k : Nat)
  /-- REF_FP_PULSE (R326): A pulse on REF_FP is timestamped and used for phase measurement and REF_PULSE outputs. -/
  | refFpPulse (n stamp : Nat)
  /-- TIC_ARM (R327): A write of RTU_TIC_CFG.ARM arms the time-interval counter. -/
  | ticArm (m : Requester) (v : Nat)
  /-- TIC_CAPTURE (R327): A START or STOP event is captured, and a result is produced once both are captured. -/
  | ticCapture (source tick bin : Nat)
  /-- TIC_TIMEOUT (R328): The second event does not arrive within PERIOD of the first, and TIMEOUT sets. -/
  | ticTimeout
  /-- TIC_CAL_UPDATE (R329): After 2^20 calibration events the RTU replaces the bin edges of the interpolator. -/
  | ticCalUpdate (counts : List Nat)
  /-- PTP_SYNC_TX (R331): A master port sends Sync each sync interval. -/
  | ptpSyncTx (p : Nat) (stamp : Option Nat)
  /-- PTP_ANNOUNCE_TX (R333): A master port sends Announce each announce interval. -/
  | ptpAnnounceTx (p : Nat)
  /-- PTP_DELAY_REQ_TX (R331): A slave port sends Delay_Req each delay-request interval. -/
  | ptpDelayReqTx (p : Nat) (stamp : Option Nat)
  /-- PTP_MGMT_TX (R337): With SM_EN as grandmaster, each master port sends a Management message with the ST 2059-2 TLV every announce interval. -/
  | ptpMgmtTx (p : Nat)
  /-- PTP_SYNC_RX (R335): A Sync message is received with its timestamp. -/
  | ptpSyncRx (p sender port seq : Nat) (origin : Option Nat) (corr : Int) (stamp : Option Nat)
  /-- PTP_FOLLOW_UP_RX (R335): A Follow_Up message supplies t1 of a two-step Sync. -/
  | ptpFollowUpRx (p sender port seq origin : Nat) (corr : Int)
  /-- PTP_DELAY_REQ_RX (R331): A master port receives Delay_Req and answers with Delay_Resp. -/
  | ptpDelayReqRx (p sender port seq stamp : Nat)
  /-- PTP_DELAY_RESP_RX (R335): A Delay_Resp completes an exchange that yields offsetFromMaster. -/
  | ptpDelayRespRx (p sender port seq receipt : Nat) (corr : Int)
  /-- PTP_ANNOUNCE_RX (R333): An Announce message updates the foreign master data used by the BMCA. -/
  | ptpAnnounceRx (p sender port : Nat) (ds : PtpDs)
  /-- PTP_BMCA (R333): At the shortest announce interval the BMCA decides the port states. -/
  | ptpBmca
  /-- PTP_ANNOUNCE_TIMEOUT (R336): An announce receipt timeout on a port raises RTU_PTP_FAULT. -/
  | ptpAnnounceTimeout (p : Nat)
  /-- HB_EDGE (R342): An edge on TWIN_HB_IN marks the heartbeat present. -/
  | hbEdge
  /-- HB_LOSS (R342): No heartbeat edge within 2 epochs + 10 µs; the heartbeat is lost and the pair state responds. -/
  | hbLoss
  /-- ALONE_EXPIRE (R354): After ALONE without a partner, the device takes roles or enters SPLIT. -/
  | aloneExpire
  /-- SLOT_TX (R346): At each µs slot each twin starts one message on every active lane. -/
  | slotTx
  /-- SLOT_MSG_RX (R347): A slot message is received, timed against the slot and accepted, accepted in the guard, or discarded. -/
  | slotMsgRx (lane stamp : Nat) (blocks : List (Bool × Nat))
  /-- PARTNER_TIMEOUT (R344): 3 epochs without a partner frame move the pair state to NO_PARTNER or SPLIT. -/
  | partnerTimeout
  /-- PAIR_ESTABLISH (R344): Partner frames in 8 consecutive epochs bring the pair to PAIRED, and roles are reconciled. -/
  | pairEstablish
  /-- CTL_RESEND (R349): After a NACK, or after 4 slots without ACK advancing, the oldest unacknowledged control message is resent. -/
  | ctlResend
  /-- LANE_FAIL (R345): 4 slots without a valid message, or loss of LOCK, mark a twin-link lane failed, and a LANE record is sent. -/
  | laneFail (k : Nat)
  /-- SPARE_ACTIVATE (R345): At the target boundary the woken spare lane becomes active, or is marked failed if it is not in LOCK. -/
  | spareActivate
  /-- STATUS_RX (R350): A STATUS record updates the partner's health, image and self-test state. -/
  | statusRx (selftest revertInh : Bool) (profile dpll ql : Nat) (imgValid : Bool) (imageId hdrCrc : Nat)
  /-- TIME_RX (R346): A TIME record gives the partner's mean raw, from which D and θ are computed. -/
  | timeRx (tm : Bool) (dpll ql : Nat) (meanRaw : Int)
  /-- PTP_DS_RX (R333): A PTP_DS record carries the timing master's announced dataset. -/
  | ptpDsRx (ds : PtpDs)
  /-- TWIN_TAKE_RX (R115): A TAKE record from the twin is checked against the local image and answered AGREE or REFUSE. -/
  | twinTakeRx (tag op stamp time : Nat) (members : List (Nat × Nat)) (last : Bool)
  /-- AGREE_RX (R116): An AGREE record queues the take, or a REFUSE removes it. -/
  | agreeRx (tag : Nat) (refuse : Bool) (reason : Nat)
  /-- IMAGE_ARM_RX (R104): An IMAGE_ARM record is compared with the locally armed image, and GSE_IMG_DIFFER rises on a mismatch. -/
  | imageArmRx (epoch imageId hdrCrc : Nat)
  /-- PROF_REQ_RX (R131): A PROF REQ from the twin is matched against the local request. -/
  | profReqRx (profile epoch imageId hdrCrc : Nat)
  /-- PROF_READY_RX (R131): A PROF READY from the twin is recorded for the commit point. -/
  | profReadyRx
  /-- PROF_CANCEL_RX (R131): A PROF CANCEL from the twin cancels the change before the commit point. -/
  | profCancelRx
  /-- PROF_FORCE_RX (R145): A forced COOL notice from the twin makes this device force COOL when FOLLOW_FORCE is 1. -/
  | profForceRx (epoch : Nat)
  /-- SYNC_RX (R234): A SYNC record gives the timing master's synchroniser choice, which is followed when FOLLOW_EN is 1. -/
  | syncRx (slot k stamp : Nat)
  /-- AUD_SLIP_RX (R282): An AUD_SLIP record gives the timing master's slip decision, which is followed when FOLLOW_EN is 1. -/
  | audSlipRx (port instant stamp : Nat)
  /-- FENCE_RX (R258): A FENCE record gives the twin's fence-readiness for an engine and target. -/
  | fenceRx (engine : Nat) (ready : Bool) (epoch : Nat)
  /-- HASH_RX (R352): A HASH record delivers the twin's output hashes for a release epoch. -/
  | hashRx (epoch first : Nat) (hashes : List Nat)
  /-- ROLE_GIVE_RX (R355): A GIVE record offers a role at a target, and the receiver replies TAKE. -/
  | roleGiveRx (roles epoch : Nat)
  /-- ROLE_TAKE_RX (R355): A TAKE reply confirms the move, or its absence 1 epoch before the target makes the holder send CANCEL. -/
  | roleTakeRx (epoch : Nat)
  /-- ROLE_CANCEL_RX (R355): A CANCEL record stops a pending role move on the receiver. -/
  | roleCancelRx (epoch : Nat)
  /-- LANE_RX (R345): A LANE record names a new active lane mask and a target boundary. -/
  | laneRx (active epoch : Nat)
  /-- SNAP_RX (R358): A SNAP record arms a latch at the partner's trigger time T, or counts a miss when T has passed. -/
  | snapRx (time : Nat)
  /-- HOLDOFF_EXPIRE (R356): The revert hold-off ends, and Twin B gives both roles to a ready Twin A. -/
  | holdoffExpire
  /-- SELFTEST_OK (R356): TWN_CTRL.SELFTEST_OK records that the self-test has passed. -/
  | selftestOk (m : Requester)
  /-- SELFTEST_CLR (R356): TWN_CTRL.SELFTEST_CLR withdraws SELFTEST_OK. -/
  | selftestClr (m : Requester)
  /-- RELEASE (R354): TWN_CTRL.RELEASE starts a GIVE of both roles to an OK partner. -/
  | release (m : Requester)
  /-- REVERT_NOW (R356): TWN_CTRL.REVERT_NOW on Twin B ends the hold-off at once if Twin A is ready. -/
  | revertNow (m : Requester)
  /-- CPC_RESTART_ALL (R371): CPC_RESTART.ALL makes a warm restart of every application core. -/
  | cpcRestartAll (m : Requester)
  /-- HART_RESTART (R371): CPC_H_CTRL.RESTART restarts one hart alone. -/
  | hartRestart (m : Requester) (h : Nat)
  /-- HART_NMI (R371): CPC_H_CTRL.NMI delivers a non-maskable interrupt to the hart. -/
  | hartNmi (m : Requester) (h : Nat)
  /-- WDT_KICK (R372): Any write to CPC_WDT_KICK restarts the watchdog count. -/
  | wdtKick (m : Requester) (v : Nat)
  /-- WDT_EXPIRE (R372): TIMEOUT_MS passes without a kick; the watchdog makes a warm restart and raises CPC_WDT. -/
  | wdtExpire
  /-- PLIC_CLAIM (R369): A read of CPC_PLIC_CLAIM claims the highest-priority pending interrupt of the context. -/
  | plicClaim (m : Requester) (c : Nat)
  /-- PLIC_COMPLETE (R369): A write of a source ID to CPC_PLIC_CLAIM completes that source, which becomes pending again if it is still asserted. -/
  | plicComplete (m : Requester) (c n : Nat)
  /-- MTIMECMP_MATCH (R368): mtime reaches a hart's CPC_MTIMECMP, and its timer interrupt asserts. -/
  | mtimecmpMatch (h : Nat)
  /-- MBOX_WRITE (R369): A non-zero write to CPC_MBOX asserts its interrupt source. -/
  | mboxWrite (m : Requester) (n v : Nat)
  /-- SRAM_SCRUB (R365): The SRAM scrubber reads and corrects the next word, so that every word is read within HOURS. -/
  | sramScrub (e : Ecc)
  /-- BMX_TRANSACTION (R376): A master issues a transaction, which is checked and queued at its target or answered at once. -/
  | bmxTransaction (m : Requester) (kind : TxnKind) (addr len data : Nat)
  /-- BMX_GRANT (R376): A target grants the queued transaction of the highest effective QoS, ageing included. -/
  | bmxGrant (t : Nat) (e : Ecc)
  /-- BMX_SUBBURST_NEXT (R378): When one sub-burst of a split burst completes, the next enters the queue. -/
  | bmxSubburstNext (m : Nat)
  /-- CORE_RETRY (R379): A core that receives RETRY repeats the access after 1 µs, up to RETRY_MAX times. -/
  | coreRetry (m : Nat)
  /-- LR_RESERVE (R383): A load-reserved access sets its hart's reservation on a 64-byte SRAM granule. -/
  | lrReserve (m : Requester) (addr len : Nat)
  /-- SC_ATTEMPT (R383): A store-conditional access succeeds only while the hart's reservation holds. -/
  | scAttempt (m : Requester) (addr len data : Nat)
  /-- AMO_EXEC (R383): An AMO is performed atomically at the SRAM bank. -/
  | amoExec (m : Requester) (op : AmoOp) (addr len data : Nat)
  /-- RESV_EXPIRE (R383): A reservation is lost after LIFE_US. -/
  | resvExpire (h : Nat)
  /-- LC_ADVANCE (R387): KSU_LC_CMD ADVANCE programs the next lifecycle state into the fuses. -/
  | lcAdvance (m : Requester)
  /-- SVN_INC (R387): KSU_LC_CMD SVN_INC programs one more bit of the security version. -/
  | svnInc (m : Requester)
  /-- REVOKE0 (R387): KSU_LC_CMD REVOKE0 programs the revoke bit of KEY_HASH0. -/
  | revoke0 (m : Requester)
  /-- REVOKE1 (R387): KSU_LC_CMD REVOKE1 programs the revoke bit of KEY_HASH1. -/
  | revoke1 (m : Requester)
  /-- FUSE_PROG_DONE (R387): Fuse programming completes within 25 ms, taking effect at the next cold reset. -/
  | fuseProgDone
  /-- SLOT_WRITE (R397): KSU_SLOT_CMD WRITE stores the staged key in a slot with its tag and zeroes the staging. -/
  | slotWrite (m : Requester) (slot : Nat)
  /-- SLOT_CLEAR (R397): KSU_SLOT_CMD CLEAR zeroes a slot and sets it EMPTY. -/
  | slotClear (m : Requester) (slot : Nat)
  /-- SLOT_LOCK (R397): KSU_SLOT_CMD LOCK locks a slot until the next cold reset. -/
  | slotLock (m : Requester) (slot : Nat)
  /-- KSU_SHA384 (R401): KSU_C_CMD OP 1 hashes the context buffer with SHA-384, one-shot or by phase. -/
  | ksuSha384 (m : Requester) (c phase : Nat)
  /-- KSU_HMAC (R401): KSU_C_CMD OP 2 computes HMAC-SHA-384 with a slot key. -/
  | ksuHmac (m : Requester) (c phase : Nat)
  /-- KSU_KDF (R402): KSU_C_CMD OP 3 derives a key under SP 800-108 into the DEST slot. -/
  | ksuKdf (m : Requester) (c : Nat)
  /-- KSU_GCM_ENCRYPT (R401): KSU_C_CMD OP 4 encrypts the buffer with AES-256-GCM. -/
  | ksuGcmEncrypt (m : Requester) (c : Nat)
  /-- KSU_GCM_DECRYPT (R404): KSU_C_CMD OP 5 decrypts with AES-256-GCM, zeroing the output on AUTH_FAIL. -/
  | ksuGcmDecrypt (m : Requester) (c : Nat)
  /-- KSU_ECDSA_SIGN (R402): KSU_C_CMD OP 6 signs with ECDSA P-384 using a TRNG nonce. -/
  | ksuEcdsaSign (m : Requester) (c : Nat)
  /-- KSU_ECDSA_VERIFY (R404): KSU_C_CMD OP 7 verifies an ECDSA P-384 signature. -/
  | ksuEcdsaVerify (m : Requester) (c : Nat)
  /-- KSU_ECDH (R402): KSU_C_CMD OP 8 computes ECDH P-384 into the DEST slot with KDF usage. -/
  | ksuEcdh (m : Requester) (c : Nat)
  /-- KSU_GENERATE (R402): KSU_C_CMD OP 9 generates a P-384 key pair into DEST and returns the public point. -/
  | ksuGenerate (m : Requester) (c : Nat)
  /-- KSU_OP_DONE (R403): The engine completes an operation and reports its status, then takes the next waiting context. -/
  | ksuOpDone (us : Nat) (tagBad : Bool)
  /-- TRNG_HEALTH_FAIL (R404): The TRNG fails its continuous health tests, and KSU_TRNG_FAIL rises. -/
  | trngHealthFail
  /-- CHAIN_LOCK_LOSS (R407): A chain-port receiver out of lock for 1 ms raises TWN_CHAIN_LINK. -/
  | chainLockLoss (port : Nat)
  /-- CHUNK_RX (R409): A DATA chunk is received and applied, acknowledged again, or discarded with NACK, and is forwarded when HOPS allow. -/
  | chunkRx (port head : Nat) (data : List Nat) (cend : Nat)
  /-- CHUNK_ABORT_RX (R418): An ABORT chunk from upstream aborts the open session and is forwarded. -/
  | chunkAbortRx (port seq session hops cend : Nat)
  /-- CHUNK_ACK_RX (R409): An ACK block is received as ACK, NACK, WAIT or REFUSED, and advances or stops the sender. -/
  | chunkAckRx (port payload : Nat)
  /-- CHUNK_RESEND (R409): After a NACK or 200 µs without ACK advancing, the oldest unacknowledged chunk is resent; after 32 resends the session is abandoned. -/
  | chunkResend (port : Nat)
  /-- CHUNK_WAIT_REPEAT (R409): After a WAIT the sender repeats the chunk every 10 ms. -/
  | chunkWaitRepeat (port : Nat)
  /-- UPD_LOAD (R410): TWN_CH_UPD_CMD LOAD starts a session from the staging area and sends the image onward with HOPS. -/
  | updLoad (m : Requester) (port hops : Nat)
  /-- UPD_ACTIVATE (R419): TWN_CH_UPD_CMD ACTIVATE rechecks the guards, writes the selector, starts the management pause and restarts the CPC. -/
  | updActivate (m : Requester) (port : Nat)
  /-- UPD_ABORT (R418): TWN_CH_UPD_CMD ABORT aborts an open session before activation. -/
  | updAbort (m : Requester) (port : Nat)
  /-- UPD_RESUME (R419): TWN_CH_UPD_CMD RESUME ends the management pause. -/
  | updResume (m : Requester) (port : Nat)
  /-- UPD_VERIFY_DONE (R414): After the last chunk, verification of the payload and manifest passes or fails with BAD_PAYLOAD. -/
  | updVerifyDone
  /-- UPD_STAGING_DONE (R417): Staging into the inactive set and secondary bank completes, or fails with FLASH_ERR. -/
  | updStagingDone (ok : Bool)
  /-- UPD_PAUSE_TIMEOUT (R419): The management pause ends 1.5 s after it began. -/
  | updPauseTimeout
  /-- UCODE_LOAD_DONE (R421): SFE or PXP microcode finishes loading, and the new UCODE appears in REV at once. -/
  | ucodeLoadDone (pxp : Bool)
  /-- UPD_PRIMARY_DONE (R423): The primary bank is programmed from the secondary and read back, and EP16 parts are sent on. -/
  | updPrimaryDone
  /-- FAULT_RAISE (R429): A fault source's raise reaches the FCR and creates a record or merges into the open one. -/
  | faultRaise (src detail addr : Nat)
  /-- FCR_WINDOW_END (R430): An open record's handling window ends without acknowledgement, and the record escalates. -/
  | fcrWindowEnd
  /-- DEVICE_WARM_RESET (R433): 100 µs after a Critical window end, every block other than the FCR resets and the harts restart. -/
  | deviceWarmReset
  /-- FCR_LATE_RECORDS (R434): When the FCR returns from a device warm reset, it records the sources raised meanwhile with LATE_REC. -/
  | fcrLateRecords
  /-- FCR_ACK (R430): A write to FCR_ACK naming the open record closes it as acknowledged, or counts as late. -/
  | fcrAck (m : Requester) (v : Nat)
  /-- FAULT_ASSERT (R435): FCR_CTRL.ASSERT asserts FAULT_N by software. -/
  | faultAssert (m : Requester)
  /-- FAULT_RELEASE (R435): FCR_CTRL.RELEASE clears the escalation and software causes of FAULT_N. -/
  | faultRelease (m : Requester)
  /-- SEV_WRITE (R427): A write to a severity entry applies from the next raise, unless lock group 0 is set. -/
  | sevWrite (m : Requester) (n v : Nat)
  /-- RING_ENABLE (R431): FCR_RING_CFG.EN going from 0 to 1 applies BASE and LOG2 and sets PROD and CONS to 0. -/
  | ringEnable (m : Requester) (v : Nat)
  /-- SNAP_SW_TRIGGER (R437): FCR_SNAP_CMD.TRIGGER requests a snapshot trigger from software. -/
  | snapSwTrigger (m : Requester)
  /-- SNAP_ARM_TIME (R437): FCR_SNAP_CMD.ARM_TIME arms the time match at FCR_SNAP_TIME. -/
  | snapArmTime (m : Requester)
  /-- SNAP_DISARM_TIME (R437): FCR_SNAP_CMD.DISARM_TIME disarms the time match. -/
  | snapDisarmTime (m : Requester)
  /-- SNAP_TIME_MATCH (R437): The timescale reaches an armed match time and triggers once. -/
  | snapTimeMatch (second : Bool)
  /-- SNAP_IN_PULSE (R437): A low pulse of at least 20 ns on SNAP_IN triggers at its falling edge. -/
  | snapInPulse (ns : Nat)
  /-- PCIE_SNAP_MSG (R447): A vendor-defined PCIe message with the snapshot signature triggers a snapshot. -/
  | pcieSnapMsg (vendor word : Nat)
  /-- SNAP_LATCH (R439): A page latches its snapshot mirror once the token has arrived on every input channel of its block. -/
  | snapLatch (b lat : Nat)
  /-- PCIE_ACCESS (R443): A host access through BAR0 or BAR2 becomes one BMX transaction, whose response is presented as a completion. -/
  | pcieAccess (bar2 write : Bool) (offset len data : Nat)
  /-- PERST (R444): PERST_N resets the PCIe endpoint and its configuration space only. -/
  | perst
  /-- FLR (R444): Function Level Reset resets the endpoint only. -/
  | flr
  /-- MSIX_EOI (R446): A write to EOI re-arms a vector and resends its message if it is still asserted. -/
  | msixEoi (m : Requester) (v : Nat)
  /-- MSIX_UNMASK (R446): Unmasking an asserted vector sends its pending message. -/
  | msixUnmask (m : Requester) (n : Nat)
  /-- HOST_DB_WRITE (R445): A write to HOST_DB sets or clears a doorbell and its vector. -/
  | hostDbWrite (m : Requester) (n v : Nat)
  /-- MSPI_READ (R450): A management-SPI READ word is applied as one register read. -/
  | mspiRead (seq waddr edges : Nat) (busy : Bool)
  /-- MSPI_WRITE (R450): A management-SPI WRITE word is applied as one register write, or recognised as a duplicate. -/
  | mspiWrite (seq waddr data edges : Nat) (busy : Bool)
  /-- MSPI_NOP (R449): A NOP word returns the response to the last word that was not a NOP. -/
  | mspiNop (edges : Nat)
  /-- MSPI_WORD_DISCARD (R451): A select release with fewer than 96 edges discards the word. -/
  | mspiWordDiscard (edges : Nat)
  /-- JTAG_EXTEST (R454): A boundary-scan instruction such as EXTEST holds the device in cold reset. -/
  | jtagExtest
  /-- JTAG_TEST_LOGIC_RESET (R454): The TAP's Test-Logic-Reset state releases the device from the cold reset held by boundary scan. -/
  | jtagTestLogicReset
  /-- JTAG_DEBUG (R454): The DEBUG instruction opens the RISC-V debug module where the lifecycle admits it. -/
  | jtagDebug
  /-- JTAG_FUSE_PROG (R454): FUSE_PROG programs fuses in BLANK, or advances the lifecycle in PROVISIONED. -/
  | jtagFuseProg (advance : Bool) (root hash0 uid : Nat)
  /-- FAULT_N_EXTERNAL_LOW (R435): The FAULT_N pin reads low while no cause of the device asserts it, and FCR_FAULT_PIN rises. -/
  | faultNExternalLow (low : Bool)
  /-- PCIE_LINK_CHANGE (R444): The PCI Express link trains up or is lost, affecting only the endpoint. -/
  | pcieLinkChange (up : Bool) (width rate : Nat)
  /-- ACLK_SWITCH_DONE (R323): After a change of audio family, ACLK resumes in the new family and SWITCHING clears. -/
  | aclkSwitchDone
  /-- RTU_LOOP_LOAD_DONE (R420): The RTU loop code finishes loading during activation, and the system DPLL stops holding y. -/
  | rtuLoopLoadDone
  deriving DecidableEq, Repr

end Sys2Proof
end

