-- ==== Sys2Proof/Decode.lean ====
section
/-! DEFINITION. The command that a word spells by the opcode table's bits. -/

namespace Sys2Proof

/-- No row of spec/opcode_table.json gives bits: the device's commands are register accesses, protocol words and events, and none is spelled by a word of its own, so no word spells a command. -/
def decodeTableWord (_nbits _w : Nat) : Option Instr := none

end Sys2Proof
end

