-- ==== Sys2Proof/Machine/Coding.lean ====
section
/-! DEFINITION. Codings that the spec takes from other standards: uninterpreted, so that no proof can see a value of them (log entry 26). -/

namespace Sys2Proof

/-- What a transmitted SDI line period holds (R188 to R193): interface, Level B, link number, format, line number on the interface, active samples, placed ancillary packets by data stream and position, audio samples as channel, sample number and word, the ST 352 value inserted, and inverted line CRCs. -/
structure SdiOut where
  iface : Nat
  levelB : Bool
  qlink : Nat
  format : Nat
  line : Nat
  video : List Nat
  anc : List (Nat × AncPkt)
  audio : List (Nat × Nat × Nat)
  pid : Option Nat
  crcInverted : Bool
  deriving DecidableEq, Repr

/-- Word i of an SDI line period under its interface standard: TRS, line number, line CRC, blanking, ancillary data, embedded audio and picture (Table 7.1, R188). -/
opaque Config.sdiWord : SdiOut → Nat → BitVec 10

end Sys2Proof
end

