-- ==== Sys2Proof/Machine/Bits.lean ====
section
/-! DEFINITION. Bit fields, byte order, sign reading and the sparse canonical lists that hold registers and memory. -/

namespace Sys2Proof.Machine

/-- Field hi:lo of a register word as a number. -/
def fld (w : W) (hi lo : Nat) : Nat := (w.toNat >>> lo) % 2 ^ (hi + 1 - lo)

/-- Bit n of a register word. -/
def bitOf (w : W) (n : Nat) : Bool := w.toNat.testBit n

/-- A register word with field hi:lo replaced (the value taken modulo the field's size). -/
def setFld (w : W) (hi lo v : Nat) : W :=
  BitVec.ofNat 32 (w.toNat - (fld w hi lo <<< lo) + ((v % 2 ^ (hi + 1 - lo)) <<< lo))

/-- A register word with bit n set or cleared. -/
def setBit (w : W) (n : Nat) (b : Bool) : W := setFld w n n (if b then 1 else 0)

/-- A 32-bit word of a number. -/
def w32 (n : Nat) : W := BitVec.ofNat 32 n

/-- A Boolean as one bit. -/
def b2n (b : Bool) : Nat := if b then 1 else 0

/-- A two's-complement reading of an n-bit field. -/
def signed (n v : Nat) : Int := if v % 2 ^ n < 2 ^ (n - 1) then (v % 2 ^ n : Nat) else (v % 2 ^ n : Nat) - (2 ^ n : Nat)

/-- The n-bit two's-complement encoding of an integer. -/
def unsigned (n : Nat) (i : Int) : Nat := (i % (2 ^ n : Nat)).toNat

/-- A value kept inside lo..hi, as the clamped registers of the spec say. -/
def clamp (lo hi v : Nat) : Nat := if v < lo then lo else if hi < v then hi else v

/-- Division rounded up. -/
def ceilDiv (a b : Nat) : Nat := (a + b - 1) / b

/-- The n bytes of a number, least significant first (little-endian). -/
def bytesLE : Nat → Nat → List Byte
  | 0, _ => []
  | n + 1, v => BitVec.ofNat 8 v :: bytesLE n (v / 256)

/-- A number from bytes, least significant first. -/
def ofBytesLE : List Byte → Nat
  | [] => 0
  | b :: r => b.toNat + 256 * ofBytesLE r

/-- A number from bytes, most significant first. -/
def ofBytesBE (l : List Byte) : Nat := ofBytesLE l.reverse

/-- The n bytes of a number, most significant first. -/
def bytesBE (n v : Nat) : List Byte := (bytesLE n v).reverse

/-- Sparse canonical list: what key a holds, where dflt gives what an unlisted key reads as. -/
def sget {α : Type} (dflt : Nat → α) : List (Nat × α) → Nat → α
  | [], a => dflt a
  | (b, w) :: r, a => if b = a then w else sget dflt r a

/-- Sparse canonical list: insertion of a key at its place in rising order. -/
def sins {α : Type} (a : Nat) (v : α) : List (Nat × α) → List (Nat × α)
  | [] => [(a, v)]
  | (b, w) :: r => if a < b then (a, v) :: (b, w) :: r else (b, w) :: sins a v r

/-- Sparse canonical list: a key removed. -/
def sdel {α : Type} (a : Nat) (l : List (Nat × α)) : List (Nat × α) := l.filter (fun c => c.1 != a)

/-- Sparse canonical list: key a takes value v; a value equal to what the unlisted key reads as is not listed. -/
def sput {α : Type} [DecidableEq α] (dflt : Nat → α) (l : List (Nat × α)) (a : Nat) (v : α) : List (Nat × α) :=
  if v = dflt a then sdel a l else sins a v (sdel a l)

/-- Sparse canonical list: keys strictly rise from above lo, and no entry equals what its unlisted key reads as. -/
def scanonFrom {α : Type} [DecidableEq α] (dflt : Nat → α) : Option Nat → List (Nat × α) → Bool
  | _, [] => true
  | lo, (b, w) :: r =>
    (match lo with | none => true | some x => decide (x < b)) && decide (w ≠ dflt b) && scanonFrom dflt (some b) r

/-- Sparse canonical list: the one canonical form. -/
def scanon {α : Type} [DecidableEq α] (dflt : Nat → α) (l : List (Nat × α)) : Bool := scanonFrom dflt none l

/-- Element n of a list, or a given value past its end. -/
def nthD {α : Type} (l : List α) (n : Nat) (d : α) : α := (l[n]?).getD d

/-- Element n of a list replaced; unchanged past its end. -/
def setNth {α : Type} (l : List α) (n : Nat) (v : α) : List α := l.set n v

/-- First element that a test admits. -/
def findL {α : Type} (p : α → Bool) (l : List α) : Option α := l.find? p

/-- Elements that a test admits replaced by f. -/
def mapIf {α : Type} (p : α → Bool) (f : α → α) (l : List α) : List α := l.map (fun x => if p x then f x else x)

/-- A list of keyed values: the value of key k, if any. -/
def kget {α : Type} (l : List (Nat × α)) (k : Nat) : Option α := (l.find? (fun c => c.1 == k)).map (·.2)

/-- A list of keyed values in rising order: key k takes value v. -/
def kput {α : Type} (l : List (Nat × α)) (k : Nat) (v : α) : List (Nat × α) := sins k v (sdel k l)

end Sys2Proof.Machine
end

