-- ==== Sys2Proof/Machine/Operands.lean ====
section
/-! DEFINITION. The operand forms of the device: format codes and essence IDs, raster timing, sequence numbers, the line cell's descriptor, run descriptors and the check codes (R58 to R75, R473). -/

namespace Sys2Proof.Machine

/-! Check codes. -/

/-- One bit of a reflected CRC with the given reflected polynomial. -/
def crcBit (poly : Nat) (c : Nat) : Nat := if c % 2 = 1 then (c / 2) ^^^ poly else c / 2

/-- A reflected CRC register after one byte, least significant bit first. -/
def crcByte (poly : Nat) (c : Nat) (b : Byte) : Nat :=
  let x := c ^^^ b.toNat
  crcBit poly (crcBit poly (crcBit poly (crcBit poly (crcBit poly (crcBit poly (crcBit poly (crcBit poly x)))))))

/-- CRC-32C over bytes in order (R473): Castagnoli, reflected, initial value and final XOR of all ones. -/
def crc32c (l : List Byte) : Nat := l.foldl (crcByte 0x82F63B78) 0xFFFFFFFF ^^^ 0xFFFFFFFF

/-- One bit, most significant first, of a CRC of n bits. -/
def crcMsbBit (n poly : Nat) (c : Nat) : Nat :=
  if c.testBit (n - 1) then ((c <<< 1) ^^^ poly) % 2 ^ n else (c <<< 1) % 2 ^ n

/-- A CRC of n bits processed most significant bit first after one byte. -/
def crcMsbByte (n poly : Nat) (c : Nat) (b : Byte) : Nat :=
  let f := crcMsbBit n poly
  f (f (f (f (f (f (f (f (c ^^^ (b.toNat <<< (n - 8)))))))))) 

/-- CRC-8 of a quality message (R306): x⁸ + x² + x + 1, initial value 0. -/
def crc8 (l : List Byte) : Nat := l.foldl (crcMsbByte 8 0x07) 0

/-! Format codes (R61, R62). -/

/-- Kind of a format code: 0 video, 1 audio, 2 ancillary, 3 reserved. -/
def fmtKind (f : Nat) : Nat := f / 16384 % 4
def fmtRaster (f : Nat) : Nat := f / 2048 % 8
def fmtRate (f : Nat) : Nat := f / 128 % 16
def fmtSampling (f : Nat) : Nat := f / 16 % 8
def fmtDepth (f : Nat) : Nat := f / 4 % 4
def fmtChannels (f : Nat) : Nat := f / 256 % 64 + 1
def fmtAudioRate (f : Nat) : Nat := f / 32 % 8
def fmtNonPcm (f : Nat) : Bool := f / 16 % 2 == 1

/-- Components of a SAMPLING code (R61). -/
def components (sampling : Nat) : Nat :=
  match sampling with | 0 => 2 | 1 => 3 | 2 => 3 | 3 => 3 | _ => 4

/-- Bits of a DEPTH code. -/
def depthBits (d : Nat) : Nat := match d with | 0 => 8 | 1 => 10 | _ => 12

/-- Active samples per line of a RASTER code (Table 3.4). -/
def rasterWidth (r : Nat) : Nat :=
  match r with | 0 => 1280 | 1 => 1920 | 2 => 1920 | 3 => 1920 | 4 => 3840 | 5 => 2048 | _ => 4096

/-- Active lines per frame of a RASTER code (Table 3.4). -/
def rasterHeight (r : Nat) : Nat :=
  match r with | 0 => 720 | 4 => 2160 | 6 => 2160 | _ => 1080

/-- Total lines per frame (SMPTE ST 296, ST 274, ST 2036-1, ST 2048-2: PRESUMED, log entry 7). -/
def rasterTotal (r : Nat) : Nat := match r with | 0 => 750 | 4 => 2250 | 6 => 2250 | _ => 1125

/-- First and last active lines of the frame or of the first field (PRESUMED, log entry 7). -/
def rasterRange1 (r : Nat) : Nat × Nat :=
  match r with | 0 => (26, 745) | 1 => (21, 560) | 2 => (21, 560) | 4 => (42, 2201) | 6 => (42, 2201) | _ => (42, 1121)

/-- First and last active lines of the second field, an empty range for a progressive raster (PRESUMED, log entry 7). -/
def rasterRange2 (r : Nat) : Nat × Nat := match r with | 1 => (584, 1123) | 2 => (584, 1123) | _ => (1, 0)

/-- The raster has two fields or segments. -/
def interlaced (r : Nat) : Bool := r == 1 || r == 2

/-- Frame rate of a RATE code as a fraction of Hz (Table 3.4). -/
def rateFrac (r : Nat) : Nat × Nat :=
  match r with
  | 0 => (24000, 1001) | 1 => (24, 1) | 2 => (25, 1) | 3 => (30000, 1001) | 4 => (30, 1) | 5 => (48000, 1001)
  | 6 => (48, 1) | 7 => (50, 1) | 8 => (60000, 1001) | 9 => (60, 1) | 10 => (100, 1) | 11 => (120000, 1001)
  | _ => (120, 1)

/-- Samples per total line of a raster at a rate (PRESUMED, log entry 7). -/
def lineSamples (raster rate : Nat) : Nat :=
  let fam := match rate with | 0 => 0 | 1 => 0 | 5 => 0 | 6 => 0 | 2 => 1 | 7 => 1 | 10 => 1 | _ => 2
  let s1080 := match fam with | 0 => 2750 | 1 => 2640 | _ => 2200
  match raster with
  | 0 => if rate < 5 then (match fam with | 0 => 4125 | 1 => 3960 | _ => 3300)
         else (match fam with | 0 => 4125 | 1 => 1980 | _ => 1650)
  | 4 => 2 * s1080
  | 6 => 2 * s1080
  | _ => s1080

/-- Payload tokens of a video line (R61). -/
def videoTokens (f : Nat) : Nat := ceilDiv (rasterWidth (fmtRaster f) * components (fmtSampling f) * depthBits (fmtDepth f)) 512

/-- A format code is valid (R61, R62); tx is set for a transmit flow, whose audio bit 3 may be 1 (R215). -/
def formatValid (f : Nat) (tx : Bool := false) : Bool :=
  decide (f < 65536) &&
  match fmtKind f with
  | 0 => fmtRaster f != 7 && decide (fmtRate f ≤ 12) && decide (fmtSampling f ≤ 4) && fmtDepth f != 3 && decide (videoTokens f ≤ 320)
  | 1 => fmtAudioRate f != 7 && decide ((if tx then f % 8 else f % 16) = 0)
  | 2 => f / 4096 % 4 != 3 && decide (f % 4096 = 0)
  | _ => false

/-- Sampling frequency in Hz of an audio RATE code (Table 3.5). -/
def audioHz (r : Nat) : Nat :=
  match r with | 0 => 32000 | 1 => 44100 | 2 => 48000 | 3 => 88200 | 4 => 96000 | 5 => 176400 | _ => 192000

/-! Essence IDs (R63, Table 3.6). -/

/-- Use of an essence ID. -/
inductive EssenceRole where
  | input | internalSource | output | internalSink | none | invalid
  deriving DecidableEq, Repr

/-- Role of an essence ID under Table 3.6. -/
def essenceRole (e : Nat) : EssenceRole :=
  if e ≤ 0x17FF then .input
  else if 0x2000 ≤ e ∧ e ≤ 0x3FFF then .input
  else if 0x4000 ≤ e ∧ e ≤ 0x443F then .internalSource
  else if 0x8000 ≤ e ∧ e ≤ 0x8FFF then .output
  else if 0x9000 ≤ e ∧ e ≤ 0x97FF then .output
  else if 0xA000 ≤ e ∧ e ≤ 0xBFFF then .output
  else if 0xC000 ≤ e ∧ e ≤ 0xC7FF then .internalSink
  else if e = 0xFFFF then .none
  else .invalid

/-- Format kind that an essence ID's range fixes; none for the FST ports, which take any kind. -/
def essenceKind (e : Nat) : Option Nat :=
  if e ≤ 0x0FFF then some 0
  else if e ≤ 0x17FF then some 1
  else if 0x2000 ≤ e ∧ e ≤ 0x3FFF then some 2
  else if 0x4400 ≤ e ∧ e ≤ 0x443F then some 0
  else if 0x8000 ≤ e ∧ e ≤ 0x8FFF then some 0
  else if 0x9000 ≤ e ∧ e ≤ 0x97FF then some 1
  else if 0xA000 ≤ e ∧ e ≤ 0xBFFF then some 2
  else if 0xC400 ≤ e ∧ e ≤ 0xC7FF then some 0
  else none

/-- Two kinds may meet in one run: they are equal or one of them is free (R78). -/
def kindsAgree (a b : Nat) : Bool :=
  match essenceKind a, essenceKind b with
  | some x, some y => x == y
  | _, _ => true

/-- An essence ID that may stand as a run's source (R63, R78). -/
def sourceValid (e : Nat) : Bool := match essenceRole e with | .input => true | .internalSource => true | .none => true | _ => false

/-- An essence ID that may stand as a run's destination. -/
def destValid (e : Nat) : Bool := match essenceRole e with | .output => true | .internalSink => true | _ => false

/-! Profiles and epochs (R10, R73, Table 0.3, Table 3.10). -/

/-- Epoch length of a profile in ns: 31.25 µs in SWIFT (code 1), else 125 µs (R10). -/
def epochLen (profile : Nat) : Nat := if profile = 1 then 31250 else 125000

/-- Budget of each plane per epoch (Table 3.10). -/
def planeBudget (profile : Nat) : Nat := match profile with | 1 => 40000 | 3 => 100000 | _ => 200000

/-- Fabric planes as a mask: planes 12 to 15 are lent in DENSE. -/
def planeMask (profile : Nat) : Nat := if profile = 2 then 0x0FFF else 0xFFFF

/-- Plane p is a fabric plane of the profile. -/
def fabricPlane (profile p : Nat) : Bool := (planeMask profile).testBit p

/-- Layers per engine and engines permitted by a profile (Table 0.3). -/
def pxpBudget (profile : Nat) : Nat × Nat := match profile with | 1 => (8, 32) | 2 => (32, 64) | 3 => (8, 16) | _ => (16, 64)

/-- Power cap of a profile in tenths of a watt (Table 0.3). -/
def powerCap (profile : Nat) : Nat := match profile with | 1 => 2100 | 3 => 1150 | _ => 2250

/-- SEQ of cell index i of an epoch that starts at time t in ns (R66): Q counts 31.25 µs. -/
def seqOf (epochStart i : Nat) : Nat := (16 * (epochStart / 31250) + i) % 2 ^ 32

/-! Nominal times (R64, R65; raster geometry PRESUMED, log entry 7). -/

/-- Nominal time in ns of global line number n (frame times total lines, plus line less 1): the first active word of that line. -/
def lineTime (f n : Nat) : Nat :=
  let r := fmtRaster f
  let q := rateFrac (fmtRate f)
  let s := lineSamples r (fmtRate f)
  (1000000000 * q.2 * (n * s + (s - rasterWidth r))) / (q.1 * rasterTotal r * s)

/-- Line 1 of frame k begins at this time in ns. -/
def frameStart (f k : Nat) : Nat := 1000000000 * (rateFrac (fmtRate f)).2 * k / (rateFrac (fmtRate f)).1

/-- Smallest global line number whose nominal time is at or after t. -/
def firstLineAt (f t : Nat) : Nat :=
  let r := fmtRaster f
  let q := rateFrac (fmtRate f)
  let s := lineSamples r (fmtRate f)
  ceilDiv (t * (q.1 * rasterTotal r * s) - 1000000000 * q.2 * (s - rasterWidth r)) (s * 1000000000 * q.2)

/-- Line l of the frame is an active line of the raster. -/
def activeLine (r l : Nat) : Bool :=
  (decide ((rasterRange1 r).1 ≤ l) && decide (l ≤ (rasterRange1 r).2)) || (decide ((rasterRange2 r).1 ≤ l) && decide (l ≤ (rasterRange2 r).2))

/-- Line l lies in the second field or segment. -/
def inField2 (r l : Nat) : Bool := interlaced r && decide ((rasterRange1 r).2 + 3 < l)

/-- One nominal cell of a format: its time, frame count, line, field, first and last marks and UNITS. -/
structure Nominal where
  time : Nat
  frameCount : Nat
  line : Nat
  field2 : Bool
  first : Bool
  last : Bool
  units : Nat
  deriving DecidableEq, Repr

/-- The nominal cell of a video line by global line number. -/
def videoNominal (f n : Nat) : Nominal :=
  let r := fmtRaster f
  let l := n % rasterTotal r + 1
  { time := lineTime f n, frameCount := (n / rasterTotal r) % 2 ^ 24, line := l, field2 := inField2 r l,
    first := l == (rasterRange1 r).1 || (interlaced r && l == (rasterRange2 r).1),
    last := l == (rasterRange1 r).2 || (interlaced r && l == (rasterRange2 r).2),
    units := rasterWidth r }

/-- First sample number at or after a time in ns (the sample grid runs from the PTP epoch, R279). -/
def firstSample (hz t : Nat) : Nat := ceilDiv (t * hz) 1000000000

/-- The nominal cell of audio block b: its first sample instant and the samples in its 125 µs (R64, R70). -/
def audioNominal (f b : Nat) : Nominal :=
  let hz := audioHz (fmtAudioRate f)
  let n0 := firstSample hz (b * 125000)
  { time := n0 * 1000000000 / hz, frameCount := b % 2 ^ 24, line := 0, field2 := false, first := true, last := true,
    units := firstSample hz ((b + 1) * 125000) - n0 }

/-- The nominal cells of a video or audio format with time plus shift in a..b, in time order (R65, R67); none for ancillary formats (R476). -/
def nominalsIn (f shift a b : Nat) : List Nominal :=
  match fmtKind f with
  | 0 =>
    let lo := firstLineAt f (a - shift)
    let hi := firstLineAt f (b - shift)
    ((List.range (hi - lo)).map (fun i => lo + i)).filterMap (fun n =>
      if activeLine (fmtRaster f) (n % rasterTotal (fmtRaster f) + 1) then some (videoNominal f n) else none)
  | 1 =>
    let lo := (a - shift) / 125000
    let hi := (b - shift) / 125000 + 1
    ((List.range (hi - lo)).map (fun i => audioNominal f (lo + i))).filter (fun c => decide (a ≤ c.time + shift) && decide (c.time + shift < b))
  | _ => []

/-! The descriptor token (R58, Table 3.2). -/

/-- Payload tokens of a cell. -/
def payloadLen (c : LineCell) : Nat := c.payload.length / 64

/-- Bits 511:32 of the descriptor token as a number, without LATE when strip is set. -/
def descriptorTop (c : LineCell) (stripLate : Bool) : Nat :=
  let flags := if stripLate then c.flags / 2 * 2 else c.flags
  ((c.essence % 65536) <<< 464) + ((c.format % 65536) <<< 448) + ((c.frameCount % 2 ^ 24) <<< 424) + ((c.line % 8192) <<< 411) +
  (b2n c.field2 <<< 410) + ((c.seq % 2 ^ 32) <<< 376) + ((c.ptpTime % 2 ^ 64) <<< 312) + ((payloadLen c % 512) <<< 303) +
  ((flags % 32768) <<< 288) + ((c.outputId % 65536) <<< 272) + ((c.units % 65536) <<< 256) + (c.pcrc % 2 ^ 32)

/-- PCRC of a payload (R58, R473). -/
def pcrcOf (payload : List Byte) : Nat := crc32c payload

/-- DCRC of a descriptor, with LATE taken as 0 (R58, R473). -/
def dcrcOf (c : LineCell) : Nat := crc32c (bytesBE 60 (descriptorTop c true))

/-- The 512-bit descriptor token as a number. -/
def descriptorBits (c : LineCell) : Nat := (descriptorTop c false <<< 32) + c.dcrc % 2 ^ 32

/-- A cell with its flag n set (Table 3.3, flag n is bit 320 + n). -/
def cellFlag (c : LineCell) (n : Nat) : LineCell := if c.flags.testBit n then c else { c with flags := c.flags + 2 ^ n }

/-- A cell sealed by a rim: DCRC computed over its fields (R59). -/
def cellSealed (c : LineCell) : LineCell := { c with dcrc := dcrcOf c }

/-! Fill content (R84). -/

/-- Bytes from a list of fields of one width each, packed from the most significant bit, padded with 0 to whole 512-bit tokens. -/
def packFields (w : Nat) (l : List Nat) : List Byte :=
  let total := l.length * w
  let tokens := ceilDiv total 512
  bytesBE (tokens * 64) ((l.foldl (fun acc x => acc * 2 ^ w + x % 2 ^ w) 0) * 2 ^ (tokens * 512 - total))

/-- One component group of black (R84): for 4:2:2 Cb Y Cr Y, else the components of one sample, alpha 0. -/
def blackSamples (f : Nat) : List Nat :=
  let sc := fun x => match fmtDepth f with | 0 => x / 4 | 1 => x | _ => x * 4
  match fmtSampling f with
  | 0 => [sc 512, sc 64, sc 512, sc 64]
  | 1 => [sc 512, sc 64, sc 512]
  | 2 => [sc 64, sc 64, sc 64]
  | 3 => [sc 512, sc 64, 0, sc 512, sc 64, 0]
  | _ => [sc 64, sc 64, sc 64, 0]

/-- Payload of a fill cell of a format with the given UNITS (R84): black video, or audio words 0 with V set; ancillary fills are empty. -/
def fillPayload (f units : Nat) : List Byte :=
  match fmtKind f with
  | 0 =>
    let g := blackSamples f
    let groups := if fmtSampling f = 0 ∨ fmtSampling f = 3 then units / 2 else units
    packFields (depthBits (fmtDepth f)) (List.replicate groups g).flatten
  | 1 => packFields 32 (List.replicate (units * fmtChannels f) 0x80)
  | _ => []

/-! Run descriptors (R74, Table 3.11). -/

/-- A 128-bit run descriptor as a number from its four words, word 0 first. -/
def descOfWords (w0 w1 w2 w3 : W) : Nat := w0.toNat + (w1.toNat <<< 32) + (w2.toNat <<< 64) + (w3.toNat <<< 96)

def dKind (d : Nat) : Nat := (d >>> 124) % 16
def dSrc (d : Nat) : Nat := (d >>> 108) % 65536
def dDst (d : Nat) : Nat := (d >>> 92) % 65536
def dFirst (d : Nat) : Nat := (d >>> 86) % 64
def dCount (d : Nat) : Nat := (d >>> 80) % 64 + 1
def dResv (d : Nat) : Nat := (d >>> 71) % 512
def dGap (d : Nat) : Nat := (d >>> 54) % 131072
def dReserved (d : Nat) : Nat := d % 2 ^ 54

/-- The descriptor with another source (R17: a take changes this field only). -/
def dWithSrc (d src : Nat) : Nat := d - (dSrc d <<< 108) + ((src % 65536) <<< 108)

/-- Claim of one descriptor in token times (R73). -/
def dClaim (d : Nat) : Nat :=
  match dKind d with | 1 => dCount d * (1 + dResv d) + 1 | 2 => dGap d + 1 | _ => 0

/-- The descriptors of a list that count: up to and including its first END (R73). -/
def listCounted : List Nat → List Nat
  | [] => []
  | d :: r => if dKind d = 15 then [d] else d :: listCounted r

/-- Claim of a list (R73). -/
def listClaim (l : List Nat) : Nat := ((listCounted l).map dClaim).sum

/-- A descriptor is faulty under BAD_DESC of R78. -/
def badDesc (d : Nat) : Bool :=
  match dKind d with
  | 1 => dReserved d != 0 || dGap d != 0 || !sourceValid (dSrc d) || !destValid (dDst d) || !kindsAgree (dSrc d) (dDst d) ||
         decide (64 < dFirst d + dCount d) || dResv d == 0 || decide (320 < dResv d)
  | 2 => dReserved d != 0 || dSrc d != 0 || dDst d != 0 || dFirst d != 0 || dCount d != 1 || dResv d != 0
  | 15 => d % 2 ^ 124 != 0
  | _ => true

end Sys2Proof.Machine
end

