-- ==== Sys2Proof/Machine/Regs.lean ====
section
/-! DEFINITION. The register map: the address of every register of the device under its own name, its access masks and its reset value, the table memory of each page and the fault sources, as the register tables of the spec give them (Tables 2.25, 3.15 to 18.9; R25, R26, R51, R427). -/

namespace Sys2Proof.Machine

/-- Address of page k of block b (R25, R26). -/
def pageAddr (b k : Nat) : Nat := 0x40000000 + b * 0x1000000 + k * 0x10000

namespace Reg

/-! CPC page 0 (15_control_processors_and_bus.md). -/
abbrev CPC_CFG : Nat := 0x40000100
abbrev CPC_STATUS : Nat := 0x40000104
abbrev CPC_RESTART : Nat := 0x40000108
abbrev CPC_RESET_CAUSE : Nat := 0x4000010C
abbrev CPC_WDT_CFG : Nat := 0x40000110
abbrev CPC_WDT_KICK : Nat := 0x40000114
abbrev CPC_HART_RUN : Nat := 0x40000118
abbrev CPC_SRAM_CORR_CNT : Nat := 0x4000011C
abbrev CPC_SRAM_UNCORR_CNT : Nat := 0x40000120
abbrev CPC_SRAM_ECC_ADDR : Nat := 0x40000124
abbrev CPC_SCRUB_CFG : Nat := 0x40000128
abbrev CPC_IRQ_SUMMARY : Nat := 0x4000012C
abbrev CPC_MBOX (i : Nat) : Nat := 0x40000140 + 4 * i
abbrev CPC_IRQ_PAGE (i : Nat) : Nat := 0x40000180 + 4 * i

/-! CPC pages 1 to 4 (15_control_processors_and_bus.md). -/
abbrev CPC_H_CTRL (k : Nat) : Nat := 0x40000100 + 0x10000 * k
abbrev CPC_H_STATUS (k : Nat) : Nat := 0x40000104 + 0x10000 * k
abbrev CPC_H_BOOT_ADDR_LO (k : Nat) : Nat := 0x40000108 + 0x10000 * k
abbrev CPC_H_BOOT_ADDR_HI (k : Nat) : Nat := 0x4000010C + 0x10000 * k
abbrev CPC_H_BUSERR_ADDR_LO (k : Nat) : Nat := 0x40000110 + 0x10000 * k
abbrev CPC_H_BUSERR_ADDR_HI (k : Nat) : Nat := 0x40000114 + 0x10000 * k
abbrev CPC_H_BUSERR_INFO (k : Nat) : Nat := 0x40000118 + 0x10000 * k
abbrev CPC_H_BUSERR_CNT (k : Nat) : Nat := 0x4000011C + 0x10000 * k
abbrev CPC_H_INSTRET_LO (k : Nat) : Nat := 0x40000120 + 0x10000 * k
abbrev CPC_H_INSTRET_HI (k : Nat) : Nat := 0x40000124 + 0x10000 * k
abbrev CPC_H_RATE (k : Nat) : Nat := 0x40000128 + 0x10000 * k
abbrev CPC_H_RATE_MIN (k : Nat) : Nat := 0x4000012C + 0x10000 * k
abbrev CPC_H_SC_FAIL_CNT (k : Nat) : Nat := 0x40000130 + 0x10000 * k
abbrev CPC_H_CACHE_ECC_CNT (k : Nat) : Nat := 0x40000134 + 0x10000 * k

/-! CPC page 5 (15_control_processors_and_bus.md). -/
abbrev CPC_B_STAGE : Nat := 0x40050100
abbrev CPC_B_BUSERR_ADDR_LO : Nat := 0x40050104
abbrev CPC_B_BUSERR_ADDR_HI : Nat := 0x40050108
abbrev CPC_B_BUSERR_INFO : Nat := 0x4005010C
abbrev CPC_B_BUSERR_CNT : Nat := 0x40050110
abbrev CPC_B_INSTRET_LO : Nat := 0x40050114
abbrev CPC_B_INSTRET_HI : Nat := 0x40050118
abbrev CPC_B_RATE : Nat := 0x4005011C
abbrev CPC_B_TCM_CORR_CNT : Nat := 0x40050120
abbrev CPC_B_TCM_UNCORR_CNT : Nat := 0x40050124
abbrev CPC_B_TCM_ECC_ADDR : Nat := 0x40050128
abbrev CPC_B_SEAL_US : Nat := 0x4005012C
abbrev CPC_B_RELEASE_US : Nat := 0x40050130
abbrev CPC_B_SVC_REQ : Nat := 0x40050134
abbrev CPC_B_SVC_RESP : Nat := 0x40050138
abbrev CPC_B_SVC_STATUS : Nat := 0x4005013C

/-! CPC page 6 (15_control_processors_and_bus.md). -/
abbrev CPC_PLIC_PRIO (i : Nat) : Nat := 0x40060100 + 4 * i
abbrev CPC_PLIC_PEND : Nat := 0x40060180
abbrev CPC_PLIC_EN (i : Nat) : Nat := 0x40060200 + 4 * i
abbrev CPC_PLIC_THR (i : Nat) : Nat := 0x40060300 + 16 * i
abbrev CPC_PLIC_CLAIM (i : Nat) : Nat := 0x40060304 + 16 * i

/-! CPC page 7 (15_control_processors_and_bus.md). -/
abbrev CPC_MTIME_LO : Nat := 0x40070100
abbrev CPC_MTIME_HI : Nat := 0x40070104
abbrev CPC_MTIMECMP_LO (i : Nat) : Nat := 0x40070110 + 8 * i
abbrev CPC_MTIMECMP_HI (i : Nat) : Nat := 0x40070114 + 8 * i
abbrev CPC_MSIP (i : Nat) : Nat := 0x40070140 + 4 * i

/-! BMX page 0 (15_control_processors_and_bus.md). -/
abbrev BMX_CFG : Nat := 0x41000100
abbrev BMX_STATUS : Nat := 0x41000104
abbrev BMX_PMAP_SEAL : Nat := 0x41000108
abbrev BMX_ERR_INFO : Nat := 0x4100010C
abbrev BMX_ERR_ADDR_LO : Nat := 0x41000110
abbrev BMX_ERR_ADDR_HI : Nat := 0x41000114
abbrev BMX_DECODE_CNT : Nat := 0x41000118
abbrev BMX_SECURE_CNT : Nat := 0x4100011C
abbrev BMX_RETRY_CNT : Nat := 0x41000120
abbrev BMX_LATE_CNT : Nat := 0x41000124
abbrev BMX_ABSENT_CNT : Nat := 0x41000128
abbrev BMX_RESV_BREAK_CNT : Nat := 0x4100012C
abbrev BMX_WAIT_MAX : Nat := 0x41000130
abbrev BMX_BRIDGE_WM : Nat := 0x41000134
abbrev BMX_RESV_CFG : Nat := 0x41000138
abbrev BMX_SC_FAIL_CNT : Nat := 0x4100013C
abbrev BMX_MSPI_WORDS : Nat := 0x41000140
abbrev BMX_MSPI_FRAME_CNT : Nat := 0x41000144
abbrev BMX_MSPI_SURPLUS_CNT : Nat := 0x41000148
abbrev BMX_MSPI_SHORT_CNT : Nat := 0x4100014C
abbrev BMX_MSPI_DUP_CNT : Nat := 0x41000150
abbrev BMX_MSPI_SEQ : Nat := 0x41000154

/-! BMX pages 1 to 12 (15_control_processors_and_bus.md). -/
abbrev BMX_M_CFG (k : Nat) : Nat := 0x41000100 + 0x10000 * k
abbrev BMX_M_STATUS (k : Nat) : Nat := 0x41000104 + 0x10000 * k
abbrev BMX_M_SERVED (k : Nat) : Nat := 0x41000108 + 0x10000 * k
abbrev BMX_M_LATE (k : Nat) : Nat := 0x4100010C + 0x10000 * k
abbrev BMX_M_RETRIED (k : Nat) : Nat := 0x41000110 + 0x10000 * k
abbrev BMX_M_REFUSED (k : Nat) : Nat := 0x41000114 + 0x10000 * k
abbrev BMX_M_WAIT_MAX (k : Nat) : Nat := 0x41000118 + 0x10000 * k
abbrev BMX_M_LAST_RETRY (k : Nat) : Nat := 0x4100011C + 0x10000 * k

/-! BMX pages 17 to 40 (15_control_processors_and_bus.md). -/
abbrev BMX_T_STATUS (k : Nat) : Nat := 0x41000100 + 0x10000 * k
abbrev BMX_T_Q_WM (k : Nat) : Nat := 0x41000104 + 0x10000 * k
abbrev BMX_T_GRANTS (k : Nat) : Nat := 0x41000108 + 0x10000 * k

/-! KSU page 0 (16_boot_protection_and_keys.md). -/
abbrev KSU_CFG : Nat := 0x42000100
abbrev KSU_STATUS : Nat := 0x42000104
abbrev KSU_LC : Nat := 0x42000108
abbrev KSU_LC_CMD : Nat := 0x4200010C
abbrev KSU_UID_LO : Nat := 0x42000110
abbrev KSU_UID_HI : Nat := 0x42000114
abbrev KSU_SVN : Nat := 0x42000118
abbrev KSU_KEYHASH : Nat := 0x4200011C
abbrev KSU_BOOT : Nat := 0x42000120
abbrev KSU_SLOT_CMD : Nat := 0x42000124
abbrev KSU_SLOT_ATTR : Nat := 0x42000128
abbrev KSU_SLOT_RESULT : Nat := 0x4200012C
abbrev KSU_SLOT_BAD_LO : Nat := 0x42000130
abbrev KSU_SLOT_BAD_HI : Nat := 0x42000134
abbrev KSU_SLOT_LOCKED_LO : Nat := 0x42000138
abbrev KSU_SLOT_LOCKED_HI : Nat := 0x4200013C
abbrev KSU_KEY_DATA (i : Nat) : Nat := 0x42000140 + 4 * i
abbrev KSU_TRNG_STATUS : Nat := 0x42000180
abbrev KSU_GLITCH_LOG : Nat := 0x42000184
abbrev KSU_SCRAMBLE_STATUS : Nat := 0x42000188
abbrev KSU_OPS : Nat := 0x4200018C
abbrev KSU_INVALID_CNT : Nat := 0x42000190
abbrev KSU_AUTH_FAIL_CNT : Nat := 0x42000194
abbrev KSU_TAG_FAIL_CNT : Nat := 0x42000198
abbrev KSU_SLOT_WRITES : Nat := 0x4200019C

/-! KSU pages 1 to 4 (16_boot_protection_and_keys.md). -/
abbrev KSU_C_CMD (k : Nat) : Nat := 0x42000100 + 0x10000 * k
abbrev KSU_C_STATUS (k : Nat) : Nat := 0x42000104 + 0x10000 * k
abbrev KSU_C_SLOT (k : Nat) : Nat := 0x42000108 + 0x10000 * k
abbrev KSU_C_LEN (k : Nat) : Nat := 0x4200010C + 0x10000 * k
abbrev KSU_C_AAD_LEN (k : Nat) : Nat := 0x42000110 + 0x10000 * k
abbrev KSU_C_OUT_LEN (k : Nat) : Nat := 0x42000114 + 0x10000 * k
abbrev KSU_C_IV (k i : Nat) : Nat := 0x42000118 + 0x10000 * k + 4 * i
abbrev KSU_C_TAG (k i : Nat) : Nat := 0x42000124 + 0x10000 * k + 4 * i
abbrev KSU_C_KDF_L (k : Nat) : Nat := 0x42000134 + 0x10000 * k
abbrev KSU_C_TIME_US (k : Nat) : Nat := 0x42000138 + 0x10000 * k
abbrev KSU_C_OPS (k : Nat) : Nat := 0x4200013C + 0x10000 * k
abbrev KSU_C_ERR_CNT (k : Nat) : Nat := 0x42000140 + 0x10000 * k
abbrev KSU_C_HASH_LEN_LO (k : Nat) : Nat := 0x42000144 + 0x10000 * k
abbrev KSU_C_HASH_LEN_HI (k : Nat) : Nat := 0x42000148 + 0x10000 * k
abbrev KSU_C_OWNER (k : Nat) : Nat := 0x4200014C + 0x10000 * k

/-! FCR page 0 (18_faults_and_snapshots.md). -/
abbrev FCR_CFG : Nat := 0x43000100
abbrev FCR_STATUS : Nat := 0x43000104
abbrev FCR_WIN_MAJOR : Nat := 0x43000108
abbrev FCR_WIN_CRIT : Nat := 0x4300010C
abbrev FCR_RING_BASE_LO : Nat := 0x43000110
abbrev FCR_RING_BASE_HI : Nat := 0x43000114
abbrev FCR_RING_CFG : Nat := 0x43000118
abbrev FCR_RING_PROD : Nat := 0x4300011C
abbrev FCR_RING_CONS : Nat := 0x43000120
abbrev FCR_RING_WM : Nat := 0x43000124
abbrev FCR_OPEN_REC (i : Nat) : Nat := 0x43000128 + 4 * i
abbrev FCR_ACK : Nat := 0x43000148
abbrev FCR_CTRL : Nat := 0x4300014C
abbrev FCR_FAULT_STATUS : Nat := 0x43000150
abbrev FCR_SNAP_CMD : Nat := 0x43000154
abbrev FCR_SNAP_CFG : Nat := 0x43000158
abbrev FCR_SNAP_TIME_LO : Nat := 0x4300015C
abbrev FCR_SNAP_TIME_HI : Nat := 0x43000160
abbrev FCR_SNAP_TIME2_LO : Nat := 0x43000164
abbrev FCR_SNAP_TIME2_HI : Nat := 0x43000168
abbrev FCR_SNAP_STATUS : Nat := 0x4300016C
abbrev FCR_SNAP_LAST_DROP : Nat := 0x43000170
abbrev FCR_SNAP_LAT_MAX : Nat := 0x43000174
abbrev FCR_RECORDS : Nat := 0x43000178
abbrev FCR_MERGED_CNT : Nat := 0x4300017C
abbrev FCR_DROPPED_CNT : Nat := 0x43000180
abbrev FCR_ESC_MAJOR_CNT : Nat := 0x43000184
abbrev FCR_ESC_CRIT_CNT : Nat := 0x43000188
abbrev FCR_ACK_LATE_CNT : Nat := 0x4300018C
abbrev FCR_SNAP_CNT : Nat := 0x43000190
abbrev FCR_SNAP_DROP_CNT : Nat := 0x43000194
abbrev FCR_ESC_LAST : Nat := 0x43000198
abbrev FCR_ESC_BLOCKS : Nat := 0x4300019C
abbrev FCR_ACK_US_MAX : Nat := 0x430001A0
abbrev FCR_LAST_SRC : Nat := 0x430001A4
abbrev FCR_STORM_CNT : Nat := 0x430001A8
abbrev FCR_LATE_REC_CNT : Nat := 0x430001AC
abbrev FCR_BLK_RAISED (i : Nat) : Nat := 0x430001C0 + 4 * i

/-! FCR pages 1 to 15 (18_faults_and_snapshots.md). -/
abbrev FCR_E_STATUS (k : Nat) : Nat := 0x43000100 + 0x10000 * k
abbrev FCR_E_INFO (k : Nat) : Nat := 0x43000104 + 0x10000 * k
abbrev FCR_E_ADDR_LO (k : Nat) : Nat := 0x43000108 + 0x10000 * k
abbrev FCR_E_ADDR_HI (k : Nat) : Nat := 0x4300010C + 0x10000 * k
abbrev FCR_E_LINK (k : Nat) : Nat := 0x43000110 + 0x10000 * k
abbrev FCR_E_LINK_CRC_CNT (k : Nat) : Nat := 0x43000114 + 0x10000 * k
abbrev FCR_E_DROOP_MIN (k : Nat) : Nat := 0x43000118 + 0x10000 * k
abbrev FCR_E_BIST (k : Nat) : Nat := 0x4300011C + 0x10000 * k
abbrev FCR_E_CNT (k i : Nat) : Nat := 0x43000140 + 0x10000 * k + 4 * i

/-! PTM page 0 (05_capacity_contract_and_power.md). -/
abbrev PTM_CFG : Nat := 0x44000100
abbrev PTM_PROF_CMD : Nat := 0x44000104
abbrev PTM_PROF_STATUS : Nat := 0x44000108
abbrev PTM_PROF_IMG_LO : Nat := 0x4400010C
abbrev PTM_PROF_IMG_HI : Nat := 0x44000110
abbrev PTM_FORCE_IMG_LO : Nat := 0x44000114
abbrev PTM_FORCE_IMG_HI : Nat := 0x44000118
abbrev PTM_PROF_TWIN : Nat := 0x4400011C
abbrev PTM_PROF_LAST_US : Nat := 0x44000120
abbrev PTM_LOOP_CFG : Nat := 0x44000124
abbrev PTM_LOOP_RATE : Nat := 0x44000128
abbrev PTM_VCORE_LIM : Nat := 0x4400012C
abbrev PTM_VCORE : Nat := 0x44000130
abbrev PTM_VCORE_RANGE : Nat := 0x44000134
abbrev PTM_LOOP_STATUS : Nat := 0x44000138
abbrev PTM_SLACK_NOW : Nat := 0x4400013C
abbrev PTM_STEPS_UP : Nat := 0x44000140
abbrev PTM_STEPS_DOWN : Nat := 0x44000144
abbrev PTM_EMERG_CNT : Nat := 0x44000148
abbrev PTM_STALE_CNT : Nat := 0x4400014C
abbrev PTM_THERM_CFG : Nat := 0x44000150
abbrev PTM_THERM_STATUS : Nat := 0x44000154
abbrev PTM_THERM_TRIP : Nat := 0x44000158
abbrev PTM_POWER : Nat := 0x4400015C
abbrev PTM_POWER_CAP : Nat := 0x44000160
abbrev PTM_POWER_WM : Nat := 0x44000164
abbrev PTM_POWER_PEAK : Nat := 0x44000168
abbrev PTM_PMBUS_CFG : Nat := 0x4400016C
abbrev PTM_PMBUS_ERR_CNT : Nat := 0x44000170
abbrev PTM_CAL_CMD : Nat := 0x44000174
abbrev PTM_CAL_STATUS : Nat := 0x44000178
abbrev PTM_CAL_SLOT_A : Nat := 0x4400017C
abbrev PTM_CAL_SLOT_B : Nat := 0x44000180
abbrev PTM_CAL_GEN : Nat := 0x44000184
abbrev PTM_CAL_AGE : Nat := 0x44000188
abbrev PTM_PROF_CHANGES : Nat := 0x4400018C
abbrev PTM_PROF_REFUSED : Nat := 0x44000190
abbrev PTM_FORCED_CNT : Nat := 0x44000194
abbrev PTM_COOL_QUADS (i : Nat) : Nat := 0x440001A0 + 4 * i
abbrev PTM_LOOP_HIST (i : Nat) : Nat := 0x44000200 + 4 * i

/-! PTM pages 1 to 8 (05_capacity_contract_and_power.md). -/
abbrev PTM_R_CFG (k : Nat) : Nat := 0x44000100 + 0x10000 * k
abbrev PTM_R_NOM (k : Nat) : Nat := 0x44000104 + 0x10000 * k
abbrev PTM_R_LIM (k : Nat) : Nat := 0x44000108 + 0x10000 * k
abbrev PTM_R_POLL (k : Nat) : Nat := 0x4400010C + 0x10000 * k
abbrev PTM_R_VOUT (k : Nat) : Nat := 0x44000110 + 0x10000 * k
abbrev PTM_R_IOUT (k : Nat) : Nat := 0x44000114 + 0x10000 * k
abbrev PTM_R_POUT (k : Nat) : Nat := 0x44000118 + 0x10000 * k
abbrev PTM_R_TEMP (k : Nat) : Nat := 0x4400011C + 0x10000 * k
abbrev PTM_R_STATUS (k : Nat) : Nat := 0x44000120 + 0x10000 * k
abbrev PTM_R_MARGIN (k : Nat) : Nat := 0x44000124 + 0x10000 * k
abbrev PTM_R_WM (k : Nat) : Nat := 0x44000128 + 0x10000 * k
abbrev PTM_R_ERR_CNT (k : Nat) : Nat := 0x4400012C + 0x10000 * k

/-! PTM page 9 (05_capacity_contract_and_power.md). -/
abbrev PTM_TS_TEMP (i : Nat) : Nat := 0x44090100 + 4 * i
abbrev PTM_TS_MAX (i : Nat) : Nat := 0x44090180 + 4 * i
abbrev PTM_TS_CFG : Nat := 0x44090200
abbrev PTM_TS_HOT : Nat := 0x44090204
abbrev PTM_TS_WM : Nat := 0x44090208
abbrev PTM_TS_ERR : Nat := 0x4409020C

/-! RTU page 0 (13_reference_and_timing.md). -/
abbrev RTU_CFG : Nat := 0x45000100
abbrev RTU_SEL_CFG : Nat := 0x45000104
abbrev RTU_SEL_STATUS : Nat := 0x45000108
abbrev RTU_DPLL_CFG : Nat := 0x4500010C
abbrev RTU_DPLL_STATUS : Nat := 0x45000110
abbrev RTU_SLEW_CFG : Nat := 0x45000114
abbrev RTU_FREQ_OUT : Nat := 0x45000118
abbrev RTU_FREQ_ADJ : Nat := 0x4500011C
abbrev RTU_PHASE_ADJ : Nat := 0x45000120
abbrev RTU_PHASE_ERR : Nat := 0x45000124
abbrev RTU_PBO : Nat := 0x45000128
abbrev RTU_LOCK_CFG : Nat := 0x4500012C
abbrev RTU_HOLD_CFG : Nat := 0x45000130
abbrev RTU_HOLD_STATUS : Nat := 0x45000134
abbrev RTU_TIME_SEC_HI : Nat := 0x45000138
abbrev RTU_TIME_SEC_LO : Nat := 0x4500013C
abbrev RTU_TIME_NS : Nat := 0x45000140
abbrev RTU_TIME_CMD : Nat := 0x45000144
abbrev RTU_TIME_SET_SEC_HI : Nat := 0x45000148
abbrev RTU_TIME_SET_SEC_LO : Nat := 0x4500014C
abbrev RTU_TIME_SET_NS : Nat := 0x45000150
abbrev RTU_UTC : Nat := 0x45000154
abbrev RTU_ACLK : Nat := 0x45000158
abbrev RTU_LO_STATUS : Nat := 0x4500015C
abbrev RTU_TWIN_OFFSET : Nat := 0x45000160
abbrev RTU_TWIN_OFFSET_MAX : Nat := 0x45000164
abbrev RTU_TIC_CFG : Nat := 0x45000168
abbrev RTU_TIC_PERIOD : Nat := 0x4500016C
abbrev RTU_TIC_LO : Nat := 0x45000170
abbrev RTU_TIC_HI : Nat := 0x45000174
abbrev RTU_PTP_CFG : Nat := 0x45000178
abbrev RTU_PTP_CLOCK : Nat := 0x4500017C
abbrev RTU_PTP_CLASS : Nat := 0x45000180
abbrev RTU_PTP_QLMAP : Nat := 0x45000184
abbrev RTU_PTP_ID_LO : Nat := 0x45000188
abbrev RTU_PTP_ID_HI : Nat := 0x4500018C
abbrev RTU_PTP_STATUS : Nat := 0x45000190
abbrev RTU_PTP_GM_ID_LO : Nat := 0x45000194
abbrev RTU_PTP_GM_ID_HI : Nat := 0x45000198
abbrev RTU_PTP_GM_QUAL : Nat := 0x4500019C
abbrev RTU_PTP_OFFSET : Nat := 0x450001A0
abbrev RTU_PTP_DELAY : Nat := 0x450001A4
abbrev RTU_PTP_FILT : Nat := 0x450001A8
abbrev RTU_SWITCHES : Nat := 0x450001AC
abbrev RTU_HOLD_ENTRIES : Nat := 0x450001B0
abbrev RTU_SLEW_CLAMP_MS : Nat := 0x450001B4
abbrev RTU_TIC_EVENTS : Nat := 0x450001B8
abbrev RTU_TIC_WRAP_CNT : Nat := 0x450001BC
abbrev RTU_TIC_UNDER_CNT : Nat := 0x450001C0
abbrev RTU_TIC_CAL_STATUS : Nat := 0x450001C4
abbrev RTU_SM_TLV (i : Nat) : Nat := 0x45000200 + 4 * i

/-! RTU pages 1 to 4 (13_reference_and_timing.md). -/
abbrev RTU_C_CFG (k : Nat) : Nat := 0x45000100 + 0x10000 * k
abbrev RTU_C_STATUS (k : Nat) : Nat := 0x45000104 + 0x10000 * k
abbrev RTU_C_CLK_KHZ (k : Nat) : Nat := 0x45000108 + 0x10000 * k
abbrev RTU_C_FP_CFG (k : Nat) : Nat := 0x4500010C + 0x10000 * k
abbrev RTU_C_PATH_OFF (k : Nat) : Nat := 0x45000110 + 0x10000 * k
abbrev RTU_C_QUAL (k : Nat) : Nat := 0x45000114 + 0x10000 * k
abbrev RTU_C_QM_LAST (k : Nat) : Nat := 0x45000118 + 0x10000 * k
abbrev RTU_C_PHASE (k : Nat) : Nat := 0x4500011C + 0x10000 * k
abbrev RTU_C_FREQ (k : Nat) : Nat := 0x45000120 + 0x10000 * k
abbrev RTU_C_QM_CNT (k : Nat) : Nat := 0x45000124 + 0x10000 * k
abbrev RTU_C_QM_MISS_CNT (k : Nat) : Nat := 0x45000128 + 0x10000 * k
abbrev RTU_C_DISQ_CNT (k : Nat) : Nat := 0x4500012C + 0x10000 * k

/-! RTU pages 5 to 12 (13_reference_and_timing.md). -/
abbrev RTU_O_CFG (k : Nat) : Nat := 0x45000100 + 0x10000 * k
abbrev RTU_O_OFFSET (k : Nat) : Nat := 0x45000104 + 0x10000 * k
abbrev RTU_O_WIDTH (k : Nat) : Nat := 0x45000108 + 0x10000 * k
abbrev RTU_O_CTRL (k : Nat) : Nat := 0x4500010C + 0x10000 * k
abbrev RTU_O_STATUS (k : Nat) : Nat := 0x45000110 + 0x10000 * k
abbrev RTU_O_PULSES (k : Nat) : Nat := 0x45000114 + 0x10000 * k

/-! RTU pages 16 to 23 (13_reference_and_timing.md). -/
abbrev RTU_P_CFG (k : Nat) : Nat := 0x45000100 + 0x10000 * k
abbrev RTU_P_INTERVALS (k : Nat) : Nat := 0x45000104 + 0x10000 * k
abbrev RTU_P_IP (k : Nat) : Nat := 0x45000108 + 0x10000 * k
abbrev RTU_P_VLAN (k : Nat) : Nat := 0x4500010C + 0x10000 * k
abbrev RTU_P_STATE (k : Nat) : Nat := 0x45000110 + 0x10000 * k
abbrev RTU_P_PARENT_LO (k : Nat) : Nat := 0x45000114 + 0x10000 * k
abbrev RTU_P_PARENT_HI (k : Nat) : Nat := 0x45000118 + 0x10000 * k
abbrev RTU_P_DELAY (k : Nat) : Nat := 0x4500011C + 0x10000 * k
abbrev RTU_P_TX_SYNC (k : Nat) : Nat := 0x45000120 + 0x10000 * k
abbrev RTU_P_TX_ANN (k : Nat) : Nat := 0x45000124 + 0x10000 * k
abbrev RTU_P_RX_SYNC (k : Nat) : Nat := 0x45000128 + 0x10000 * k
abbrev RTU_P_RX_ANN (k : Nat) : Nat := 0x4500012C + 0x10000 * k
abbrev RTU_P_RX_DREQ (k : Nat) : Nat := 0x45000130 + 0x10000 * k
abbrev RTU_P_RX_DRESP (k : Nat) : Nat := 0x45000134 + 0x10000 * k
abbrev RTU_P_TS_MISS (k : Nat) : Nat := 0x45000138 + 0x10000 * k
abbrev RTU_P_ANN_TIMEOUT (k : Nat) : Nat := 0x4500013C + 0x10000 * k

/-! RTU page 32 (13_reference_and_timing.md). -/
abbrev RTU_H_CFG : Nat := 0x45200100
abbrev RTU_H_COUNT : Nat := 0x45200104
abbrev RTU_H_LAST_SW_LO : Nat := 0x45200108
abbrev RTU_H_LAST_SW_HI : Nat := 0x4520010C
abbrev RTU_H_LAST_HOLD_LO : Nat := 0x45200110
abbrev RTU_H_LAST_HOLD_HI : Nat := 0x45200114
abbrev RTU_H_HOLD_MAX_S : Nat := 0x45200118
abbrev RTU_H_FREQ_RANGE : Nat := 0x4520011C
abbrev RTU_H_LOG (i : Nat) : Nat := 0x45200140 + 4 * i

/-! SLC pages 1 to 128 (06_serial_lanes.md). -/
abbrev SLC_Q_CFG (k : Nat) : Nat := 0x46000100 + 0x10000 * k
abbrev SLC_Q_STATUS (k : Nat) : Nat := 0x46000104 + 0x10000 * k
abbrev SLC_Q_STREAMS (k : Nat) : Nat := 0x46000108 + 0x10000 * k
abbrev SLC_Q_TX_LOAD (k : Nat) : Nat := 0x4600010C + 0x10000 * k
abbrev SLC_Q_SLEEP (k : Nat) : Nat := 0x46000110 + 0x10000 * k
abbrev SLC_LANE_WAKE_MODE (k : Nat) : Nat := 0x46000114 + 0x10000 * k
abbrev SLC_Q_SEL (k : Nat) : Nat := 0x46000118 + 0x10000 * k
abbrev SLC_Q_ALIGN (k : Nat) : Nat := 0x4600011C + 0x10000 * k
abbrev SLC_Q_EQ (k : Nat) : Nat := 0x46000120 + 0x10000 * k
abbrev SLC_Q_EYE_CMD (k : Nat) : Nat := 0x46000124 + 0x10000 * k
abbrev SLC_Q_EYE_RESULT (k : Nat) : Nat := 0x46000128 + 0x10000 * k
abbrev SLC_Q_ERR_CNT (k : Nat) : Nat := 0x4600012C + 0x10000 * k
abbrev SLC_Q_WM (k : Nat) : Nat := 0x46000130 + 0x10000 * k

/-! SFE page 0 (07_sdi_framing.md). -/
abbrev SFE_CFG : Nat := 0x47000100
abbrev SFE_SYNC_WIN : Nat := 0x47000104
abbrev SFE_STATUS : Nat := 0x47000108
abbrev SFE_RX_LINES : Nat := 0x4700010C
abbrev SFE_TX_LINES : Nat := 0x47000110
abbrev SFE_CRC_ERR_CNT : Nat := 0x47000114
abbrev SFE_ANC_DROP_CNT : Nat := 0x47000118
abbrev SFE_FILL_LINES : Nat := 0x4700011C

/-! SFE pages 1 to 128 (07_sdi_framing.md). -/
abbrev SFE_Q_SEL (k : Nat) : Nat := 0x47000100 + 0x10000 * k
abbrev SFE_Q_STATUS (k : Nat) : Nat := 0x47000104 + 0x10000 * k
abbrev SFE_Q_PID (k : Nat) : Nat := 0x47000108 + 0x10000 * k
abbrev SFE_Q_CNT (k : Nat) : Nat := 0x4700010C + 0x10000 * k

/-! FMAC pages 1 to 128 (08_packet_media.md). -/
abbrev FMAC_M_CFG (k : Nat) : Nat := 0x48000100 + 0x10000 * k
abbrev FMAC_M_STATUS (k : Nat) : Nat := 0x48000104 + 0x10000 * k
abbrev FMAC_M_SEL (k : Nat) : Nat := 0x48000108 + 0x10000 * k
abbrev FMAC_M_CNT (k : Nat) : Nat := 0x4800010C + 0x10000 * k
abbrev FMAC_M_Q_WM (k : Nat) : Nat := 0x48000110 + 0x10000 * k
abbrev FMAC_M_PTP_ADJ (k : Nat) : Nat := 0x48000114 + 0x10000 * k
abbrev FMAC_M_SEC_STATUS (k : Nat) : Nat := 0x48000118 + 0x10000 * k
abbrev FMAC_M_FLT_REFUSAL (k : Nat) : Nat := 0x4800011C + 0x10000 * k
abbrev FMAC_M_TX_LOAD (k : Nat) : Nat := 0x48000120 + 0x10000 * k

/-! CXF page 0 (03_line_cells_and_caldera.md). -/
abbrev CXF_CFG : Nat := 0x49000100
abbrev CXF_PROFILE : Nat := 0x49000104
abbrev CXF_BUDGET : Nat := 0x49000108
abbrev CXF_PROBE_CFG : Nat := 0x4900010C
abbrev CXF_SLACK_TH : Nat := 0x49000110
abbrev CXF_SLACK_WORST : Nat := 0x49000114
abbrev CXF_EPOCH_LO : Nat := 0x49000118
abbrev CXF_EPOCH_HI : Nat := 0x4900011C
abbrev CXF_OVERRUN_CNT : Nat := 0x49000120
abbrev CXF_LATE_CELLS : Nat := 0x49000124
abbrev CXF_FILL_CELLS : Nat := 0x49000128
abbrev CXF_MISFIT_CNT : Nat := 0x4900012C
abbrev CXF_EXCESS_CNT : Nat := 0x49000130
abbrev CXF_CRC_ERR_CNT : Nat := 0x49000134
abbrev CXF_PROBE_ERR_CNT : Nat := 0x49000138
abbrev CXF_BUF_MARK : Nat := 0x4900013C
abbrev CXF_IBUF_WM_W : Nat := 0x49000140
abbrev CXF_IBUF_WM_E : Nat := 0x49000144
abbrev CXF_EBUF_WM_W : Nat := 0x49000148
abbrev CXF_EBUF_WM_E : Nat := 0x4900014C

/-! CXF pages 1 to 16 (03_line_cells_and_caldera.md). -/
abbrev CXF_PL_LIST_LEN (k : Nat) : Nat := 0x49000100 + 0x10000 * k
abbrev CXF_PL_STATUS (k : Nat) : Nat := 0x49000104 + 0x10000 * k
abbrev CXF_PL_TOKENS (k : Nat) : Nat := 0x49000108 + 0x10000 * k
abbrev CXF_PL_ELAPSED (k : Nat) : Nat := 0x4900010C + 0x10000 * k
abbrev CXF_PL_SLACK (k : Nat) : Nat := 0x49000110 + 0x10000 * k
abbrev CXF_PL_SLACK_PROJ (k : Nat) : Nat := 0x49000114 + 0x10000 * k
abbrev CXF_PL_SLACK_MIN (k : Nat) : Nat := 0x49000118 + 0x10000 * k
abbrev CXF_PL_OVERRUN_CNT (k : Nat) : Nat := 0x4900011C + 0x10000 * k
abbrev CXF_PL_RATE (k : Nat) : Nat := 0x49000120 + 0x10000 * k
abbrev CXF_PL_PROBES (k : Nat) : Nat := 0x49000124 + 0x10000 * k

/-! GSE page 0 (04_geyser_takes_and_timelines.md). -/
abbrev GSE_CFG : Nat := 0x4A000100
abbrev GSE_STATUS : Nat := 0x4A000104
abbrev GSE_IMG_ADDR_LO : Nat := 0x4A000108
abbrev GSE_IMG_ADDR_HI : Nat := 0x4A00010C
abbrev GSE_IMG_CMD : Nat := 0x4A000110
abbrev GSE_IMG_STATUS : Nat := 0x4A000114
abbrev GSE_IMG_ID : Nat := 0x4A000118
abbrev GSE_IMG_HCRC : Nat := 0x4A00011C
abbrev GSE_IMG_PEND_ID : Nat := 0x4A000120
abbrev GSE_IMG_LOAD_US : Nat := 0x4A000124
abbrev GSE_CREDIT : Nat := 0x4A000128
abbrev GSE_QUEUE : Nat := 0x4A00012C
abbrev GSE_QUEUE_WM : Nat := 0x4A000130
abbrev GSE_QUEUE_MARK : Nat := 0x4A000134
abbrev GSE_LAST_FLIP_LO : Nat := 0x4A000138
abbrev GSE_LAST_FLIP_HI : Nat := 0x4A00013C
abbrev GSE_FLIP_OUTPUTS : Nat := 0x4A000140
abbrev GSE_TWIN_RTT_MAX : Nat := 0x4A000144
abbrev GSE_TAKES_DONE : Nat := 0x4A000148
abbrev GSE_TAKES_NOOP : Nat := 0x4A00014C
abbrev GSE_TAKES_MOVED : Nat := 0x4A000150
abbrev GSE_TAKES_CANCELLED : Nat := 0x4A000154
abbrev GSE_TAKES_SUPERSEDED : Nat := 0x4A000158
abbrev GSE_TAKES_REFUSED : Nat := 0x4A00015C
abbrev GSE_SALVOS : Nat := 0x4A000160
abbrev GSE_PREFETCH_CELLS : Nat := 0x4A000164
abbrev GSE_PREFETCH_DISCARD : Nat := 0x4A000168
abbrev GSE_IMG_LOADS : Nat := 0x4A00016C
abbrev GSE_IMG_REFUSED : Nat := 0x4A000170
abbrev GSE_TWIN_LATE_CNT : Nat := 0x4A000174
abbrev GSE_IMG_DIFFER_CNT : Nat := 0x4A000178
abbrev GSE_FLIPS : Nat := 0x4A00017C
abbrev GSE_REFUSE_CNT (i : Nat) : Nat := 0x4A000180 + 4 * i

/-! GSE pages 1 to 8 (04_geyser_takes_and_timelines.md). -/
abbrev GSE_P_ARG (k : Nat) : Nat := 0x4A000100 + 0x10000 * k
abbrev GSE_P_TIME_LO (k : Nat) : Nat := 0x4A000104 + 0x10000 * k
abbrev GSE_P_TIME_HI (k : Nat) : Nat := 0x4A000108 + 0x10000 * k
abbrev GSE_P_CMD (k : Nat) : Nat := 0x4A00010C + 0x10000 * k
abbrev GSE_P_RESULT (k : Nat) : Nat := 0x4A000110 + 0x10000 * k
abbrev GSE_P_NEXT_TAG (k : Nat) : Nat := 0x4A000114 + 0x10000 * k
abbrev GSE_P_ISSUED (k : Nat) : Nat := 0x4A000118 + 0x10000 * k
abbrev GSE_P_REFUSED (k : Nat) : Nat := 0x4A00011C + 0x10000 * k
abbrev GSE_P_HIST (k i : Nat) : Nat := 0x4A000140 + 0x10000 * k + 4 * i

/-! FST page 0 (09_frame_store.md). -/
abbrev FST_CFG : Nat := 0x4B000100
abbrev FST_STATUS : Nat := 0x4B000104
abbrev FST_REFUSAL : Nat := 0x4B000108
abbrev FST_SEL : Nat := 0x4B00010C
abbrev FST_SLOT_STATUS : Nat := 0x4B000110
abbrev FST_SLOT_FRAMES : Nat := 0x4B000114
abbrev FST_SLOT_CNT : Nat := 0x4B000118
abbrev FST_POOL_INUSE : Nat := 0x4B00011C
abbrev FST_POOL_WM : Nat := 0x4B000120
abbrev FST_POOL_MARK : Nat := 0x4B000124
abbrev FST_HOST_TOL : Nat := 0x4B000128
abbrev FST_PD_CFG : Nat := 0x4B00012C
abbrev FST_SCRUB_CFG : Nat := 0x4B000130
abbrev FST_SCRUB_STATUS : Nat := 0x4B000134
abbrev FST_ECC_ADDR_LO : Nat := 0x4B000138
abbrev FST_ECC_ADDR_HI : Nat := 0x4B00013C
abbrev FST_UNDERRUN_CNT : Nat := 0x4B000140
abbrev FST_ECC_CORR_CNT : Nat := 0x4B000144
abbrev FST_ECC_UNCORR_CNT : Nat := 0x4B000148
abbrev FST_SYNC_REPEAT_CNT : Nat := 0x4B00014C
abbrev FST_SYNC_SKIP_CNT : Nat := 0x4B000150
abbrev FST_FOLLOW_MISS_CNT : Nat := 0x4B000154
abbrev FST_HOST_RETRY_CNT : Nat := 0x4B000158
abbrev FST_MERGE_B_CNT : Nat := 0x4B00015C
abbrev FST_TOL (i : Nat) : Nat := 0x4B000160 + 4 * i
abbrev FST_POOL_SHARE (i : Nat) : Nat := 0x4B000180 + 4 * i
abbrev FST_POOL_USE (i : Nat) : Nat := 0x4B0001A0 + 4 * i
abbrev FST_CLASS_LATE (i : Nat) : Nat := 0x4B0001C0 + 4 * i
abbrev FST_MERGE_LOST_CNT : Nat := 0x4B0001E0
abbrev FST_CLIP_WRAP_CNT : Nat := 0x4B0001E4
abbrev FST_INIT_STATUS : Nat := 0x4B0001E8
abbrev FST_STACKS_DOWN : Nat := 0x4B0001EC

/-! FST pages 1 to 4 (09_frame_store.md). -/
abbrev FST_S_STATUS (k : Nat) : Nat := 0x4B000100 + 0x10000 * k
abbrev FST_S_BW_DECL (k : Nat) : Nat := 0x4B000104 + 0x10000 * k
abbrev FST_S_BW_NOW (k : Nat) : Nat := 0x4B000108 + 0x10000 * k
abbrev FST_S_BW_WM (k : Nat) : Nat := 0x4B00010C + 0x10000 * k
abbrev FST_S_BW_MARK (k : Nat) : Nat := 0x4B000110 + 0x10000 * k
abbrev FST_S_WBUF_WM (k : Nat) : Nat := 0x4B000114 + 0x10000 * k
abbrev FST_S_RD_CNT (k : Nat) : Nat := 0x4B000118 + 0x10000 * k
abbrev FST_S_WR_CNT (k : Nat) : Nat := 0x4B00011C + 0x10000 * k
abbrev FST_S_PF_RD_CNT (k : Nat) : Nat := 0x4B000120 + 0x10000 * k
abbrev FST_S_PD_CNT (k : Nat) : Nat := 0x4B000124 + 0x10000 * k
abbrev FST_S_PD_US (k : Nat) : Nat := 0x4B000128 + 0x10000 * k
abbrev FST_S_WAKE_MAX (k : Nat) : Nat := 0x4B00012C + 0x10000 * k
abbrev FST_S_LAT_MAX (k : Nat) : Nat := 0x4B000130 + 0x10000 * k
abbrev FST_S_ECC_CORR (k : Nat) : Nat := 0x4B000134 + 0x10000 * k
abbrev FST_S_ECC_UNCORR (k : Nat) : Nat := 0x4B000138 + 0x10000 * k
abbrev FST_S_SCRUB_POS (k : Nat) : Nat := 0x4B00013C + 0x10000 * k
abbrev FST_S_TOL_MIN (k : Nat) : Nat := 0x4B000140 + 0x10000 * k
abbrev FST_S_HOST_CNT (k : Nat) : Nat := 0x4B000144 + 0x10000 * k
abbrev FST_S_CH_BW (k i : Nat) : Nat := 0x4B000180 + 0x10000 * k + 4 * i
abbrev FST_S_CH_ECC (k i : Nat) : Nat := 0x4B0001C0 + 0x10000 * k + 4 * i

/-! PXP page 0 (10_compositor.md). -/
abbrev PXP_CFG : Nat := 0x4C000100
abbrev PXP_STATUS : Nat := 0x4C000104
abbrev PXP_BUDGET : Nat := 0x4C000108
abbrev PXP_REFUSAL : Nat := 0x4C00010C
abbrev PXP_FENCE_TIMEOUT : Nat := 0x4C000110
abbrev PXP_ENG_RUN_LO : Nat := 0x4C000114
abbrev PXP_ENG_RUN_HI : Nat := 0x4C000118
abbrev PXP_ENG_WAIT_LO : Nat := 0x4C00011C
abbrev PXP_ENG_WAIT_HI : Nat := 0x4C000120
abbrev PXP_FLIPS : Nat := 0x4C000124
abbrev PXP_DEFER_CNT : Nat := 0x4C000128
abbrev PXP_SKIP_CNT : Nat := 0x4C00012C
abbrev PXP_BUDGET_CNT : Nat := 0x4C000130
abbrev PXP_FENCE_TWIN_CNT : Nat := 0x4C000134
abbrev PXP_LINES_OUT : Nat := 0x4C000138
abbrev PXP_LINES_LATE : Nat := 0x4C00013C
abbrev PXP_LAYER_FMT_CNT : Nat := 0x4C000140
abbrev PXP_ERR_LINES : Nat := 0x4C000144
abbrev PXP_TRANSP_LINES : Nat := 0x4C000148
abbrev PXP_FENCE_WRITES : Nat := 0x4C00014C
abbrev PXP_FENCE_HIST (i : Nat) : Nat := 0x4C000180 + 4 * i

/-! PXP pages 1 to 64 (10_compositor.md). -/
abbrev PXP_E_CFG (k : Nat) : Nat := 0x4C000100 + 0x10000 * k
abbrev PXP_E_FORMAT (k : Nat) : Nat := 0x4C000104 + 0x10000 * k
abbrev PXP_E_BG (k : Nat) : Nat := 0x4C000108 + 0x10000 * k
abbrev PXP_E_STATUS (k : Nat) : Nat := 0x4C00010C + 0x10000 * k
abbrev PXP_E_FENCE (k : Nat) : Nat := 0x4C000110 + 0x10000 * k
abbrev PXP_E_LINES (k : Nat) : Nat := 0x4C000114 + 0x10000 * k

/-! MRS page 0 (11_monitor_raster.md). -/
abbrev MRS_CFG : Nat := 0x4D000100
abbrev MRS_LINK_CFG : Nat := 0x4D000104
abbrev MRS_LINK_CMD : Nat := 0x4D000108
abbrev MRS_LINK_STATUS : Nat := 0x4D00010C
abbrev MRS_H_TIMING : Nat := 0x4D000110
abbrev MRS_H_SYNC : Nat := 0x4D000114
abbrev MRS_V_TIMING : Nat := 0x4D000118
abbrev MRS_V_SYNC : Nat := 0x4D00011C
abbrev MRS_PCLK : Nat := 0x4D000120
abbrev MRS_VRR_MIN : Nat := 0x4D000124
abbrev MRS_VRR_MAX : Nat := 0x4D000128
abbrev MRS_SRC : Nat := 0x4D00012C
abbrev MRS_BG : Nat := 0x4D000130
abbrev MRS_FRAME_READY : Nat := 0x4D000134
abbrev MRS_STATUS : Nat := 0x4D000138
abbrev MRS_REFUSAL : Nat := 0x4D00013C
abbrev MRS_LB_MARK : Nat := 0x4D000140
abbrev MRS_LB_WM : Nat := 0x4D000144
abbrev MRS_LB_LEVEL : Nat := 0x4D000148
abbrev MRS_TOL : Nat := 0x4D00014C
abbrev MRS_AUX_CMD : Nat := 0x4D000150
abbrev MRS_AUX_STATUS : Nat := 0x4D000154
abbrev MRS_AUX_DATA (i : Nat) : Nat := 0x4D000158 + 4 * i
abbrev MRS_HPD : Nat := 0x4D000168
abbrev MRS_FRAME_US : Nat := 0x4D00016C
abbrev MRS_FRAME_US_RANGE : Nat := 0x4D000170
abbrev MRS_FRAME_CRC : Nat := 0x4D000174
abbrev MRS_FRAMES : Nat := 0x4D000178
abbrev MRS_NEW_FRAMES : Nat := 0x4D00017C
abbrev MRS_REPEATS : Nat := 0x4D000180
abbrev MRS_UNDERRUN_CNT : Nat := 0x4D000184
abbrev MRS_URGENT_CNT : Nat := 0x4D000188
abbrev MRS_AUX_RETRY_CNT : Nat := 0x4D00018C
abbrev MRS_AUX_FAIL_CNT : Nat := 0x4D000190
abbrev MRS_HPD_IRQ_CNT : Nat := 0x4D000194
abbrev MRS_TRAIN_CNT : Nat := 0x4D000198
abbrev MRS_READY_LATE_CNT : Nat := 0x4D00019C
abbrev MRS_HIST (i : Nat) : Nat := 0x4D000200 + 4 * i
abbrev MRS_DPCD_CAP (i : Nat) : Nat := 0x4D000240 + 4 * i

/-! AUD page 0 (12_audio.md). -/
abbrev AUD_CFG : Nat := 0x4E000100
abbrev AUD_STATUS : Nat := 0x4E000104
abbrev AUD_SHUF_DELAY : Nat := 0x4E000108
abbrev AUD_REFUSAL : Nat := 0x4E00010C
abbrev AUD_SEL : Nat := 0x4E000110
abbrev AUD_CH_STATUS : Nat := 0x4E000114
abbrev AUD_SWITCHES : Nat := 0x4E000118
abbrev AUD_FADES : Nat := 0x4E00011C
abbrev AUD_SINK_FILL : Nat := 0x4E000120
abbrev AUD_FOLLOW_MISS_CNT : Nat := 0x4E000124

/-! AUD pages 1 to 64 (12_audio.md). -/
abbrev AUD_A_IN_CFG (k : Nat) : Nat := 0x4E000100 + 0x10000 * k
abbrev AUD_A_IN_OFFSET (k : Nat) : Nat := 0x4E000104 + 0x10000 * k
abbrev AUD_A_IN_STATUS (k : Nat) : Nat := 0x4E000108 + 0x10000 * k
abbrev AUD_A_IN_PHASE (k : Nat) : Nat := 0x4E00010C + 0x10000 * k
abbrev AUD_A_OUT_CFG (k : Nat) : Nat := 0x4E000110 + 0x10000 * k
abbrev AUD_A_OUT_STATUS (k : Nat) : Nat := 0x4E000114 + 0x10000 * k
abbrev AUD_A_FIFO_WM (k : Nat) : Nat := 0x4E000118 + 0x10000 * k
abbrev AUD_A_SEL (k : Nat) : Nat := 0x4E00011C + 0x10000 * k
abbrev AUD_A_CNT (k : Nat) : Nat := 0x4E000120 + 0x10000 * k

/-! AUD pages 65 to 68 (12_audio.md). -/
abbrev AUD_W_CFG (k : Nat) : Nat := 0x4E000100 + 0x10000 * k
abbrev AUD_W_OUT (k : Nat) : Nat := 0x4E000104 + 0x10000 * k
abbrev AUD_W_STATUS (k : Nat) : Nat := 0x4E000108 + 0x10000 * k
abbrev AUD_W_FIFO_WM (k : Nat) : Nat := 0x4E00010C + 0x10000 * k
abbrev AUD_W_SEL (k : Nat) : Nat := 0x4E000110 + 0x10000 * k
abbrev AUD_W_CNT (k : Nat) : Nat := 0x4E000114 + 0x10000 * k

/-! TWN page 0 (14_twin_redundancy.md). -/
abbrev TWN_CFG : Nat := 0x4F000100
abbrev TWN_CTRL : Nat := 0x4F000104
abbrev TWN_STATUS : Nat := 0x4F000108
abbrev TWN_ROLE : Nat := 0x4F00010C
abbrev TWN_HOLDOFF : Nat := 0x4F000110
abbrev TWN_LANES : Nat := 0x4F000114
abbrev TWN_LANE_STATUS : Nat := 0x4F000118
abbrev TWN_DELAY : Nat := 0x4F00011C
abbrev TWN_PARTNER : Nat := 0x4F000120
abbrev TWN_SEQ : Nat := 0x4F000124
abbrev TWN_SNAP_LEAD : Nat := 0x4F000128
abbrev TWN_CTL_WM : Nat := 0x4F00012C
abbrev TWN_DIV_CNT : Nat := 0x4F000130
abbrev TWN_DIV_EPOCHS : Nat := 0x4F000134
abbrev TWN_CMP_CNT : Nat := 0x4F000138
abbrev TWN_HASH_MISS_CNT : Nat := 0x4F00013C
abbrev TWN_GUARD_CNT : Nat := 0x4F000140
abbrev TWN_SLOT_DISCARD_CNT : Nat := 0x4F000144
abbrev TWN_RESEND_CNT : Nat := 0x4F000148
abbrev TWN_DUP_CNT : Nat := 0x4F00014C
abbrev TWN_SPLIT_CNT : Nat := 0x4F000150
abbrev TWN_FAILOVER_CNT : Nat := 0x4F000154
abbrev TWN_REVERT_CNT : Nat := 0x4F000158
abbrev TWN_SNAP_MISS_CNT : Nat := 0x4F00015C
abbrev TWN_DIV_LOG (i : Nat) : Nat := 0x4F000180 + 4 * i

/-! TWN pages 1 to 16 (14_twin_redundancy.md). -/
abbrev TWN_L_STATUS (k : Nat) : Nat := 0x4F000100 + 0x10000 * k
abbrev TWN_L_ARRIVAL (k : Nat) : Nat := 0x4F000104 + 0x10000 * k
abbrev TWN_L_ARRIVAL_MAX (k : Nat) : Nat := 0x4F000108 + 0x10000 * k
abbrev TWN_L_SLOTS (k : Nat) : Nat := 0x4F00010C + 0x10000 * k
abbrev TWN_L_GUARD (k : Nat) : Nat := 0x4F000110 + 0x10000 * k
abbrev TWN_L_DISCARD (k : Nat) : Nat := 0x4F000114 + 0x10000 * k

/-! TWN pages 17 to 18 (17_firmware_update.md). -/
abbrev TWN_CH_CFG (k : Nat) : Nat := 0x4F000100 + 0x10000 * k
abbrev TWN_CH_LOCK (k : Nat) : Nat := 0x4F000104 + 0x10000 * k
abbrev TWN_CH_STATUS (k : Nat) : Nat := 0x4F000108 + 0x10000 * k
abbrev TWN_CH_SEQ (k : Nat) : Nat := 0x4F00010C + 0x10000 * k
abbrev TWN_CH_SEL (k : Nat) : Nat := 0x4F000110 + 0x10000 * k
abbrev TWN_CH_CNT (k : Nat) : Nat := 0x4F000114 + 0x10000 * k
abbrev TWN_CH_UPD_ADDR_LO (k : Nat) : Nat := 0x4F000118 + 0x10000 * k
abbrev TWN_CH_UPD_ADDR_HI (k : Nat) : Nat := 0x4F00011C + 0x10000 * k
abbrev TWN_CH_UPD_CMD (k : Nat) : Nat := 0x4F000120 + 0x10000 * k
abbrev TWN_CH_UPD_STATUS (k : Nat) : Nat := 0x4F000124 + 0x10000 * k
abbrev TWN_CH_UPD_RESULT (k : Nat) : Nat := 0x4F000128 + 0x10000 * k

end Reg

/-! The fault sources (R425): block in bits 15:12, page in bits 11:5 and FORCE bit in bits 4:0. -/

namespace Src

abbrev CPC_SRAM_CORR : Nat := 0x0000
abbrev CPC_SRAM_UNCORR : Nat := 0x0001
abbrev CPC_WDT : Nat := 0x0002
abbrev CPC_CACHE_ECC : Nat := 0x0003
abbrev CPC_BUSERR : Nat := 0x0004
abbrev CPC_TCM_UNCORR : Nat := 0x0005
abbrev CPC_LOCK_VIOL : Nat := 0x0006
abbrev BMX_DECODE : Nat := 0x1000
abbrev BMX_SECURE : Nat := 0x1001
abbrev BMX_RETRY : Nat := 0x1002
abbrev BMX_LATE : Nat := 0x1003
abbrev BMX_ABSENT : Nat := 0x1004
abbrev BMX_MSPI_FRAME : Nat := 0x1005
abbrev BMX_BRIDGE : Nat := 0x1006
abbrev BMX_LOCK_VIOL : Nat := 0x1007
abbrev KSU_SLOT_TAG : Nat := 0x2000
abbrev KSU_TRNG_FAIL : Nat := 0x2001
abbrev KSU_GLITCH : Nat := 0x2002
abbrev KSU_BANK_FALLBACK : Nat := 0x2003
abbrev KSU_INVALID_INPUT : Nat := 0x2004
abbrev KSU_AUTH_FAIL : Nat := 0x2005
abbrev KSU_LOCK_VIOL : Nat := 0x2006
abbrev KSU_RUN_WRITE : Nat := 0x2007
abbrev FCR_RING_FULL : Nat := 0x3000
abbrev FCR_WRITE_ERR : Nat := 0x3001
abbrev FCR_MERGE_SAT : Nat := 0x3002
abbrev FCR_ESC_MAJOR : Nat := 0x3003
abbrev FCR_RESET_ESC : Nat := 0x3004
abbrev FCR_ACK_LATE : Nat := 0x3005
abbrev FCR_SNAP_DROP : Nat := 0x3006
abbrev FCR_SNAP_PIN : Nat := 0x3007
abbrev FCR_FAULT_PIN : Nat := 0x3008
abbrev FCR_LATE_REC : Nat := 0x3009
abbrev FCR_SEV_PARITY : Nat := 0x300A
abbrev FCR_STORM : Nat := 0x300B
abbrev FCR_LOCK_VIOL : Nat := 0x300C
abbrev PTM_SLACK_STALE : Nat := 0x4000
abbrev PTM_RAIL_LIMIT : Nat := 0x4001
abbrev PTM_TEMP_WARN : Nat := 0x4002
abbrev PTM_FORCED_COOL : Nat := 0x4003
abbrev PTM_THERM_TRIP : Nat := 0x4004
abbrev PTM_SENSOR_FAIL : Nat := 0x4005
abbrev PTM_SUPPLY_OOR : Nat := 0x4006
abbrev PTM_SUPPLY_MARGIN : Nat := 0x4007
abbrev PTM_PMBUS_ERR : Nat := 0x4008
abbrev PTM_POWER_HIGH : Nat := 0x4009
abbrev PTM_PROF_REFUSED : Nat := 0x400A
abbrev PTM_PROF_TWIN : Nat := 0x400B
abbrev PTM_NO_FORCE_IMG : Nat := 0x400C
abbrev PTM_CAL_NONE : Nat := 0x400D
abbrev PTM_CAL_WRITE_ERR : Nat := 0x400E
abbrev PTM_LOCK_VIOL : Nat := 0x400F
abbrev RTU_REF_LOSS : Nat := 0x5000
abbrev RTU_HOLDOVER : Nat := 0x5001
abbrev RTU_FREE_RUN : Nat := 0x5002
abbrev RTU_REF_FAULT : Nat := 0x5003
abbrev RTU_QM_LOSS : Nat := 0x5004
abbrev RTU_QM_CRC : Nat := 0x5005
abbrev RTU_SLEW_LIMIT : Nat := 0x5006
abbrev RTU_LOCK_LOST : Nat := 0x5007
abbrev RTU_HOLD_SPEC : Nat := 0x5008
abbrev RTU_LO_FAULT : Nat := 0x5009
abbrev RTU_TWIN_OFFSET : Nat := 0x500A
abbrev RTU_PTP_FAULT : Nat := 0x500B
abbrev RTU_PTP_TS : Nat := 0x500C
abbrev RTU_TOUT_JUMP : Nat := 0x500D
abbrev RTU_RUN_WRITE : Nat := 0x500E
abbrev RTU_LOCK_VIOL : Nat := 0x500F
abbrev SLC_PLL_UNLOCK : Nat := 0x6000
abbrev SLC_LOCK_LOST : Nat := 0x6001
abbrev SLC_RX_OVERFLOW : Nat := 0x6002
abbrev SLC_BURST_CRC : Nat := 0x6003
abbrev SLC_FRAMING : Nat := 0x6004
abbrev SLC_FULL_RETRAIN : Nat := 0x6005
abbrev SLC_ADAPT_LIMIT : Nat := 0x6006
abbrev SLC_SEED_INVALID : Nat := 0x6007
abbrev SLC_RUN_WRITE : Nat := 0x6008
abbrev SFE_INPUT_LOSS : Nat := 0x7000
abbrev SFE_FORMAT_MISMATCH : Nat := 0x7001
abbrev SFE_LINK_SKEW : Nat := 0x7002
abbrev SFE_TRS_ERR : Nat := 0x7003
abbrev SFE_ANC_CHECKSUM : Nat := 0x7004
abbrev SFE_ANC_OVERFLOW : Nat := 0x7005
abbrev SFE_AUD_ERR : Nat := 0x7006
abbrev SFE_PHASE_WINDOW : Nat := 0x7007
abbrev SFE_SRC_FORMAT : Nat := 0x7008
abbrev SFE_CRC_ERR : Nat := 0x7009
abbrev SFE_RUN_WRITE : Nat := 0x700A
abbrev FMAC_LINK_DOWN : Nat := 0x8000
abbrev FMAC_FEC_UNCORR : Nat := 0x8001
abbrev FMAC_RUNT : Nat := 0x8002
abbrev FMAC_OVERSIZE : Nat := 0x8003
abbrev FMAC_FCS_ERR : Nat := 0x8004
abbrev FMAC_SEC_FAIL : Nat := 0x8005
abbrev FMAC_FILTER_MISS : Nat := 0x8006
abbrev FMAC_QUEUE_FULL : Nat := 0x8007
abbrev FMAC_PKT_LOSS : Nat := 0x8008
abbrev FMAC_PKT_LATE : Nat := 0x8009
abbrev FMAC_RTP_TS : Nat := 0x800A
abbrev FMAC_MERGE_LEG : Nat := 0x800B
abbrev FMAC_SEC_PN : Nat := 0x800C
abbrev FMAC_SRC_FORMAT : Nat := 0x800D
abbrev FMAC_FLIP_REFUSED : Nat := 0x800E
abbrev FMAC_RUN_WRITE : Nat := 0x800F
abbrev CXF_SLACK_LOW : Nat := 0x9000
abbrev CXF_OVERRUN : Nat := 0x9001
abbrev CXF_PLANE_STALL : Nat := 0x9002
abbrev CXF_CELL_CRC : Nat := 0x9003
abbrev CXF_PROBE_ERR : Nat := 0x9004
abbrev CXF_IBUF_FULL : Nat := 0x9005
abbrev CXF_ASSEMBLY_LATE : Nat := 0x9006
abbrev CXF_EXCESS : Nat := 0x9007
abbrev CXF_MISFIT : Nat := 0x9008
abbrev CXF_RUN_WRITE : Nat := 0x9009
abbrev GSE_TWIN_LATE : Nat := 0xA000
abbrev GSE_IMG_DIFFER : Nat := 0xA001
abbrev GSE_IMG_REFUSED : Nat := 0xA002
abbrev GSE_QUEUE_FULL : Nat := 0xA003
abbrev GSE_PREFETCH_MISS : Nat := 0xA004
abbrev GSE_RUN_WRITE : Nat := 0xA005
abbrev FST_UNDERRUN : Nat := 0xB000
abbrev FST_ECC_CORR : Nat := 0xB001
abbrev FST_ECC_UNCORR : Nat := 0xB002
abbrev FST_POOL_EXHAUST : Nat := 0xB003
abbrev FST_SYNC_SKIP : Nat := 0xB004
abbrev FST_FOLLOW_MISS : Nat := 0xB005
abbrev FST_MERGE_LOST : Nat := 0xB006
abbrev FST_FLIP_REFUSED : Nat := 0xB007
abbrev FST_INIT_FAIL : Nat := 0xB008
abbrev FST_RUN_WRITE : Nat := 0xB009
abbrev PXP_FLIP_REFUSED : Nat := 0xC000
abbrev PXP_FENCE_DEFER : Nat := 0xC001
abbrev PXP_FENCE_TIMEOUT : Nat := 0xC002
abbrev PXP_FENCE_TWIN : Nat := 0xC003
abbrev PXP_LAYER_FORMAT : Nat := 0xC004
abbrev PXP_ENGINE_LATE : Nat := 0xC005
abbrev PXP_LAYER_ERR : Nat := 0xC006
abbrev PXP_RUN_WRITE : Nat := 0xC007
abbrev MRS_UNDERRUN : Nat := 0xD000
abbrev MRS_URGENT : Nat := 0xD001
abbrev MRS_LINK_LOST : Nat := 0xD002
abbrev MRS_HPD_EVENT : Nat := 0xD003
abbrev MRS_TRAIN_FAIL : Nat := 0xD004
abbrev MRS_AUX_FAIL : Nat := 0xD005
abbrev MRS_READY_LATE : Nat := 0xD006
abbrev MRS_FLIP_REFUSED : Nat := 0xD007
abbrev MRS_RUN_WRITE : Nat := 0xD008
abbrev AUD_AES_LOSS : Nat := 0xE000
abbrev AUD_AES_ERR : Nat := 0xE001
abbrev AUD_AES_PHASE : Nat := 0xE002
abbrev AUD_SLIP : Nat := 0xE003
abbrev AUD_SINK_FORMAT : Nat := 0xE004
abbrev AUD_FOLLOW_MISS : Nat := 0xE005
abbrev AUD_MAP_REFUSED : Nat := 0xE006
abbrev AUD_WS_CLOCK : Nat := 0xE007
abbrev AUD_CS_CRC : Nat := 0xE008
abbrev AUD_RUN_WRITE : Nat := 0xE009
abbrev TWN_DIVERGE : Nat := 0xF000
abbrev TWN_SPLIT : Nat := 0xF001
abbrev TWN_PARTNER_LOST : Nat := 0xF002
abbrev TWN_ROLE_CONFLICT : Nat := 0xF003
abbrev TWN_LANE_FAIL : Nat := 0xF004
abbrev TWN_SPARE_FAIL : Nat := 0xF005
abbrev TWN_CHAIN_REFUSED : Nat := 0xF006
abbrev TWN_SLOT_GUARD : Nat := 0xF007
abbrev TWN_SLOT_LATE : Nat := 0xF008
abbrev TWN_HASH_MISS : Nat := 0xF009
abbrev TWN_STRAP : Nat := 0xF00A
abbrev TWN_SNAP_MISS : Nat := 0xF00B
abbrev TWN_CHAIN_LINK : Nat := 0xF00C
abbrev TWN_RUN_WRITE : Nat := 0xF00D
abbrev TWN_LOCK_VIOL : Nat := 0xF00E

end Src

/-- Default severities of the page-0 sources of each block, source 0 first (Tables 3.24, 4.23, 5.15, 6.19, 7.10, 8.19, 9.6, 10.11, 11.4, 12.11, 13.20, 14.12, 15.9, 15.13, 16.10, 18.9): 0 Note, 1 Minor, 2 Major, 3 Critical. -/
def sevDefaults (b : Nat) : List Nat :=
  match b with
  | 0 => [0, 2, 2, 0, 0, 2, 1]
  | 1 => [0, 1, 0, 0, 0, 1, 2, 1]
  | 2 => [2, 2, 2, 1, 0, 0, 1, 0]
  | 3 => [1, 2, 0, 0, 1, 0, 0, 0, 0, 0, 2, 1, 1]
  | 4 => [1, 2, 1, 2, 3, 2, 2, 0, 2, 1, 1, 2, 2, 1, 1, 1]
  | 5 => [2, 2, 2, 1, 1, 0, 1, 2, 1, 3, 2, 1, 1, 1, 0, 1]
  | 6 => [2, 2, 1, 1, 1, 0, 1, 0, 0]
  | 7 => [2, 2, 2, 1, 0, 1, 1, 1, 0, 1, 0]
  | 8 => [2, 1, 0, 0, 1, 2, 0, 1, 1, 1, 1, 1, 2, 0, 1, 0]
  | 9 => [2, 1, 3, 2, 2, 1, 1, 0, 0, 0]
  | 10 => [2, 2, 1, 1, 0, 0]
  | 11 => [1, 0, 2, 1, 0, 1, 1, 1, 2, 0]
  | 12 => [1, 0, 1, 2, 0, 2, 0, 0]
  | 13 => [1, 0, 1, 0, 1, 0, 0, 1, 0]
  | 14 => [2, 1, 1, 0, 0, 1, 1, 2, 0, 0]
  | 15 => [1, 1, 1, 1, 1, 1, 0, 0, 1, 0, 2, 0, 1, 0, 1]
  | _ => []

/-- Default severities of the sixteen conditions of an FCR element page (Table 18.2). -/
def sevElement : List Nat := [0, 2, 0, 1, 2, 2, 2, 2, 1, 2, 2, 1, 2, 2, 1, 1]

/-- One row of a register table: the pages it lies on, its offset, how many registers 4 (or stride) bytes apart, its reset value, the bits of each access code (RW, RWI, RWS, W1C) and its lock group plus 1 (0: none). Bits of no mask are RO or WO. -/
structure RegRow where
  pgLo : Nat
  pgHi : Nat
  off : Nat
  n : Nat
  stride : Nat
  reset : Nat
  rw : Nat
  rwi : Nat
  rws : Nat
  w1c : Nat
  lock : Nat
  deriving DecidableEq, Repr

/-- Register rows of the CPC. -/
def rowsCPCA : List RegRow := [
  ⟨0, 0, 0x100, 1, 4, 0x3, 0x3, 0x0, 0x0, 0x0, 0⟩,  -- CPC_CFG
  ⟨0, 0, 0x104, 1, 4, 0x10, 0x0, 0x0, 0x0, 0x0, 0⟩,  -- CPC_STATUS
  ⟨0, 0, 0x108, 1, 4, 0x0, 0x0, 0x0, 0x0, 0x0, 0⟩,  -- CPC_RESTART
  ⟨0, 0, 0x10C, 1, 4, 0x1, 0x0, 0x0, 0x0, 0xF, 0⟩,  -- CPC_RESET_CAUSE
  ⟨0, 0, 0x110, 1, 4, 0x3E8, 0x8000FFFF, 0x0, 0x0, 0x0, 0⟩,  -- CPC_WDT_CFG
  ⟨0, 0, 0x114, 1, 4, 0x0, 0x0, 0x0, 0x0, 0x0, 0⟩,  -- CPC_WDT_KICK
  ⟨0, 0, 0x118, 1, 4, 0x0, 0xF, 0x0, 0x0, 0x0, 0⟩,  -- CPC_HART_RUN
  ⟨0, 0, 0x11C, 1, 4, 0x0, 0x0, 0x0, 0x0, 0x0, 0⟩,  -- CPC_SRAM_CORR_CNT
  ⟨0, 0, 0x120, 1, 4, 0x0, 0x0, 0x0, 0x0, 0x0, 0⟩,  -- CPC_SRAM_UNCORR_CNT
  ⟨0, 0, 0x124, 1, 4, 0x0, 0x0, 0x0, 0x0, 0x0, 0⟩,  -- CPC_SRAM_ECC_ADDR
  ⟨0, 0, 0x128, 1, 4, 0x1, 0x800000FF, 0x0, 0x0, 0x0, 0⟩,  -- CPC_SCRUB_CFG
  ⟨0, 0, 0x12C, 1, 4, 0x0, 0x0, 0x0, 0x0, 0x0, 0⟩,  -- CPC_IRQ_SUMMARY
  ⟨0, 0, 0x140, 4, 4, 0x0, 0xFFFFFFFF, 0x0, 0x0, 0x0, 0⟩,  -- CPC_MBOX
  ⟨0, 0, 0x180, 16, 4, 0x0, 0x0, 0x0, 0x0, 0x0, 0⟩,  -- CPC_IRQ_PAGE
  ⟨1, 4, 0x100, 1, 4, 0x0, 0x0, 0x0, 0x0, 0x0, 0⟩,  -- CPC_H_CTRL
  ⟨1, 4, 0x104, 1, 4, 0x0, 0x0, 0x0, 0x0, 0x0, 0⟩,  -- CPC_H_STATUS
  ⟨1, 4, 0x108, 1, 4, 0x0, 0xFFFFFFFF, 0x0, 0x0, 0x0, 0⟩,  -- CPC_H_BOOT_ADDR_LO
  ⟨1, 4, 0x10C, 1, 4, 0x0, 0xFF, 0x0, 0x0, 0x0, 0⟩,  -- CPC_H_BOOT_ADDR_HI
  ⟨1, 4, 0x110, 1, 4, 0x0, 0x0, 0x0, 0x0, 0x0, 0⟩,  -- CPC_H_BUSERR_ADDR_LO
  ⟨1, 4, 0x114, 1, 4, 0x0, 0x0, 0x0, 0x0, 0x0, 0⟩,  -- CPC_H_BUSERR_ADDR_HI
  ⟨1, 4, 0x118, 1, 4, 0x0, 0x0, 0x0, 0x0, 0x0, 0⟩,  -- CPC_H_BUSERR_INFO
  ⟨1, 4, 0x11C, 1, 4, 0x0, 0x0, 0x0, 0x0, 0x0, 0⟩,  -- CPC_H_BUSERR_CNT
  ⟨1, 4, 0x120, 1, 4, 0x0, 0x0, 0x0, 0x0, 0x0, 0⟩,  -- CPC_H_INSTRET_LO
  ⟨1, 4, 0x124, 1, 4, 0x0, 0x0, 0x0, 0x0, 0x0, 0⟩,  -- CPC_H_INSTRET_HI
  ⟨1, 4, 0x128, 1, 4, 0x0, 0x0, 0x0, 0x0, 0x0, 0⟩,  -- CPC_H_RATE
  ⟨1, 4, 0x12C, 1, 4, 0xFFFF, 0xFFFF, 0x0, 0x0, 0x0, 0⟩,  -- CPC_H_RATE_MIN
  ⟨1, 4, 0x130, 1, 4, 0x0, 0x0, 0x0, 0x0, 0x0, 0⟩,  -- CPC_H_SC_FAIL_CNT
  ⟨1, 4, 0x134, 1, 4, 0x0, 0x0, 0x0, 0x0, 0x0, 0⟩,  -- CPC_H_CACHE_ECC_CNT
  ⟨5, 5, 0x100, 1, 4, 0x0, 0xFFFFFFFF, 0x0, 0x0, 0x0, 0⟩,  -- CPC_B_STAGE
  ⟨5, 5, 0x104, 1, 4, 0x0, 0x0, 0x0, 0x0, 0x0, 0⟩,  -- CPC_B_BUSERR_ADDR_LO
  ⟨5, 5, 0x108, 1, 4, 0x0, 0x0, 0x0, 0x0, 0x0, 0⟩,  -- CPC_B_BUSERR_ADDR_HI
  ⟨5, 5, 0x10C, 1, 4, 0x0, 0x0, 0x0, 0x0, 0x0, 0⟩,  -- CPC_B_BUSERR_INFO
  ⟨5, 5, 0x110, 1, 4, 0x0, 0x0, 0x0, 0x0, 0x0, 0⟩,  -- CPC_B_BUSERR_CNT
  ⟨5, 5, 0x114, 1, 4, 0x0, 0x0, 0x0, 0x0, 0x0, 0⟩,  -- CPC_B_INSTRET_LO
  ⟨5, 5, 0x118, 1, 4, 0x0, 0x0, 0x0, 0x0, 0x0, 0⟩  -- CPC_B_INSTRET_HI
  ]

/-- Register rows of the CPC, continued. -/
def rowsCPCB : List RegRow := [
  ⟨5, 5, 0x11C, 1, 4, 0x0, 0x0, 0x0, 0x0, 0x0, 0⟩,  -- CPC_B_RATE
  ⟨5, 5, 0x120, 1, 4, 0x0, 0x0, 0x0, 0x0, 0x0, 0⟩,  -- CPC_B_TCM_CORR_CNT
  ⟨5, 5, 0x124, 1, 4, 0x0, 0x0, 0x0, 0x0, 0x0, 0⟩,  -- CPC_B_TCM_UNCORR_CNT
  ⟨5, 5, 0x128, 1, 4, 0x0, 0x0, 0x0, 0x0, 0x0, 0⟩,  -- CPC_B_TCM_ECC_ADDR
  ⟨5, 5, 0x12C, 1, 4, 0x0, 0x0, 0x0, 0x0, 0x0, 0⟩,  -- CPC_B_SEAL_US
  ⟨5, 5, 0x130, 1, 4, 0x0, 0x0, 0x0, 0x0, 0x0, 0⟩,  -- CPC_B_RELEASE_US
  ⟨5, 5, 0x134, 1, 4, 0x0, 0xFFFFFFFF, 0x0, 0x0, 0x0, 0⟩,  -- CPC_B_SVC_REQ
  ⟨5, 5, 0x138, 1, 4, 0x0, 0xFFFFFFFF, 0x0, 0x0, 0x0, 0⟩,  -- CPC_B_SVC_RESP
  ⟨5, 5, 0x13C, 1, 4, 0x0, 0xFFFFFFFF, 0x0, 0x0, 0x0, 0⟩,  -- CPC_B_SVC_STATUS
  ⟨6, 6, 0x104, 31, 4, 0x0, 0x7, 0x0, 0x0, 0x0, 0⟩,  -- CPC_PLIC_PRIO
  ⟨6, 6, 0x180, 1, 4, 0x0, 0x0, 0x0, 0x0, 0x0, 0⟩,  -- CPC_PLIC_PEND
  ⟨6, 6, 0x200, 9, 4, 0x0, 0xFFFFFFFF, 0x0, 0x0, 0x0, 0⟩,  -- CPC_PLIC_EN
  ⟨6, 6, 0x300, 9, 16, 0x0, 0x7, 0x0, 0x0, 0x0, 0⟩,  -- CPC_PLIC_THR
  ⟨6, 6, 0x304, 9, 16, 0x0, 0x0, 0x0, 0x0, 0x0, 0⟩,  -- CPC_PLIC_CLAIM
  ⟨7, 7, 0x100, 1, 4, 0x0, 0x0, 0x0, 0x0, 0x0, 0⟩,  -- CPC_MTIME_LO
  ⟨7, 7, 0x104, 1, 4, 0x0, 0x0, 0x0, 0x0, 0x0, 0⟩,  -- CPC_MTIME_HI
  ⟨7, 7, 0x110, 5, 8, 0xFFFFFFFF, 0xFFFFFFFF, 0x0, 0x0, 0x0, 0⟩,  -- CPC_MTIMECMP_LO
  ⟨7, 7, 0x114, 5, 8, 0xFFFFFFFF, 0xFFFFFFFF, 0x0, 0x0, 0x0, 0⟩,  -- CPC_MTIMECMP_HI
  ⟨7, 7, 0x140, 5, 4, 0x0, 0x1, 0x0, 0x0, 0x0, 0⟩  -- CPC_MSIP
  ]

/-- Register rows of the BMX. -/
def rowsBMXA : List RegRow := [
  ⟨0, 0, 0x100, 1, 4, 0x1, 0x1, 0x0, 0x0, 0x0, 0⟩,  -- BMX_CFG
  ⟨0, 0, 0x104, 1, 4, 0x0, 0x0, 0x0, 0x0, 0x0, 0⟩,  -- BMX_STATUS
  ⟨0, 0, 0x108, 1, 4, 0x0, 0x0, 0x0, 0x0, 0x0, 0⟩,  -- BMX_PMAP_SEAL
  ⟨0, 0, 0x10C, 1, 4, 0x0, 0x0, 0x0, 0x0, 0x0, 0⟩,  -- BMX_ERR_INFO
  ⟨0, 0, 0x110, 1, 4, 0x0, 0x0, 0x0, 0x0, 0x0, 0⟩,  -- BMX_ERR_ADDR_LO
  ⟨0, 0, 0x114, 1, 4, 0x0, 0x0, 0x0, 0x0, 0x0, 0⟩,  -- BMX_ERR_ADDR_HI
  ⟨0, 0, 0x118, 1, 4, 0x0, 0x0, 0x0, 0x0, 0x0, 0⟩,  -- BMX_DECODE_CNT
  ⟨0, 0, 0x11C, 1, 4, 0x0, 0x0, 0x0, 0x0, 0x0, 0⟩,  -- BMX_SECURE_CNT
  ⟨0, 0, 0x120, 1, 4, 0x0, 0x0, 0x0, 0x0, 0x0, 0⟩,  -- BMX_RETRY_CNT
  ⟨0, 0, 0x124, 1, 4, 0x0, 0x0, 0x0, 0x0, 0x0, 0⟩,  -- BMX_LATE_CNT
  ⟨0, 0, 0x128, 1, 4, 0x0, 0x0, 0x0, 0x0, 0x0, 0⟩,  -- BMX_ABSENT_CNT
  ⟨0, 0, 0x12C, 1, 4, 0x0, 0x0, 0x0, 0x0, 0x0, 0⟩,  -- BMX_RESV_BREAK_CNT
  ⟨0, 0, 0x130, 1, 4, 0x0, 0xFFFFFFFF, 0x0, 0x0, 0x0, 0⟩,  -- BMX_WAIT_MAX
  ⟨0, 0, 0x134, 1, 4, 0x0, 0x0, 0x0, 0x0, 0x6, 0⟩,  -- BMX_BRIDGE_WM
  ⟨0, 0, 0x138, 1, 4, 0x40, 0xFF, 0x0, 0x0, 0x0, 0⟩,  -- BMX_RESV_CFG
  ⟨0, 0, 0x13C, 1, 4, 0x0, 0x0, 0x0, 0x0, 0x0, 0⟩,  -- BMX_SC_FAIL_CNT
  ⟨0, 0, 0x140, 1, 4, 0x0, 0x0, 0x0, 0x0, 0x0, 0⟩,  -- BMX_MSPI_WORDS
  ⟨0, 0, 0x144, 1, 4, 0x0, 0x0, 0x0, 0x0, 0x0, 0⟩,  -- BMX_MSPI_FRAME_CNT
  ⟨0, 0, 0x148, 1, 4, 0x0, 0x0, 0x0, 0x0, 0x0, 0⟩,  -- BMX_MSPI_SURPLUS_CNT
  ⟨0, 0, 0x14C, 1, 4, 0x0, 0x0, 0x0, 0x0, 0x0, 0⟩,  -- BMX_MSPI_SHORT_CNT
  ⟨0, 0, 0x150, 1, 4, 0x0, 0x0, 0x0, 0x0, 0x0, 0⟩,  -- BMX_MSPI_DUP_CNT
  ⟨0, 0, 0x154, 1, 4, 0x0, 0x0, 0x0, 0x0, 0x0, 0⟩,  -- BMX_MSPI_SEQ
  ⟨1, 12, 0x100, 1, 4, 0x0, 0xFFFF000, 0x0, 0x0, 0x0, 0⟩,  -- BMX_M_CFG
  ⟨1, 12, 0x104, 1, 4, 0x0, 0x0, 0x0, 0x0, 0x0, 0⟩,  -- BMX_M_STATUS
  ⟨1, 12, 0x108, 1, 4, 0x0, 0x0, 0x0, 0x0, 0x0, 0⟩,  -- BMX_M_SERVED
  ⟨1, 12, 0x10C, 1, 4, 0x0, 0x0, 0x0, 0x0, 0x0, 0⟩,  -- BMX_M_LATE
  ⟨1, 12, 0x110, 1, 4, 0x0, 0x0, 0x0, 0x0, 0x0, 0⟩,  -- BMX_M_RETRIED
  ⟨1, 12, 0x114, 1, 4, 0x0, 0x0, 0x0, 0x0, 0x0, 0⟩,  -- BMX_M_REFUSED
  ⟨1, 12, 0x118, 1, 4, 0x0, 0xFFFFFFFF, 0x0, 0x0, 0x0, 0⟩,  -- BMX_M_WAIT_MAX
  ⟨1, 12, 0x11C, 1, 4, 0x0, 0x0, 0x0, 0x0, 0x0, 0⟩,  -- BMX_M_LAST_RETRY
  ⟨17, 40, 0x100, 1, 4, 0x0, 0x0, 0x0, 0x0, 0x0, 0⟩,  -- BMX_T_STATUS
  ⟨17, 40, 0x104, 1, 4, 0x0, 0x0, 0x0, 0x0, 0x6, 0⟩,  -- BMX_T_Q_WM
  ⟨17, 40, 0x108, 1, 4, 0x0, 0x0, 0x0, 0x0, 0x0, 0⟩  -- BMX_T_GRANTS
  ]

/-- Register rows of the KSU. -/
def rowsKSUA : List RegRow := [
  ⟨0, 0, 0x100, 1, 4, 0x0, 0x0, 0x0, 0x0, 0x0, 0⟩,  -- KSU_CFG
  ⟨0, 0, 0x104, 1, 4, 0x0, 0x0, 0x0, 0x0, 0x0, 0⟩,  -- KSU_STATUS
  ⟨0, 0, 0x108, 1, 4, 0x0, 0x0, 0x0, 0x0, 0x0, 0⟩,  -- KSU_LC
  ⟨0, 0, 0x10C, 1, 4, 0x0, 0x0, 0x0, 0x0, 0x0, 0⟩,  -- KSU_LC_CMD
  ⟨0, 0, 0x110, 1, 4, 0x0, 0x0, 0x0, 0x0, 0x0, 0⟩,  -- KSU_UID_LO
  ⟨0, 0, 0x114, 1, 4, 0x0, 0x0, 0x0, 0x0, 0x0, 0⟩,  -- KSU_UID_HI
  ⟨0, 0, 0x118, 1, 4, 0x0, 0x0, 0x0, 0x0, 0x0, 0⟩,  -- KSU_SVN
  ⟨0, 0, 0x11C, 1, 4, 0x0, 0x0, 0x0, 0x0, 0x0, 0⟩,  -- KSU_KEYHASH
  ⟨0, 0, 0x120, 1, 4, 0x0, 0x0, 0x0, 0x0, 0x0, 0⟩,  -- KSU_BOOT
  ⟨0, 0, 0x124, 1, 4, 0x0, 0x0, 0x0, 0x0, 0x0, 0⟩,  -- KSU_SLOT_CMD
  ⟨0, 0, 0x128, 1, 4, 0x0, 0x3F00007F, 0x0, 0x0, 0x0, 0⟩,  -- KSU_SLOT_ATTR
  ⟨0, 0, 0x12C, 1, 4, 0x0, 0x0, 0x0, 0x0, 0x0, 0⟩,  -- KSU_SLOT_RESULT
  ⟨0, 0, 0x130, 1, 4, 0x0, 0x0, 0x0, 0x0, 0x0, 0⟩,  -- KSU_SLOT_BAD_LO
  ⟨0, 0, 0x134, 1, 4, 0x0, 0x0, 0x0, 0x0, 0x0, 0⟩,  -- KSU_SLOT_BAD_HI
  ⟨0, 0, 0x138, 1, 4, 0x0, 0x0, 0x0, 0x0, 0x0, 0⟩,  -- KSU_SLOT_LOCKED_LO
  ⟨0, 0, 0x13C, 1, 4, 0x0, 0x0, 0x0, 0x0, 0x0, 0⟩,  -- KSU_SLOT_LOCKED_HI
  ⟨0, 0, 0x140, 16, 4, 0x0, 0x0, 0x0, 0x0, 0x0, 0⟩,  -- KSU_KEY_DATA
  ⟨0, 0, 0x180, 1, 4, 0x0, 0x0, 0x0, 0x0, 0x0, 0⟩,  -- KSU_TRNG_STATUS
  ⟨0, 0, 0x184, 1, 4, 0x0, 0x0, 0x0, 0x0, 0x0, 0⟩,  -- KSU_GLITCH_LOG
  ⟨0, 0, 0x188, 1, 4, 0x0, 0x0, 0x0, 0x0, 0x0, 0⟩,  -- KSU_SCRAMBLE_STATUS
  ⟨0, 0, 0x18C, 1, 4, 0x0, 0x0, 0x0, 0x0, 0x0, 0⟩,  -- KSU_OPS
  ⟨0, 0, 0x190, 1, 4, 0x0, 0x0, 0x0, 0x0, 0x0, 0⟩,  -- KSU_INVALID_CNT
  ⟨0, 0, 0x194, 1, 4, 0x0, 0x0, 0x0, 0x0, 0x0, 0⟩,  -- KSU_AUTH_FAIL_CNT
  ⟨0, 0, 0x198, 1, 4, 0x0, 0x0, 0x0, 0x0, 0x0, 0⟩,  -- KSU_TAG_FAIL_CNT
  ⟨0, 0, 0x19C, 1, 4, 0x0, 0x0, 0x0, 0x0, 0x0, 0⟩,  -- KSU_SLOT_WRITES
  ⟨1, 4, 0x100, 1, 4, 0x0, 0x0, 0x0, 0x0, 0x0, 0⟩,  -- KSU_C_CMD
  ⟨1, 4, 0x104, 1, 4, 0x0, 0x0, 0x0, 0x0, 0x0, 0⟩,  -- KSU_C_STATUS
  ⟨1, 4, 0x108, 1, 4, 0x0, 0xFFFF, 0x0, 0x0, 0x0, 0⟩,  -- KSU_C_SLOT
  ⟨1, 4, 0x10C, 1, 4, 0x0, 0x7FFF, 0x0, 0x0, 0x0, 0⟩,  -- KSU_C_LEN
  ⟨1, 4, 0x110, 1, 4, 0x0, 0x7FFF, 0x0, 0x0, 0x0, 0⟩,  -- KSU_C_AAD_LEN
  ⟨1, 4, 0x114, 1, 4, 0x0, 0x0, 0x0, 0x0, 0x0, 0⟩,  -- KSU_C_OUT_LEN
  ⟨1, 4, 0x118, 3, 4, 0x0, 0xFFFFFFFF, 0x0, 0x0, 0x0, 0⟩,  -- KSU_C_IV
  ⟨1, 4, 0x124, 4, 4, 0x0, 0xFFFFFFFF, 0x0, 0x0, 0x0, 0⟩,  -- KSU_C_TAG
  ⟨1, 4, 0x134, 1, 4, 0x200, 0x3FF, 0x0, 0x0, 0x0, 0⟩,  -- KSU_C_KDF_L
  ⟨1, 4, 0x138, 1, 4, 0x0, 0x0, 0x0, 0x0, 0x0, 0⟩  -- KSU_C_TIME_US
  ]

/-- Register rows of the KSU, continued. -/
def rowsKSUB : List RegRow := [
  ⟨1, 4, 0x13C, 1, 4, 0x0, 0x0, 0x0, 0x0, 0x0, 0⟩,  -- KSU_C_OPS
  ⟨1, 4, 0x140, 1, 4, 0x0, 0x0, 0x0, 0x0, 0x0, 0⟩,  -- KSU_C_ERR_CNT
  ⟨1, 4, 0x144, 1, 4, 0x0, 0x0, 0x0, 0x0, 0x0, 0⟩,  -- KSU_C_HASH_LEN_LO
  ⟨1, 4, 0x148, 1, 4, 0x0, 0x0, 0x0, 0x0, 0x0, 0⟩,  -- KSU_C_HASH_LEN_HI
  ⟨1, 4, 0x14C, 1, 4, 0x0, 0x0, 0x0, 0x0, 0x0, 0⟩  -- KSU_C_OWNER
  ]

/-- Register rows of the FCR. -/
def rowsFCRA : List RegRow := [
  ⟨0, 0, 0x100, 1, 4, 0x640000, 0x80FF0000, 0x0, 0x0, 0x0, 0⟩,  -- FCR_CFG
  ⟨0, 0, 0x104, 1, 4, 0x0, 0x0, 0x0, 0x0, 0x0, 0⟩,  -- FCR_STATUS
  ⟨0, 0, 0x108, 1, 4, 0x186A0, 0xFFFFFF, 0x0, 0x0, 0x0, 0⟩,  -- FCR_WIN_MAJOR
  ⟨0, 0, 0x10C, 1, 4, 0x2710, 0xFFFFFF, 0x0, 0x0, 0x0, 0⟩,  -- FCR_WIN_CRIT
  ⟨0, 0, 0x110, 1, 4, 0x0, 0xFFFFFFC0, 0x0, 0x0, 0x0, 0⟩,  -- FCR_RING_BASE_LO
  ⟨0, 0, 0x114, 1, 4, 0x0, 0xFF, 0x0, 0x0, 0x0, 0⟩,  -- FCR_RING_BASE_HI
  ⟨0, 0, 0x118, 1, 4, 0xA, 0x8000001F, 0x0, 0x0, 0x0, 0⟩,  -- FCR_RING_CFG
  ⟨0, 0, 0x11C, 1, 4, 0x0, 0x0, 0x0, 0x0, 0x0, 0⟩,  -- FCR_RING_PROD
  ⟨0, 0, 0x120, 1, 4, 0x0, 0xFFFFFFFF, 0x0, 0x0, 0x0, 0⟩,  -- FCR_RING_CONS
  ⟨0, 0, 0x124, 1, 4, 0x0, 0x0, 0x0, 0x0, 0x6, 0⟩,  -- FCR_RING_WM
  ⟨0, 0, 0x128, 8, 4, 0x0, 0x0, 0x0, 0x0, 0x0, 0⟩,  -- FCR_OPEN_REC
  ⟨0, 0, 0x148, 1, 4, 0x0, 0x0, 0x0, 0x0, 0x0, 0⟩,  -- FCR_ACK
  ⟨0, 0, 0x14C, 1, 4, 0x0, 0x0, 0x0, 0x0, 0x0, 0⟩,  -- FCR_CTRL
  ⟨0, 0, 0x150, 1, 4, 0x0, 0x0, 0x0, 0x0, 0x0, 0⟩,  -- FCR_FAULT_STATUS
  ⟨0, 0, 0x154, 1, 4, 0x0, 0x0, 0x0, 0x0, 0x0, 0⟩,  -- FCR_SNAP_CMD
  ⟨0, 0, 0x158, 1, 4, 0x33F, 0x33F, 0x0, 0x0, 0x0, 0⟩,  -- FCR_SNAP_CFG
  ⟨0, 0, 0x15C, 1, 4, 0x0, 0xFFFFFFFF, 0x0, 0x0, 0x0, 0⟩,  -- FCR_SNAP_TIME_LO
  ⟨0, 0, 0x160, 1, 4, 0x0, 0xFFFFFFFF, 0x0, 0x0, 0x0, 0⟩,  -- FCR_SNAP_TIME_HI
  ⟨0, 0, 0x164, 1, 4, 0x0, 0x0, 0x0, 0x0, 0x0, 0⟩,  -- FCR_SNAP_TIME2_LO
  ⟨0, 0, 0x168, 1, 4, 0x0, 0x0, 0x0, 0x0, 0x0, 0⟩,  -- FCR_SNAP_TIME2_HI
  ⟨0, 0, 0x16C, 1, 4, 0x0, 0x0, 0x0, 0x0, 0x0, 0⟩,  -- FCR_SNAP_STATUS
  ⟨0, 0, 0x170, 1, 4, 0x0, 0x0, 0x0, 0x0, 0x0, 0⟩,  -- FCR_SNAP_LAST_DROP
  ⟨0, 0, 0x174, 1, 4, 0x0, 0xFFFFFFFF, 0x0, 0x0, 0x0, 0⟩,  -- FCR_SNAP_LAT_MAX
  ⟨0, 0, 0x178, 1, 4, 0x0, 0x0, 0x0, 0x0, 0x0, 0⟩,  -- FCR_RECORDS
  ⟨0, 0, 0x17C, 1, 4, 0x0, 0x0, 0x0, 0x0, 0x0, 0⟩,  -- FCR_MERGED_CNT
  ⟨0, 0, 0x180, 1, 4, 0x0, 0x0, 0x0, 0x0, 0x0, 0⟩,  -- FCR_DROPPED_CNT
  ⟨0, 0, 0x184, 1, 4, 0x0, 0x0, 0x0, 0x0, 0x0, 0⟩,  -- FCR_ESC_MAJOR_CNT
  ⟨0, 0, 0x188, 1, 4, 0x0, 0x0, 0x0, 0x0, 0x0, 0⟩,  -- FCR_ESC_CRIT_CNT
  ⟨0, 0, 0x18C, 1, 4, 0x0, 0x0, 0x0, 0x0, 0x0, 0⟩,  -- FCR_ACK_LATE_CNT
  ⟨0, 0, 0x190, 1, 4, 0x0, 0x0, 0x0, 0x0, 0x0, 0⟩,  -- FCR_SNAP_CNT
  ⟨0, 0, 0x194, 1, 4, 0x0, 0x0, 0x0, 0x0, 0x0, 0⟩,  -- FCR_SNAP_DROP_CNT
  ⟨0, 0, 0x198, 1, 4, 0x0, 0x0, 0x0, 0x0, 0x0, 0⟩,  -- FCR_ESC_LAST
  ⟨0, 0, 0x19C, 1, 4, 0x0, 0x0, 0x0, 0x0, 0x0, 0⟩,  -- FCR_ESC_BLOCKS
  ⟨0, 0, 0x1A0, 1, 4, 0x0, 0xFFFFFFFF, 0x0, 0x0, 0x0, 0⟩,  -- FCR_ACK_US_MAX
  ⟨0, 0, 0x1A4, 1, 4, 0x0, 0x0, 0x0, 0x0, 0x0, 0⟩  -- FCR_LAST_SRC
  ]

/-- Register rows of the FCR, continued. -/
def rowsFCRB : List RegRow := [
  ⟨0, 0, 0x1A8, 1, 4, 0x0, 0x0, 0x0, 0x0, 0x0, 0⟩,  -- FCR_STORM_CNT
  ⟨0, 0, 0x1AC, 1, 4, 0x0, 0x0, 0x0, 0x0, 0x0, 0⟩,  -- FCR_LATE_REC_CNT
  ⟨0, 0, 0x1C0, 16, 4, 0x0, 0x0, 0x0, 0x0, 0x0, 0⟩,  -- FCR_BLK_RAISED
  ⟨1, 15, 0x100, 1, 4, 0x0, 0x0, 0x0, 0x0, 0x0, 0⟩,  -- FCR_E_STATUS
  ⟨1, 15, 0x104, 1, 4, 0x0, 0x0, 0x0, 0x0, 0x0, 0⟩,  -- FCR_E_INFO
  ⟨1, 15, 0x108, 1, 4, 0x0, 0x0, 0x0, 0x0, 0x0, 0⟩,  -- FCR_E_ADDR_LO
  ⟨1, 15, 0x10C, 1, 4, 0x0, 0x0, 0x0, 0x0, 0x0, 0⟩,  -- FCR_E_ADDR_HI
  ⟨1, 15, 0x110, 1, 4, 0x0, 0x0, 0x0, 0x0, 0x0, 0⟩,  -- FCR_E_LINK
  ⟨1, 15, 0x114, 1, 4, 0x0, 0x0, 0x0, 0x0, 0x0, 0⟩,  -- FCR_E_LINK_CRC_CNT
  ⟨1, 15, 0x118, 1, 4, 0x0, 0xFF, 0x0, 0x0, 0x0, 0⟩,  -- FCR_E_DROOP_MIN
  ⟨1, 15, 0x11C, 1, 4, 0x0, 0x0, 0x0, 0x0, 0x0, 0⟩,  -- FCR_E_BIST
  ⟨1, 15, 0x140, 16, 4, 0x0, 0x0, 0x0, 0x0, 0x0, 0⟩  -- FCR_E_CNT
  ]

/-- Register rows of the PTM. -/
def rowsPTMA : List RegRow := [
  ⟨0, 0, 0x100, 1, 4, 0x7, 0xF, 0x0, 0x0, 0x0, 0⟩,  -- PTM_CFG
  ⟨0, 0, 0x104, 1, 4, 0x0, 0x0, 0x0, 0x0, 0x0, 0⟩,  -- PTM_PROF_CMD
  ⟨0, 0, 0x108, 1, 4, 0x0, 0x0, 0x0, 0x0, 0x0, 0⟩,  -- PTM_PROF_STATUS
  ⟨0, 0, 0x10C, 1, 4, 0x0, 0xFFFFFFC0, 0x0, 0x0, 0x0, 0⟩,  -- PTM_PROF_IMG_LO
  ⟨0, 0, 0x110, 1, 4, 0x0, 0xFF, 0x0, 0x0, 0x0, 0⟩,  -- PTM_PROF_IMG_HI
  ⟨0, 0, 0x114, 1, 4, 0x0, 0xFFFFFFC0, 0x0, 0x0, 0x0, 0⟩,  -- PTM_FORCE_IMG_LO
  ⟨0, 0, 0x118, 1, 4, 0x0, 0xFF, 0x0, 0x0, 0x0, 0⟩,  -- PTM_FORCE_IMG_HI
  ⟨0, 0, 0x11C, 1, 4, 0x0, 0x0, 0x0, 0x0, 0x0, 0⟩,  -- PTM_PROF_TWIN
  ⟨0, 0, 0x120, 1, 4, 0x0, 0x0, 0x0, 0x0, 0x0, 0⟩,  -- PTM_PROF_LAST_US
  ⟨0, 0, 0x124, 1, 4, 0xA2850, 0xFFFFFF, 0x0, 0x0, 0x0, 0⟩,  -- PTM_LOOP_CFG
  ⟨0, 0, 0x128, 1, 4, 0x4064032, 0xFFFFFFFF, 0x0, 0x0, 0x0, 0⟩,  -- PTM_LOOP_RATE
  ⟨0, 0, 0x12C, 1, 4, 0x7800, 0xFFFF, 0x0, 0x0, 0x0, 1⟩,  -- PTM_VCORE_LIM
  ⟨0, 0, 0x130, 1, 4, 0x782C003C, 0x0, 0x0, 0x0, 0x0, 0⟩,  -- PTM_VCORE
  ⟨0, 0, 0x134, 1, 4, 0x0, 0xFFFF, 0x0, 0x0, 0x0, 0⟩,  -- PTM_VCORE_RANGE
  ⟨0, 0, 0x138, 1, 4, 0x0, 0x0, 0x0, 0x0, 0x0, 0⟩,  -- PTM_LOOP_STATUS
  ⟨0, 0, 0x13C, 1, 4, 0x0, 0x0, 0x0, 0x0, 0x0, 0⟩,  -- PTM_SLACK_NOW
  ⟨0, 0, 0x140, 1, 4, 0x0, 0x0, 0x0, 0x0, 0x0, 0⟩,  -- PTM_STEPS_UP
  ⟨0, 0, 0x144, 1, 4, 0x0, 0x0, 0x0, 0x0, 0x0, 0⟩,  -- PTM_STEPS_DOWN
  ⟨0, 0, 0x148, 1, 4, 0x0, 0x0, 0x0, 0x0, 0x0, 0⟩,  -- PTM_EMERG_CNT
  ⟨0, 0, 0x14C, 1, 4, 0x0, 0x0, 0x0, 0x0, 0x0, 0⟩,  -- PTM_STALE_CNT
  ⟨0, 0, 0x150, 1, 4, 0x5A6E7669, 0xFFFFFFFF, 0x0, 0x0, 0x0, 2⟩,  -- PTM_THERM_CFG
  ⟨0, 0, 0x154, 1, 4, 0x0, 0x0, 0x0, 0x0, 0x0, 0⟩,  -- PTM_THERM_STATUS
  ⟨0, 0, 0x158, 1, 4, 0x0, 0x0, 0x0, 0x0, 0x0, 0⟩,  -- PTM_THERM_TRIP
  ⟨0, 0, 0x15C, 1, 4, 0x0, 0x0, 0x0, 0x0, 0x0, 0⟩,  -- PTM_POWER
  ⟨0, 0, 0x160, 1, 4, 0x8CA, 0x0, 0x0, 0x0, 0x0, 0⟩,  -- PTM_POWER_CAP
  ⟨0, 0, 0x164, 1, 4, 0x0, 0x0, 0x0, 0x0, 0x6, 0⟩,  -- PTM_POWER_WM
  ⟨0, 0, 0x168, 1, 4, 0x0, 0xFFFF, 0x0, 0x0, 0x0, 0⟩,  -- PTM_POWER_PEAK
  ⟨0, 0, 0x16C, 1, 4, 0x4, 0x7, 0x0, 0x0, 0x0, 0⟩,  -- PTM_PMBUS_CFG
  ⟨0, 0, 0x170, 1, 4, 0x0, 0x0, 0x0, 0x0, 0x0, 0⟩,  -- PTM_PMBUS_ERR_CNT
  ⟨0, 0, 0x174, 1, 4, 0x0, 0x0, 0x0, 0x0, 0x0, 0⟩,  -- PTM_CAL_CMD
  ⟨0, 0, 0x178, 1, 4, 0x0, 0x0, 0x0, 0x0, 0x0, 0⟩,  -- PTM_CAL_STATUS
  ⟨0, 0, 0x17C, 1, 4, 0xF80000, 0xFFFFFFFF, 0x0, 0x0, 0x0, 0⟩,  -- PTM_CAL_SLOT_A
  ⟨0, 0, 0x180, 1, 4, 0xFC0000, 0xFFFFFFFF, 0x0, 0x0, 0x0, 0⟩,  -- PTM_CAL_SLOT_B
  ⟨0, 0, 0x184, 1, 4, 0x0, 0x0, 0x0, 0x0, 0x0, 0⟩,  -- PTM_CAL_GEN
  ⟨0, 0, 0x188, 1, 4, 0x0, 0x0, 0x0, 0x0, 0x0, 0⟩  -- PTM_CAL_AGE
  ]

/-- Register rows of the PTM, continued. -/
def rowsPTMB : List RegRow := [
  ⟨0, 0, 0x18C, 1, 4, 0x0, 0x0, 0x0, 0x0, 0x0, 0⟩,  -- PTM_PROF_CHANGES
  ⟨0, 0, 0x190, 1, 4, 0x0, 0x0, 0x0, 0x0, 0x0, 0⟩,  -- PTM_PROF_REFUSED
  ⟨0, 0, 0x194, 1, 4, 0x0, 0x0, 0x0, 0x0, 0x0, 0⟩,  -- PTM_FORCED_CNT
  ⟨0, 0, 0x1A0, 4, 4, 0x0, 0xFFFFFFFF, 0x0, 0x0, 0x0, 0⟩,  -- PTM_COOL_QUADS
  ⟨0, 0, 0x200, 32, 4, 0x0, 0x0, 0x0, 0x0, 0x0, 0⟩,  -- PTM_LOOP_HIST
  ⟨1, 8, 0x100, 1, 4, 0x0, 0xC07FFF00, 0x0, 0x0, 0x0, 0⟩,  -- PTM_R_CFG
  ⟨1, 8, 0x104, 1, 4, 0x0, 0x0, 0x0, 0x0, 0x0, 0⟩,  -- PTM_R_NOM
  ⟨1, 8, 0x108, 1, 4, 0x32, 0xFF, 0x0, 0x0, 0x0, 0⟩,  -- PTM_R_LIM
  ⟨1, 8, 0x10C, 1, 4, 0x3E8, 0xFFFF, 0x0, 0x0, 0x0, 0⟩,  -- PTM_R_POLL
  ⟨1, 8, 0x110, 1, 4, 0x0, 0x0, 0x0, 0x0, 0x0, 0⟩,  -- PTM_R_VOUT
  ⟨1, 8, 0x114, 1, 4, 0x0, 0x0, 0x0, 0x0, 0x0, 0⟩,  -- PTM_R_IOUT
  ⟨1, 8, 0x118, 1, 4, 0x0, 0x0, 0x0, 0x0, 0x0, 0⟩,  -- PTM_R_POUT
  ⟨1, 8, 0x11C, 1, 4, 0x0, 0x0, 0x0, 0x0, 0x0, 0⟩,  -- PTM_R_TEMP
  ⟨1, 8, 0x120, 1, 4, 0x0, 0x0, 0x0, 0x0, 0x0, 0⟩,  -- PTM_R_STATUS
  ⟨1, 8, 0x124, 1, 4, 0x0, 0x0, 0x0, 0x0, 0x0, 0⟩,  -- PTM_R_MARGIN
  ⟨1, 8, 0x128, 1, 4, 0x0, 0x0, 0x0, 0x0, 0x6, 0⟩,  -- PTM_R_WM
  ⟨1, 8, 0x12C, 1, 4, 0x0, 0x0, 0x0, 0x0, 0x0, 0⟩,  -- PTM_R_ERR_CNT
  ⟨9, 9, 0x100, 28, 4, 0x0, 0x0, 0x0, 0x0, 0x0, 0⟩,  -- PTM_TS_TEMP
  ⟨9, 9, 0x180, 28, 4, 0x0, 0xFFFF, 0x0, 0x0, 0x0, 0⟩,  -- PTM_TS_MAX
  ⟨9, 9, 0x200, 1, 4, 0x64, 0xFFFF, 0x0, 0x0, 0x0, 0⟩,  -- PTM_TS_CFG
  ⟨9, 9, 0x204, 1, 4, 0x0, 0x0, 0x0, 0x0, 0x0, 0⟩,  -- PTM_TS_HOT
  ⟨9, 9, 0x208, 1, 4, 0x0, 0x0, 0x0, 0x0, 0x6, 0⟩,  -- PTM_TS_WM
  ⟨9, 9, 0x20C, 1, 4, 0x0, 0x0, 0x0, 0x0, 0x0, 0⟩  -- PTM_TS_ERR
  ]

/-- Register rows of the RTU. -/
def rowsRTUA : List RegRow := [
  ⟨0, 0, 0x100, 1, 4, 0x7, 0x0, 0x7, 0x0, 0x0, 0⟩,  -- RTU_CFG
  ⟨0, 0, 0x104, 1, 4, 0x1112C, 0xF80FFFFF, 0x0, 0x0, 0x0, 0⟩,  -- RTU_SEL_CFG
  ⟨0, 0, 0x108, 1, 4, 0xE0700000, 0x0, 0x0, 0x0, 0x0, 0⟩,  -- RTU_SEL_STATUS
  ⟨0, 0, 0x10C, 1, 4, 0x21, 0xE0000033, 0x0, 0x0, 0x0, 0⟩,  -- RTU_DPLL_CFG
  ⟨0, 0, 0x110, 1, 4, 0x0, 0x0, 0x0, 0x0, 0x0, 0⟩,  -- RTU_DPLL_STATUS
  ⟨0, 0, 0x114, 1, 4, 0x1F400C8, 0xFFFFFFFF, 0x0, 0x0, 0x0, 1⟩,  -- RTU_SLEW_CFG
  ⟨0, 0, 0x118, 1, 4, 0x0, 0x0, 0x0, 0x0, 0x0, 0⟩,  -- RTU_FREQ_OUT
  ⟨0, 0, 0x11C, 1, 4, 0x0, 0xFFFFFFFF, 0x0, 0x0, 0x0, 0⟩,  -- RTU_FREQ_ADJ
  ⟨0, 0, 0x120, 1, 4, 0x0, 0x0, 0x0, 0x0, 0x0, 0⟩,  -- RTU_PHASE_ADJ
  ⟨0, 0, 0x124, 1, 4, 0x0, 0x0, 0x0, 0x0, 0x0, 0⟩,  -- RTU_PHASE_ERR
  ⟨0, 0, 0x128, 1, 4, 0x0, 0x0, 0x0, 0x0, 0x0, 0⟩,  -- RTU_PBO
  ⟨0, 0, 0x12C, 1, 4, 0x320532, 0xFFFFFFFF, 0x0, 0x0, 0x0, 0⟩,  -- RTU_LOCK_CFG
  ⟨0, 0, 0x130, 1, 4, 0xE10003C, 0xFFFFFFFF, 0x0, 0x0, 0x0, 0⟩,  -- RTU_HOLD_CFG
  ⟨0, 0, 0x134, 1, 4, 0x0, 0x0, 0x0, 0x0, 0x0, 0⟩,  -- RTU_HOLD_STATUS
  ⟨0, 0, 0x138, 1, 4, 0x0, 0x0, 0x0, 0x0, 0x0, 0⟩,  -- RTU_TIME_SEC_HI
  ⟨0, 0, 0x13C, 1, 4, 0x0, 0x0, 0x0, 0x0, 0x0, 0⟩,  -- RTU_TIME_SEC_LO
  ⟨0, 0, 0x140, 1, 4, 0x0, 0x0, 0x0, 0x0, 0x0, 0⟩,  -- RTU_TIME_NS
  ⟨0, 0, 0x144, 1, 4, 0x0, 0x0, 0x0, 0x0, 0x0, 0⟩,  -- RTU_TIME_CMD
  ⟨0, 0, 0x148, 1, 4, 0x0, 0xFFFF, 0x0, 0x0, 0x0, 0⟩,  -- RTU_TIME_SET_SEC_HI
  ⟨0, 0, 0x14C, 1, 4, 0x0, 0xFFFFFFFF, 0x0, 0x0, 0x0, 0⟩,  -- RTU_TIME_SET_SEC_LO
  ⟨0, 0, 0x150, 1, 4, 0x0, 0x3FFFFFFF, 0x0, 0x0, 0x0, 0⟩,  -- RTU_TIME_SET_NS
  ⟨0, 0, 0x154, 1, 4, 0x0, 0xE000FFFF, 0x0, 0x0, 0x0, 0⟩,  -- RTU_UTC
  ⟨0, 0, 0x158, 1, 4, 0x0, 0x80000000, 0x0, 0x0, 0x0, 0⟩,  -- RTU_ACLK
  ⟨0, 0, 0x15C, 1, 4, 0x0, 0x0, 0x0, 0x0, 0x0, 0⟩,  -- RTU_LO_STATUS
  ⟨0, 0, 0x160, 1, 4, 0x0, 0x0, 0x0, 0x0, 0x0, 0⟩,  -- RTU_TWIN_OFFSET
  ⟨0, 0, 0x164, 1, 4, 0x0, 0xFFFFFFFF, 0x0, 0x0, 0x0, 0⟩,  -- RTU_TWIN_OFFSET_MAX
  ⟨0, 0, 0x168, 1, 4, 0x20000000, 0x6FF7FF80, 0x0, 0x0, 0x0, 0⟩,  -- RTU_TIC_CFG
  ⟨0, 0, 0x16C, 1, 4, 0x3B9ACA00, 0xFFFFFFFF, 0x0, 0x0, 0x0, 0⟩,  -- RTU_TIC_PERIOD
  ⟨0, 0, 0x170, 1, 4, 0x0, 0x0, 0x0, 0x0, 0x0, 0⟩,  -- RTU_TIC_LO
  ⟨0, 0, 0x174, 1, 4, 0x0, 0x0, 0x0, 0x0, 0x0, 0⟩,  -- RTU_TIC_HI
  ⟨0, 0, 0x178, 1, 4, 0x7F0001, 0x0, 0xC0FF0001, 0x0, 0x0, 0⟩,  -- RTU_PTP_CFG
  ⟨0, 0, 0x17C, 1, 4, 0x808021A0, 0xFFFFFFFF, 0x0, 0x0, 0x0, 0⟩,  -- RTU_PTP_CLOCK
  ⟨0, 0, 0x180, 1, 4, 0x60734F8, 0xFFFFFFFF, 0x0, 0x0, 0x0, 0⟩,  -- RTU_PTP_CLASS
  ⟨0, 0, 0x184, 1, 4, 0xCA62, 0xFFFF, 0x0, 0x0, 0x0, 0⟩,  -- RTU_PTP_QLMAP
  ⟨0, 0, 0x188, 1, 4, 0x0, 0x0, 0xFFFFFFFF, 0x0, 0x0, 0⟩  -- RTU_PTP_ID_LO
  ]

/-- Register rows of the RTU, continued. -/
def rowsRTUB : List RegRow := [
  ⟨0, 0, 0x18C, 1, 4, 0x0, 0x0, 0xFFFFFFFF, 0x0, 0x0, 0⟩,  -- RTU_PTP_ID_HI
  ⟨0, 0, 0x190, 1, 4, 0xF00000, 0x0, 0x0, 0x0, 0x0, 0⟩,  -- RTU_PTP_STATUS
  ⟨0, 0, 0x194, 1, 4, 0x0, 0x0, 0x0, 0x0, 0x0, 0⟩,  -- RTU_PTP_GM_ID_LO
  ⟨0, 0, 0x198, 1, 4, 0x0, 0x0, 0x0, 0x0, 0x0, 0⟩,  -- RTU_PTP_GM_ID_HI
  ⟨0, 0, 0x19C, 1, 4, 0x0, 0x0, 0x0, 0x0, 0x0, 0⟩,  -- RTU_PTP_GM_QUAL
  ⟨0, 0, 0x1A0, 1, 4, 0x0, 0x0, 0x0, 0x0, 0x0, 0⟩,  -- RTU_PTP_OFFSET
  ⟨0, 0, 0x1A4, 1, 4, 0x0, 0x0, 0x0, 0x0, 0x0, 0⟩,  -- RTU_PTP_DELAY
  ⟨0, 0, 0x1A8, 1, 4, 0x10, 0xFF, 0x0, 0x0, 0x0, 0⟩,  -- RTU_PTP_FILT
  ⟨0, 0, 0x1AC, 1, 4, 0x0, 0x0, 0x0, 0x0, 0x0, 0⟩,  -- RTU_SWITCHES
  ⟨0, 0, 0x1B0, 1, 4, 0x0, 0x0, 0x0, 0x0, 0x0, 0⟩,  -- RTU_HOLD_ENTRIES
  ⟨0, 0, 0x1B4, 1, 4, 0x0, 0x0, 0x0, 0x0, 0x0, 0⟩,  -- RTU_SLEW_CLAMP_MS
  ⟨0, 0, 0x1B8, 1, 4, 0x0, 0x0, 0x0, 0x0, 0x0, 0⟩,  -- RTU_TIC_EVENTS
  ⟨0, 0, 0x1BC, 1, 4, 0x0, 0x0, 0x0, 0x0, 0x0, 0⟩,  -- RTU_TIC_WRAP_CNT
  ⟨0, 0, 0x1C0, 1, 4, 0x0, 0x0, 0x0, 0x0, 0x0, 0⟩,  -- RTU_TIC_UNDER_CNT
  ⟨0, 0, 0x1C4, 1, 4, 0x0, 0x0, 0x0, 0x0, 0x0, 0⟩,  -- RTU_TIC_CAL_STATUS
  ⟨0, 0, 0x200, 12, 4, 0x0, 0xFFFFFFFF, 0x0, 0x0, 0x0, 0⟩,  -- RTU_SM_TLV
  ⟨1, 4, 0x100, 1, 4, 0x1000000, 0x8F1F0000, 0x0, 0x0, 0x0, 0⟩,  -- RTU_C_CFG
  ⟨1, 4, 0x104, 1, 4, 0x0, 0x0, 0x0, 0x0, 0x0, 0⟩,  -- RTU_C_STATUS
  ⟨1, 4, 0x108, 1, 4, 0x2710, 0x0, 0x3FFFF, 0x0, 0x0, 0⟩,  -- RTU_C_CLK_KHZ
  ⟨1, 4, 0x10C, 1, 4, 0x80000000, 0x0, 0x8000000F, 0x0, 0x0, 0⟩,  -- RTU_C_FP_CFG
  ⟨1, 4, 0x110, 1, 4, 0x0, 0xFFFFFFFF, 0x0, 0x0, 0x0, 0⟩,  -- RTU_C_PATH_OFF
  ⟨1, 4, 0x114, 1, 4, 0x64A03E8, 0xFFFFFFFF, 0x0, 0x0, 0x0, 0⟩,  -- RTU_C_QUAL
  ⟨1, 4, 0x118, 1, 4, 0x0, 0x0, 0x0, 0x0, 0x0, 0⟩,  -- RTU_C_QM_LAST
  ⟨1, 4, 0x11C, 1, 4, 0x0, 0x0, 0x0, 0x0, 0x0, 0⟩,  -- RTU_C_PHASE
  ⟨1, 4, 0x120, 1, 4, 0x0, 0x0, 0x0, 0x0, 0x0, 0⟩,  -- RTU_C_FREQ
  ⟨1, 4, 0x124, 1, 4, 0x0, 0x0, 0x0, 0x0, 0x0, 0⟩,  -- RTU_C_QM_CNT
  ⟨1, 4, 0x128, 1, 4, 0x0, 0x0, 0x0, 0x0, 0x0, 0⟩,  -- RTU_C_QM_MISS_CNT
  ⟨1, 4, 0x12C, 1, 4, 0x0, 0x0, 0x0, 0x0, 0x0, 0⟩,  -- RTU_C_DISQ_CNT
  ⟨5, 12, 0x100, 1, 4, 0x0, 0x0, 0xFC00FFFF, 0x0, 0x0, 0⟩,  -- RTU_O_CFG
  ⟨5, 12, 0x104, 1, 4, 0x0, 0xFFFFFFFF, 0x0, 0x0, 0x0, 0⟩,  -- RTU_O_OFFSET
  ⟨5, 12, 0x108, 1, 4, 0x3E8, 0xFFFFFF, 0x0, 0x0, 0x0, 0⟩,  -- RTU_O_WIDTH
  ⟨5, 12, 0x10C, 1, 4, 0x0, 0x0, 0x0, 0x0, 0x0, 0⟩,  -- RTU_O_CTRL
  ⟨5, 12, 0x110, 1, 4, 0x0, 0x0, 0x0, 0x0, 0x0, 0⟩,  -- RTU_O_STATUS
  ⟨5, 12, 0x114, 1, 4, 0x0, 0x0, 0x0, 0x0, 0x0, 0⟩,  -- RTU_O_PULSES
  ⟨16, 23, 0x100, 1, 4, 0x0, 0x0, 0xF8007F03, 0x0, 0x0, 0⟩  -- RTU_P_CFG
  ]

/-- Register rows of the RTU, continued. -/
def rowsRTUC : List RegRow := [
  ⟨16, 23, 0x104, 1, 4, 0xFDFEFD03, 0xFFFFFFFF, 0x0, 0x0, 0x0, 0⟩,  -- RTU_P_INTERVALS
  ⟨16, 23, 0x108, 1, 4, 0x0, 0x0, 0xFFFFFFFF, 0x0, 0x0, 0⟩,  -- RTU_P_IP
  ⟨16, 23, 0x10C, 1, 4, 0x0, 0x0, 0xEFFF003F, 0x0, 0x0, 0⟩,  -- RTU_P_VLAN
  ⟨16, 23, 0x110, 1, 4, 0x3, 0x0, 0x0, 0x0, 0x0, 0⟩,  -- RTU_P_STATE
  ⟨16, 23, 0x114, 1, 4, 0x0, 0x0, 0x0, 0x0, 0x0, 0⟩,  -- RTU_P_PARENT_LO
  ⟨16, 23, 0x118, 1, 4, 0x0, 0x0, 0x0, 0x0, 0x0, 0⟩,  -- RTU_P_PARENT_HI
  ⟨16, 23, 0x11C, 1, 4, 0x0, 0x0, 0x0, 0x0, 0x0, 0⟩,  -- RTU_P_DELAY
  ⟨16, 23, 0x120, 1, 4, 0x0, 0x0, 0x0, 0x0, 0x0, 0⟩,  -- RTU_P_TX_SYNC
  ⟨16, 23, 0x124, 1, 4, 0x0, 0x0, 0x0, 0x0, 0x0, 0⟩,  -- RTU_P_TX_ANN
  ⟨16, 23, 0x128, 1, 4, 0x0, 0x0, 0x0, 0x0, 0x0, 0⟩,  -- RTU_P_RX_SYNC
  ⟨16, 23, 0x12C, 1, 4, 0x0, 0x0, 0x0, 0x0, 0x0, 0⟩,  -- RTU_P_RX_ANN
  ⟨16, 23, 0x130, 1, 4, 0x0, 0x0, 0x0, 0x0, 0x0, 0⟩,  -- RTU_P_RX_DREQ
  ⟨16, 23, 0x134, 1, 4, 0x0, 0x0, 0x0, 0x0, 0x0, 0⟩,  -- RTU_P_RX_DRESP
  ⟨16, 23, 0x138, 1, 4, 0x0, 0x0, 0x0, 0x0, 0x0, 0⟩,  -- RTU_P_TS_MISS
  ⟨16, 23, 0x13C, 1, 4, 0x0, 0x0, 0x0, 0x0, 0x0, 0⟩,  -- RTU_P_ANN_TIMEOUT
  ⟨32, 32, 0x100, 1, 4, 0xFFFF, 0xFFFF, 0x0, 0x0, 0x0, 0⟩,  -- RTU_H_CFG
  ⟨32, 32, 0x104, 1, 4, 0x0, 0x0, 0x0, 0x0, 0x0, 0⟩,  -- RTU_H_COUNT
  ⟨32, 32, 0x108, 1, 4, 0x0, 0x0, 0x0, 0x0, 0x0, 0⟩,  -- RTU_H_LAST_SW_LO
  ⟨32, 32, 0x10C, 1, 4, 0x0, 0x0, 0x0, 0x0, 0x0, 0⟩,  -- RTU_H_LAST_SW_HI
  ⟨32, 32, 0x110, 1, 4, 0x0, 0x0, 0x0, 0x0, 0x0, 0⟩,  -- RTU_H_LAST_HOLD_LO
  ⟨32, 32, 0x114, 1, 4, 0x0, 0x0, 0x0, 0x0, 0x0, 0⟩,  -- RTU_H_LAST_HOLD_HI
  ⟨32, 32, 0x118, 1, 4, 0x0, 0x0, 0x0, 0x0, 0x0, 0⟩,  -- RTU_H_HOLD_MAX_S
  ⟨32, 32, 0x11C, 1, 4, 0x0, 0xFFFFFFFF, 0x0, 0x0, 0x0, 0⟩,  -- RTU_H_FREQ_RANGE
  ⟨32, 32, 0x140, 16, 4, 0x0, 0x0, 0x0, 0x0, 0x0, 0⟩  -- RTU_H_LOG
  ]

/-- Register rows of the SLC. -/
def rowsSLCA : List RegRow := [
  ⟨1, 128, 0x100, 1, 4, 0x133, 0x0, 0xFFFF0133, 0x0, 0x0, 0⟩,  -- SLC_Q_CFG
  ⟨1, 128, 0x104, 1, 4, 0x0, 0x0, 0x0, 0x0, 0x0, 0⟩,  -- SLC_Q_STATUS
  ⟨1, 128, 0x108, 1, 4, 0x0, 0x0, 0xFFFFFFFF, 0x0, 0x0, 0⟩,  -- SLC_Q_STREAMS
  ⟨1, 128, 0x10C, 1, 4, 0x0, 0x0, 0x0, 0x0, 0x0, 0⟩,  -- SLC_Q_TX_LOAD
  ⟨1, 128, 0x110, 1, 4, 0xF0F00, 0xF0F0F, 0x0, 0x0, 0x0, 0⟩,  -- SLC_Q_SLEEP
  ⟨1, 128, 0x114, 1, 4, 0x0, 0x0, 0x0, 0x0, 0x0, 0⟩,  -- SLC_LANE_WAKE_MODE
  ⟨1, 128, 0x118, 1, 4, 0x0, 0x703, 0x0, 0x0, 0x0, 0⟩,  -- SLC_Q_SEL
  ⟨1, 128, 0x11C, 1, 4, 0x0, 0x0, 0x0, 0x0, 0x0, 0⟩,  -- SLC_Q_ALIGN
  ⟨1, 128, 0x120, 1, 4, 0x0, 0x0, 0x0, 0x0, 0x0, 0⟩,  -- SLC_Q_EQ
  ⟨1, 128, 0x124, 1, 4, 0x0, 0xF00FF7F, 0x0, 0x0, 0x0, 0⟩,  -- SLC_Q_EYE_CMD
  ⟨1, 128, 0x128, 1, 4, 0x0, 0x0, 0x0, 0x0, 0x0, 0⟩,  -- SLC_Q_EYE_RESULT
  ⟨1, 128, 0x12C, 1, 4, 0x0, 0x0, 0x0, 0x0, 0x0, 0⟩,  -- SLC_Q_ERR_CNT
  ⟨1, 128, 0x130, 1, 4, 0x0, 0x0, 0x0, 0x0, 0x6, 0⟩  -- SLC_Q_WM
  ]

/-- Register rows of the SFE. -/
def rowsSFEA : List RegRow := [
  ⟨0, 0, 0x100, 1, 4, 0x1, 0x0, 0x7, 0x0, 0x0, 0⟩,  -- SFE_CFG
  ⟨0, 0, 0x104, 1, 4, 0x2710, 0xFFFFF, 0x0, 0x0, 0x0, 0⟩,  -- SFE_SYNC_WIN
  ⟨0, 0, 0x108, 1, 4, 0x0, 0x0, 0x0, 0x0, 0x0, 0⟩,  -- SFE_STATUS
  ⟨0, 0, 0x10C, 1, 4, 0x0, 0x0, 0x0, 0x0, 0x0, 0⟩,  -- SFE_RX_LINES
  ⟨0, 0, 0x110, 1, 4, 0x0, 0x0, 0x0, 0x0, 0x0, 0⟩,  -- SFE_TX_LINES
  ⟨0, 0, 0x114, 1, 4, 0x0, 0x0, 0x0, 0x0, 0x0, 0⟩,  -- SFE_CRC_ERR_CNT
  ⟨0, 0, 0x118, 1, 4, 0x0, 0x0, 0x0, 0x0, 0x0, 0⟩,  -- SFE_ANC_DROP_CNT
  ⟨0, 0, 0x11C, 1, 4, 0x0, 0x0, 0x0, 0x0, 0x0, 0⟩,  -- SFE_FILL_LINES
  ⟨1, 128, 0x100, 1, 4, 0x0, 0x73F, 0x0, 0x0, 0x0, 0⟩,  -- SFE_Q_SEL
  ⟨1, 128, 0x104, 1, 4, 0x0, 0x0, 0x0, 0x0, 0x0, 0⟩,  -- SFE_Q_STATUS
  ⟨1, 128, 0x108, 1, 4, 0x0, 0x0, 0x0, 0x0, 0x0, 0⟩,  -- SFE_Q_PID
  ⟨1, 128, 0x10C, 1, 4, 0x0, 0x0, 0x0, 0x0, 0x0, 0⟩  -- SFE_Q_CNT
  ]

/-- Register rows of the FMAC. -/
def rowsFMACA : List RegRow := [
  ⟨1, 128, 0x100, 1, 4, 0xFC0005F2, 0x0, 0xFFFC3FFF, 0x0, 0x0, 0⟩,  -- FMAC_M_CFG
  ⟨1, 128, 0x104, 1, 4, 0x0, 0x0, 0x0, 0x0, 0x0, 0⟩,  -- FMAC_M_STATUS
  ⟨1, 128, 0x108, 1, 4, 0x0, 0xFB1F00FF, 0x0, 0x0, 0x0, 0⟩,  -- FMAC_M_SEL
  ⟨1, 128, 0x10C, 1, 4, 0x0, 0x0, 0x0, 0x0, 0x0, 0⟩,  -- FMAC_M_CNT
  ⟨1, 128, 0x110, 1, 4, 0x0, 0x0, 0x0, 0x0, 0x6, 0⟩,  -- FMAC_M_Q_WM
  ⟨1, 128, 0x114, 1, 4, 0x0, 0xFFFFFFFF, 0x0, 0x0, 0x0, 0⟩,  -- FMAC_M_PTP_ADJ
  ⟨1, 128, 0x118, 1, 4, 0x0, 0xC0000000, 0x0, 0x0, 0x0, 0⟩,  -- FMAC_M_SEC_STATUS
  ⟨1, 128, 0x11C, 1, 4, 0x0, 0x0, 0x0, 0x0, 0x0, 0⟩,  -- FMAC_M_FLT_REFUSAL
  ⟨1, 128, 0x120, 1, 4, 0x0, 0x0, 0x0, 0x0, 0x0, 0⟩  -- FMAC_M_TX_LOAD
  ]

/-- Register rows of the CXF. -/
def rowsCXFA : List RegRow := [
  ⟨0, 0, 0x100, 1, 4, 0x3, 0x0, 0x3, 0x0, 0x0, 0⟩,  -- CXF_CFG
  ⟨0, 0, 0x104, 1, 4, 0xFFFF, 0x0, 0x0, 0x0, 0x0, 0⟩,  -- CXF_PROFILE
  ⟨0, 0, 0x108, 1, 4, 0x30D40, 0x0, 0x0, 0x0, 0x0, 0⟩,  -- CXF_BUDGET
  ⟨0, 0, 0x10C, 1, 4, 0x201000, 0xFFFFFF, 0x0, 0x0, 0x0, 0⟩,  -- CXF_PROBE_CFG
  ⟨0, 0, 0x110, 1, 4, 0x14, 0xFF, 0x0, 0x0, 0x0, 0⟩,  -- CXF_SLACK_TH
  ⟨0, 0, 0x114, 1, 4, 0x0, 0x0, 0x0, 0x0, 0x0, 0⟩,  -- CXF_SLACK_WORST
  ⟨0, 0, 0x118, 1, 4, 0x0, 0x0, 0x0, 0x0, 0x0, 0⟩,  -- CXF_EPOCH_LO
  ⟨0, 0, 0x11C, 1, 4, 0x0, 0x0, 0x0, 0x0, 0x0, 0⟩,  -- CXF_EPOCH_HI
  ⟨0, 0, 0x120, 1, 4, 0x0, 0x0, 0x0, 0x0, 0x0, 0⟩,  -- CXF_OVERRUN_CNT
  ⟨0, 0, 0x124, 1, 4, 0x0, 0x0, 0x0, 0x0, 0x0, 0⟩,  -- CXF_LATE_CELLS
  ⟨0, 0, 0x128, 1, 4, 0x0, 0x0, 0x0, 0x0, 0x0, 0⟩,  -- CXF_FILL_CELLS
  ⟨0, 0, 0x12C, 1, 4, 0x0, 0x0, 0x0, 0x0, 0x0, 0⟩,  -- CXF_MISFIT_CNT
  ⟨0, 0, 0x130, 1, 4, 0x0, 0x0, 0x0, 0x0, 0x0, 0⟩,  -- CXF_EXCESS_CNT
  ⟨0, 0, 0x134, 1, 4, 0x0, 0x0, 0x0, 0x0, 0x0, 0⟩,  -- CXF_CRC_ERR_CNT
  ⟨0, 0, 0x138, 1, 4, 0x0, 0x0, 0x0, 0x0, 0x0, 0⟩,  -- CXF_PROBE_ERR_CNT
  ⟨0, 0, 0x13C, 1, 4, 0x5A5A, 0xFFFF, 0x0, 0x0, 0x0, 0⟩,  -- CXF_BUF_MARK
  ⟨0, 0, 0x140, 1, 4, 0x0, 0x0, 0x0, 0x0, 0x6, 0⟩,  -- CXF_IBUF_WM_W
  ⟨0, 0, 0x144, 1, 4, 0x0, 0x0, 0x0, 0x0, 0x6, 0⟩,  -- CXF_IBUF_WM_E
  ⟨0, 0, 0x148, 1, 4, 0x0, 0x0, 0x0, 0x0, 0x6, 0⟩,  -- CXF_EBUF_WM_W
  ⟨0, 0, 0x14C, 1, 4, 0x0, 0x0, 0x0, 0x0, 0x6, 0⟩,  -- CXF_EBUF_WM_E
  ⟨1, 16, 0x100, 1, 4, 0x0, 0x0, 0x0, 0x1FFF, 0x0, 0⟩,  -- CXF_PL_LIST_LEN
  ⟨1, 16, 0x104, 1, 4, 0x0, 0x0, 0x0, 0x0, 0x0, 0⟩,  -- CXF_PL_STATUS
  ⟨1, 16, 0x108, 1, 4, 0x0, 0x0, 0x0, 0x0, 0x0, 0⟩,  -- CXF_PL_TOKENS
  ⟨1, 16, 0x10C, 1, 4, 0x0, 0x0, 0x0, 0x0, 0x0, 0⟩,  -- CXF_PL_ELAPSED
  ⟨1, 16, 0x110, 1, 4, 0x0, 0x0, 0x0, 0x0, 0x0, 0⟩,  -- CXF_PL_SLACK
  ⟨1, 16, 0x114, 1, 4, 0x0, 0x0, 0x0, 0x0, 0x0, 0⟩,  -- CXF_PL_SLACK_PROJ
  ⟨1, 16, 0x118, 1, 4, 0x1FFFF, 0x0, 0x0, 0x0, 0x0, 0⟩,  -- CXF_PL_SLACK_MIN
  ⟨1, 16, 0x11C, 1, 4, 0x0, 0x0, 0x0, 0x0, 0x0, 0⟩,  -- CXF_PL_OVERRUN_CNT
  ⟨1, 16, 0x120, 1, 4, 0x0, 0x0, 0x0, 0x0, 0x0, 0⟩,  -- CXF_PL_RATE
  ⟨1, 16, 0x124, 1, 4, 0x0, 0x0, 0x0, 0x0, 0x0, 0⟩  -- CXF_PL_PROBES
  ]

/-- Register rows of the GSE. -/
def rowsGSEA : List RegRow := [
  ⟨0, 0, 0x100, 1, 4, 0x2, 0x4, 0x3, 0x0, 0x0, 0⟩,  -- GSE_CFG
  ⟨0, 0, 0x104, 1, 4, 0x0, 0x0, 0x0, 0x0, 0x0, 0⟩,  -- GSE_STATUS
  ⟨0, 0, 0x108, 1, 4, 0x0, 0xFFFFFFC0, 0x0, 0x0, 0x0, 0⟩,  -- GSE_IMG_ADDR_LO
  ⟨0, 0, 0x10C, 1, 4, 0x0, 0xFF, 0x0, 0x0, 0x0, 0⟩,  -- GSE_IMG_ADDR_HI
  ⟨0, 0, 0x110, 1, 4, 0x0, 0x0, 0x0, 0x0, 0x0, 0⟩,  -- GSE_IMG_CMD
  ⟨0, 0, 0x114, 1, 4, 0x0, 0x0, 0x0, 0x0, 0x0, 0⟩,  -- GSE_IMG_STATUS
  ⟨0, 0, 0x118, 1, 4, 0x0, 0x0, 0x0, 0x0, 0x0, 0⟩,  -- GSE_IMG_ID
  ⟨0, 0, 0x11C, 1, 4, 0x0, 0x0, 0x0, 0x0, 0x0, 0⟩,  -- GSE_IMG_HCRC
  ⟨0, 0, 0x120, 1, 4, 0x0, 0x0, 0x0, 0x0, 0x0, 0⟩,  -- GSE_IMG_PEND_ID
  ⟨0, 0, 0x124, 1, 4, 0x0, 0x0, 0x0, 0x0, 0x0, 0⟩,  -- GSE_IMG_LOAD_US
  ⟨0, 0, 0x128, 1, 4, 0x2000, 0x0, 0x0, 0x0, 0x0, 0⟩,  -- GSE_CREDIT
  ⟨0, 0, 0x12C, 1, 4, 0x0, 0x0, 0x0, 0x0, 0x0, 0⟩,  -- GSE_QUEUE
  ⟨0, 0, 0x130, 1, 4, 0x0, 0x0, 0x0, 0x0, 0x6, 0⟩,  -- GSE_QUEUE_WM
  ⟨0, 0, 0x134, 1, 4, 0x3000, 0x7FFF, 0x0, 0x0, 0x0, 0⟩,  -- GSE_QUEUE_MARK
  ⟨0, 0, 0x138, 1, 4, 0x0, 0x0, 0x0, 0x0, 0x0, 0⟩,  -- GSE_LAST_FLIP_LO
  ⟨0, 0, 0x13C, 1, 4, 0x0, 0x0, 0x0, 0x0, 0x0, 0⟩,  -- GSE_LAST_FLIP_HI
  ⟨0, 0, 0x140, 1, 4, 0x0, 0x0, 0x0, 0x0, 0x0, 0⟩,  -- GSE_FLIP_OUTPUTS
  ⟨0, 0, 0x144, 1, 4, 0x0, 0xFFFF, 0x0, 0x0, 0x0, 0⟩,  -- GSE_TWIN_RTT_MAX
  ⟨0, 0, 0x148, 1, 4, 0x0, 0x0, 0x0, 0x0, 0x0, 0⟩,  -- GSE_TAKES_DONE
  ⟨0, 0, 0x14C, 1, 4, 0x0, 0x0, 0x0, 0x0, 0x0, 0⟩,  -- GSE_TAKES_NOOP
  ⟨0, 0, 0x150, 1, 4, 0x0, 0x0, 0x0, 0x0, 0x0, 0⟩,  -- GSE_TAKES_MOVED
  ⟨0, 0, 0x154, 1, 4, 0x0, 0x0, 0x0, 0x0, 0x0, 0⟩,  -- GSE_TAKES_CANCELLED
  ⟨0, 0, 0x158, 1, 4, 0x0, 0x0, 0x0, 0x0, 0x0, 0⟩,  -- GSE_TAKES_SUPERSEDED
  ⟨0, 0, 0x15C, 1, 4, 0x0, 0x0, 0x0, 0x0, 0x0, 0⟩,  -- GSE_TAKES_REFUSED
  ⟨0, 0, 0x160, 1, 4, 0x0, 0x0, 0x0, 0x0, 0x0, 0⟩,  -- GSE_SALVOS
  ⟨0, 0, 0x164, 1, 4, 0x0, 0x0, 0x0, 0x0, 0x0, 0⟩,  -- GSE_PREFETCH_CELLS
  ⟨0, 0, 0x168, 1, 4, 0x0, 0x0, 0x0, 0x0, 0x0, 0⟩,  -- GSE_PREFETCH_DISCARD
  ⟨0, 0, 0x16C, 1, 4, 0x0, 0x0, 0x0, 0x0, 0x0, 0⟩,  -- GSE_IMG_LOADS
  ⟨0, 0, 0x170, 1, 4, 0x0, 0x0, 0x0, 0x0, 0x0, 0⟩,  -- GSE_IMG_REFUSED
  ⟨0, 0, 0x174, 1, 4, 0x0, 0x0, 0x0, 0x0, 0x0, 0⟩,  -- GSE_TWIN_LATE_CNT
  ⟨0, 0, 0x178, 1, 4, 0x0, 0x0, 0x0, 0x0, 0x0, 0⟩,  -- GSE_IMG_DIFFER_CNT
  ⟨0, 0, 0x17C, 1, 4, 0x0, 0x0, 0x0, 0x0, 0x0, 0⟩,  -- GSE_FLIPS
  ⟨0, 0, 0x180, 16, 4, 0x0, 0x0, 0x0, 0x0, 0x0, 0⟩,  -- GSE_REFUSE_CNT
  ⟨1, 8, 0x100, 1, 4, 0x0, 0xFFFFFFFF, 0x0, 0x0, 0x0, 0⟩,  -- GSE_P_ARG
  ⟨1, 8, 0x104, 1, 4, 0x0, 0xFFFFFFFF, 0x0, 0x0, 0x0, 0⟩  -- GSE_P_TIME_LO
  ]

/-- Register rows of the GSE, continued. -/
def rowsGSEB : List RegRow := [
  ⟨1, 8, 0x108, 1, 4, 0x0, 0xFFFFFFFF, 0x0, 0x0, 0x0, 0⟩,  -- GSE_P_TIME_HI
  ⟨1, 8, 0x10C, 1, 4, 0x0, 0x0, 0x0, 0x0, 0x0, 0⟩,  -- GSE_P_CMD
  ⟨1, 8, 0x110, 1, 4, 0x0, 0x0, 0x0, 0x0, 0x0, 0⟩,  -- GSE_P_RESULT
  ⟨1, 8, 0x114, 1, 4, 0x0, 0x0, 0x0, 0x0, 0x0, 0⟩,  -- GSE_P_NEXT_TAG
  ⟨1, 8, 0x118, 1, 4, 0x0, 0x0, 0x0, 0x0, 0x0, 0⟩,  -- GSE_P_ISSUED
  ⟨1, 8, 0x11C, 1, 4, 0x0, 0x0, 0x0, 0x0, 0x0, 0⟩,  -- GSE_P_REFUSED
  ⟨1, 8, 0x140, 16, 4, 0x0, 0x0, 0x0, 0x0, 0x0, 0⟩  -- GSE_P_HIST
  ]

/-- Register rows of the FST. -/
def rowsFSTA : List RegRow := [
  ⟨0, 0, 0x100, 1, 4, 0x3, 0x0, 0x3, 0x0, 0x0, 0⟩,  -- FST_CFG
  ⟨0, 0, 0x104, 1, 4, 0x0, 0x0, 0x0, 0x0, 0x0, 0⟩,  -- FST_STATUS
  ⟨0, 0, 0x108, 1, 4, 0x0, 0x0, 0x0, 0x0, 0x0, 0⟩,  -- FST_REFUSAL
  ⟨0, 0, 0x10C, 1, 4, 0x0, 0x71FFF, 0x0, 0x0, 0x0, 0⟩,  -- FST_SEL
  ⟨0, 0, 0x110, 1, 4, 0x0, 0x0, 0x0, 0x0, 0x0, 0⟩,  -- FST_SLOT_STATUS
  ⟨0, 0, 0x114, 1, 4, 0x0, 0x0, 0x0, 0x0, 0x0, 0⟩,  -- FST_SLOT_FRAMES
  ⟨0, 0, 0x118, 1, 4, 0x0, 0x0, 0x0, 0x0, 0x0, 0⟩,  -- FST_SLOT_CNT
  ⟨0, 0, 0x11C, 1, 4, 0x0, 0x0, 0x0, 0x0, 0x0, 0⟩,  -- FST_POOL_INUSE
  ⟨0, 0, 0x120, 1, 4, 0x0, 0x0, 0x0, 0x0, 0x6, 0⟩,  -- FST_POOL_WM
  ⟨0, 0, 0x124, 1, 4, 0x3800, 0x7FFF, 0x0, 0x0, 0x0, 0⟩,  -- FST_POOL_MARK
  ⟨0, 0, 0x128, 1, 4, 0x14, 0xFFFF, 0x0, 0x0, 0x0, 0⟩,  -- FST_HOST_TOL
  ⟨0, 0, 0x12C, 1, 4, 0x80000002, 0x800000FF, 0x0, 0x0, 0x0, 0⟩,  -- FST_PD_CFG
  ⟨0, 0, 0x130, 1, 4, 0x18, 0x800000FF, 0x0, 0x0, 0x0, 0⟩,  -- FST_SCRUB_CFG
  ⟨0, 0, 0x134, 1, 4, 0x0, 0x0, 0x0, 0x0, 0x0, 0⟩,  -- FST_SCRUB_STATUS
  ⟨0, 0, 0x138, 1, 4, 0x0, 0x0, 0x0, 0x0, 0x0, 0⟩,  -- FST_ECC_ADDR_LO
  ⟨0, 0, 0x13C, 1, 4, 0x0, 0x0, 0x0, 0x0, 0x0, 0⟩,  -- FST_ECC_ADDR_HI
  ⟨0, 0, 0x140, 1, 4, 0x0, 0x0, 0x0, 0x0, 0x0, 0⟩,  -- FST_UNDERRUN_CNT
  ⟨0, 0, 0x144, 1, 4, 0x0, 0x0, 0x0, 0x0, 0x0, 0⟩,  -- FST_ECC_CORR_CNT
  ⟨0, 0, 0x148, 1, 4, 0x0, 0x0, 0x0, 0x0, 0x0, 0⟩,  -- FST_ECC_UNCORR_CNT
  ⟨0, 0, 0x14C, 1, 4, 0x0, 0x0, 0x0, 0x0, 0x0, 0⟩,  -- FST_SYNC_REPEAT_CNT
  ⟨0, 0, 0x150, 1, 4, 0x0, 0x0, 0x0, 0x0, 0x0, 0⟩,  -- FST_SYNC_SKIP_CNT
  ⟨0, 0, 0x154, 1, 4, 0x0, 0x0, 0x0, 0x0, 0x0, 0⟩,  -- FST_FOLLOW_MISS_CNT
  ⟨0, 0, 0x158, 1, 4, 0x0, 0x0, 0x0, 0x0, 0x0, 0⟩,  -- FST_HOST_RETRY_CNT
  ⟨0, 0, 0x15C, 1, 4, 0x0, 0x0, 0x0, 0x0, 0x0, 0⟩,  -- FST_MERGE_B_CNT
  ⟨0, 0, 0x160, 8, 4, 0x0, 0x0, 0x0, 0x0, 0x0, 0⟩,  -- FST_TOL
  ⟨0, 0, 0x180, 8, 4, 0x0, 0x0, 0x0, 0x7FFF, 0x0, 0⟩,  -- FST_POOL_SHARE
  ⟨0, 0, 0x1A0, 8, 4, 0x0, 0x0, 0x0, 0x0, 0x0, 0⟩,  -- FST_POOL_USE
  ⟨0, 0, 0x1C0, 8, 4, 0x0, 0x0, 0x0, 0x0, 0x0, 0⟩,  -- FST_CLASS_LATE
  ⟨0, 0, 0x1E0, 1, 4, 0x0, 0x0, 0x0, 0x0, 0x0, 0⟩,  -- FST_MERGE_LOST_CNT
  ⟨0, 0, 0x1E4, 1, 4, 0x0, 0x0, 0x0, 0x0, 0x0, 0⟩,  -- FST_CLIP_WRAP_CNT
  ⟨0, 0, 0x1E8, 1, 4, 0x0, 0x0, 0x0, 0x0, 0x0, 0⟩,  -- FST_INIT_STATUS
  ⟨0, 0, 0x1EC, 1, 4, 0x0, 0x0, 0x0, 0x0, 0x0, 0⟩,  -- FST_STACKS_DOWN
  ⟨1, 4, 0x100, 1, 4, 0x0, 0x0, 0x0, 0x0, 0x0, 0⟩,  -- FST_S_STATUS
  ⟨1, 4, 0x104, 1, 4, 0x0, 0x0, 0x0, 0x0, 0x0, 0⟩,  -- FST_S_BW_DECL
  ⟨1, 4, 0x108, 1, 4, 0x0, 0x0, 0x0, 0x0, 0x0, 0⟩  -- FST_S_BW_NOW
  ]

/-- Register rows of the FST, continued. -/
def rowsFSTB : List RegRow := [
  ⟨1, 4, 0x10C, 1, 4, 0x0, 0x0, 0x0, 0x0, 0x6, 0⟩,  -- FST_S_BW_WM
  ⟨1, 4, 0x110, 1, 4, 0x55, 0xFFFFFFFF, 0x0, 0x0, 0x0, 0⟩,  -- FST_S_BW_MARK
  ⟨1, 4, 0x114, 1, 4, 0x0, 0x0, 0x0, 0x0, 0x6, 0⟩,  -- FST_S_WBUF_WM
  ⟨1, 4, 0x118, 1, 4, 0x0, 0x0, 0x0, 0x0, 0x0, 0⟩,  -- FST_S_RD_CNT
  ⟨1, 4, 0x11C, 1, 4, 0x0, 0x0, 0x0, 0x0, 0x0, 0⟩,  -- FST_S_WR_CNT
  ⟨1, 4, 0x120, 1, 4, 0x0, 0x0, 0x0, 0x0, 0x0, 0⟩,  -- FST_S_PF_RD_CNT
  ⟨1, 4, 0x124, 1, 4, 0x0, 0x0, 0x0, 0x0, 0x0, 0⟩,  -- FST_S_PD_CNT
  ⟨1, 4, 0x128, 1, 4, 0x0, 0x0, 0x0, 0x0, 0x0, 0⟩,  -- FST_S_PD_US
  ⟨1, 4, 0x12C, 1, 4, 0x0, 0xFFFFFFFF, 0x0, 0x0, 0x0, 0⟩,  -- FST_S_WAKE_MAX
  ⟨1, 4, 0x130, 1, 4, 0x0, 0xFFFFFFFF, 0x0, 0x0, 0x0, 0⟩,  -- FST_S_LAT_MAX
  ⟨1, 4, 0x134, 1, 4, 0x0, 0x0, 0x0, 0x0, 0x0, 0⟩,  -- FST_S_ECC_CORR
  ⟨1, 4, 0x138, 1, 4, 0x0, 0x0, 0x0, 0x0, 0x0, 0⟩,  -- FST_S_ECC_UNCORR
  ⟨1, 4, 0x13C, 1, 4, 0x0, 0x0, 0x0, 0x0, 0x0, 0⟩,  -- FST_S_SCRUB_POS
  ⟨1, 4, 0x140, 1, 4, 0x0, 0x0, 0x0, 0x0, 0x0, 0⟩,  -- FST_S_TOL_MIN
  ⟨1, 4, 0x144, 1, 4, 0x0, 0x0, 0x0, 0x0, 0x0, 0⟩,  -- FST_S_HOST_CNT
  ⟨1, 4, 0x180, 16, 4, 0x0, 0x0, 0x0, 0x0, 0x0, 0⟩,  -- FST_S_CH_BW
  ⟨1, 4, 0x1C0, 16, 4, 0x0, 0x0, 0x0, 0x0, 0x0, 0⟩  -- FST_S_CH_ECC
  ]

/-- Register rows of the PXP. -/
def rowsPXPA : List RegRow := [
  ⟨0, 0, 0x100, 1, 4, 0x3, 0x0, 0x3, 0x0, 0x0, 0⟩,  -- PXP_CFG
  ⟨0, 0, 0x104, 1, 4, 0x0, 0x0, 0x0, 0x0, 0x0, 0⟩,  -- PXP_STATUS
  ⟨0, 0, 0x108, 1, 4, 0x1040, 0x0, 0x0, 0x0, 0x0, 0⟩,  -- PXP_BUDGET
  ⟨0, 0, 0x10C, 1, 4, 0x0, 0x0, 0x0, 0x0, 0x0, 0⟩,  -- PXP_REFUSAL
  ⟨0, 0, 0x110, 1, 4, 0x4, 0xFF, 0x0, 0x0, 0x0, 0⟩,  -- PXP_FENCE_TIMEOUT
  ⟨0, 0, 0x114, 1, 4, 0x0, 0x0, 0x0, 0x0, 0x0, 0⟩,  -- PXP_ENG_RUN_LO
  ⟨0, 0, 0x118, 1, 4, 0x0, 0x0, 0x0, 0x0, 0x0, 0⟩,  -- PXP_ENG_RUN_HI
  ⟨0, 0, 0x11C, 1, 4, 0x0, 0x0, 0x0, 0x0, 0x0, 0⟩,  -- PXP_ENG_WAIT_LO
  ⟨0, 0, 0x120, 1, 4, 0x0, 0x0, 0x0, 0x0, 0x0, 0⟩,  -- PXP_ENG_WAIT_HI
  ⟨0, 0, 0x124, 1, 4, 0x0, 0x0, 0x0, 0x0, 0x0, 0⟩,  -- PXP_FLIPS
  ⟨0, 0, 0x128, 1, 4, 0x0, 0x0, 0x0, 0x0, 0x0, 0⟩,  -- PXP_DEFER_CNT
  ⟨0, 0, 0x12C, 1, 4, 0x0, 0x0, 0x0, 0x0, 0x0, 0⟩,  -- PXP_SKIP_CNT
  ⟨0, 0, 0x130, 1, 4, 0x0, 0x0, 0x0, 0x0, 0x0, 0⟩,  -- PXP_BUDGET_CNT
  ⟨0, 0, 0x134, 1, 4, 0x0, 0x0, 0x0, 0x0, 0x0, 0⟩,  -- PXP_FENCE_TWIN_CNT
  ⟨0, 0, 0x138, 1, 4, 0x0, 0x0, 0x0, 0x0, 0x0, 0⟩,  -- PXP_LINES_OUT
  ⟨0, 0, 0x13C, 1, 4, 0x0, 0x0, 0x0, 0x0, 0x0, 0⟩,  -- PXP_LINES_LATE
  ⟨0, 0, 0x140, 1, 4, 0x0, 0x0, 0x0, 0x0, 0x0, 0⟩,  -- PXP_LAYER_FMT_CNT
  ⟨0, 0, 0x144, 1, 4, 0x0, 0x0, 0x0, 0x0, 0x0, 0⟩,  -- PXP_ERR_LINES
  ⟨0, 0, 0x148, 1, 4, 0x0, 0x0, 0x0, 0x0, 0x0, 0⟩,  -- PXP_TRANSP_LINES
  ⟨0, 0, 0x14C, 1, 4, 0x0, 0x0, 0x0, 0x0, 0x0, 0⟩,  -- PXP_FENCE_WRITES
  ⟨0, 0, 0x180, 16, 4, 0x0, 0x0, 0x0, 0x0, 0x0, 0⟩,  -- PXP_FENCE_HIST
  ⟨1, 64, 0x100, 1, 4, 0x0, 0x0, 0x0, 0xBF001FFF, 0x0, 0⟩,  -- PXP_E_CFG
  ⟨1, 64, 0x104, 1, 4, 0x0, 0x0, 0x0, 0xFFFF, 0x0, 0⟩,  -- PXP_E_FORMAT
  ⟨1, 64, 0x108, 1, 4, 0x4080200, 0x0, 0x0, 0x3FFFFFFF, 0x0, 0⟩,  -- PXP_E_BG
  ⟨1, 64, 0x10C, 1, 4, 0x0, 0x0, 0x0, 0x0, 0x0, 0⟩,  -- PXP_E_STATUS
  ⟨1, 64, 0x110, 1, 4, 0x0, 0x0, 0x0, 0x0, 0x0, 0⟩,  -- PXP_E_FENCE
  ⟨1, 64, 0x114, 1, 4, 0x0, 0x0, 0x0, 0x0, 0x0, 0⟩  -- PXP_E_LINES
  ]

/-- Register rows of the MRS. -/
def rowsMRSA : List RegRow := [
  ⟨0, 0, 0x100, 1, 4, 0x8, 0x0, 0x3FF, 0x0, 0x0, 0⟩,  -- MRS_CFG
  ⟨0, 0, 0x104, 1, 4, 0xB, 0x0, 0xF1F, 0x0, 0x0, 0⟩,  -- MRS_LINK_CFG
  ⟨0, 0, 0x108, 1, 4, 0x0, 0x0, 0x0, 0x0, 0x0, 0⟩,  -- MRS_LINK_CMD
  ⟨0, 0, 0x10C, 1, 4, 0x0, 0x0, 0x0, 0x0, 0x0, 0⟩,  -- MRS_LINK_STATUS
  ⟨0, 0, 0x110, 1, 4, 0x0, 0x0, 0xFFFFFFFF, 0x0, 0x0, 0⟩,  -- MRS_H_TIMING
  ⟨0, 0, 0x114, 1, 4, 0x0, 0x0, 0xBFFF3FFF, 0x0, 0x0, 0⟩,  -- MRS_H_SYNC
  ⟨0, 0, 0x118, 1, 4, 0x0, 0x0, 0xFFFFFFFF, 0x0, 0x0, 0⟩,  -- MRS_V_TIMING
  ⟨0, 0, 0x11C, 1, 4, 0x0, 0x0, 0xBFFF3FFF, 0x0, 0x0, 0⟩,  -- MRS_V_SYNC
  ⟨0, 0, 0x120, 1, 4, 0x0, 0x0, 0xFFFFF, 0x0, 0x0, 0⟩,  -- MRS_PCLK
  ⟨0, 0, 0x124, 1, 4, 0x0, 0x0, 0xFFFF, 0x0, 0x0, 0⟩,  -- MRS_VRR_MIN
  ⟨0, 0, 0x128, 1, 4, 0x0, 0x0, 0xFFFFFFFF, 0x0, 0x0, 0⟩,  -- MRS_VRR_MAX
  ⟨0, 0, 0x12C, 1, 4, 0x0, 0x0, 0x0, 0xFF001FFF, 0x0, 0⟩,  -- MRS_SRC
  ⟨0, 0, 0x130, 1, 4, 0x4080200, 0x3FFFFFFF, 0x0, 0x0, 0x0, 0⟩,  -- MRS_BG
  ⟨0, 0, 0x134, 1, 4, 0x0, 0x0, 0x0, 0x0, 0x0, 0⟩,  -- MRS_FRAME_READY
  ⟨0, 0, 0x138, 1, 4, 0x0, 0x0, 0x0, 0x0, 0x0, 0⟩,  -- MRS_STATUS
  ⟨0, 0, 0x13C, 1, 4, 0x0, 0x0, 0x0, 0x0, 0x0, 0⟩,  -- MRS_REFUSAL
  ⟨0, 0, 0x140, 1, 4, 0x210, 0xFFFF, 0x0, 0x0, 0x0, 0⟩,  -- MRS_LB_MARK
  ⟨0, 0, 0x144, 1, 4, 0x0, 0x0, 0x0, 0x0, 0x6, 0⟩,  -- MRS_LB_WM
  ⟨0, 0, 0x148, 1, 4, 0x0, 0x0, 0x0, 0x0, 0x0, 0⟩,  -- MRS_LB_LEVEL
  ⟨0, 0, 0x14C, 1, 4, 0xFFFF, 0x0, 0x0, 0x0, 0x0, 0⟩,  -- MRS_TOL
  ⟨0, 0, 0x150, 1, 4, 0x0, 0x0, 0x0, 0x0, 0x0, 0⟩,  -- MRS_AUX_CMD
  ⟨0, 0, 0x154, 1, 4, 0x0, 0x0, 0x0, 0x0, 0x0, 0⟩,  -- MRS_AUX_STATUS
  ⟨0, 0, 0x158, 4, 4, 0x0, 0xFFFFFFFF, 0x0, 0x0, 0x0, 0⟩,  -- MRS_AUX_DATA
  ⟨0, 0, 0x168, 1, 4, 0x0, 0x0, 0x0, 0x0, 0x0, 0⟩,  -- MRS_HPD
  ⟨0, 0, 0x16C, 1, 4, 0x0, 0x0, 0x0, 0x0, 0x0, 0⟩,  -- MRS_FRAME_US
  ⟨0, 0, 0x170, 1, 4, 0x0, 0xFFFFFFFF, 0x0, 0x0, 0x0, 0⟩,  -- MRS_FRAME_US_RANGE
  ⟨0, 0, 0x174, 1, 4, 0x0, 0x0, 0x0, 0x0, 0x0, 0⟩,  -- MRS_FRAME_CRC
  ⟨0, 0, 0x178, 1, 4, 0x0, 0x0, 0x0, 0x0, 0x0, 0⟩,  -- MRS_FRAMES
  ⟨0, 0, 0x17C, 1, 4, 0x0, 0x0, 0x0, 0x0, 0x0, 0⟩,  -- MRS_NEW_FRAMES
  ⟨0, 0, 0x180, 1, 4, 0x0, 0x0, 0x0, 0x0, 0x0, 0⟩,  -- MRS_REPEATS
  ⟨0, 0, 0x184, 1, 4, 0x0, 0x0, 0x0, 0x0, 0x0, 0⟩,  -- MRS_UNDERRUN_CNT
  ⟨0, 0, 0x188, 1, 4, 0x0, 0x0, 0x0, 0x0, 0x0, 0⟩,  -- MRS_URGENT_CNT
  ⟨0, 0, 0x18C, 1, 4, 0x0, 0x0, 0x0, 0x0, 0x0, 0⟩,  -- MRS_AUX_RETRY_CNT
  ⟨0, 0, 0x190, 1, 4, 0x0, 0x0, 0x0, 0x0, 0x0, 0⟩,  -- MRS_AUX_FAIL_CNT
  ⟨0, 0, 0x194, 1, 4, 0x0, 0x0, 0x0, 0x0, 0x0, 0⟩  -- MRS_HPD_IRQ_CNT
  ]

/-- Register rows of the MRS, continued. -/
def rowsMRSB : List RegRow := [
  ⟨0, 0, 0x198, 1, 4, 0x0, 0x0, 0x0, 0x0, 0x0, 0⟩,  -- MRS_TRAIN_CNT
  ⟨0, 0, 0x19C, 1, 4, 0x0, 0x0, 0x0, 0x0, 0x0, 0⟩,  -- MRS_READY_LATE_CNT
  ⟨0, 0, 0x200, 16, 4, 0x0, 0x0, 0x0, 0x0, 0x0, 0⟩,  -- MRS_HIST
  ⟨0, 0, 0x240, 16, 4, 0x0, 0x0, 0x0, 0x0, 0x0, 0⟩  -- MRS_DPCD_CAP
  ]

/-- Register rows of the AUD. -/
def rowsAUDA : List RegRow := [
  ⟨0, 0, 0x100, 1, 4, 0x3, 0x0, 0x3, 0x0, 0x0, 0⟩,  -- AUD_CFG
  ⟨0, 0, 0x104, 1, 4, 0x0, 0x0, 0x0, 0x0, 0x0, 0⟩,  -- AUD_STATUS
  ⟨0, 0, 0x108, 1, 4, 0x1F4, 0x0, 0x7FF, 0x0, 0x0, 0⟩,  -- AUD_SHUF_DELAY
  ⟨0, 0, 0x10C, 1, 4, 0x0, 0x0, 0x0, 0x0, 0x0, 0⟩,  -- AUD_REFUSAL
  ⟨0, 0, 0x110, 1, 4, 0x0, 0xFFF, 0x0, 0x0, 0x0, 0⟩,  -- AUD_SEL
  ⟨0, 0, 0x114, 1, 4, 0x0, 0x0, 0x0, 0x0, 0x0, 0⟩,  -- AUD_CH_STATUS
  ⟨0, 0, 0x118, 1, 4, 0x0, 0x0, 0x0, 0x0, 0x0, 0⟩,  -- AUD_SWITCHES
  ⟨0, 0, 0x11C, 1, 4, 0x0, 0x0, 0x0, 0x0, 0x0, 0⟩,  -- AUD_FADES
  ⟨0, 0, 0x120, 1, 4, 0x0, 0x0, 0x0, 0x0, 0x0, 0⟩,  -- AUD_SINK_FILL
  ⟨0, 0, 0x124, 1, 4, 0x0, 0x0, 0x0, 0x0, 0x0, 0⟩,  -- AUD_FOLLOW_MISS_CNT
  ⟨1, 64, 0x100, 1, 4, 0x2, 0x0, 0xC0000007, 0x0, 0x0, 0⟩,  -- AUD_A_IN_CFG
  ⟨1, 64, 0x104, 1, 4, 0x0, 0xFFFFFF, 0x0, 0x0, 0x0, 0⟩,  -- AUD_A_IN_OFFSET
  ⟨1, 64, 0x108, 1, 4, 0x0, 0x0, 0x0, 0x0, 0x0, 0⟩,  -- AUD_A_IN_STATUS
  ⟨1, 64, 0x10C, 1, 4, 0x0, 0x0, 0x0, 0x0, 0x0, 0⟩,  -- AUD_A_IN_PHASE
  ⟨1, 64, 0x110, 1, 4, 0x0, 0x0, 0x0, 0xC1FF003F, 0x0, 0⟩,  -- AUD_A_OUT_CFG
  ⟨1, 64, 0x114, 1, 4, 0x0, 0x0, 0x0, 0x0, 0x0, 0⟩,  -- AUD_A_OUT_STATUS
  ⟨1, 64, 0x118, 1, 4, 0x0, 0x0, 0x0, 0x0, 0x6, 0⟩,  -- AUD_A_FIFO_WM
  ⟨1, 64, 0x11C, 1, 4, 0x0, 0x7, 0x0, 0x0, 0x0, 0⟩,  -- AUD_A_SEL
  ⟨1, 64, 0x120, 1, 4, 0x0, 0x0, 0x0, 0x0, 0x0, 0⟩,  -- AUD_A_CNT
  ⟨65, 68, 0x100, 1, 4, 0x2, 0x0, 0xF8000007, 0x0, 0x0, 0⟩,  -- AUD_W_CFG
  ⟨65, 68, 0x104, 1, 4, 0x0, 0x0, 0x0, 0x81FF003F, 0x0, 0⟩,  -- AUD_W_OUT
  ⟨65, 68, 0x108, 1, 4, 0x0, 0x0, 0x0, 0x0, 0x0, 0⟩,  -- AUD_W_STATUS
  ⟨65, 68, 0x10C, 1, 4, 0x0, 0x0, 0x0, 0x0, 0x6, 0⟩,  -- AUD_W_FIFO_WM
  ⟨65, 68, 0x110, 1, 4, 0x0, 0x7, 0x0, 0x0, 0x0, 0⟩,  -- AUD_W_SEL
  ⟨65, 68, 0x114, 1, 4, 0x0, 0x0, 0x0, 0x0, 0x0, 0⟩  -- AUD_W_CNT
  ]

/-- Register rows of the TWN. -/
def rowsTWNA : List RegRow := [
  ⟨0, 0, 0x100, 1, 4, 0x1E18, 0x0, 0xFF18, 0x0, 0x0, 0⟩,  -- TWN_CFG
  ⟨0, 0, 0x104, 1, 4, 0x0, 0x0, 0x0, 0x0, 0x0, 0⟩,  -- TWN_CTRL
  ⟨0, 0, 0x108, 1, 4, 0x0, 0x0, 0x0, 0x0, 0x0, 0⟩,  -- TWN_STATUS
  ⟨0, 0, 0x10C, 1, 4, 0x0, 0x0, 0x0, 0x0, 0x0, 0⟩,  -- TWN_ROLE
  ⟨0, 0, 0x110, 1, 4, 0x3C, 0xFFF, 0x0, 0x0, 0x0, 0⟩,  -- TWN_HOLDOFF
  ⟨0, 0, 0x114, 1, 4, 0xC0C03F3F, 0x0, 0xFFFFFFFF, 0x0, 0x0, 0⟩,  -- TWN_LANES
  ⟨0, 0, 0x118, 1, 4, 0x0, 0x0, 0x0, 0x0, 0x0, 0⟩,  -- TWN_LANE_STATUS
  ⟨0, 0, 0x11C, 1, 4, 0x0, 0x0, 0x0, 0x0, 0x0, 0⟩,  -- TWN_DELAY
  ⟨0, 0, 0x120, 1, 4, 0x0, 0x0, 0x0, 0x0, 0x0, 0⟩,  -- TWN_PARTNER
  ⟨0, 0, 0x124, 1, 4, 0x0, 0x0, 0x0, 0x0, 0x0, 0⟩,  -- TWN_SEQ
  ⟨0, 0, 0x128, 1, 4, 0x14, 0xFF, 0x0, 0x0, 0x0, 0⟩,  -- TWN_SNAP_LEAD
  ⟨0, 0, 0x12C, 1, 4, 0x0, 0x0, 0x0, 0x0, 0x6, 0⟩,  -- TWN_CTL_WM
  ⟨0, 0, 0x130, 1, 4, 0x0, 0x0, 0x0, 0x0, 0x0, 0⟩,  -- TWN_DIV_CNT
  ⟨0, 0, 0x134, 1, 4, 0x0, 0x0, 0x0, 0x0, 0x0, 0⟩,  -- TWN_DIV_EPOCHS
  ⟨0, 0, 0x138, 1, 4, 0x0, 0x0, 0x0, 0x0, 0x0, 0⟩,  -- TWN_CMP_CNT
  ⟨0, 0, 0x13C, 1, 4, 0x0, 0x0, 0x0, 0x0, 0x0, 0⟩,  -- TWN_HASH_MISS_CNT
  ⟨0, 0, 0x140, 1, 4, 0x0, 0x0, 0x0, 0x0, 0x0, 0⟩,  -- TWN_GUARD_CNT
  ⟨0, 0, 0x144, 1, 4, 0x0, 0x0, 0x0, 0x0, 0x0, 0⟩,  -- TWN_SLOT_DISCARD_CNT
  ⟨0, 0, 0x148, 1, 4, 0x0, 0x0, 0x0, 0x0, 0x0, 0⟩,  -- TWN_RESEND_CNT
  ⟨0, 0, 0x14C, 1, 4, 0x0, 0x0, 0x0, 0x0, 0x0, 0⟩,  -- TWN_DUP_CNT
  ⟨0, 0, 0x150, 1, 4, 0x0, 0x0, 0x0, 0x0, 0x0, 0⟩,  -- TWN_SPLIT_CNT
  ⟨0, 0, 0x154, 1, 4, 0x0, 0x0, 0x0, 0x0, 0x0, 0⟩,  -- TWN_FAILOVER_CNT
  ⟨0, 0, 0x158, 1, 4, 0x0, 0x0, 0x0, 0x0, 0x0, 0⟩,  -- TWN_REVERT_CNT
  ⟨0, 0, 0x15C, 1, 4, 0x0, 0x0, 0x0, 0x0, 0x0, 0⟩,  -- TWN_SNAP_MISS_CNT
  ⟨0, 0, 0x180, 8, 4, 0x0, 0x0, 0x0, 0x0, 0x0, 0⟩,  -- TWN_DIV_LOG
  ⟨1, 16, 0x100, 1, 4, 0x0, 0x0, 0x0, 0x0, 0x0, 0⟩,  -- TWN_L_STATUS
  ⟨1, 16, 0x104, 1, 4, 0x0, 0x0, 0x0, 0x0, 0x0, 0⟩,  -- TWN_L_ARRIVAL
  ⟨1, 16, 0x108, 1, 4, 0x0, 0xFFFFFFFF, 0x0, 0x0, 0x0, 0⟩,  -- TWN_L_ARRIVAL_MAX
  ⟨1, 16, 0x10C, 1, 4, 0x0, 0x0, 0x0, 0x0, 0x0, 0⟩,  -- TWN_L_SLOTS
  ⟨1, 16, 0x110, 1, 4, 0x0, 0x0, 0x0, 0x0, 0x0, 0⟩,  -- TWN_L_GUARD
  ⟨1, 16, 0x114, 1, 4, 0x0, 0x0, 0x0, 0x0, 0x0, 0⟩,  -- TWN_L_DISCARD
  ⟨17, 18, 0x100, 1, 4, 0xA0000000, 0xE0000000, 0x0, 0x0, 0x0, 0⟩,  -- TWN_CH_CFG
  ⟨17, 18, 0x104, 1, 4, 0x0, 0x80000000, 0x0, 0x0, 0x0, 1⟩,  -- TWN_CH_LOCK
  ⟨17, 18, 0x108, 1, 4, 0x0, 0x0, 0x0, 0x0, 0x0, 0⟩,  -- TWN_CH_STATUS
  ⟨17, 18, 0x10C, 1, 4, 0x0, 0x0, 0x0, 0x0, 0x0, 0⟩  -- TWN_CH_SEQ
  ]

/-- Register rows of the TWN, continued. -/
def rowsTWNB : List RegRow := [
  ⟨17, 18, 0x110, 1, 4, 0x0, 0x7, 0x0, 0x0, 0x0, 0⟩,  -- TWN_CH_SEL
  ⟨17, 18, 0x114, 1, 4, 0x0, 0x0, 0x0, 0x0, 0x0, 0⟩,  -- TWN_CH_CNT
  ⟨17, 18, 0x118, 1, 4, 0x0, 0xFFFFF000, 0x0, 0x0, 0x0, 0⟩,  -- TWN_CH_UPD_ADDR_LO
  ⟨17, 18, 0x11C, 1, 4, 0x0, 0xFF, 0x0, 0x0, 0x0, 0⟩,  -- TWN_CH_UPD_ADDR_HI
  ⟨17, 18, 0x120, 1, 4, 0x0, 0x0, 0x0, 0x0, 0x0, 0⟩,  -- TWN_CH_UPD_CMD
  ⟨17, 18, 0x124, 1, 4, 0x0, 0x0, 0x0, 0x0, 0x0, 0⟩,  -- TWN_CH_UPD_STATUS
  ⟨17, 18, 0x128, 1, 4, 0x0, 0x0, 0x0, 0x0, 0x0, 0⟩  -- TWN_CH_UPD_RESULT
  ]

/-- Register rows of a block, by block ID. -/
def regRows (b : Nat) : List RegRow :=
  match b with
  | 0 => rowsCPCA ++ rowsCPCB
  | 1 => rowsBMXA
  | 2 => rowsKSUA ++ rowsKSUB
  | 3 => rowsFCRA ++ rowsFCRB
  | 4 => rowsPTMA ++ rowsPTMB
  | 5 => rowsRTUA ++ rowsRTUB ++ rowsRTUC
  | 6 => rowsSLCA
  | 7 => rowsSFEA
  | 8 => rowsFMACA
  | 9 => rowsCXFA
  | 10 => rowsGSEA ++ rowsGSEB
  | 11 => rowsFSTA ++ rowsFSTB
  | 12 => rowsPXPA
  | 13 => rowsMRSA ++ rowsMRSB
  | 14 => rowsAUDA
  | 15 => rowsTWNA ++ rowsTWNB
  | _ => []

end Sys2Proof.Machine
end

