-- ==== Sys2Proof/Machine/RegMap.lean ====
section
/-! DEFINITION. What lies where in the register space: implemented pages, table memory, access masks, reset values, the ID and CAPS words, the fault sources' default severities and the snapshot registers of each page (R25 to R30, R45, R51, R55, R426, R427). -/

namespace Sys2Proof.Machine

/-- Offset within its page of a register-space address. -/
def offOf (a : Nat) : Nat := a % 0x10000
/-- Page base of a register-space address. -/
def pageOf (a : Nat) : Nat := a - a % 0x10000
/-- Block ID of a register-space address (R25). -/
def blockOf (a : Nat) : Nat := a / 0x1000000 % 64
/-- Page number within its block. -/
def pageNo (a : Nat) : Nat := a / 0x10000 % 256

/-- Page k lies in lo..hi. -/
def inR (lo hi k : Nat) : Bool := Nat.ble lo k && Nat.ble k hi

/-- Block b implements page k (R26 and the page lists of the chapters). -/
def pageExists (b k : Nat) : Bool :=
  match b with
  | 0 => inR 0 7 k
  | 1 => inR 0 12 k || inR 0x11 0x28 k || k == 0x30 || inR 0x40 0x43 k
  | 2 => inR 0 4 k || k == 0x10
  | 3 => inR 0 15 k || k == 0x20
  | 4 => inR 0 9 k || k == 0x10
  | 5 => inR 0 12 k || inR 0x10 0x17 k || inR 0x20 0x21 k
  | 6 => inR 0 0x81 k
  | 7 => inR 0 128 k
  | 8 => inR 0 128 k
  | 9 => inR 0 16 k || inR 0x20 0x4F k
  | 10 => inR 0 8 k || inR 0x20 0x23 k
  | 11 => inR 0 4 k || inR 0x20 0x27 k
  | 12 => inR 0 64 k || k == 0x50
  | 13 => k == 0
  | 14 => inR 0 68 k
  | 15 => inR 0 0x12 k
  | _ => false

/-- CAPS.INSTANCES of a block (Table 2.8 and the chapters). -/
def instances (b : Nat) : Nat :=
  match b with
  | 0 => 8 | 1 => 42 | 2 => 6 | 3 => 17 | 4 => 11 | 5 => 23 | 6 => 130 | 7 => 129 | 8 => 129 | 9 => 65 | 10 => 13
  | 11 => 13 | 12 => 66 | 13 => 1 | 14 => 75 | 15 => 19 | _ => 0

/-- CAPS.FAULTS of a page (R425, R426). -/
def faultCount (b k : Nat) : Nat :=
  if k = 0 then (sevDefaults b).length else if b = 3 ∧ k ≤ 15 then 16 else 0

/-- How a word of table memory is written. -/
inductive TableKind where
  | live | shadowed | ro | wb | wo
  deriving DecidableEq, Repr

/-- The table memory at offset o of page k of block b (the chapters' layouts; table memory that no rule qualifies is live, log entry 8). -/
def tableAt (b k o : Nat) : Option TableKind :=
  match b with
  | 1 =>
    if k = 0x30 then
      if inR 0x1000 0x2FFF o then some .live else if inR 0x3000 0x303F o then some .ro
      else if inR 0x4000 0x5FFF o then some .live else if inR 0x6000 0x603F o then some .live
      else if inR 0x6040 0x6043 o then some .wo else none
    else if k = 0x40 ∨ k = 0x41 then (if inR 0x1000 0x13FF o then some .wb else none)
    else if k = 0x42 then (if inR 0x1000 0x11FF o then some .wb else none)
    else none
  | 2 =>
    if inR 1 4 k && inR 0x1000 0x4FFF o then some .live
    else if k = 0x10 ∧ inR 0x1000 0x10FF o then some .ro else none
  | 3 => if k = 0x20 ∧ inR 0x1000 0x13DF o then some .live else none
  | 4 => if k = 0x10 ∧ inR 0x1000 0x43FF o then some .live else none
  | 5 => if k = 0x21 ∧ (inR 0x1000 0x103F o || inR 0x1100 0x14EB o) then some .live else none
  | 6 => if k = 0x81 ∧ inR 0x1000 0x1FFF o then some .live else none
  | 7 => if inR 1 128 k && inR 0x1000 0x13FF o then some .live else none
  | 8 =>
    if inR 1 128 k then
      if inR 0x1000 0x14FF o || inR 0x1500 0x151F o || inR 0x1600 0x163F o || inR 0x2000 0x5FFF o then some .shadowed
      else if inR 0x7000 0x74FF o then some .live else none
    else none
  | 9 => if inR 0x20 0x4F k && inR 0x1000 0x6FFF o then some .shadowed else none
  | 10 =>
    if inR 1 8 k && inR 0x4000 0x7FFF o then some .live
    else if inR 0x20 0x23 k && inR 0x1000 0x4FFF o then some .ro else none
  | 11 => if inR 0x20 0x27 k && inR 0x1000 0x6FFF o then some .shadowed else none
  | 12 =>
    if inR 1 64 k && inR 0x1000 0x13FF o then some .shadowed
    else if k = 0x50 ∧ inR 0x1000 0x13FF o then some .live else none
  | 14 =>
    if inR 0x20 0x22 k && inR 0x1000 0x6FFF o then some .shadowed
    else if k = 0x23 ∧ (inR 0x1000 0x1FFF o || inR 0x2000 0x2FFF o) then some .shadowed
    else if k = 0x24 ∧ inR 0x1000 0x17FF o then some .shadowed
    else if k = 0x25 ∧ inR 0x1000 0x1FFF o then some .ro else none
  | _ => none

/-- The register row that offset o of page k of block b belongs to. -/
def rowAt (b k o : Nat) : Option RegRow :=
  (regRows b).find? (fun r => Nat.ble r.pgLo k && Nat.ble k r.pgHi && Nat.ble r.off o && (o - r.off) % r.stride == 0 &&
    Nat.blt ((o - r.off) / r.stride) r.n)

/-- How the word at offset o (0x100 to 0x7FFF) of page k of block b is written: its masks and its lock group plus 1; none where it is reserved. -/
def masksAt (b k o : Nat) : Option RegRow :=
  match rowAt b k o with
  | some r => some r
  | none =>
    match tableAt b k o with
    | some .live => some ⟨k, k, o, 1, 4, 0, (if b = 3 then 0x07070707 else 0xFFFFFFFF), 0, 0, 0, if b = 3 then 1 else 0⟩
    | some .shadowed => some ⟨k, k, o, 1, 4, 0, 0, 0, 0xFFFFFFFF, 0, 0⟩
    | some _ => some ⟨k, k, o, 1, 4, 0, 0, 0, 0, 0, 0⟩
    | none => none

/-- The location has a shadow copy at its offset plus 0x8000 (R28, R45). -/
def shadowedAt (b k o : Nat) : Bool := match masksAt b k o with | some r => r.rws != 0 | none => false

/-- Default QoS of the bus masters, master 0 first (Table 15.3). -/
def qosDefaults : List Nat := [12, 8, 8, 8, 8, 6, 10, 15, 9, 5, 5, 3]

/-- Default severity of source n of page k of block b (Tables 18.2, 18.9 and the chapters). -/
def sevDefault (b k n : Nat) : Nat := nthD (if k = 0 then sevDefaults b else sevElement) n 0

/-- Reset severity word at offset o of FCR page 0x20: four entries of one byte (R427). -/
def sevResetWord (o : Nat) : Nat :=
  let q := (o - 0x1000) / 32
  let n := (o - 0x1000) % 32
  let e := fun i => if q < 16 then nthD (sevDefaults q) (n + i) 0 else nthD sevElement (n + i) 0
  e 0 + 0x100 * e 1 + 0x10000 * e 2 + 0x1000000 * e 3

/-- Reset values that differ from page to page or that the tables give as 'per device' (the latter: log entry 9). -/
def pageReset (b k o : Nat) : Option Nat :=
  match b with
  | 1 =>
    if inR 1 12 k && o == 0x100 then some (nthD qosDefaults (k - 1) 0 * 0x1000000 + 0x000A8000)
    else if k = 0x30 ∧ inR 0x1000 0x2FFF o ∧ o % 16 = 12 then some 1
    else if k = 0x30 ∧ inR 0x4000 0x5FFF o then some ((0x8000 + (o - 0x4000) / 512) * 0x10001)
    else if k = 0x40 ∧ o = 0x1000 then some 0x11211111
    else if (k = 0x40 ∨ k = 0x41) ∧ inR 0x1000 0x13FF o then some 0x11111111
    else none
  | 3 =>
    if inR 1 15 k && o == 0x100 then
      some ((if k ≤ 2 then 0 else if k ≤ 10 then 1 else if k ≤ 14 then 2 else 3) * 0x10000000)
    else if k = 0x20 then some (sevResetWord o) else none
  | 4 =>
    if inR 1 8 k then
      if o = 0x100 then some (nthD [0, 0, 1, 0, 1, 1, 0, 0] (k - 1) 0 * 0x40000000)
      else if o = 0x104 then some (nthD [800, 900, 900, 1200, 1200, 1100, 1800, 1800] (k - 1) 0) else none
    else none
  | 10 => if inR 1 8 k && o == 0x114 then some ((k - 1) * 1024) else none
  | _ => none

/-- Reset value of the register at offset o of page k of block b; the bin edges of the TIC start at their nominal 4 ps (R329, log entry 38). -/
def regReset (b k o : Nat) : Nat :=
  if b = 5 ∧ k = 0x21 ∧ inR 0x1100 0x14E8 o then (o - 0x1100) / 4 * 64
  else match pageReset b k o with
  | some v => v
  | none => match rowAt b k o with | some r => r.reset | none => 0

/-- Reset STATE.CUR of a block's page 0 (Table 2.9). -/
def stateReset (b : Nat) : Nat := if b = 2 ∨ b = 5 then 3 else if b < 6 then 4 else 0

/-- What an address of the register space reads as when nothing has changed it: its reset value (R45: a shadow copy starts equal to the active one). -/
def resetVal (a : Nat) : W :=
  if 2 ^ 32 ≤ a then 0#32
  else
    let b := blockOf a
    let k := pageNo a
    let o := offOf a
    if o < 0x100 then (if o = 0x0C ∧ k = 0 then w32 (stateReset b) else 0#32)
    else if 0xF000 ≤ o then 0#32
    else if 0x8000 ≤ o then w32 (regReset b k (o - 0x8000))
    else w32 (regReset b k o)

/-- What a byte of memory that nothing has written reads as: the erased state of a NOR flash in the QSPI window, 0 elsewhere (log entry 6). -/
def memDefault (a : Nat) : Byte := if 0x20000000 ≤ a ∧ a < 0x30000000 then 0xFF#8 else 0#8

/-- ID.DIE of a page (Table 2.6 and the chapters): 0 west, 1 east, 2 both. -/
def dieOf (b k : Nat) : Nat :=
  match b with
  | 3 => if k = 1 ∨ inR 3 6 k then 0 else if k = 2 ∨ inR 7 10 k then 1 else if inR 11 15 k then 2 else 0
  | 6 => if inR 1 64 k then 0 else if inR 65 128 k then 1 else 2
  | 7 => if inR 1 64 k then 0 else if inR 65 128 k then 1 else 2
  | 8 => if inR 1 64 k then 0 else if inR 65 128 k then 1 else 2
  | 9 => 2
  | 10 => 1
  | 11 => if inR 1 2 k then 0 else if inR 3 4 k then 1 else 2
  | 12 => if inR 1 32 k then 0 else if inR 33 64 k then 1 else 2
  | 13 => 1
  | 14 => 1
  | 15 => if k = 0 ∨ inR 9 16 k then 1 else 0
  | _ => 0

/-- ID.PAGE_TYPE of a page (R26). -/
def pageType (b k : Nat) : Nat :=
  if k = 0 then 0 else if (regRows b).any (fun r => Nat.ble r.pgLo k && Nat.ble k r.pgHi) then 1 else 2

/-- The ID word of a page (Table 2.6). -/
def idWord (b k : Nat) : Nat := b * 0x1000000 + k * 0x10000 + pageType b k * 0x1000 + dieOf b k * 0x100

/-- Registers that a page's snapshot mirror copies from offset 0xF100 on, as offsets of the same page (R55 and the chapters). -/
def snapOffsets (b k : Nat) : List Nat :=
  match b with
  | 0 => if k = 0 then [0x104, 0x12C] else []
  | 1 => if k = 0 then [0x104, 0x10C] else []
  | 2 => if k = 0 then [0x104, 0x130] else []
  | 3 => if k = 0 then [0x104, 0x11C] else []
  | 4 => if k = 0 then [offOf Reg.PTM_VCORE, offOf Reg.PTM_SLACK_NOW, offOf Reg.PTM_THERM_STATUS] else []
  | 5 => if k = 0 then [offOf Reg.RTU_DPLL_STATUS, offOf Reg.RTU_SEL_STATUS, offOf Reg.RTU_PHASE_ERR, offOf Reg.RTU_FREQ_OUT] else []
  | 6 => if inR 1 128 k then [offOf (Reg.SLC_Q_STATUS 0), offOf (Reg.SLC_LANE_WAKE_MODE 0)] else []
  | 7 => if k = 0 then [offOf Reg.SFE_STATUS, offOf Reg.SFE_RX_LINES] else []
  | 8 => if inR 1 128 k then [offOf (Reg.FMAC_M_STATUS 0), offOf (Reg.FMAC_M_TX_LOAD 0)] else []
  | 11 => if k = 0 then [offOf Reg.FST_STATUS, offOf Reg.FST_POOL_INUSE] else []
  | 12 => if k = 0 then [offOf Reg.PXP_STATUS, offOf Reg.PXP_ENG_WAIT_LO] else if inR 1 64 k then [offOf (Reg.PXP_E_STATUS 0)] else []
  | 13 => [offOf Reg.MRS_STATUS, offOf Reg.MRS_LB_LEVEL]
  | 14 => if k = 0 then [offOf Reg.AUD_STATUS, offOf Reg.AUD_SWITCHES] else []
  | 15 => if k = 0 then [offOf Reg.TWN_STATUS, offOf Reg.TWN_ROLE] else []
  | _ => []

/-- A page has block-specific snapshot registers (CAPS.SNAPSHOT). -/
def hasSnapshot (b k : Nat) : Bool := (b == 9 && Nat.ble k 16) || !(snapOffsets b k).isEmpty

/-- Rows that lie on a page. -/
def rowsOnPage (b k : Nat) : List RegRow := (regRows b).filter (fun r => Nat.ble r.pgLo k && Nat.ble k r.pgHi)

/-- The row is a watermark status register (Table 2.24). -/
def isWatermark (r : RegRow) : Bool := r.w1c == 6 && r.rw == 0 && r.rwi == 0 && r.rws == 0

/-- A page holds shadowed table memory. -/
def shadowedTable (b k : Nat) : Bool :=
  tableAt b k 0x1000 == some .shadowed || tableAt b k 0x2000 == some .shadowed

/-- The CAPS word of a page (Table 2.8). -/
def capsWord (b k : Nat) : Nat :=
  let rs := rowsOnPage b k
  instances b * 0x1000000 + faultCount b k * 0x10000 + ((rs.filter isWatermark).map (·.n)).sum * 0x100 +
    b2n (rs.any (fun r => r.rws != 0) || shadowedTable b k) * 0x80 +
    b2n (rs.any (fun r => r.lock != 0) || (b == 3 && k == 0x20)) * 0x40 + b2n (hasSnapshot b k) * 0x20

/-- One family of _LO/_HI pairs: block, pages, offsets of the halves, how many and how far apart. -/
structure PairRow where
  blk : Nat
  pgLo : Nat
  pgHi : Nat
  lo : Nat
  hi : Nat
  n : Nat
  stride : Nat
  deriving DecidableEq, Repr

/-- The register pairs of the device (R29). -/
def pairRows : List PairRow := [
  ⟨0, 1, 4, 0x108, 0x10C, 1, 4⟩,
  ⟨0, 1, 4, 0x110, 0x114, 1, 4⟩,
  ⟨0, 1, 4, 0x120, 0x124, 1, 4⟩,
  ⟨0, 5, 5, 0x104, 0x108, 1, 4⟩,
  ⟨0, 5, 5, 0x114, 0x118, 1, 4⟩,
  ⟨0, 7, 7, 0x100, 0x104, 1, 4⟩,
  ⟨0, 7, 7, 0x110, 0x114, 5, 8⟩,
  ⟨1, 0, 0, 0x110, 0x114, 1, 4⟩,
  ⟨2, 0, 0, 0x110, 0x114, 1, 4⟩,
  ⟨2, 0, 0, 0x130, 0x134, 1, 4⟩,
  ⟨2, 0, 0, 0x138, 0x13C, 1, 4⟩,
  ⟨2, 1, 4, 0x144, 0x148, 1, 4⟩,
  ⟨3, 0, 0, 0x110, 0x114, 1, 4⟩,
  ⟨3, 0, 0, 0x15C, 0x160, 1, 4⟩,
  ⟨3, 0, 0, 0x164, 0x168, 1, 4⟩,
  ⟨3, 1, 15, 0x108, 0x10C, 1, 4⟩,
  ⟨4, 0, 0, 0x10C, 0x110, 1, 4⟩,
  ⟨4, 0, 0, 0x114, 0x118, 1, 4⟩,
  ⟨5, 0, 0, 0x13C, 0x138, 1, 4⟩,
  ⟨5, 0, 0, 0x14C, 0x148, 1, 4⟩,
  ⟨5, 0, 0, 0x170, 0x174, 1, 4⟩,
  ⟨5, 0, 0, 0x188, 0x18C, 1, 4⟩,
  ⟨5, 0, 0, 0x194, 0x198, 1, 4⟩,
  ⟨5, 16, 23, 0x114, 0x118, 1, 4⟩,
  ⟨5, 32, 32, 0x108, 0x10C, 1, 4⟩,
  ⟨5, 32, 32, 0x110, 0x114, 1, 4⟩,
  ⟨9, 0, 0, 0x118, 0x11C, 1, 4⟩,
  ⟨10, 0, 0, 0x108, 0x10C, 1, 4⟩,
  ⟨10, 0, 0, 0x138, 0x13C, 1, 4⟩,
  ⟨10, 1, 8, 0x104, 0x108, 1, 4⟩,
  ⟨11, 0, 0, 0x138, 0x13C, 1, 4⟩,
  ⟨12, 0, 0, 0x114, 0x118, 1, 4⟩,
  ⟨12, 0, 0, 0x11C, 0x120, 1, 4⟩,
  ⟨15, 17, 18, 0x118, 0x11C, 1, 4⟩]

/-- The pair whose _LO half (or _HI half, when hi is set) lies at an address. -/
def pairRowAt (a : Nat) (hi : Bool) : Option PairRow :=
  pairRows.find? (fun r =>
    let o := if hi then r.hi else r.lo
    blockOf a == r.blk && inR r.pgLo r.pgHi (pageNo a) && Nat.ble o (offOf a) && (offOf a - o) % r.stride == 0 &&
      Nat.blt ((offOf a - o) / r.stride) r.n)

/-- Address of the _HI half of the pair whose _LO half lies at an address; the header's SNAP_TIME pair among them. -/
def hiOf (a : Nat) : Option Nat :=
  if offOf a = 0x38 then some (a + 4) else (pairRowAt a false).map (fun r => a + r.hi - r.lo)

/-- Address of the _LO half of the pair whose _HI half lies at an address. -/
def loOf (a : Nat) : Option Nat :=
  if offOf a = 0x3C then some (a - 4) else (pairRowAt a true).map (fun r => a + r.lo - r.hi)

end Sys2Proof.Machine
end

