-- ==== Sys2Proof/Machine/State.lean ====
section
/-! DEFINITION. The state of the device as plain data: the register space and the memories as canonical sparse lists, the timescale, the engines, queues and pools each chapter of the spec gives a block, the pins, and the queue of waiting commands. -/

namespace Sys2Proof.Machine

/-! ### Accesses and the bus matrix (chapters 2 and 15) -/

/-- The response of an access (Table 2.5), and none for a word of the management SPI that was never answered. -/
inductive Resp where
  | okay | locked | state | absent | decode | secure | retry
  deriving DecidableEq, Repr

/-- The answer to the last access (Table 2.5): the response, the reason of a RETRY, the LATE and POISON flags and the data read. -/
structure Answer where
  resp : Resp := .okay
  reason : Nat := 0
  late : Bool := false
  poison : Bool := false
  data : Nat := 0
  deriving DecidableEq, Repr

/-- A transaction in the bus matrix (R374 to R381): its target, master, mode, kind, address, length and data, the instant it entered its queue, what it waited longest so far, the bytes of a split burst after its present sub-burst, whether its response is discarded on arrival because its core restarted (R371), and the bytes that have passed. The data of a read are what it has gathered. -/
structure Txn where
  target : Nat
  who : Requester
  kind : TxnKind
  addr : Nat
  len : Nat
  data : Nat
  entered : Nat
  late : Bool
  restLen : Nat
  orphan : Bool := false
  /-- Bytes of the burst that have passed. -/
  done : Nat := 0
  deriving DecidableEq, Repr

/-- The bus matrix beyond its registers: queued transactions, oldest first; bursts whose next sub-burst has not entered; refused accesses that a core repeats, with the repeats made (R379); reservations as hart and 64-byte granule (R383). -/
structure BusState where
  queue : List Txn := []
  between : List Txn := []
  retrying : List (Nat × Txn × Nat) := []
  resv : List (Nat × Nat) := []
  deriving DecidableEq, Repr

/-- The control processors beyond their registers: latched and claimed interrupt sources (R369), timer interrupts asserted (R368), the restart address each hart last took (R371), delivered NMIs, the scrub address and the instant of the last watchdog kick. -/
structure CtlState where
  plicPend : Nat := 0
  plicClaimed : Nat := 0
  mtip : List Bool := [false, false, false, false, false]
  hartPc : List Nat := [0, 0, 0, 0]
  nmis : List Nat := [0, 0, 0, 0]
  scrubAddr : Nat := 0
  wdtStart : Nat := 0
  /-- The instant of the last power-on reset, on the timescale as it stands. -/
  porAt : Nat := 0
  deriving DecidableEq, Repr

/-- An escalated record (R430, R432): its SEQ, the pages it sent to FAULT and whether it has been acknowledged. -/
structure Escalation where
  seq : Nat
  pages : List Nat
  acked : Bool
  deriving DecidableEq, Repr

/-- The engine of the FCR beyond its registers (R428 to R439). -/
structure FcrState where
  /-- A record is open; its words stand in FCR_OPEN_REC. -/
  isOpen : Bool := false
  /-- Time of creation of the open record in ns. -/
  created : Nat := 0
  /-- Window end of the open record in ns, none while no Major or Critical raise is in it. -/
  winEnd : Option Nat := none
  /-- The open record has triggered its cut (R437: at most one). -/
  cutTaken : Bool := false
  /-- Highest severity among the raises of the open record that may escalate (R428). -/
  escSev : Nat := 0
  /-- ISO_BLOCKS of the raises that may escalate. -/
  escIso : Nat := 0
  /-- State pages of instances that hold a source of the open record (R432). -/
  recPages : List Nat := []
  /-- The next record number. -/
  nextSeq : Nat := 0
  /-- Records were dropped since the last one written (OVERFLOW). -/
  overflow : Bool := false
  /-- Escalated records, newest first. -/
  escalations : List Escalation := []
  /-- Time at which a device warm reset is due (R433). -/
  resetDue : Option Nat := none
  /-- The FCR is out of RUN in a device warm reset (R434). -/
  inReset : Bool := false
  /-- Sources raised while the FCR was out of RUN, with their FORCED mark (R434). -/
  lateRaises : List (Nat × Bool) := []
  /-- The millisecond of the storm count and the records closed in it (R431). -/
  stormMs : Nat := 0
  stormCount : Nat := 0
  /-- Base and size of the ring in force, taken when EN went to 1 (R431). -/
  ringBase : Nat := 0
  ringLog2 : Nat := 10
  /-- Instant of the last accepted trigger in ns (R438). -/
  lastTrigger : Option Nat := none
  /-- Sequence and time of the cut whose token is travelling, and the blocks that have latched it (R439). -/
  cut : Option (Nat × Nat) := none
  latched : List Nat := []
  /-- The time match of FCR_SNAP_TIME and the comparator of R358 are armed. -/
  timeArmed : Bool := false
  time2Armed : Bool := false
  /-- SEQ of the record whose trigger waits for the comparator (R358). -/
  deferred : Option Nat := none
  deriving DecidableEq, Repr

/-! ### Boot, fuses and keys (chapter 16) -/

/-- The fuse array (R386): lifecycle, DEVICE_UID, security version, key hashes with revoke bits and the root secret. -/
structure Fuses where
  lc : Nat := 0
  uid : Nat := 0
  svn : Nat := 0
  hash0 : Option Nat := none
  hash1 : Option Nat := none
  revoked0 : Bool := false
  revoked1 : Bool := false
  root : Option Nat := none
  deriving DecidableEq, Repr

/-- A command being programmed into the fuses (R387). -/
inductive FuseOp where
  | advance | svnInc | revoke0 | revoke1
  deriving DecidableEq, Repr

/-- An operation a context of the engine waits for or runs (R401): context 0 to 3, OP and PHASE. -/
structure EngineOp where
  ctx : Nat
  op : Nat
  phase : Nat
  deriving DecidableEq, Repr

/-- The Key Store Unit beyond its registers: the key bytes of the slots with their tags, the tag key, the staged key, waiting operations oldest first, the open multi-part hashes, TRNG health, fuses as in force and as programmed, and the programming in progress. -/
structure KeyState where
  keys : List (Nat × List Byte) := []
  tags : List (Nat × Nat) := []
  tagKey : Nat := 0
  masks : Bool := false
  waiting : List EngineOp := []
  current : Option EngineOp := none
  lastCtx : Nat := 3
  hashes : List (Nat × List Byte) := []
  trngOk : Bool := true
  fuses : Fuses := {}
  programmed : Fuses := {}
  programming : Option FuseOp := none
  /-- A bank fallback waits for the FCR to run (R391). -/
  fallback : Bool := false
  /-- The boot core is halted at code 0xEE (Table 16.3). -/
  halted : Bool := false
  /-- The ROM has run since the last cold reset. -/
  booted : Bool := false
  deriving DecidableEq, Repr

/-! ### The board (chapter 19) -/

/-- Pins, straps and the interfaces of the board: straps, reset holds, the PCI Express link, the management SPI's stored response, JTAG, the flash size and whether the flash is programming or erasing. -/
structure BoardState where
  twinId : Bool := false
  pcieDis : Bool := false
  /-- Held in reset: by POR_N or COLD_RST_N, and by a boundary-scan instruction. -/
  resetHeld : Bool := false
  jtagHeld : Bool := false
  debugOpen : Bool := false
  pcieUp : Bool := false
  /-- Link width and rate in use, in lanes and MT/s. -/
  pcieWidth : Nat := 0
  pcieRate : Nat := 0
  /-- The FAULT_N pin is pulled low from outside. -/
  faultLow : Bool := false
  /-- SNAP_IN, DP_HPD and the time DP_HPD last changed are rim inputs. -/
  hpd : Bool := false
  /-- Management SPI: SEQ last applied, the stored response, and the flags of the last word (R449 to R451). -/
  mspiSeq : Option Nat := none
  mspiResp : Nat := 8
  mspiData : Nat := 0
  mspiLate : Bool := false
  mspiDup : Bool := false
  mspiSurplus : Bool := false
  mspiDiscarded : Bool := false
  /-- The 96 bits the device returns during the next word (Table 19.4). -/
  mspiMiso : Nat := 0
  /-- Bytes of the boot flash (R452). -/
  flashSize : Nat := 0x4000000
  flashBusy : Bool := false
  /-- VOUT_MODE of the regulator of VDD_CORE (R150), an answer of the board. -/
  voutMode : Nat := 0x14
  deriving DecidableEq, Repr


/-! ### Fabric and Geyser (chapters 3 and 4) -/

/-- One OUTPUTS entry of an image (Table 4.5). -/
structure OutputDef where
  id : Nat
  format : Nat
  boundary : Nat
  flags : Nat
  link : Nat
  latency : Nat
  deriving DecidableEq, Repr

/-- One POOLS entry of an image (Table 4.6). -/
structure PoolDef where
  essence : Nat
  dir : Nat
  die : Nat
  slots : Nat
  slotTokens : Nat
  deriving DecidableEq, Repr

/-- What the device keeps of a timeline image: its identity, its profile and the sections that no register page holds. -/
structure ImageDef where
  id : Nat
  hcrc : Nat
  profile : Nat
  outputs : List OutputDef
  allow : List (Nat × Nat)
  pools : List PoolDef
  deriving DecidableEq, Repr

/-- A cell in an ingress buffer (R65, R81): its assigned epoch, its die and producer block, and whether it is complete. -/
structure InCell where
  cell : LineCell
  epoch : Nat
  die : Nat
  producer : Nat
  complete : Bool
  deriving DecidableEq, Repr

/-- What stands in an egress buffer for one cell index of an output (R82, R84): the cell, or a fill of a kind (0 parked, 1 SRC_ABSENT, 2 INPUT_LOST, 3 MISFIT), for one release epoch. -/
structure OutCell where
  dst : Nat
  src : Nat
  release : Nat
  idx : Nat
  cell : Option LineCell
  fill : Nat
  late : Bool
  deriving DecidableEq, Repr

/-- State of a plane's machine (Table 3.12). -/
inductive PlanePhase where
  | done | carry | list
  deriving DecidableEq, Repr

/-- A plane (R80): its phase, list position, executed tokens, probes and the carried descriptors with the epoch whose list held them. -/
structure Plane where
  phase : PlanePhase := .done
  pos : Nat := 0
  tokens : Nat := 0
  probes : Nat := 0
  carry : List (Nat × Nat) := []
  deriving DecidableEq, Repr

/-- The crosspoint fabric beyond its registers. -/
structure FabricState where
  planes : List Plane := List.replicate 16 {}
  ingress : List InCell := []
  egress : List OutCell := []
  /-- The active image, none before the first. -/
  image : Option ImageDef := none
  /-- Cell index numbers already released for an output in the present epoch: output and release index. -/
  released : List (Nat × Nat) := []
  /-- Outputs owed a TAKE mark: output and the epoch from whose runs the mark is due (R110). -/
  takeMarks : List (Nat × Nat) := []
  /-- Ancillary groups lost to a full pool or to the assembly deadline: essence, epoch and nominal time (R65, R83, R476). -/
  lost : List (Nat × Nat × Nat) := []
  /-- Cells handed to the output blocks, oldest first, with the epoch of their release. -/
  delivered : List (Nat × LineCell) := []
  deriving DecidableEq, Repr

/-- One member of a take or salvo (R105 to R123): source and destination, STATE code of Table 4.10, REASON, flip epoch F, whether its SRC stands in the armed shadow, and its run-ahead (0 none, 1 reading, 2 staged; R118). -/
structure Member where
  src : Nat
  dst : Nat
  state : Nat
  reason : Nat := 0
  flip : Nat
  written : Bool := false
  prefetch : Nat := 0
  deriving DecidableEq, Repr

/-- A take or salvo (R105 to R123): tag, stamp S, requested time T, SALVO, LOCAL, MOVED and a refused cancel, the instant it went to the twin while the reply is out, whether a forwarded cancel awaits its reply, and its members. -/
structure Take where
  tag : Nat
  stamp : Nat
  time : Nat
  isSalvo : Bool
  isLocal : Bool := false
  moved : Bool := false
  lateCancel : Bool := false
  sentAt : Option Nat := none
  cancelOut : Bool := false
  members : List Member
  deriving DecidableEq, Repr

/-- An image load (R98 to R103): address, IMAGE_LEN and instant of the command; target flip epoch, none until NEXT has chosen; NEXT; the new profile of a profile change (R128) and whether the change is forced (R143); stage (0 copying, 1 waiting for earlier takes, 2 armed, 3 committed); the image's definitions and plane lists; shadow words before the load and the pages written; and whether the twin's image of the same boundary matched (R104). -/
structure ImageLoad where
  addr : Nat
  len : Nat
  started : Nat
  target : Option Nat
  next : Bool := false
  newProfile : Option Nat := none
  forced : Bool := false
  stage : Nat := 0
  image : Option ImageDef := none
  lists : List (Nat × List Nat) := []
  saved : List (Nat × W) := []
  pages : List Nat := []
  matched : Option Bool := none
  deriving DecidableEq, Repr

/-- What holds the CXF flip group: nobody, takes, or an image (R77, R110). -/
inductive GroupUse where
  | free | takes | image
  deriving DecidableEq, Repr

/-- The switch engine beyond its registers: takes held by tag, oldest first; the image load; use of the CXF flip group, its target epoch and whether it is committed; serial numbers of the eight ports; the image armed by the twin as IMAGE_ID, HDR_CRC and target epoch (R104); and the members received so far of a salvo that comes in several records, as tag and member (R350). -/
structure GeyserState where
  takes : List Take := []
  load : Option ImageLoad := none
  group : GroupUse := .free
  groupEpoch : Nat := 0
  groupCommitted : Bool := false
  serials : List Nat := [0, 0, 0, 0, 0, 0, 0, 0]
  twinImage : Option (Nat × Nat × Nat) := none
  parts : List (Nat × Nat × Nat) := []
  deriving DecidableEq, Repr

/-! ### Serial lanes (chapter 6) -/

/-- A received line in a lane's FIFO (R169): its stream, SEQ, words, blocks, whether PCRC failed, and the FILL and ERR marks of its BURST block. -/
structure RxLine where
  stream : Nat
  seq : Nat
  words : Nat
  blocks : Nat
  err : Bool
  fill : Bool
  senderErr : Bool
  deriving DecidableEq, Repr

/-- A line that the SFE has built for a transmit stream: its words, the FILL and ERR marks (R163, R188), and the bit of the stream, counted from the PTP epoch, that its first word holds (R216). -/
structure TxLine where
  stream : Nat
  words : List Nat
  fill : Bool
  err : Bool
  pos : Nat := 0
  deriving DecidableEq, Repr

/-- A serial lane beyond its registers: boundary position and consecutive valid headers (R170), block numbers of recent invalid headers, a lock lost less than 100 µs ago, the last delivered SEQ of each stream, the last MCOUNT received and the next to send (R165), lines sent by stream as epoch and count (R168), lines waiting for the line's departure, the receive FIFO, the equaliser (R175, R176), the adaptation's latest eye, and whether the last acquisition had a seed. -/
structure Lane where
  pos : Nat := 0
  good : Nat := 0
  bad : List Nat := []
  recovering : Bool := false
  lastSeq : List (Nat × Nat) := []
  mcount : Option Nat := none
  txMcount : Nat := 0
  sent : List (Nat × Nat × Nat) := []
  txq : List TxLine := []
  fifo : List RxLine := []
  ctle : Nat := 8
  vga : Nat := 32
  dfe : List Int := [0, 0, 0]
  eyeW : Nat := 0
  eyeH : Nat := 0
  seeded : Bool := false
  deriving DecidableEq, Repr

/-! ### The SDI framing engine (chapter 7) -/

/-- A receive context at work (Table 7.3): state 0 OFF, 1 SEARCH, 2 LOCKED, 3 MISMATCH; refused under R181; matching and other frames in a row; bursts, misplaced bursts and bursts of another structure in the present frame; the line and time of the last burst; PHASE and PHASE_OUT; the last ST 352 value; groups that a control packet marks asynchronous. -/
structure RxCtx where
  st : Nat := 0
  refused : Bool := false
  good : Nat := 0
  other : Nat := 0
  lines : Nat := 0
  bad : Nat := 0
  others : Nat := 0
  last : Option (Nat × Nat) := none
  phase : Int := 0
  phaseOut : Bool := false
  pid : Nat := 0
  asyncGroups : List Nat := []
  deriving DecidableEq, Repr

/-- A transmit context at work: enabled, refused under R181, last line with FILL, the ST 352 value inserted, ancillary packets waiting for their place, the SEQ of the last ancillary cell taken, packets of a new source's low lines barred (R194), the bursts of the frame being sent and of the last complete one by interface line, and whether that one is repeated while microcode loads (R421). -/
structure TxCtx where
  on : Bool := false
  refused : Bool := false
  fill : Bool := false
  pid : Nat := 0
  anc : List AncPkt := []
  ancSeq : Option Nat := none
  takeLow : Bool := false
  frame : List (Nat × TxLine) := []
  last : List (Nat × TxLine) := []
  holding : Bool := false
  deriving DecidableEq, Repr

/-- An audio block being built at the rim (R70): essence, format, block number, die, whether its cells go to a synchroniser, the words by place, and an error mark. -/
structure AudPart where
  essence : Nat
  format : Nat
  block : Nat
  die : Nat
  async : Bool
  words : List (Nat × Nat)
  err : Bool
  deriving DecidableEq, Repr

/-- One half of a picture line of a quad link (R179): essence, line number, side, samples, error mark. -/
structure HalfLine where
  essence : Nat
  line : Nat
  side : Nat
  samples : List Nat
  err : Bool
  deriving DecidableEq, Repr

/-- The framing engine beyond its registers: contexts at work by quad and index, audio blocks being built, and halves of picture lines. -/
structure SdiState where
  rx : List (Nat × RxCtx) := []
  tx : List (Nat × TxCtx) := []
  audio : List AudPart := []
  halves : List HalfLine := []
  deriving DecidableEq, Repr

/-! ### The MACs (chapter 8) -/

/-- A receive flow at work (R210 to R213), kept on the lower index of a merge: the highest sequence number accounted for, those received with the epoch of their cell, the first epoch whose cells are still open, and for ST 2022-6 the bits and the error mark of the burst being filled. -/
structure RxFlow where
  base : Option Nat := none
  got : List (Nat × Nat) := []
  opened : Nat := 0
  six : Nat := 0
  sixErr : Bool := false
  sixSeq : Nat := 0
  deriving DecidableEq, Repr

/-- A video cell that a -20 flow is filling: the flow (MAC * 256 + index), whether it goes to a synchroniser, the cell with black where nothing has come, and the byte ranges received as start and end. -/
structure RowCell where
  flow : Nat
  async : Bool
  cell : LineCell
  ranges : List (Nat × Nat)
  deriving DecidableEq, Repr

/-- A transmit flow at work: the SEQ of the last ancillary cell taken and the ancillary packets waiting (R215). -/
structure TxFlow where
  ancSeq : Option Nat := none
  anc : List AncPkt := []
  deriving DecidableEq, Repr

/-- The MACs beyond their registers: flows at work by MAC * 256 + index, the instant of the last packet of each leg, video cells being filled, and transmit flows. -/
structure MacState where
  flows : List (Nat × RxFlow) := []
  legs : List (Nat × Nat) := []
  lines : List RowCell := []
  tx : List (Nat × TxFlow) := []
  deriving DecidableEq, Repr

/-! ### The frame store (chapter 9) -/

/-- A source frame of a SYNC slot (R232, R233): its running number, input stamp, whether its last cell is stored, its video cells and the companion cells of its span. -/
structure SrcFrame where
  num : Nat
  stamp : Nat
  done : Bool
  cells : List LineCell
  extra : List LineCell
  deriving DecidableEq, Repr

/-- What a SYNC slot reads out for output frame k: the chosen source frame and whether it repeats or follows a skip (R232). -/
structure OutFrame where
  k : Nat
  num : Option Nat
  rep : Bool
  skip : Bool
  deriving DecidableEq, Repr

/-- A running slot (R229 to R237): the entry it runs under, source frames newest first (SYNC), stored cells of leg A and leg B (DELAY, MERGE), the last chosen frame, decisions taken at the start of e_k - 1 as frame k, own choice and whether the twin's is awaited, what each output frame reads, frame numbers being written and read, the flags of Table 9.5 and the next source frame number. -/
structure SlotRun where
  entry : Nat
  frames : List SrcFrame := []
  cells : List LineCell := []
  legB : List LineCell := []
  chosen : Option Nat := none
  dec : List (Nat × Option Nat × Bool) := []
  outs : List OutFrame := []
  wrFrame : Nat := 0
  rdFrame : Nat := 0
  following : Bool := false
  lastRep : Bool := false
  lastSkip : Bool := false
  next : Nat := 0
  deriving DecidableEq, Repr

/-- A fabric-facing read in progress (R239): its slot, stack, window offset, the cell it brings, its transactions of 256 bytes and whether the pool has admitted it. -/
structure FstRead where
  slot : Nat
  stack : Nat
  addr : Nat
  cell : LineCell
  epoch : Nat
  txns : Nat
  issued : Bool
  deriving DecidableEq, Repr

/-- The frame store beyond its registers: transactions in flight of each pool class (R238), the zero fill of R228 in progress, running slots, reads in progress, decisions received from the twin as slot, k and stamp (R234), cells staged by a run-ahead as port, first epoch and cells (R118), uncorrectable granules by window offset (R241), stacks in power-down with the instant of entry (R240), stacks with URGENT, bytes moved on each stack in this epoch, instants of the last transaction, and granules scrubbed of each stack in this pass (R242). -/
structure StoreState where
  inUse : List Nat := [0, 0, 0, 0, 0, 0, 0, 0]
  filling : Bool := false
  slots : List (Nat × SlotRun) := []
  reads : List FstRead := []
  decisions : List (Nat × Nat × Nat) := []
  staged : List (Nat × Nat × Nat) := []
  badGranules : List Nat := []
  down : List (Nat × Nat) := []
  urgent : List Nat := []
  moved : List Nat := [0, 0, 0, 0]
  lastUse : List Nat := [0, 0, 0, 0]
  scrubbed : List Nat := [0, 0, 0, 0]
  deriving DecidableEq, Repr

/-! ### The twin link (chapter 14) -/

/-- A role move under way (R355): roles (2 timing master, 1 control primary), target epoch, whether it is a revert (R356), and on the holder whether TAKE has arrived in time. -/
structure RoleMove where
  roles : Nat
  target : Nat
  revert : Bool
  agreed : Bool := false
  deriving DecidableEq, Repr

/-- The twin unit beyond its registers. -/
structure TwinState where
  /-- Records waiting for a control message, oldest first. -/
  waiting : List CtlRec := []
  /-- Unacknowledged control messages as SEQ and records, oldest first; the next SEQ; the last SEQ applied (R349). -/
  unacked : List (Nat × List CtlRec) := []
  nextSeq : Nat := 0
  lastRx : Option Nat := none
  /-- A control message was discarded and is asked for again; the partner asks for one again; slots at which ACK last advanced and the control lane last sent. -/
  nackOut : Bool := false
  nackIn : Bool := false
  ackSlot : Nat := 0
  ctlSlot : Option Nat := none
  /-- Lane pairs that have brought a valid message since the last slot began, and hash records waiting (R345, R352). -/
  heard : List Nat := []
  hashOut : List CtlRec := []
  /-- Lane pairs in use, and the mask and epoch of a change under way (R345); LANES_OK of the partner stands in TWN_LANE_STATUS. -/
  active : Nat := 0
  change : Option (Nat × Nat) := none
  /-- Level of TWIN_HB_OUT (R342). -/
  hbOut : Bool := false
  /-- Sum and number of raw in this epoch, the mean over the last one that had any, and whether the delay is measured (R346). -/
  rawSum : Int := 0
  rawCount : Nat := 0
  meanRaw : Option Int := none
  measured : Bool := false
  /-- A partner frame has come in this epoch; epochs in a row with and without one (R344). -/
  got : Bool := false
  good : Nat := 0
  miss : Nat := 0
  /-- The partner's REVERT_INH, image and instant since which its DPLL has read LOCKED; this device's instant since which it has been LOCKED to TWIN (R356). -/
  inhibit : Bool := false
  image : Option (Nat × Nat) := none
  partnerLock : Option Nat := none
  lockAt : Option Nat := none
  /-- GIVE sent and GIVE answered (R355), the REASON with which roles are taken at the next boundary (0 none), and epochs for which the timing-master and control-primary roles were unclaimed. -/
  give : Option RoleMove := none
  pend : Option RoleMove := none
  due : Nat := 0
  emptyTm : Nat := 0
  emptyCp : Nat := 0
  /-- The instant from which the revert hold-off runs (R356). -/
  holdFrom : Option Nat := none
  /-- Own and received hashes as release epoch, output and hash; comparisons made; differences logged by epoch; first release epoch compared (R352). -/
  own : List (Nat × Nat × Nat) := []
  theirs : List (Nat × Nat × Nat) := []
  compared : List (Nat × Nat) := []
  logged : List (Nat × Nat) := []
  cmpFrom : Nat := 0
  deriving DecidableEq, Repr

/-! ### Profiles and power (chapter 5) -/

/-- A profile change (R128 to R135, R143): the profile, target epoch (none until NEXT has chosen), image address with its IMAGE_ID and HDR_CRC, forced, local (R132), with a voltage phase (R130), STATE of Table 5.12 and REASON, the instant of acceptance, whether the image is armed, own READY, and the step the ramp goes to with the instant it was reached. -/
structure ProfChange where
  profile : Nat
  target : Option Nat
  addr : Nat
  imageId : Nat
  hdrCrc : Nat
  forced : Bool := false
  isLocal : Bool := false
  vphase : Bool := false
  state : Nat := 1
  reason : Nat := 0
  since : Nat
  armed : Bool := false
  ready : Bool := false
  goal : Nat := 0
  rampEnd : Option Nat := none
  deriving DecidableEq, Repr

/-- A calibration operation in progress (R155): a LOAD with the result it will report, or a SAVE of a slot with its GENERATION. -/
inductive CalOp where
  | load (found : Bool)
  | save (slot generation : Nat)
  deriving DecidableEq, Repr

/-- The power and thermal manager beyond its registers. -/
structure PowerState where
  /-- The profile change in progress or last ended. -/
  prof : Option ProfChange := none
  /-- The twin's request as profile, EPOCH, IMAGE_ID and HDR_CRC, and its READY (R131). -/
  twinReq : Option (Nat × Nat × Nat × Nat) := none
  twinReady : Bool := false
  /-- A forced change that waits for a committed change to flip, with the twin's target where it follows the twin (R143). -/
  forceNext : Option (Option Nat) := none
  /-- Epochs measured or not since reset, epochs without a measurement in a row, and whether PTM_SLACK_STALE has risen for them (R136). -/
  tick : Nat := 0
  noMeasure : Nat := 0
  stale : Bool := false
  /-- Epochs of the last step, the last raise and the last emergency step by that count, and the instant of the last emergency step (R137 to R139). -/
  stepTick : Option Nat := none
  raiseTick : Option Nat := none
  emergTick : Option Nat := none
  emergAt : Option Nat := none
  /-- Length so far in ns of the span in which S has been high (R137). -/
  span : Nat := 0
  /-- The last junction reading was 125 °C or more (R147), and an HBM reading was at or above HBM_WARN (R143). -/
  hot : Bool := false
  hbmWarm : Bool := false
  /-- Instants at which each sensor's reading last changed (R148). -/
  changed : List Nat := []
  /-- Averages in a row above the cap (R151), and the sum and number of the power readings of each rail since the last average. -/
  above : Nat := 0
  sums : List (Nat × Nat × Nat) := []
  /-- Settings in force of the enabled rails: master, address and PMBus page (Table 5.14). -/
  rails : List (Nat × Nat × Nat × Nat) := []
  /-- The thermal shutdown has run (R147). -/
  tripped : Bool := false
  cal : Option CalOp := none
  /-- SAVE_TIME of the calibration record in use (R156). -/
  calTime : Option Nat := none
  deriving DecidableEq, Repr

/-! ### Firmware update (chapter 17) -/

/-- An image, or an ABORT, that a chain port still has to send (R410): its address and length, the next chunk, SESSION and HOPS. -/
structure ChunkSource where
  base : Nat
  len : Nat
  next : Nat := 0
  session : Nat
  hops : Nat
  abort : Bool := false
  deriving DecidableEq, Repr

/-- A chunk sent and not acknowledged: SEQ, the CHUNK block's payload and the data words. -/
structure ChunkOut where
  seq : Nat
  head : Nat
  data : List Nat
  deriving DecidableEq, Repr

/-- A chain port at work (R408 to R410): the next SEQ, the last SEQ applied, unacknowledged chunks and what is still to be sent, oldest first; resends in a row of the oldest chunk, a NACK that asks for one, and a WAIT in force. -/
structure ChainPort where
  txSeq : Nat := 0
  rxSeq : Option Nat := none
  unacked : List ChunkOut := []
  queue : List ChunkSource := []
  resends : Nat := 0
  nacked : Bool := false
  waiting : Bool := false
  deriving DecidableEq, Repr

/-- A part of an image (Table 17.4): TYPE, TARGET, SETTINGS_FMT, OFFSET, LENGTH, VERSION and HASH. -/
structure UpdPart where
  type' : Nat
  target : Nat
  fmt : Nat
  offset : Nat
  length : Nat
  version : Nat
  hash : Nat
  deriving DecidableEq, Repr

/-- The update engine: the two chain ports; the chain port on whose page the present or last session stands, with its SESSION, HOPS and number of chunks; the start of the management pause; part types whose microcode loads (R421); and parts copied into a set beside its image, by set (R417). -/
structure UpdState where
  ports : List ChainPort := [{}, {}]
  port : Option Nat := none
  session : Nat := 0
  hops : Nat := 0
  total : Nat := 0
  pause : Option Nat := none
  loading : List Nat := []
  extra : List (Nat × UpdPart) := []
  deriving DecidableEq, Repr

/-! ### The compositor (chapter 10) -/

/-- A layer engine at work (R247, R255 to R260): the frame being written with the program in force for it (EN, NLAYERS and OUT_SLOT word, format, background, layer entries), the valid lines as frame, raster line and slot, deferrals of the pending flip, and the fence reports of this device and of the twin for a target epoch: readiness and first unmet fence. -/
structure EngineRun where
  frame : Option Nat := none
  cfg : Nat := 0
  format : Nat := 0
  bg : Nat := 0
  layers : List Nat := []
  valid : List (Nat × Nat × Nat) := []
  deferrals : Nat := 0
  own : Option (Nat × Bool × Nat) := none
  partner : Option (Nat × Bool) := none
  deriving DecidableEq, Repr

/-! ### The monitor scan-out (chapter 11) -/

/-- The scan-out beyond its registers: the instant of the last frame start, the source in force for this frame, the buffer scanned, whether a completed frame stands in it, the buffer of a pending READY, lines fetched and asked for, the first line sent as background, the CRC run of R268 with its length, STATIC, a request on the AUX channel with the instant it was last sent, and whether it waits after a DEFER. -/
structure MonState where
  start : Option Nat := none
  src : Nat := 0
  buf : Nat := 0
  ready : Option Nat := none
  fetched : Nat := 0
  asked : Nat := 0
  aborted : Option Nat := none
  equal : Nat := 0
  still : Bool := false
  aux : Option (Nat × Nat) := none
  deferred : Bool := false
  connected : Bool := false
  deriving DecidableEq, Repr

/-! ### The audio engine (chapter 12) -/

/-- A received or sent pair of a port: its arrival stamp and the words of its two channels. -/
structure AudFrame where
  stamp : Nat
  w0 : Nat
  w1 : Nat
  deriving DecidableEq, Repr

/-- An audio port at work (R280 to R288): STATE, frames in the elastic buffer oldest first, the last pair taken, whether taking has begun, a discard since the last taking, pairs by instant (newest first), the channel-status bits of the block being received, PHASE_OUT, the measured rate error, and CS_VALID. -/
structure AudPort where
  st : Nat := 0
  frames : List AudFrame := []
  last : AudFrame := ⟨0, 0x80, 0x80⟩
  taking : Bool := false
  slipped : Bool := false
  hist : List (Nat × Nat × Nat) := []
  cs : List (Bool × Bool) := []
  csOn : Bool := false
  phaseOut : Bool := false
  ppm : Int := 0
  csValid : Bool := false
  deriving DecidableEq, Repr

/-- A switch of a channel (R295, R296): the instant, the old and the new source (KIND, SRC and SUB as one code) and the fade length in force. -/
structure ChanSwitch where
  at' : Nat
  old : Nat
  new : Nat
  fade : Nat
  deriving DecidableEq, Repr

/-- A channel entry at work: the source in force, its switches newest first, and the last instant decided. -/
structure ChanRun where
  src : Nat := 0
  switches : List ChanSwitch := []
  last : Nat := 0
  deriving DecidableEq, Repr

/-- An AES3 output at work (R286): channel-status bits of the sink channel's block being assembled, its last complete block, and the block being sent. -/
structure AesOut where
  acc : List Bool := []
  on : Bool := false
  block : Option (List Byte) := none
  cur : Option (List Byte) := none
  deriving DecidableEq, Repr

/-- The audio engine beyond its registers: ports (AES3 0 to 63, word-select inputs 64 to 67, word-select outputs 68 to 71), channel entries at work, AES3 outputs, the boundary at which the map took effect in ns, slips received from the twin as port, instant, stamp and time of arrival, and sink cells already counted as fill, as sink and block. -/
structure AudState where
  ports : List (Nat × AudPort) := []
  chans : List (Nat × ChanRun) := []
  outs : List (Nat × AesOut) := []
  flipAt : Nat := 0
  slips : List (Nat × Nat × Nat × Nat) := []
  counted : List (Nat × Nat) := []
  deriving DecidableEq, Repr

/-! ### The reference and timing unit (chapter 13) -/

/-- A reference candidate at work (R305 to R314): QL reported and whether it is valid, TIME_VALID of the latest message, consecutive missing messages, disqualified, lost, QL at the last selection, timestamp in ps of the latest pulse, and PTP time and timestamp in ns of the pulse that the latest message names. -/
structure RefCand where
  ql : Nat := 0
  qlValid : Bool := false
  timeValid : Bool := false
  missing : Nat := 0
  disq : Bool := false
  lost : Bool := false
  seen : Nat := 0
  pulse : Option Nat := none
  time : Option (Nat × Nat) := none
  deriving DecidableEq, Repr

/-- A timing output at work (R324 to R326): OFFSET in force, a written one with its instant, and for REF_PULSE the input pulse it runs on in ps, whether that pulse has arrived, and an awaited realignment. -/
structure TimingOut where
  offset : Int := 0
  change : Option (Int × Nat) := none
  base : Option Nat := none
  fresh : Bool := false
  realign : Bool := false
  deriving DecidableEq, Repr

/-- A foreign master on a PTP port (IEEE 1588-2019 9.3.2): sender identity and port, its dataset, and the instants of its last two Announce messages. -/
structure PtpForeign where
  sender : Nat
  port : Nat
  ds : PtpDs
  last : Nat
  before : Option Nat
  deriving DecidableEq, Repr

/-- A PTP port at work (R331 to R337): foreign masters, the parent as identity and port, intervals left in PRE_MASTER, a two-step Sync that waits for its Follow_Up (sequence number, t2, correction), the last whole Sync (t1, t2, correction), the last Delay_Req (sequence number, t3), and the next sequence numbers. Times in ps. -/
structure PtpPort where
  foreign : List PtpForeign := []
  parent : Option (Nat × Nat) := none
  qual : Nat := 0
  open' : Option (Nat × Nat × Int) := none
  sync : Option (Nat × Nat × Int) := none
  dreq : Option (Nat × Nat) := none
  syncSeq : Nat := 0
  annSeq : Nat := 0
  dreqSeq : Nat := 0
  mgmtSeq : Nat := 0
  deriving DecidableEq, Repr

/-- The timing unit beyond its registers: candidates, the selected and the qualifying one, the reason of the last switch, the lead that waits to restore (candidate, reason, instant it began), whether the WTR is skipped once (R314); the DPLL state (Table 13.14), y and its instant, the frequency that y goes to, the integrator, build-out in ps, added frequency and a draw-down in progress (frequencies in units of 10^-12); the instant a clamp began, ns clamped, stretches of y while tracking as start, end and y (newest first); holdover: instant of entry, seconds of the last one, VALID, IN_SPEC, RTU_HOLDOVER raised; a FREE_RUN since the last lock; the last measured phase in ps; the partner's QL, dataset and offset in ps; timing outputs; the TIC: armed, START and STOP captured in 1/16 ps; PTP ports and the exchanges of the present window as mean path delay and offset. -/
structure RefState where
  cands : List RefCand := [{}, {}, {}, {}]
  sel : Option Nat := none
  qual : Option Nat := none
  reason : Nat := 0
  wtr : Option (Nat × Nat × Nat) := none
  noWtr : Bool := false
  dpll : Nat := 0
  y : Int := 0
  yAt : Nat := 0
  base : Int := 0
  integ : Int := 0
  pbo : Int := 0
  add : Int := 0
  drawing : Bool := false
  clampFrom : Option Nat := none
  clampNs : Nat := 0
  track : List (Nat × Nat × Int) := []
  holdAt : Nat := 0
  holdSecs : Nat := 0
  holdValid : Bool := false
  inSpec : Bool := false
  holdRaised : Bool := false
  wasFree : Bool := true
  phase : Int := 0
  partnerQl : Nat := 0
  partnerDs : Option PtpDs := none
  theta : Int := 0
  outs : List TimingOut := [{}, {}, {}, {}, {}, {}, {}, {}]
  ticArmed : Bool := false
  ticStart : Option Int := none
  ticStop : Option Int := none
  ports : List PtpPort := [{}, {}, {}, {}, {}, {}, {}, {}]
  window : List (Nat × Int) := []
  /-- The DPLL holds y while its loop code loads (R420). -/
  held : Bool := false
  deriving DecidableEq, Repr

/-! ### What leaves the device -/

/-- One thing the device has sent or shown outside, in the form the spec gives it. -/
inductive Sent where
  /-- An MSI-X message of a vector with its table address and data (R446). -/
  | msix (vector addr data : Nat)
  /-- SNAP_OUT low for 100 ns from an instant (R455). -/
  | snapOut (time : Nat)
  /-- TWIN_HB_OUT goes to a level at an instant (R342). -/
  | heartbeat (time : Nat) (high : Bool)
  /-- A completion of a host access: Unsupported Request, Completer Abort or data (R443). -/
  | completion (status data : Nat)
  /-- A cell released at the egress rim, with the instant of its release (R67, R84). -/
  | cell (time : Nat) (c : LineCell)
  /-- A frame sent on a port of a MAC, from the destination address to the FCS, with the instant of its departure (R214 to R220). -/
  | frame (time mac port : Nat) (bytes : List Byte)
  /-- A frame of the scan-out begins: its instant, source word and buffer (R266). -/
  | scan (time src buf : Nat)
  /-- A request on the AUX channel: its instant, request word and write data (R274). -/
  | aux (time cmd : Nat) (data : List Byte)
  /-- An AES3 frame on an output: its instant on the grid, the words of its subframes with C and Z as sent, and the parity bits (R285, R286). -/
  | aes (n port w0 w1 : Nat) (p0 p1 : Bool)
  /-- A pair in the slots of a word-select output: the instant, left and right slot content (R287). -/
  | ws (n port left right : Nat)
  /-- A line burst, MARKER, or SLEEP or WAKE blocks on a serial lane from an instant on: control mark and payload of each block (R162 to R172). -/
  | blocks (time lane : Nat) (l : List (Bool × Nat))
  /-- A PMBus write to the regulator of a rail: its instant, master, address, PMBus page, command code and value (R150). -/
  | pmbus (time master addr page cmd value : Nat)
  /-- A PMBus master sends nine clock pulses and a stop (R453). -/
  | pmbusRecover (time master : Nat)
  /-- The regulator of a rail is switched off over PMBus (R147). -/
  | railOff (time rail : Nat)
  /-- A leading edge of a timing output: its instant, the output, the level it goes to and the pulse width in ns, 0 for a square wave (R324). -/
  | edge (time out : Nat) (high : Bool) (width : Nat)
  /-- A message sent by a PTP port (R331 to R337). -/
  | ptp (time port : Nat) (msg : PtpMsg)
  deriving DecidableEq, Repr

/-! ### The whole device -/

/-- The state of the device. -/
structure State where
  /-- Commands waiting, first in first out. -/
  pending : List Instr := []
  /-- The register space by address: registers, shadow copies, snapshot mirrors and table memory; windowed counters and the engines' private words stand at address + n * 2^32 (R25 to R30). -/
  regs : List (Nat × W) := []
  /-- The byte memories by device address: SRAM, flash in the QSPI window and frame store (Table 2.1). -/
  mem : List Host.Cell := []
  /-- The boot core's private TCM (R363), by offset. -/
  tcm : List Host.Cell := []
  /-- The device timescale in ns of PTP time (R12). -/
  now : Nat := 0
  /-- The profile in force: 0 SPAN, 1 SWIFT, 2 DENSE, 3 COOL (R4). -/
  profile : Nat := 0
  /-- The answer to the last access (R34). -/
  answer : Answer := {}
  /-- What the device has sent, newest first. -/
  out : List Sent := []
  /-- Free values drawn so far: the model's own counter, no state of the device (log entry 3). -/
  freeCount : Nat := 0
  /-- Pages armed or committed, each with its whole 64-bit target epoch (R475). -/
  armed : List (Nat × Nat) := []
  /-- Pages with a transition in progress and the state they go to at the next epoch boundary (R38). -/
  awaiting : List (Nat × Nat) := []
  /-- Pages in DRAIN; the mark says that the drain ends in FAULT (R38). -/
  draining : List (Nat × Bool) := []
  /-- Held _LO values and latched _HI values of register pairs, by the address of the half (R29). -/
  held : List (Nat × W) := []
  latched : List (Nat × W) := []
  bus : BusState := {}
  ctl : CtlState := {}
  keys : KeyState := {}
  fcr : FcrState := {}
  board : BoardState := {}
  fabric : FabricState := {}
  geyser : GeyserState := {}
  /-- Serial lanes in use, by lane number; the others are as a lane that was never used. -/
  lanes : List (Nat × Lane) := []
  sdi : SdiState := {}
  mac : MacState := {}
  store : StoreState := {}
  twin : TwinState := {}
  power : PowerState := {}
  upd : UpdState := {}
  /-- Layer engines at work, by number. -/
  engines : List (Nat × EngineRun) := []
  mon : MonState := {}
  aud : AudState := {}
  ref : RefState := {}
  deriving DecidableEq, Repr

/-- Why a step stops with a fault. No command of the device ends so: every command of the table has an effect or an answer of Table 2.5, and the constructor stands for the interface's sake (nobody raises it; safe). -/
inductive Fault where
  | none
  deriving DecidableEq, Repr

/-- Why a command has no meaning here. -/
inductive Refusal where
  /-- The model has no meaning for the command yet; raised by exec's arms only; safe, since nothing can be proved of it. -/
  | notModelled (mnemonic : String)
  deriving DecidableEq, Repr

/-- The machine right after reset: every register at its reset value, the blocks in the states of Table 2.9, memory with nothing listed, no command waiting. -/
def State.reset : State := {}

end Sys2Proof.Machine
end

