-- ==== Sys2Proof/Machine/Ops.lean ====
section
/-! DEFINITION. The named operations over registers, memory, pages, counters, watermarks and time. -/

namespace Sys2Proof.Machine

/-! Registers. -/

/-- What a register reads (R29); an unlisted one holds its reset value. -/
def State.rd (s : State) (a : Nat) : W := sget resetVal s.regs a

/-- A register takes a value. -/
def State.wr (s : State) (a : Nat) (v : W) : State := { s with regs := sput resetVal s.regs a v }

/-- A register takes a number (modulo 2^32). -/
def State.wrN (s : State) (a v : Nat) : State := s.wr a (w32 v)

/-- A register as a number. -/
def State.rdN (s : State) (a : Nat) : Nat := (s.rd a).toNat

/-- Field hi:lo of a register. -/
def State.fld (s : State) (a hi lo : Nat) : Nat := Machine.fld (s.rd a) hi lo

/-- Bit n of a register. -/
def State.bit (s : State) (a n : Nat) : Bool := bitOf (s.rd a) n

/-- Field hi:lo of a register takes a value. -/
def State.setFld (s : State) (a hi lo v : Nat) : State := s.wr a (Machine.setFld (s.rd a) hi lo v)

/-- Bit n of a register takes a value. -/
def State.setBit (s : State) (a n : Nat) (b : Bool) : State := s.wr a (Machine.setBit (s.rd a) n b)

/-- A 32-bit counter counts n, wrapping at 2^32. -/
def State.bumpBy (s : State) (a n : Nat) : State := s.wrN a (s.rdN a + n)

/-- A 32-bit counter counts one. -/
def State.bump (s : State) (a : Nat) : State := s.bumpBy a 1

/-- A field counter counts n, saturating at its width. -/
def State.bumpSat (s : State) (a hi lo n : Nat) : State := s.setFld a hi lo (min (s.fld a hi lo + n) (2 ^ (hi + 1 - lo) - 1))

/-- A register keeps the larger of its value and v. -/
def State.keepMax (s : State) (a v : Nat) : State := if s.rdN a < v then s.wrN a v else s

/-- The private word n of an engine beside the register at a (windowed counters and the like): an address no access reaches. -/
def hid (a n : Nat) : Nat := a + (n + 1) * 2 ^ 32

/-- The _LO/_HI pair at lo as a 64-bit number (R29). -/
def State.rd64 (s : State) (lo hi : Nat) : Nat := s.rdN lo + s.rdN hi * 2 ^ 32

/-- A pair takes a 64-bit number. -/
def State.wr64 (s : State) (lo hi v : Nat) : State := (s.wrN lo v).wrN hi (v / 2 ^ 32)

/-- n words from address a, 4 bytes apart. -/
def State.rdWords (s : State) (a n : Nat) : List Nat := (List.range n).map (fun i => s.rdN (a + 4 * i))

/-- A table entry of n words as one number, word 0 holding bits 31:0. -/
def State.entry (s : State) (a n : Nat) : Nat := (s.rdWords a n).foldr (fun w acc => w + 2 ^ 32 * acc) 0

/-- Words written from address a on. -/
def State.wrWords (s : State) (a : Nat) : List Nat → State
  | [] => s
  | w :: r => (s.wrN a w).wrWords (a + 4) r

/-- Every register of a list of words back to its reset value where a test admits its address. -/
def State.dropRegs (s : State) (p : Nat → Bool) : State := { s with regs := s.regs.filter (fun c => !p c.1) }

/-! Byte memories. -/

/-- A byte of memory. -/
def State.rdByte (s : State) (a : Nat) : Byte := sget memDefault s.mem a

/-- A byte of memory takes a value. -/
def State.wrByte (s : State) (a : Nat) (v : Byte) : State := { s with mem := sput memDefault s.mem a v }

/-- n bytes of memory from address a. -/
def State.rdBytes (s : State) (a n : Nat) : List Byte := (List.range n).map (fun i => s.rdByte (a + i))

/-- Bytes written from address a on. -/
def State.wrBytes (s : State) (a : Nat) : List Byte → State
  | [] => s
  | b :: r => (s.wrByte a b).wrBytes (a + 1) r

/-- The memories hold the one canonical form. -/
def Memory.wf (m : List Host.Cell) : Bool := scanon memDefault m

/-- The register space holds the one canonical form. -/
def Registers.wf (r : List (Nat × W)) : Bool := scanon resetVal r

/-! Free values (log entry 3). -/

/-- The next free value. -/
def State.freeVal (s : State) : Nat := Config.freeValue s.freeCount

/-- The free value is used up. -/
def State.drawn (s : State) : State := { s with freeCount := s.freeCount + 1 }

/-! Time (R10 to R12, R475). -/

/-- Length of the present epoch in ns. -/
def State.epochNs (s : State) : Nat := epochLen s.profile

/-- The epoch number: a count from the PTP epoch in units of the active epoch length (R10). -/
def State.epoch (s : State) : Nat := s.now / s.epochNs

/-- Start of the present epoch in ns. -/
def State.epochStart (s : State) : Nat := s.epoch * s.epochNs

/-- The epoch E that a 24-bit EPOCH field names: E mod 2^24 equals the field and 0 < E - now ≤ 2^23 (R47). -/
def resolveEpoch (now field : Nat) : Option Nat :=
  let d := (field % 2 ^ 24 + 2 ^ 24 - now % 2 ^ 24) % 2 ^ 24
  if 0 < d ∧ d ≤ 2 ^ 23 then some (now + d) else none

/-- What follows from the epoch that a field names; nothing where it names none. -/
def State.atEpoch (s : State) (o : Option Nat) (f : Nat → State) : State := match o with | some E => f E | none => s

/-! Pages and their header (Tables 2.6 to 2.21). -/

def hID (p : Nat) : Nat := p
def hREV (p : Nat) : Nat := p + 0x04
def hCAPS (p : Nat) : Nat := p + 0x08
def hSTATE (p : Nat) : Nat := p + 0x0C
def hCTRL (p : Nat) : Nat := p + 0x10
def hLIVE (p : Nat) : Nat := p + 0x14
def hSTICKY (p : Nat) : Nat := p + 0x18
def hIRQEN (p : Nat) : Nat := p + 0x1C
def hIRQPEND (p : Nat) : Nat := p + 0x20
def hFORCE (p : Nat) : Nat := p + 0x24
def hLOCK (p : Nat) : Nat := p + 0x28
def hACCERR (p : Nat) : Nat := p + 0x2C
def hSHADOW (p : Nat) : Nat := p + 0x30
def hSNAPSEQ (p : Nat) : Nat := p + 0x34
def hSNAPLO (p : Nat) : Nat := p + 0x38
def hSNAPHI (p : Nat) : Nat := p + 0x3C

/-- Block states (Table 2.9, STATE.CUR). -/
def sOFF : Nat := 0
def sISOLATED : Nat := 1
def sDRAIN : Nat := 2
def sIDLE : Nat := 3
def sRUN : Nat := 4
def sFAULT : Nat := 5

/-- Instance pages with a state of their own (R38): SLC, SFE and FMAC pages 1 to 128. -/
def ownState (b k : Nat) : Bool := (b == 6 || b == 7 || b == 8) && decide (1 ≤ k) && decide (k ≤ 128)

/-- The page whose STATE governs page k of block b. -/
def statePage (b k : Nat) : Nat := if ownState b k then pageAddr b k else pageAddr b 0

/-- STATE.CUR that governs page k of block b. -/
def State.curOf (s : State) (b k : Nat) : Nat := s.fld (hSTATE (statePage b k)) 3 0

/-- STATE.CUR of a block's page 0. -/
def State.cur (s : State) (b : Nat) : Nat := s.fld (hSTATE (pageAddr b 0)) 3 0

/-- A block's page 0 is in RUN. -/
def State.running (s : State) (b : Nat) : Bool := s.cur b == sRUN

/-- STATE.BUSY of the state page p. -/
def State.busy (s : State) (p : Nat) : Bool := s.bit (hSTATE p) 8

/-- Something leaves the device. -/
def State.send (s : State) (x : Sent) : State := { s with out := x :: s.out }

/-- The page at p asserts its interrupt: IRQ_PEND, that is STICKY AND IRQ_EN, is not 0 (Table 2.14). -/
def State.irqPend (s : State) (p : Nat) : Nat := (s.rdN (hSTICKY p)) &&& (s.rdN (hIRQEN p))

/-- Pages that assert their interrupt, in rising order: their STICKY is listed, since it reads 0 otherwise. -/
def State.pagesAsserted (s : State) : List Nat :=
  s.regs.filterMap (fun c => if c.1 < 2 ^ 32 ∧ offOf c.1 = 0x18 ∧ s.irqPend (pageOf c.1) ≠ 0 then some (pageOf c.1) else none)

/-- Address of the word that holds the routing halfword of the page at p (R445). -/
def routeAddr (p : Nat) : Nat := 0x41304000 + (2 * (256 * blockOf p + pageNo p)) / 4 * 4

/-- MSI-X vector of the page at p; none where its entry is off or above 479 (R445). -/
def State.vectorOf (s : State) (p : Nat) : Option Nat :=
  let h := s.rdN (routeAddr p) / (if pageNo p % 2 = 0 then 1 else 0x10000) % 0x10000
  if h / 0x8000 = 1 ∧ h % 512 ≤ 479 then some (h % 512) else none

/-- Address of doorbell n (R445). -/
def doorbell (n : Nat) : Nat := 0x41306000 + 4 * n

/-- An MSI-X vector is asserted (R445). -/
def State.vectorAsserted (s : State) (v : Nat) : Bool :=
  if v ≤ 479 then s.pagesAsserted.any (fun p => s.vectorOf p == some v)
  else if 496 ≤ v ∧ v < 512 then s.rdN (doorbell (v - 496)) != 0 else false

/-- Address of the MSI-X table entry of vector v. -/
def msixEntry (v : Nat) : Nat := 0x41301000 + 16 * v

/-- A vector becomes asserted or is re-armed while asserted: its message goes, or its PBA bit sets while it is masked (R446). -/
def State.notifyVector (s : State) (v : Nat) : State :=
  if s.bit (msixEntry v + 12) 0 then s.setBit (0x41303000 + 4 * (v / 32)) (v % 32) true
  else s.send (.msix v (s.rdN (msixEntry v) + s.rdN (msixEntry v + 4) * 2 ^ 32) (s.rdN (msixEntry v + 8)))

/-- STICKY bit n of the page at p sets; the page's vector is notified when this asserts it (Table 2.14, R446). -/
def State.stick (s : State) (p n : Nat) : State :=
  let t := s.setBit (hSTICKY p) n true
  if s.bit (hIRQEN p) n then
    match s.vectorOf p with
    | some v => if s.vectorAsserted v then t else t.notifyVector v
    | none => t
  else t

/-- Interrupt source n of the PLIC is asserted (Table 15.2); source 21 is one assertion at the completion of a cut (log entry 22). -/
def State.plicAsserted (s : State) (n : Nat) : Bool :=
  if 1 ≤ n ∧ n ≤ 16 then s.pagesAsserted.any (fun p => blockOf p == n - 1)
  else if 17 ≤ n ∧ n ≤ 20 then s.rdN (Reg.CPC_MBOX (n - 17)) != 0 else false

/-- Pending sources: latched ones, and asserted ones whose gateway is open (RISC-V PLIC, R369). -/
def State.plicPending (s : State) (n : Nat) : Bool :=
  s.ctl.plicPend.testBit n || (s.plicAsserted n && !s.ctl.plicClaimed.testBit n)

/-- A word with bit n set for every n below k that a test admits. -/
def maskOf (k : Nat) (p : Nat → Bool) : Nat := ((List.range k).map (fun n => if p n then 2 ^ n else 0)).sum

/-- The pending sources as a word. -/
def State.plicPendWord (s : State) : Nat := maskOf 32 s.plicPending

/-- The gateways keep what is pending, as they do before a level falls. -/
def State.plicLatch (s : State) : State := { s with ctl := { s.ctl with plicPend := s.plicPendWord } }

/-- STATE.CUR of a state page becomes c; STICKY.STATE_CHG sets when it changes. -/
def State.setCur (s : State) (p c : Nat) : State :=
  let t := s.setFld (hSTATE p) 3 0 c
  if s.fld (hSTATE p) 3 0 = c then t else t.stick p 5

/-- SHADOW_CTRL.STATUS of a page (Table 2.18). -/
def State.shadowStatus (s : State) (p : Nat) : Nat := s.fld (hSHADOW p) 28 26

/-- A page's shadow is armed or committed. -/
def State.shadowHeld (s : State) (p : Nat) : Bool := s.shadowStatus p == 2 || s.shadowStatus p == 3

/-- SHADOW_CTRL.STATUS of a page becomes st. -/
def State.setShadow (s : State) (p st : Nat) : State := s.setFld (hSHADOW p) 28 26 st

/-! Watermarks (R53, R54). -/

/-- The watermark at a sees a level against its mark and hysteresis: an upward crossing while LIVE is 0, a downward one while it is 1. -/
def State.watermark (s : State) (a level mark hyst : Nat) : State :=
  if s.bit a 0 then
    if level + hyst < mark then (s.setBit a 0 false).setBit a 2 true else s
  else if mark ≤ level then
    (((s.setBit a 0 true).setBit a 1 true).bumpSat a 31 24 1).stick (pageOf a) 7
  else s

/-- The watermark at a whose LIVE follows a condition of its own (R54, as PTM_R_WM). -/
def State.watermarkIf (s : State) (a : Nat) (cond : Bool) : State :=
  if s.bit a 0 then (if cond then s else (s.setBit a 0 false).setBit a 2 true)
  else if cond then (((s.setBit a 0 true).setBit a 1 true).bumpSat a 31 24 1).stick (pageOf a) 7 else s

end Sys2Proof.Machine
end

