-- ==== Sys2Proof/Machine/Admit.lean ====
section
/-! DEFINITION. Who may access what: the address map, the page classes, the regions of the protection map and the bus targets (R25, R32, R374, R393 to R395). -/

namespace Sys2Proof.Machine

/-! Masters (Table 15.3). -/

def mBoot : Nat := 0
def mHost : Nat := 5
def mMspi : Nat := 6
def mFcr : Nat := 7
def mGse : Nat := 8
def mPtm : Nat := 9
def mTwn : Nat := 10
def mDma : Nat := 11

/-- The FCR as a requester. -/
def fcrReq : Requester := ⟨7, .machine⟩
/-- The GSE image reader as a requester. -/
def gseReq : Requester := ⟨8, .machine⟩
/-- The PTM flash and calibration engine as a requester. -/
def ptmReq : Requester := ⟨9, .machine⟩
/-- The TWN chain-port engine as a requester. -/
def twnReq : Requester := ⟨10, .machine⟩

/-- The protection map is sealed (R395). -/
def State.isSealed (s : State) : Bool := s.bit Reg.BMX_PMAP_SEAL 0

/-- The page-class nibble of page k of block b; the fixed entries whatever is stored (R393). -/
def State.classNibble (s : State) (b k : Nat) : Nat :=
  if b = 0 ∧ k = 5 then 2
  else if b = 2 ∨ (b = 1 ∧ 0x40 ≤ k ∧ k ≤ 0x43) then 1
  else s.rdN (pageAddr 1 (0x40 + b / 8) + 0x1000 + 4 * (32 * (b % 8) + k / 8)) / 2 ^ (4 * (k % 8)) % 16

/-- A Privileged page with this nibble admits the requester (Table 2.4). -/
def privAdmits (nib : Nat) (m : Requester) : Bool :=
  if m.num = 0 then true
  else if m.num ≤ 4 then m.mode != .user
  else if m.num = 5 then nib.testBit 2
  else if m.num = 6 then nib.testBit 3
  else m.num == 7

/-- The page class of page k of block b admits the requester (R32, R395). -/
def State.classAdmits (s : State) (m : Requester) (b k : Nat) : Bool :=
  if m.num = 0 && !s.isSealed then true
  else
    let nib := s.classNibble b k
    match nib % 4 with
    | 0 => true
    | 1 => privAdmits nib m
    | _ => m.num == 0

/-- Word w of region entry r (Table 16.4). -/
def State.regionWord (s : State) (r w : Nat) : Nat := s.rdN (pageAddr 1 0x42 + 0x1000 + 16 * r + 4 * w)

/-- Region entry r as a number of 128 bits. -/
def State.region (s : State) (r : Nat) : Nat :=
  s.regionWord r 0 + s.regionWord r 1 * 2 ^ 32 + s.regionWord r 2 * 2 ^ 64 + s.regionWord r 3 * 2 ^ 96

/-- Region entry e is enabled and contains the address (R394). -/
def regionHas (e a : Nat) : Bool :=
  e.testBit 127 && decide ((e >>> 99) % 2 ^ 28 ≤ a / 4096) && decide (a / 4096 ≤ (e >>> 71) % 2 ^ 28)

/-- Region entry e grants the master the access. -/
def regionGrants (e m : Nat) (kind : TxnKind) : Bool :=
  match kind with
  | .read => e.testBit (59 + m)
  | .lr => e.testBit (59 + m)
  | .fetch => decide (m ≤ 4) && e.testBit (42 + m)
  | .write => e.testBit (47 + m)
  | .sc => e.testBit (47 + m)
  | .amo _ => e.testBit (59 + m) && e.testBit (47 + m)

/-- The lowest-numbered enabled region that contains the address grants the access (R394); the boot core needs none before the seal (R395). -/
def State.regionAdmits (s : State) (m : Requester) (a : Nat) (kind : TxnKind) : Bool :=
  if m.num = 0 && !s.isSealed then true
  else
    match (List.range 32).find? (fun r => regionHas (s.region r) a) with
    | some r => regionGrants (s.region r) m.num kind
    | none => false

/-- Bus target of an address (Table 15.4); none where the address map decodes nothing (R25). -/
def targetOf (a : Nat) : Option Nat :=
  if a < 0x20000 then some 0
  else if 0x10000000 ≤ a ∧ a < 0x10400000 then some (1 + a / 0x100000 % 4)
  else if 0x20000000 ≤ a ∧ a < 0x30000000 then some 5
  else if 0x40000000 ≤ a ∧ a < 0x50000000 then some (6 + blockOf a)
  else if 0x1000000000 ≤ a ∧ a < 0x2000000000 then some (if a < 0x1800000000 then 22 else 23)
  else none

/-- The address lies in register space. -/
def isRegAddr (a : Nat) : Bool := Nat.ble 0x40000000 a && Nat.blt a 0x50000000

/-- The address lies in the SRAM. -/
def isSram (a : Nat) : Bool := Nat.ble 0x10000000 a && Nat.blt a 0x10400000

/-- The address lies in the QSPI window. -/
def isFlash (a : Nat) : Bool := Nat.ble 0x20000000 a && Nat.blt a 0x30000000

/-- The address lies in the frame-store window. -/
def isStore (a : Nat) : Bool := Nat.ble 0x1000000000 a && Nat.blt a 0x2000000000

/-- A memory access has one of the accepted forms: a naturally aligned power of two up to 64 bytes, or whole 64-byte beats within 4 KiB (R374). -/
def memForm (a len : Nat) : Bool :=
  if len = 1 ∨ len = 2 ∨ len = 4 ∨ len = 8 ∨ len = 16 ∨ len = 32 ∨ len = 64 then a % len == 0
  else decide (64 < len) && len % 64 == 0 && a % 64 == 0 && decide (len ≤ 4096) && decide (a % 4096 + len ≤ 4096)

/-- A register access has an accepted form: 32 bits, or 64 bits on an 8-byte-aligned pair (R29). -/
def regForm (a len : Nat) : Bool :=
  (len == 4 && a % 4 == 0) || (len == 8 && a % 8 == 0 && hiOf a == some (a + 4))

/-- The kind of access writes. -/
def kindWrites : TxnKind → Bool
  | .write => true
  | .sc => true
  | .amo _ => true
  | _ => false

/-- The kind of access is exclusive or atomic, and so for the SRAM only (R374). -/
def kindAtomic : TxnKind → Bool
  | .lr => true
  | .sc => true
  | .amo _ => true
  | _ => false

/-- Something answers at the address with this form and kind: what DECODE excludes (R25, R26, R29, R374, R452). -/
def State.decodes (s : State) (a len : Nat) (kind : TxnKind) : Bool :=
  match targetOf a with
  | none => false
  | some t =>
    if isRegAddr a then decide (blockOf a < 16) && pageExists (blockOf a) (pageNo a) && regForm a len && !kindAtomic kind
    else
      memForm a len && (!kindAtomic kind || isSram a) &&
      (if t = 0 then !kindWrites kind && decide (a + len ≤ 0x20000)
       else if t = 5 then !kindWrites kind && decide (a + len ≤ 0x20000000 + s.board.flashSize)
       else true)

/-- A fetch that the cores never make: from register space, the frame store, or the QSPI window while FETCH_QSPI is 0 (R364). -/
def State.fetchBarred (s : State) (a : Nat) : Bool :=
  isRegAddr a || isStore a || (isFlash a && !s.bit Reg.CPC_CFG 1)

/-- The frame-store window answers: FST in IDLE or RUN and its zero fill over (R227, R228). -/
def State.storeOpen (s : State) : Bool := (s.cur 11 == sIDLE || s.cur 11 == sRUN) && !s.store.filling

/-- The collar answers ABSENT for an access to register offset o of page k of block b (R34, R40): the block is not in IDLE or RUN, and the location is not in the header nor in a mirror that is readable. -/
def State.absentAt (s : State) (b k o : Nat) : Bool :=
  let c := s.curOf b k
  if c == sIDLE || c == sRUN then false
  else if o < 0x100 then false
  else !(Nat.ble 0xF000 o && c != sOFF)

end Sys2Proof.Machine
end

