-- ==== Sys2Proof/Machine/Flags.lean ====
section
/-! DEFINITION. Raising a fault source: its sticky bit, the FCR's record, the handling window, the ring and the snapshot trigger (R425 to R439). -/

namespace Sys2Proof.Machine

/-! Parts of a source ID (R425). -/

def srcBlock (n : Nat) : Nat := n / 4096 % 16
def srcPage (n : Nat) : Nat := n / 32 % 128
def srcBit (n : Nat) : Nat := n % 32
/-- The source ID of source n of page k of block b. -/
def srcId (b k n : Nat) : Nat := b * 4096 + k * 32 + n

/-- Severity entry of a source: SEV in bits 1:0, SNAP in bit 2 (R427). -/
def State.sevEntry (s : State) (src : Nat) : Nat :=
  let q := if srcPage src = 0 then srcBlock src else 15 + srcPage src
  let o := 32 * q + srcBit src
  s.rdN (0x43201000 + o / 4 * 4) / 256 ^ (o % 4) % 256

/-- Handling window in ns of a severity (Table 18.3). -/
def State.windowNs (s : State) (sev : Nat) : Nat :=
  1000 * (if sev = 3 then s.fld Reg.FCR_WIN_CRIT 23 0 else s.fld Reg.FCR_WIN_MAJOR 23 0)

/-- PROD - CONS of the Tephra ring (R431). -/
def State.ringFill (s : State) : Nat := (s.rdN Reg.FCR_RING_PROD + 2 ^ 32 - s.rdN Reg.FCR_RING_CONS) % 2 ^ 32

/-- Slots of the ring. -/
def State.ringSlots (s : State) : Nat := 2 ^ s.fcr.ringLog2

/-- The ring's watermark sees its level (mark 75 % of the slots, hysteresis 10 points). -/
def State.ringMark (s : State) : State :=
  s.watermark Reg.FCR_RING_WM (100 * s.ringFill) (75 * s.ringSlots) (10 * s.ringSlots)

/-- A raise is noted: the page's sticky bit, the element page's count and condition, the block's count and the last source (R425, Tables 18.7, 18.8). -/
def State.noteRaise (s : State) (src : Nat) : State :=
  let p := pageAddr (srcBlock src) (srcPage src)
  let s1 := s.stick p (16 + srcBit src)
  let s2 := if srcBlock src = 3 ∧ 1 ≤ srcPage src then
      (s1.bump (Reg.FCR_E_CNT (srcPage src) (srcBit src))).setFld (Reg.FCR_E_INFO (srcPage src)) 31 27 (srcBit src)
    else s1
  (s2.bump (Reg.FCR_BLK_RAISED (srcBlock src))).wrN Reg.FCR_LAST_SRC (src * 65536 + s.now / 1000 % 65536)

/-- FCR_RING_FULL, FCR_MERGE_SAT, FCR_WRITE_ERR and FCR_STORM never create or merge a record (R431). -/
def quietSource (src : Nat) : Bool :=
  src == Src.FCR_RING_FULL || src == Src.FCR_MERGE_SAT || src == Src.FCR_WRITE_ERR || src == Src.FCR_STORM

/-! Records (Table 18.4). -/

def recA (i : Nat) : Nat := Reg.FCR_OPEN_REC i

/-- The open record's words. -/
def State.recWords (s : State) : List Nat := (List.range 8).map (fun i => s.rdN (recA i))

/-- The ring takes the closed record, or it is dropped (R431). -/
def State.ringPut (s : State) : State :=
  if !s.bit Reg.FCR_RING_CFG 31 then s.bump Reg.FCR_DROPPED_CNT
  else if s.ringFill = s.ringSlots then
    let t := (s.bump Reg.FCR_DROPPED_CNT).noteRaise Src.FCR_RING_FULL
    { t with fcr := { t.fcr with overflow := true } }
  else
    let a := s.fcr.ringBase + 32 * (s.rdN Reg.FCR_RING_PROD % s.ringSlots)
    if (targetOf a).isSome && !isRegAddr a && s.decodes a 32 .write && s.regionAdmits fcrReq a .write && (!isStore a || s.storeOpen) then
      let t := if s.fcr.overflow then s.setBit (recA 0) 10 true else s
      let u := (t.wrBytes a (t.recWords.flatMap (bytesLE 4))).bump Reg.FCR_RING_PROD
      ({ u with fcr := { u.fcr with overflow := false } }).ringMark
    else s.noteRaise Src.FCR_WRITE_ERR

/-- Records closed in the present millisecond are counted against STORM (R431). -/
def State.stormCount (s : State) : State :=
  let ms := s.now / 1000000
  let n := if s.fcr.stormMs = ms then s.fcr.stormCount + 1 else 1
  let t := { s with fcr := { s.fcr with stormMs := ms, stormCount := n } }
  if n = s.fld Reg.FCR_CFG 23 16 + 1 then (t.bump Reg.FCR_STORM_CNT).noteRaise Src.FCR_STORM else t

/-- The open record closes: it is written to the ring or dropped, and counted (R430, R431). -/
def State.closeRecord (s : State) : State :=
  let t := ({ s with fcr := { s.fcr with isOpen := false, winEnd := none } }).bump Reg.FCR_RECORDS
  t.ringPut.stormCount

/-- The page of a source, if it has a state of its own (R38, R432). -/
def ownPages (src : Nat) : List Nat := if ownState (srcBlock src) (srcPage src) then [pageAddr (srcBlock src) (srcPage src)] else []

/-- A raise creates a record (R429). -/
def State.createRecord (s : State) (src sev : Nat) (forced late : Bool) : State :=
  let b := srcBlock src
  let may := !forced || s.bit Reg.FCR_CFG 31
  let t := s.wrWords (recA 0)
    [src * 65536 + sev * 16384 + b2n forced * 8192 + b2n late * 512,
     65536 + 2 ^ b,
     2 ^ srcBit src,
     (if sev = 2 then 2 ^ b else 0) * 65536 + 2 ^ (srcPage src % 16),
     s.now % 2 ^ 32,
     s.now / 2 ^ 32 % 2 ^ 32,
     s.fcr.nextSeq * 65536,
     0]
  let u := { t with fcr := { t.fcr with
    isOpen := true, created := s.now, winEnd := if 2 ≤ sev then some (s.now + s.windowNs sev) else none, cutTaken := false,
    escSev := if may then sev else 0, escIso := if may && sev == 2 then 2 ^ b else 0, nextSeq := (s.fcr.nextSeq + 1) % 65536,
    recPages := ownPages src } }
  let v := u.stick (pageAddr 3 0) 30
  if 2 ≤ sev then v.stick (pageAddr 3 0) 31 else v

/-- Field hi:lo of a word ORed with a value. -/
def State.orWord (s : State) (a v : Nat) : State := s.wrN a (s.rdN a ||| v)

/-- A raise merges into the open record (R429). -/
def State.mergeRecord (s : State) (src sev : Nat) (forced : Bool) : State :=
  let b := srcBlock src
  let may := !forced || s.bit Reg.FCR_CFG 31
  let s1 := s.bump Reg.FCR_MERGED_CNT
  let s2 := if s.fld (recA 1) 31 16 = 65535 then s1.noteRaise Src.FCR_MERGE_SAT else s1.bumpSat (recA 1) 31 16 1
  let s3 := ((s2.orWord (recA 1) (2 ^ b)).orWord (recA 2) (2 ^ srcBit src)).orWord (recA 3)
    ((if sev = 2 then 2 ^ b else 0) * 65536 + 2 ^ (srcPage src % 16))
  let s4 := (s3.setFld (recA 0) 15 14 (max (s.fld (recA 0) 15 14) sev)).orWord (recA 0) (b2n forced * 8192)
  let e := s.now + s.windowNs sev
  { s4 with fcr := { s4.fcr with
    winEnd := if 2 ≤ sev then some (match s.fcr.winEnd with | some w => min w e | none => e) else s.fcr.winEnd,
    escSev := if may then max s.fcr.escSev sev else s.fcr.escSev,
    escIso := if may && sev == 2 then s.fcr.escIso ||| 2 ^ b else s.fcr.escIso,
    recPages := s.fcr.recPages ++ (ownPages src).filter (fun p => !s.fcr.recPages.contains p) } }

/-! Snapshot triggers (R437, R438). -/

/-- A trigger of a source code is deferred and shared with the twin (R358): the pair is PAIRED, SNAP_SHARE is 1, and the source is not a time match. -/
def State.defers (s : State) (code : Nat) : Bool :=
  code != 2 && s.running 15 && s.fld Reg.TWN_STATUS 31 30 == 2 && s.bit Reg.TWN_CFG 4

/-- A deferred trigger (R358): the comparator takes T, TWN_SNAP_LEAD µs from now, and the twin is told; one that comes while the comparator is armed joins the cut that waits. -/
def State.deferCut (s : State) : State :=
  if s.fcr.time2Armed then s
  else
    let T := s.now + 1000 * s.fld Reg.TWN_SNAP_LEAD 7 0
    let t := (s.wrN Reg.FCR_SNAP_TIME2_LO T).wrN Reg.FCR_SNAP_TIME2_HI (T / 2 ^ 32)
    { t with fcr := { t.fcr with time2Armed := true }, twin := { t.twin with waiting := t.twin.waiting ++ [.snap T] } }

/-- A trigger of a source code arrives; always says that the source's enable does not matter (R433). The answer says whether it was accepted, and whether it was dropped. -/
def State.trigger (s : State) (code : Nat) (always : Bool) : State × Bool × Bool :=
  if !always && !s.bit Reg.FCR_SNAP_CFG code then (s, false, false)
  else if s.defers code then (s.deferCut, false, false)
  else
    let early := match s.fcr.lastTrigger with | some t => decide (s.now < t + 8000) | none => false
    if early then
      let d := s.now - (s.fcr.lastTrigger.getD 0)
      ((s.bump Reg.FCR_SNAP_DROP_CNT).wrN Reg.FCR_SNAP_LAST_DROP (code * 2 ^ 24 + d % 8192), false, true)
    else
      let seq := (s.fld Reg.FCR_SNAP_STATUS 15 0 + 1) % 65536
      let t := ((s.setFld Reg.FCR_SNAP_STATUS 15 0 seq).setFld Reg.FCR_SNAP_STATUS 29 24 code).setBit Reg.FCR_SNAP_STATUS 31 true
      let u := (t.bump Reg.FCR_SNAP_CNT).send (.snapOut s.now)
      ({ u with fcr := { u.fcr with lastTrigger := some s.now, cut := some (seq, s.now), latched := [] } }, true, false)

/-- The record that asked for a trigger notes the cut it got (R437: at most one). -/
def State.recordCut (s : State) : State :=
  let r := s.trigger 1 false
  if r.2.1 then
    let t := r.1.setFld (recA 6) 15 0 (r.1.fld Reg.FCR_SNAP_STATUS 15 0)
    { t with fcr := { t.fcr with cutTaken := true } }
  else if s.defers 1 && s.bit Reg.FCR_SNAP_CFG 1 then
    { r.1 with fcr := { r.1.fcr with cutTaken := true, deferred := some (s.fld (recA 6) 31 16) } }
  else r.1

/-- A raise reaches the FCR and creates or merges; cut says whether it may trigger a snapshot (R428, R429, R437). Second answer: a trigger was dropped. -/
def State.reach (s : State) (src : Nat) (forced late cut : Bool) : State × Bool :=
  let e := s.sevEntry src
  let sev := e % 4
  let min := s.fld Reg.FCR_SNAP_CFG 9 8
  if s.fcr.isOpen then
    let old := s.fld (recA 0) 15 14
    let t := s.mergeRecord src sev forced
    let ask := cut && !t.fcr.cutTaken && ((decide (old < min) && decide (min ≤ sev)) || e.testBit 2)
    if ask then (t.recordCut, (t.trigger 1 false).2.2) else (t, false)
  else
    let t := s.createRecord src sev forced late
    let ask := cut && (decide (min ≤ sev) || e.testBit 2)
    let u := if ask then t.recordCut else t
    let d := ask && (t.trigger 1 false).2.2
    (if sev < 2 then u.closeRecord else u, d)

/-- A fault source rises (R428, R429): its sticky bit sets and the FCR takes it, or keeps it while it is out of RUN (R434). A trigger that the raise asks for and that is dropped raises FCR_SNAP_DROP, which merges like any source. -/
def State.raiseAs (s : State) (src : Nat) (forced : Bool) : State :=
  let t := s.noteRaise src
  if quietSource src then t
  else if s.fcr.inReset then { t with fcr := { t.fcr with lateRaises := t.fcr.lateRaises ++ [(src, forced)] } }
  else
    let r := t.reach src forced false true
    if r.2 then ((r.1.noteRaise Src.FCR_SNAP_DROP).reach Src.FCR_SNAP_DROP false false false).1 else r.1

/-- A fault source rises at a real event. -/
def State.raise (s : State) (src : Nat) : State := s.raiseAs src false

/-- Fault sources rise in turn. -/
def State.raiseAll (s : State) (l : List Nat) : State := l.foldl State.raise s

/-- A fault source rises where a condition holds. -/
def State.raiseIf (s : State) (c : Bool) (src : Nat) : State := if c then s.raise src else s

/-- A snapshot trigger of a source code, with the raise of a dropped one (R437, R438). -/
def State.snapshot (s : State) (code : Nat) (always : Bool) : State :=
  let r := s.trigger code always
  if r.2.2 then r.1.raise Src.FCR_SNAP_DROP else r.1

/-- A watermark whose upward crossing also raises a source. -/
def State.watermarkRaise (s : State) (a level mark hyst src : Nat) : State :=
  let t := s.watermark a level mark hyst
  if !s.bit a 0 && t.bit a 0 then t.raise src else t

end Sys2Proof.Machine
end

