-- ==== Sys2Proof/Machine/Tables.lean ====
section
/-! DEFINITION. The entries of the table memories that several blocks read: SFE stream contexts, FMAC flows, AUD groups and plane lists, and which block produces an essence (Tables 7.2, 8.8, 8.9, 12.3, 3.11; R19, R76). -/

namespace Sys2Proof.Machine

/-- Bits hi:lo of an entry. -/
def bits (e hi lo : Nat) : Nat := (e >>> lo) % 2 ^ (hi + 1 - lo)

/-! Key slots (R396). -/

/-- Address of the status word of slot n. -/
def slotAddr (n : Nat) : Nat := pageAddr 2 0x10 + 0x1000 + 4 * n

/-- Status word of slot n. -/
def State.slotWord (s : State) (n : Nat) : Nat := s.rdN (slotAddr n)

/-- STATE of slot n: 0 EMPTY, 1 VALID, 2 BAD. -/
def State.slotState (s : State) (n : Nat) : Nat := s.slotWord n / 2 ^ 30

/-- USAGE bits of slot n, bit 0 AES to bit 5 MACSEC. -/
def State.slotUsage (s : State) (n : Nat) : Nat := s.slotWord n / 2 ^ 24 % 64

/-! SFE contexts (R181). -/

/-- Address of context i of quad q; dir 0 receive, 1 transmit. -/
def sfeCtxAddr (q dir i : Nat) : Nat := pageAddr 7 (q + 1) + 0x1000 + 0x200 * dir + 16 * i
/-- A context as a number of 128 bits. -/
def State.sfeCtx (s : State) (q dir i : Nat) : Nat := s.entry (sfeCtxAddr q dir i) 4
def ctxEn (e : Nat) : Bool := e.testBit 127
def ctxAsync (e : Nat) : Bool := e.testBit 126
def ctxQlink (e : Nat) : Nat := bits e 125 124
def ctxIface (e : Nat) : Nat := bits e 123 122
def ctxLevelB (e : Nat) : Bool := e.testBit 121
def ctxQuad (e : Nat) : Bool := e.testBit 120
def ctxVideo (e : Nat) : Nat := bits e 119 104
def ctxAnc (e : Nat) : Nat := bits e 103 88
def ctxAud (e : Nat) : Nat := bits e 87 72
def ctxFormat (e : Nat) : Nat := bits e 71 56
def ctxChM1 (e : Nat) : Nat := bits e 55 50
def ctxAud96 (e : Nat) : Bool := e.testBit 49
def ctxQdiv (e : Nat) : Bool := e.testBit 48

/-! FMAC flows (Tables 8.8, 8.9). -/

def rxFlowAddr (q i : Nat) : Nat := pageAddr 8 (q + 1) + 0x2000 + 32 * i
def txFlowAddr (q i : Nat) : Nat := pageAddr 8 (q + 1) + 0x4000 + 32 * i
def State.rxFlow (s : State) (q i : Nat) : Nat := s.entry (rxFlowAddr q i) 8
def State.txFlow (s : State) (q i : Nat) : Nat := s.entry (txFlowAddr q i) 8
def rfEn (e : Nat) : Bool := e.testBit 255
def rfAsync (e : Nat) : Bool := e.testBit 254
def rfKind (e : Nat) : Nat := bits e 253 251
def rfMerge (e : Nat) : Bool := e.testBit 250
def rfPartner (e : Nat) : Nat := bits e 249 242
def rfPorts (e : Nat) : Nat := bits e 241 238
def rfCtx (e : Nat) : Nat := bits e 237 233
def rfEssence (e : Nat) : Nat := bits e 223 208
def rfFormat (e : Nat) : Nat := bits e 207 192
def rfUdpDst (e : Nat) : Nat := bits e 191 176
def rfDstIp (e : Nat) : Nat := bits e 159 128
def rfSrcIp (e : Nat) : Nat := bits e 127 96
def tfEn (e : Nat) : Bool := e.testBit 255
def tfKind (e : Nat) : Nat := bits e 254 252
def tfPortA (e : Nat) : Nat := bits e 251 250
def tfBEn (e : Nat) : Bool := e.testBit 249
def tfPortB (e : Nat) : Nat := bits e 248 247
def tfNl (e : Nat) : Bool := e.testBit 246
def tfPtime1ms (e : Nat) : Bool := e.testBit 245
def tfPkt (e : Nat) : Nat := bits e 244 239
def tfCtx (e : Nat) : Nat := bits e 238 234
def tfEssence (e : Nat) : Nat := bits e 223 208
def tfFormat (e : Nat) : Nat := bits e 207 192

/-! Plane lists (R76). -/

/-- Address of descriptor j of plane p. -/
def descAddr (p j : Nat) : Nat := pageAddr 9 (0x20 + 3 * p + j / 1536) + 0x1000 + 16 * (j % 1536)
/-- Descriptor j of plane p's active list. -/
def State.desc (s : State) (p j : Nat) : Nat := s.entry (descAddr p j) 4
/-- Descriptor j of plane p's shadow list. -/
def State.descShadow (s : State) (p j : Nat) : Nat := s.entry (descAddr p j + 0x8000) 4
/-- Descriptors in plane p's active list. -/
def State.listLen (s : State) (p : Nat) : Nat := s.fld (Reg.CXF_PL_LIST_LEN (p + 1)) 12 0
/-- The active list of plane p up to its first END. -/
def State.planeList (s : State) (p : Nat) : List Nat := listCounted ((List.range (s.listLen p)).map (s.desc p))

/-- The 16 planes. -/
def planeNos : List Nat := List.range 16

/-- The RUNs that name a destination, with their plane, in plane and index order. -/
def State.runsTo (s : State) (dst : Nat) : List Nat :=
  planeNos.flatMap (fun p => (s.planeList p).filter (fun d => dKind d == 1 && dDst d == dst))

/-- The source in force in an output's runs; 0xFFFF where it is parked or has none (R478). -/
def State.sourceOf (s : State) (dst : Nat) : Nat := match s.runsTo dst with | d :: _ => dSrc d | [] => 0xFFFF

/-! Producers (R19). -/

/-- Table entries that produce an essence, found among the listed words: the state page of the block that owns the entry. -/
def producerIn (essence : Nat) (rd : Nat → Nat) (c : Nat × W) : Option Nat :=
  let a := c.1
  let o := offOf a
  let w := c.2.toNat
  if 2 ^ 32 ≤ a ∨ w < 2 ^ 31 then none
  else if blockOf a = 7 ∧ inR 0x1000 0x11FF o ∧ o % 16 = 12 then
    let e := rd (a - 12) + rd (a - 8) * 2 ^ 32 + rd (a - 4) * 2 ^ 64 + w * 2 ^ 96
    if ctxVideo e = essence ∨ ctxAnc e = essence ∨ ctxAud e = essence then some (pageOf a) else none
  else if blockOf a = 8 ∧ inR 0x2000 0x3FFF o ∧ o % 32 = 28 then
    if rd (a - 4) / 65536 = essence ∧ bits w 29 27 ≠ 4 then some (pageOf a) else none
  else if blockOf a = 14 ∧ pageNo a = 0x23 ∧ inR 0x1000 0x1FFF o ∧ o % 8 = 4 then
    if bits w 29 14 = essence then some (pageAddr 14 0) else none
  else none

/-- An active SYNC or MERGE slot of the frame store names the essence, so that the store presents it (R232, R236). -/
def State.syncs (s : State) (essence : Nat) : Bool :=
  s.regs.any (fun c =>
    decide (c.1 < 2 ^ 32) && blockOf c.1 == 11 && inR 0x20 0x27 (pageNo c.1) && inR 0x1000 0x6FFF (offOf c.1) && offOf c.1 % 32 == 12 &&
    c.2.toNat % 65536 == essence && (s.rdN (c.1 - 12) % 256 == 1 || s.rdN (c.1 - 12) % 256 == 3))

/-- State page of the block that produces an essence into its ingress buffer; none where no entry names it. -/
def State.producer (s : State) (essence : Nat) : Option Nat :=
  if 0x4000 ≤ essence ∧ essence ≤ 0x43FF then some (pageAddr 11 0)
  else if s.syncs essence then some (pageAddr 11 0)
  else if 0x4400 ≤ essence ∧ essence ≤ 0x443F then some (pageAddr 12 0)
  else s.regs.findSome? (producerIn essence s.rdN)

/-- The producer of an essence is in a state other than RUN (R19); an essence that no entry produces is one that was never begun (R65). -/
def State.producerDown (s : State) (essence : Nat) : Bool :=
  match s.producer essence with
  | some p => s.fld (hSTATE p) 3 0 != sRUN
  | none => false

end Sys2Proof.Machine
end

