-- ==== Sys2Proof/Machine/Slots.lean ====
section
/-! DEFINITION. The slot plan of the frame store: slot entries, the checks of Table 9.2, and cells in the window (R226, R229 to R231). -/

namespace Sys2Proof.Machine

/-! Entries (Table 9.1). -/

def slType (e : Nat) : Nat := bits e 7 0
def slStack (e : Nat) : Nat := bits e 15 8
def slFrames (e : Nat) : Nat := bits e 31 16
def slBase (e : Nat) : Nat := bits e 63 32
def slSize (e : Nat) : Nat := bits e 95 64
def slEss (e : Nat) : Nat := bits e 111 96
def slAuxA (e : Nat) : Nat := bits e 127 112
def slAuxB (e : Nat) : Nat := bits e 143 128
def slOut (e : Nat) : Nat := bits e 159 144
def slFormat (e : Nat) : Nat := bits e 175 160
def slParam (e : Nat) : Nat := bits e 223 192
def slBw (e : Nat) : Nat := bits e 255 224

/-- Address of slot j's entry (run-time layout of the slot plan). -/
def fstSlotAddr (j : Nat) : Nat := pageAddr 11 (0x20 + j / 768) + 0x1000 + 32 * (j % 768)

/-- Slot number of a slot-table address. -/
def slotNo (a : Nat) : Nat := (pageNo a - 0x20) * 768 + (offOf a - 0x1000) / 32

/-- Slots with a TYPE other than 0 in the active table (shift 0) or in its shadow (shift 0x8000), in slot order, with their entries. -/
def State.slotsAt (s : State) (shift : Nat) : List (Nat × Nat) :=
  s.regs.filterMap (fun c =>
    let a := c.1 - shift
    if shift ≤ c.1 ∧ c.1 < 2 ^ 32 ∧ blockOf a = 11 ∧ inR 0x20 0x27 (pageNo a) ∧ inR 0x1000 0x6FFF (offOf a) ∧ offOf a % 32 = 0 ∧ c.2.toNat % 256 ≠ 0
    then some (slotNo a, s.entry c.1 8) else none)

/-- The active slots. -/
def State.activeSlots (s : State) : List (Nat × Nat) := s.slotsAt 0

/-! Sizes. -/

/-- Active lines of a raster. -/
def activeLines (r : Nat) : Nat :=
  ((rasterRange1 r).2 + 1 - (rasterRange1 r).1) + ((rasterRange2 r).2 + 1 - (rasterRange2 r).1)

/-- Place of an active line among the active lines of its frame. -/
def lineIndex (r l : Nat) : Nat :=
  if l ≤ (rasterRange1 r).2 then l - (rasterRange1 r).1
  else (rasterRange1 r).2 + 1 - (rasterRange1 r).1 + (l - (rasterRange2 r).1)

/-- Cells of one frame (video) or of one 125 µs block (audio, ancillary). -/
def fmtCells (f : Nat) : Nat := if fmtKind f = 0 then activeLines (fmtRaster f) else 1

/-- Payload tokens reserved for a cell of a format: its largest payload; 0 for ancillary formats, for which the spec states none (log entry 20). -/
def fmtTokens (f : Nat) : Nat :=
  match fmtKind f with
  | 0 => videoTokens f
  | 1 => ceilDiv (ceilDiv (audioHz (fmtAudioRate f)) 8000 * fmtChannels f) 16
  | _ => 0

/-- Frame period (video) or 125 µs as a fraction of ns: numerator and denominator. -/
def fmtPeriod (f : Nat) : Nat × Nat :=
  if fmtKind f = 0 then (1000000000 * (rateFrac (fmtRate f)).2, (rateFrac (fmtRate f)).1) else (125000, 1)

/-- Whole periods of a format in t ns, rounded up. -/
def periodsUp (f t : Nat) : Nat := ceilDiv (t * (fmtPeriod f).2) (fmtPeriod f).1

/-- n periods of a format in ns. -/
def periodsNs (f n : Nat) : Nat := n * (fmtPeriod f).1 / (fmtPeriod f).2

/-! The window (R226). -/

/-- Window offset of cell index i of frame position n of a slot; the spec gives the size that a slot needs and the order of a cell's tokens, and the cells are taken in frame order (log entry 20). -/
def cellOffset (e n i : Nat) : Nat :=
  slStack e % 4 * 0x400000000 + slBase e * 4096 + (n % max 1 (slFrames e) * fmtCells (slFormat e) + i) * ((1 + fmtTokens (slFormat e)) * 64)

/-- Device address of the frame-store window. -/
def storeBase : Nat := 0x1000000000

/-- A cell from the bytes of its descriptor token (Table 3.2), most significant byte first, and its payload. -/
def cellOfBytes (d : Nat) (payload : List Byte) : LineCell :=
  { essence := bits d 511 496, format := bits d 495 480, frameCount := bits d 479 456, line := bits d 455 443, field2 := d.testBit 442,
    seq := bits d 439 408, ptpTime := bits d 407 344, flags := bits d 334 320, outputId := bits d 319 304, units := bits d 303 288,
    payload := payload, pcrc := bits d 63 32, dcrc := bits d 31 0 }

/-- PAYLOAD_LEN of a descriptor token. -/
def descPayloadLen (d : Nat) : Nat := bits d 343 335

/-- The cell stored at a window offset. -/
def State.loadCell (s : State) (off : Nat) : LineCell :=
  let d := ofBytesBE (s.rdBytes (storeBase + off) 64)
  cellOfBytes d (s.rdBytes (storeBase + off + 64) (64 * min 320 (descPayloadLen d)))

/-! The checks at a flip (Table 9.2). -/

/-- ESS and the other IDs of a slot lie where its TYPE puts them (Table 9.1, R63). -/
def slotIdsOk (e : Nat) : Bool :=
  let none' := fun (v : Nat) => v == 0xFFFF
  let inp := fun (v : Nat) => essenceRole v == .input
  match slType e with
  | 1 => inp (slEss e) && essenceKind (slEss e) == some 0 && (none' (slAuxA e) || (inp (slAuxA e) && essenceKind (slAuxA e) == some 1)) &&
      (none' (slAuxB e) || (inp (slAuxB e) && essenceKind (slAuxB e) == some 2)) && none' (slOut e)
  | 2 => inR 0xC000 0xC3FF (slEss e) && none' (slAuxA e) && none' (slAuxB e) && inR 0x4000 0x43FF (slOut e)
  | 3 => inp (slEss e) && inp (slAuxA e) && kindsAgree (slEss e) (slAuxA e) && none' (slAuxB e) && none' (slOut e)
  | 4 => none' (slEss e) && none' (slAuxA e) && none' (slAuxB e) && inR 0x4000 0x43FF (slOut e)
  | _ => none' (slEss e) && none' (slAuxA e) && none' (slAuxB e) && none' (slOut e)

/-- The format of a slot is valid and has the kind of its essence. -/
def slotFormatOk (e : Nat) : Bool :=
  slType e == 7 || (formatValid (slFormat e) &&
    (match essenceKind (slEss e) with | some k => k == fmtKind (slFormat e) | none => true))

/-- Essences that an asynchronous receive context or flow names: SFE contexts as they stand, FMAC flows in the copy that will be active (R230). -/
def State.asyncEssence (s : State) (x : Nat) : Bool :=
  s.regs.any (fun c =>
    let a := c.1
    let o := offOf a
    if 2 ^ 32 ≤ a ∨ c.2.toNat < 0xC0000000 then false
    else if blockOf a = 7 ∧ inR 0x1000 0x11FF o ∧ o % 16 = 12 then
      let e := s.entry (a - 12) 4
      ctxVideo e == x || ctxAnc e == x || ctxAud e == x
    else if blockOf a = 8 ∧ (if s.shadowHeld (pageOf a) then inR 0xA000 0xBFFF o else inR 0x2000 0x3FFF o) ∧ o % 32 = 28 then
      s.rdN (a - 4) / 65536 == x
    else false)

/-- A slot entry fails check 1 of Table 9.2. -/
def State.slotBad (s : State) (e : Nat) : Bool :=
  let f := slFormat e
  let t := slType e
  decide (7 < t) || decide (3 < slStack e) || slFrames e == 0 || decide (4194304 < slBase e + slSize e) || !slotIdsOk e || !slotFormatOk e ||
  (t != 7 && decide (slSize e * 4096 < slFrames e * fmtCells f * (1 + fmtTokens f) * 64)) ||
  ((t == 1 || t == 3) && !s.asyncEssence (slEss e)) ||
  (t == 2 && ((slParam e * 1000 * (fmtPeriod f).2) % (fmtPeriod f).1 != 0 ||
    decide (slFrames e * (fmtPeriod f).1 < slParam e * 1000 * (fmtPeriod f).2)))

/-- Two entries share a byte. -/
def slotsOverlap (a b : Nat) : Bool :=
  slStack a == slStack b && decide (slBase a < slBase b + slSize b) && decide (slBase b < slBase a + slSize a)

/-- The essence IDs of an entry other than 0xFFFF. -/
def slotIds (e : Nat) : List Nat := [slEss e, slAuxA e, slAuxB e, slOut e].filter (fun v => v != 0xFFFF)

/-- The first slot that a test of a slot against the slots before it catches. -/
def firstSlot (p : List (Nat × Nat) → Nat × Nat → Bool) : List (Nat × Nat) → List (Nat × Nat) → Option Nat
  | _, [] => none
  | before, x :: r => if p before x then some x.1 else firstSlot p (before ++ [x]) r

/-- Duplicates within a list. -/
def hasDup : List Nat → Bool
  | [] => false
  | x :: r => r.contains x || hasDup r

/-- The first failing check of Table 9.2 with its first failing slot; code 0 where all pass. -/
def State.slotCheck (s : State) (l : List (Nat × Nat)) (shares : List Nat) : Nat × Nat :=
  match firstSlot (fun _ x => s.slotBad x.2) [] l with
  | some j => (1, j)
  | none =>
    match firstSlot (fun b x => b.any (fun y => slotsOverlap y.2 x.2)) [] l with
    | some j => (2, j)
    | none =>
      match firstSlot (fun b x => decide (680000 < (((b ++ [x]).filter (fun y => slStack y.2 == slStack x.2)).map (fun y => slBw y.2)).sum)) [] l with
      | some j => (3, j)
      | none =>
        if 16384 < shares.sum then (4, 0)
        else
          match firstSlot (fun b x => hasDup (slotIds x.2) || b.any (fun y => (slotIds x.2).any (fun v => (slotIds y.2).contains v))) [] l with
          | some j => (5, j)
          | none => (0, 0)

/-- The FST's check of its shadow at a commit point: it passes, or FST_REFUSAL takes the code and FST_FLIP_REFUSED rises (R230). -/
def State.fstCheck (s : State) : State × Bool :=
  let r := s.slotCheck (s.slotsAt 0x8000) ((List.range 8).map (fun i => Machine.fld (s.rd (Reg.FST_POOL_SHARE i + 0x8000)) 14 0))
  if r.1 = 0 then (s, true) else ((s.wrN Reg.FST_REFUSAL (r.1 * 2 ^ 28 + r.2 % 8192)).raise Src.FST_FLIP_REFUSED, false)

/-- Bytes of active samples in a line (R69). -/
def lineBytes (f : Nat) : Nat := rasterWidth (fmtRaster f) * components (fmtSampling f) * depthBits (fmtDepth f) / 8

/-! What the compositor and the scan-out declare (R246, R271). -/

/-- EN of engine e's active program. -/
def State.engineOn (s : State) (e : Nat) : Bool := s.running 12 && s.bit (Reg.PXP_E_CFG (e + 1)) 31

/-- Any engine is in use. -/
def State.enginesOn (s : State) : Bool := (List.range 64).any s.engineOn

def mrsKind (w : Nat) : Nat := w / 2 ^ 30
def mrsEngine (w : Nat) : Nat := w / 2 ^ 24 % 64
def mrsSlot (w : Nat) : Nat := w % 8192

/-- Slot j's active entry. -/
def State.slotEntry (s : State) (j : Nat) : Nat := s.entry (fstSlotAddr j) 8

/-- Format of the slot that a source word names. -/
def State.mrsFormat (s : State) (w : Nat) : Nat := slFormat (s.slotEntry (mrsSlot w))

/-- LB_LINES: lines of the source that 256 KiB hold (R270). -/
def State.lbLines (s : State) (w : Nat) : Nat := 262144 / lineBytes (s.mrsFormat w)

/-- MRS_TOL (R271). -/
def State.mrsTol (s : State) : Nat :=
  let w := s.rdN Reg.MRS_SRC
  if mrsKind w = 0 then 0xFFFF
  else min 0xFFFF ((s.lbLines w - s.fld Reg.MRS_LB_MARK 7 0 - 1) * s.fld Reg.MRS_H_TIMING 31 16 * 1000 / s.fld Reg.MRS_PCLK 19 0)

/-! Latency tolerances (R240). -/

/-- Declared bandwidth of a stack in MB/s: the BW of its slots. -/
def State.stackBw (s : State) (st : Nat) : Nat := ((s.activeSlots.filter (fun x => slStack x.2 == st)).map (fun x => slBw x.2)).sum

/-- Write tolerance of a stack in µs: its 4 MiB write buffer over its declared write bandwidth, half of the reads and writes that BW declares; unbounded without any (log entry 21). -/
def State.writeTol (s : State) (st : Nat) : Nat := if s.stackBw st / 2 = 0 then 0xFFFF else min 0xFFFF (4194304 / (s.stackBw st / 2))

/-- FST_TOL of a class (the tolerance table of ch. 9; classes 4 and 5 as their units declare them; classes 2 and 7, for which none is stated, unbounded: log entry 21). -/
def State.tolerance (s : State) (cls : Nat) : Nat :=
  match cls with
  | 0 => s.epochNs / 2000
  | 1 => min (min (s.writeTol 0) (s.writeTol 1)) (min (s.writeTol 2) (s.writeTol 3))
  | 3 => s.fld Reg.FST_HOST_TOL 15 0
  | 4 => if s.enginesOn then 100 else 0xFFFF
  | 5 => s.mrsTol
  | _ => 0xFFFF

/-- FST_S_TOL_MIN of a stack: the smallest tolerance among its active classes; the host's counts always, the PXP's and the MRS's while they run with slots there (log entry 21). -/
def State.tolMin (s : State) (st : Nat) : Nat :=
  let l := s.activeSlots.filter (fun x => slStack x.2 == st)
  let has := fun (t : Nat) => l.any (fun x => slType x.2 == t)
  let fab := has 1 || has 2 || has 3 || has 4
  let a := if fab then min (s.tolerance 0) (s.writeTol st) else 0xFFFF
  let b := if s.running 12 && has 5 then s.tolerance 4 else 0xFFFF
  let c := if s.running 13 && has 6 then s.tolerance 5 else 0xFFFF
  min (min a b) (min c (s.tolerance 3))

/-- A stack is in power-down. -/
def State.stackDown (s : State) (st : Nat) : Bool := s.store.down.any (fun d => d.1 == st)

end Sys2Proof.Machine
end

