-- ==== Sys2Proof/Machine/Loads.lean ====
section
/-! DEFINITION. Loads that the units report and check: SDI bursts on SLF lanes and media flows on Ethernet ports (R166, R167, R178, R221, Tables 7.1, 8.1). -/

namespace Sys2Proof.Machine

/-! SDI interfaces (Table 7.1). -/

/-- Rates 23.98 to 30 and 47.95 to 60 of Table 3.4. -/
def slowRate (r : Nat) : Bool := Nat.ble r 4
def fastRate (r : Nat) : Bool := inR 5 9 r

/-- A raster and rate that HD-SDI carries. -/
def hdFormat (f : Nat) : Bool :=
  let r := fmtRaster f
  let x := fmtRate f
  (r == 0 && inR 7 9 x) || ((r == 1 || r == 2) && (x == 2 || x == 3 || x == 4)) || (r == 3 && slowRate x)

/-- IFACE, LEVEL_B and FORMAT together lie in Table 7.1; a link of a quad link carries a UHD picture over 3G-SDI (R179). -/
def ifaceOk (e : Nat) : Bool :=
  let f := ctxFormat e
  let r := fmtRaster f
  let x := fmtRate f
  let uhd := r == 4 || r == 6
  formatValid f && fmtKind f == 0 &&
  match ctxIface e with
  | 0 => !ctxLevelB e && !ctxQuad e && hdFormat f
  | 1 => if ctxQuad e then uhd && (slowRate x || fastRate x) else ((r == 3 || r == 5) && fastRate x) || hdFormat f
  | 2 => !ctxLevelB e && !ctxQuad e && uhd && slowRate x
  | _ => !ctxLevelB e && !ctxQuad e && uhd && fastRate x

/-- The interface carries 1,125 lines for a UHD picture: four 3G links. -/
def burstRaster (e : Nat) : Nat := if ctxQuad e then 3 else fmtRaster (ctxFormat e)

/-- Words of one burst (Table 7.1): the total samples of a line of the burst's raster, in two data streams or four. -/
def burstWords (e : Nat) : Nat :=
  (if ctxLevelB e then 4 else 2) * lineSamples (burstRaster e) (fmtRate (ctxFormat e))

/-- Bursts per frame (Table 7.1). -/
def burstsPerFrame (e : Nat) : Nat := rasterTotal (burstRaster e)

/-- Blocks of a burst of some words: its BURST, data and END blocks (R166). -/
def burstBlocks (words : Nat) : Nat := ceilDiv (10 * words) 64 + 2

/-- Rate of a format as frames in 1,001 seconds. -/
def rate1001 (r : Nat) : Nat := (rateFrac r).1 * (1001 / (rateFrac r).2)

/-- Line rate in bit/s of a rate code (Table 6.1). -/
def lineRate (code : Nat) : Nat :=
  match code with | 0 => 10312500000 | 1 => 12500000000 | 2 => 25781250000 | _ => 28125000000

/-- The rate code is an SLF rate (Table 6.1). -/
def slfRate (code : Nat) : Bool := code % 2 == 1

/-- Transmit stream x of lane index n of quad q is enabled; ignored at Ethernet rates. -/
def State.streamOn (s : State) (q n x : Nat) : Bool :=
  slfRate (s.fld (Reg.SLC_Q_CFG (q + 1)) 5 4) && s.bit (Reg.SLC_Q_STREAMS (q + 1)) (8 * n + x)

/-- Load of lane index n of quad q (R167): blocks in 1,001 seconds of the enabled streams, by their transmit contexts. -/
def State.slfBlocks (s : State) (q n : Nat) : Nat :=
  ((List.range 8).map (fun x =>
    if s.streamOn q n x then
      let e := s.sfeCtx q 1 (8 * n + x)
      burstBlocks (burstWords e) * burstsPerFrame e * rate1001 (fmtRate (ctxFormat e))
    else 0)).sum

/-- A load of lane index n exceeds p parts of 100 of the lane's blocks. -/
def State.slfOver (s : State) (q n p : Nat) : Bool :=
  decide (lineRate (s.fld (Reg.SLC_Q_CFG (q + 1)) 5 4) * 1001 * p < s.slfBlocks q n * 66 * 100)

/-- SLC_Q_TX_LOAD: each lane's load in 0.5 % units, rounded up. -/
def State.txLoadWord (s : State) (q : Nat) : Nat :=
  ((List.range 4).map (fun n =>
    min 255 (ceilDiv (s.slfBlocks q n * 66 * 200) (lineRate (s.fld (Reg.SLC_Q_CFG (q + 1)) 5 4) * 1001)) * 256 ^ n)).sum

/-! Ethernet ports (Table 8.1, R221). -/

/-- MODE of MAC q. -/
def State.macMode (s : State) (q : Nat) : Nat := s.fld (Reg.FMAC_M_CFG (q + 1)) 31 30
/-- Ports of a mode. -/
def modePorts (m : Nat) : Nat := match m with | 0 => 4 | 1 => 4 | 2 => 2 | _ => 1
/-- MAC rate in bit/s of a mode's ports. -/
def portRate (m : Nat) : Nat := match m with | 0 => 10000000000 | 1 => 25000000000 | 2 => 50000000000 | _ => 100000000000
/-- SLC rate code of a mode. -/
def modeRate (m : Nat) : Nat := if m = 0 then 0 else 2

def tfDstA (e : Nat) : Nat := bits e 159 128
def tfDstB (e : Nat) : Nat := bits e 127 96
def tfUdpSrc (e : Nat) : Nat := bits e 191 176
def tfUdpDst (e : Nat) : Nat := bits e 175 160
def tfSsrc (e : Nat) : Nat := bits e 95 64
def tfPt (e : Nat) : Nat := bits e 63 57
def tfPcp (e : Nat) : Nat := bits e 56 54
def tfDscp (e : Nat) : Nat := bits e 53 48
def tfVid (e : Nat) : Nat := bits e 47 36
def tfTtl (e : Nat) : Nat := bits e 35 28

/-- Lines of one frame, or of one field of an interlaced or segmented raster, as a -20 flow packs them. -/
def packLines (f : Nat) : Nat := if interlaced (fmtRaster f) then activeLines (fmtRaster f) / 2 else activeLines (fmtRaster f)

/-- Fields or frames in one frame period. -/
def packParts (f : Nat) : Nat := if interlaced (fmtRaster f) then 2 else 1

/-- Bytes of sample rows in a -20 packet. -/
def pktBytes (e : Nat) : Nat := 180 * tfPkt e

/-- Packets of a frame or field of a -20 flow. -/
def partPackets (e : Nat) : Nat := ceilDiv (packLines (tfFormat e) * lineBytes (tfFormat e)) (pktBytes e)

/-- Internal line ends that fall inside a packet of a frame or field. -/
def crossings (e : Nat) : Nat :=
  ((List.range (packLines (tfFormat e) - 1)).filter (fun l => (l + 1) * lineBytes (tfFormat e) % pktBytes e != 0)).length

/-- Wire bytes of a packet besides its UDP payload: preamble, headers with or without the tag, FCS and gap. -/
def wireOverhead (e : Nat) : Nat := 8 + 14 + (if tfVid e = 0 then 0 else 4) + 20 + 8 + 4 + 12

/-- Wire bytes of a packet with n bytes of UDP payload; an Ethernet frame is at least 64 bytes long. -/
def wireBytes (e n : Nat) : Nat := max (wireOverhead e + n) 84

/-- Bytes of an audio sample of a -30 or -31 flow: L24, L16 by FORMAT bit 3, or AM824 (R215). -/
def audioBytes (e : Nat) : Nat := if tfKind e = 2 then 4 else if tfFormat e / 8 % 2 = 1 then 2 else 3

/-- Samples per channel in an audio packet. -/
def packetSamples (e : Nat) : Nat := audioHz (fmtAudioRate (tfFormat e)) / (if tfPtime1ms e then 1000 else 8000)

/-- Video format whose frames time an ancillary output: that of the output it follows (Table 4.5 LINK; else log entry 30). -/
def State.ancVideo (s : State) (id : Nat) : Nat :=
  let l := match s.fabric.image with | some i => i.outputs | none => []
  let linked := (l.find? (fun o => o.id == id && o.boundary == 4)).bind (fun o => l.find? (fun v => v.id == o.link))
  match linked with | some v => v.format | none => (Config.ancVideo id).toNat

/-- Bytes on the wire in 1,001 seconds of one leg of a flow at its nominal rate (R221); a -40 flow counts its packets without ancillary content, and a 2022-6 datagram carries the 8-byte header of ST 2022-6 (log entry 23). -/
def State.legBytes (s : State) (q e : Nat) : Nat :=
  let f := tfFormat e
  match tfKind e with
  | 0 => rate1001 (fmtRate f) * packParts f *
      (partPackets e * (wireOverhead e + 14) + packLines f * lineBytes f + 6 * (partPackets e + crossings e))
  | 3 => rate1001 (fmtRate (s.ancVideo (tfEssence e))) * packParts (s.ancVideo (tfEssence e)) * tfPkt e * wireBytes e 20
  | 4 =>
    let c := s.sfeCtx q 1 (tfCtx e)
    ceilDiv (rate1001 (fmtRate (ctxFormat c)) * burstsPerFrame c * burstWords c * 10) (1376 * 8) * wireBytes e 1396
  | _ => 1001 * (if tfPtime1ms e then 1000 else 8000) * wireBytes e (12 + packetSamples e * fmtChannels f * audioBytes e)

/-- The transmit flows of MAC q in the table at a shift (0 active, 0x8000 shadow), with their index. -/
def State.txFlows (s : State) (q shift : Nat) : List (Nat × Nat) :=
  s.regs.filterMap (fun c =>
    let a := c.1 - shift
    if shift ≤ c.1 ∧ c.1 < 2 ^ 32 ∧ blockOf a = 8 ∧ pageNo a = q + 1 ∧ inR 0x4000 0x5FFF (offOf a) ∧ offOf a % 32 = 28 ∧ 2 ^ 31 ≤ c.2.toNat
    then some ((offOf a - 0x4000) / 32, s.entry (c.1 - 28) 8) else none)

/-- An ST 2022-6 flow of MAC q carries what transmit context i of its quad builds (R215). -/
def State.sixFlow (s : State) (q i : Nat) : Bool := (s.txFlows q 0).any (fun x => tfKind x.2 == 4 && tfCtx x.2 == i)

/-- Bytes in 1,001 seconds on port n of MAC q. -/
def State.portBytes (s : State) (q n shift : Nat) : Nat :=
  ((s.txFlows q shift).map (fun x =>
    (if tfPortA x.2 = n then s.legBytes q x.2 else 0) + (if tfBEn x.2 && tfPortB x.2 == n then s.legBytes q x.2 else 0))).sum

/-- A port's load exceeds 97 % (R221). -/
def State.portOver (s : State) (q n shift : Nat) : Bool :=
  decide (portRate (s.macMode q) * 1001 * 97 < s.portBytes q n shift * 8 * 100)

/-- FMAC_M_TX_LOAD: each port's load in 0.5 % units, rounded up. -/
def State.macLoadWord (s : State) (q : Nat) : Nat :=
  ((List.range (modePorts (s.macMode q))).map (fun n =>
    min 255 (ceilDiv (s.portBytes q n 0 * 8 * 200) (portRate (s.macMode q) * 1001)) * 256 ^ n)).sum

/-! MACsec associations (Table 8.12). -/

/-- Page of MAC q. -/
def macPage (q : Nat) : Nat := pageAddr 8 (q + 1)

/-- Address of SA entry j of port n of MAC q. -/
def saAddr (q n j : Nat) : Nat := macPage q + 0x7000 + 32 * (10 * n + j)
def State.sa (s : State) (q n j : Nat) : Nat := s.entry (saAddr q n j) 8
def saSlot (e : Nat) : Nat := bits e 249 244
def saXpn (e : Nat) : Bool := e.testBit 243
def saConf (e : Nat) : Bool := e.testBit 242
def saSci (e : Nat) : Nat := bits e 223 160
def saSsci (e : Nat) : Nat := bits e 159 128
def saPn (e : Nat) : Nat := bits e 127 64

/-- An SA entry is in use: enabled, of the wanted direction, and its slot is valid with MACSEC usage (R400). -/
def State.saUsable (s : State) (e : Nat) (rx : Bool) : Bool :=
  e.testBit 255 && e.testBit 254 == rx && s.slotState (saSlot e) == 1 && (s.slotUsage (saSlot e)).testBit 5

/-- Range of the packet numbers of an SA. -/
def saRange (e : Nat) : Nat := if saXpn e then 2 ^ 64 else 2 ^ 32

/-- No number is left: the next PN lies outside the range; 0 is what follows the last 64-bit one (log entry 27). -/
def saExhausted (e : Nat) : Bool := decide (saRange e ≤ saPn e) || saPn e == 0

/-- The next PN is in the last quarter of the range. -/
def saNear (e : Nat) : Bool := decide (3 * (saRange e / 4) ≤ saPn e)

/-- TX_AN of port n of MAC q. -/
def State.txAn (s : State) (q n : Nat) : Nat := s.rdN (hid (Reg.FMAC_M_SEC_STATUS (q + 1)) n) / 2 ^ 30 % 4

/-- Index of the transmit SA in use on a port. -/
def State.txSa (s : State) (q n : Nat) : Option Nat :=
  [0, 1].find? (fun j => let e := s.sa q n j; s.saUsable e false && bits e 253 252 == s.txAn q n)

/-- The word FMAC_M_SEC_STATUS of port n of MAC q (Table 8.18). -/
def State.secStatus (s : State) (q n : Nat) : Nat :=
  let e := match s.txSa q n with | some j => s.sa q n j | none => 1 * 2 ^ 64
  let rx := (List.range 8).map (fun j => s.sa q n (j + 2))
  s.txAn q n * 2 ^ 30 + b2n (saNear e) * 2 ^ 29 + b2n (saExhausted e) * 2 ^ 28 +
    maskOf 4 (fun c => rx.any (fun x => x.testBit 255 && x.testBit 254 && bits x 251 250 == c)) * 2 ^ 16

/-! Layer engines (Tables 10.2, 10.9; R245). -/

/-- Page of engine e. -/
def enginePage (e : Nat) : Nat := pageAddr 12 (e + 1)
/-- Layer l of engine e in the active program (shift 0) or its shadow (shift 0x8000). -/
def State.layer (s : State) (e l shift : Nat) : Nat := s.entry (enginePage e + 0x1000 + 32 * l + shift) 8
def State.engineCfg (s : State) (e shift : Nat) : Nat := s.rdN (Reg.PXP_E_CFG (e + 1) + shift)
def State.engineFormat (s : State) (e shift : Nat) : Nat := s.rdN (Reg.PXP_E_FORMAT (e + 1) + shift) % 65536
def egLayers (cfg : Nat) : Nat := cfg / 2 ^ 24 % 64
def egSlot (cfg : Nat) : Nat := cfg % 8192
def lyEn (e : Nat) : Bool := e.testBit 255
def lyKind (e : Nat) : Nat := bits e 254 253
def lyKey (e : Nat) : Nat := bits e 251 250
def lyKeyLayer (e : Nat) : Nat := bits e 248 244
def lyLo (e : Nat) : Nat := bits e 233 224
def lyHi (e : Nat) : Nat := bits e 223 214
def lySlot (e : Nat) : Nat := bits e 213 201
def lyPosX (e : Nat) : Int := signed 14 (bits e 200 187)
def lyPosY (e : Nat) : Int := signed 14 (bits e 186 173)
def lyCropX (e : Nat) : Nat := bits e 172 160
def lyCropY (e : Nat) : Nat := bits e 159 147
def lyCropW (e : Nat) : Nat := bits e 146 134
def lyCropH (e : Nat) : Nat := bits e 133 121
def lyFenceEn (e : Nat) : Bool := e.testBit 120
def lyFence (e : Nat) : Nat := bits e 119 112
def lyFenceVal (e : Nat) : Nat := bits e 111 80

/-- The layers of a program below NLAYERS, in order. -/
def State.engineLayers (s : State) (e shift : Nat) : List Nat :=
  (List.range (min 32 (egLayers (s.engineCfg e shift)))).map (fun l => s.layer e l shift)

/-- Weight of an engine (R245). -/
def State.engineWeight (s : State) (e shift : Nat) : Nat :=
  ((s.engineLayers e shift).filter lyEn).length * (if inR 10 12 (fmtRate (s.engineFormat e shift)) then 2 else 1)

/-- Engine e at work. -/
def State.engine (s : State) (e : Nat) : EngineRun := (kget s.engines e).getD {}
def State.setEngine (s : State) (e : Nat) (x : EngineRun) : State := { s with engines := kput s.engines e x }

/-! Audio groups, channels and ports (Tables 12.3, 12.4, 12.8 to 12.10). -/

/-- Source group g, sink group k and channel entry j of the active map (shift 0) or its shadow (shift 0x8000). -/
def State.audSource (s : State) (g shift : Nat) : Nat := s.entry (pageAddr 14 0x23 + 0x1000 + 8 * g + shift) 2
def State.audSink (s : State) (k shift : Nat) : Nat := s.entry (pageAddr 14 0x23 + 0x2000 + 8 * k + shift) 2
def State.chanEntry (s : State) (j shift : Nat) : Nat := s.entry (pageAddr 14 (0x20 + j / 1536) + 0x1000 + 16 * (j % 1536) + shift) 4
def agEn (e : Nat) : Bool := e.testBit 63
def agShuffle (e : Nat) : Bool := e.testBit 62
def agId (e : Nat) : Nat := bits e 61 46
def agFirst (e : Nat) : Nat := bits e 45 34
def agChannels (e : Nat) : Nat := bits e 33 28 + 1
def agRate (e : Nat) : Nat := bits e 27 25
def agNonPcm (e : Nat) : Bool := e.testBit 24
/-- FORMAT of a source group's cells (R290). -/
def agFormat (e : Nat) : Nat := 0x4000 + (agChannels e - 1) * 256 + agRate e * 32 + b2n (agNonPcm e) * 16
def asFormat (e : Nat) : Nat := bits e 45 30
def chKind (e : Nat) : Nat := bits e 127 125
def chSrc (e : Nat) : Nat := bits e 124 116
def chSub (e : Nat) : Nat := bits e 115 110
def chFade (e : Nat) : Nat := bits e 109 98
def chAt (e : Nat) : Nat := bits e 63 0
/-- KIND, SRC and SUB of a channel entry as one code; 0 is silence. -/
def chCode (e : Nat) : Nat := if chKind e = 0 then 0 else bits e 127 110

/-- Port page of AES3 port p (0 to 63) or word-select port (64 to 67 inputs, 68 to 71 outputs). -/
def portPage (x : Nat) : Nat := if x < 64 then x + 1 else 65 + x % 4
/-- CFG word of a port. -/
def State.portCfg (s : State) (x : Nat) : Nat := s.rdN (Reg.AUD_A_IN_CFG (portPage x))
/-- Output word of a port: AUD_A_OUT_CFG or AUD_W_OUT. -/
def State.portOut (s : State) (x shift : Nat) : Nat :=
  if x < 64 then s.rdN (Reg.AUD_A_OUT_CFG (x + 1) + shift) else s.rdN (Reg.AUD_W_OUT (portPage x) + shift)
def cfgRate (w : Nat) : Nat := w % 8
/-- A RATE code belongs to the family that RTU_ACLK.AFAM selects (R278). -/
def State.inFamily (s : State) (rate : Nat) : Bool :=
  if s.bit Reg.RTU_ACLK 31 then rate == 1 || rate == 3 || rate == 5 else rate == 0 || rate == 2 || rate == 4 || rate == 6
/-- A port at work. -/
def State.audPort (s : State) (x : Nat) : AudPort := (kget s.aud.ports x).getD {}

/-! Timing of the scan-out (R266, R270). -/

/-- Pixels in a line, lines in the shortest frame, active lines, and lines before the first active one. -/
def State.mrsHTotal (s : State) : Nat := s.fld Reg.MRS_H_TIMING 31 16
def State.mrsVMin (s : State) : Nat := s.fld Reg.MRS_V_TIMING 31 16
def State.mrsVActive (s : State) : Nat := s.fld Reg.MRS_V_TIMING 15 0
def State.mrsLead (s : State) : Nat := s.mrsVMin - s.mrsVActive - s.fld Reg.MRS_V_SYNC 29 16

/-- n line times in ns. -/
def State.mrsLinesNs (s : State) (n : Nat) : Nat := n * s.mrsHTotal * 1000000 / s.fld Reg.MRS_PCLK 19 0

/-- Line of the frame at this instant, from 0 at its start. -/
def State.mrsLine (s : State) : Nat :=
  match s.mon.start with
  | some t => if s.mrsHTotal = 0 then 0 else (s.now - t) * s.fld Reg.MRS_PCLK 19 0 / (s.mrsHTotal * 1000000)
  | none => 0

/-- LEAD: line times until the first active line not in the buffer is due, at most 255. -/
def State.lbLead (s : State) : Nat := min 255 (s.mrsLead + s.mon.fetched - s.mrsLine)

/-- Level of the line buffer. -/
def State.lbLevel (s : State) : Nat := if s.mrsVActive ≤ s.mon.fetched then 0 else s.lbLines s.mon.src - s.lbLead

end Sys2Proof.Machine
end

