-- ==== Sys2Proof/Machine/Refs.lean ====
section
/-! DEFINITION. The timing unit as it stands at an instant: candidates and their quality, the frequency word under the slew limits, the draw-down profile, clockClass and the registers formed from them (R300 to R323, R334). -/

namespace Sys2Proof.Machine

/-- What the twin claims: the pair is PAIRED and the partner holds the timing-master role. -/
def State.twinMaster (s : State) : Bool := s.running 15 && s.fld Reg.TWN_STATUS 31 30 == 2 && s.bit Reg.TWN_ROLE 29

/-- The twin link is up for the TWIN candidate: the pair is PAIRED. -/
def State.twinUp (s : State) : Bool := s.running 15 && s.fld Reg.TWN_STATUS 31 30 == 2

/-! ### Candidates (Tables 13.1, 13.16) -/

def State.cand (s : State) (c : Nat) : RefCand := nthD s.ref.cands c {}
def State.setCand (s : State) (c : Nat) (x : RefCand) : State := { s with ref := { s.ref with cands := setNth s.ref.cands c x } }

/-- The PTP port in SLAVE, if any. -/
def State.slavePort (s : State) : Option Nat := (List.range 8).find? (fun p => s.rdN (Reg.RTU_P_STATE (16 + p)) == 9)

/-- The dataset of the port's parent. -/
def State.parentDs (s : State) (p : Nat) : Option PtpDs :=
  let x := nthD s.ref.ports p {}
  x.parent.bind (fun q => (x.foreign.find? (fun f => f.sender == q.1 && f.port == q.2)).map (·.ds))

/-- QL of the PTP candidate for a parent's clockClass (RTU_PTP_QLMAP). -/
def State.ptpQl (s : State) (c : Nat) : Nat :=
  if c = 6 then s.fld Reg.RTU_PTP_QLMAP 15 12
  else if c = 7 then s.fld Reg.RTU_PTP_QLMAP 11 8
  else if c = 52 ∨ c = 187 then s.fld Reg.RTU_PTP_QLMAP 7 4
  else s.fld Reg.RTU_PTP_QLMAP 3 0

/-- QL of candidate c (Table 13.1, R308). -/
def State.candQl (s : State) (c : Nat) : Nat :=
  if s.bit (Reg.RTU_C_CFG (c + 1)) 20 then s.fld (Reg.RTU_C_CFG (c + 1)) 19 16
  else match c with
    | 2 => (match s.slavePort.bind s.parentDs with | some d => s.ptpQl d.clockClass | none => 0)
    | 3 => s.ref.partnerQl
    | _ => (s.cand c).ql

/-- QL_VALID of candidate c. -/
def State.candQlValid (s : State) (c : Nat) : Bool :=
  match c with | 2 => s.slavePort.isSome | 3 => s.twinUp | _ => (s.cand c).qlValid

def State.candEn (s : State) (c : Nat) : Bool := s.bit (Reg.RTU_C_CFG (c + 1)) 31
def State.candPrio (s : State) (c : Nat) : Nat := s.fld (Reg.RTU_C_CFG (c + 1)) 27 24
/-- PBO_KEEP. -/
def State.pboKeep (s : State) : Bool := s.bit Reg.RTU_DPLL_CFG 29

/-- Candidate c is usable (R307, R310). -/
def State.candUsable (s : State) (c : Nat) : Bool :=
  s.candEn c && s.candQlValid c && s.candQl c != 0 && decide (s.fld Reg.RTU_SEL_CFG 15 12 ≤ s.candQl c) && !(s.cand c).disq &&
  (match c with | 2 => s.slavePort.isSome | 3 => s.twinMaster | _ => (s.cand c).timeValid || s.pboKeep)

/-- The better of two candidates: the higher QL, the lower PRIORITY, the lower index (R311). -/
def State.betterCand (s : State) (a b : Nat) : Bool :=
  decide (s.candQl b < s.candQl a) ||
    (s.candQl a == s.candQl b && (decide (s.candPrio a < s.candPrio b) || (s.candPrio a == s.candPrio b && decide (a < b))))

/-- The best usable candidate. -/
def State.bestCand (s : State) : Option Nat :=
  ((List.range 4).filter s.candUsable).foldl (fun o c => match o with | none => some c | some x => some (if s.betterCand c x then c else x)) none

/-! ### The frequency word (R319, R320) -/

/-- BOUND in units of 10^-12 and RATE in those units per second. -/
def State.slewBound (s : State) : Int := (s.fld Reg.RTU_SLEW_CFG 31 16 * 100000 : Nat)
def State.slewRate (s : State) : Int := (s.fld Reg.RTU_SLEW_CFG 15 0 * 10000 : Nat)

/-- One bit of an integer square root. -/
def isqrtFrom : Nat → Nat → Nat → Nat
  | 0, _, r => r
  | k + 1, n, r => let c := r + 2 ^ k; isqrtFrom k n (if c * c ≤ n then c else r)

/-- Integer square root of a number below 2^128. -/
def isqrt (n : Nat) : Nat := isqrtFrom 64 n 0

/-- A value kept between bounds. -/
def clampInt (lo hi v : Int) : Int := max lo (min hi v)

/-- Build-out left and added frequency t ns into the time-optimal draw-down from build-out b (ps) and added frequency a (ps/s), with rate r (ps/s²) and peak at most cap (R320): ramp at r to the peak, hold it at the cap, ramp back so that both reach 0 together. -/
def drawAt (b a r cap : Int) (t : Nat) : Int × Int :=
  let r := max r 1
  let sg : Int := if b < a * (if a < 0 then -a else a) / (2 * r) then -1 else 1
  let a := sg * a
  let b := sg * b
  let vp := min (max cap 1) (isqrt (r * b + a * a / 2).toNat : Int)
  let t1 := ((vp - a) * 1000000000 / r).toNat
  let d1 := (vp * vp - a * a) / (2 * r)
  let d3 := vp * vp / (2 * r)
  let t2 := if vp ≤ 0 then 0 else ((b - d1 - d3) * 1000000000 / vp).toNat
  let t3 := (vp * 1000000000 / r).toNat
  if t ≤ t1 then
    (sg * (b - (a * t / 1000000000 + r * t * t / 2000000000000000000)), sg * (a + r * t / 1000000000))
  else if t ≤ t1 + t2 then (sg * (b - d1 - vp * ((t - t1 : Nat) : Int) / 1000000000), sg * vp)
  else if t < t1 + t2 + t3 then
    let q : Int := ((t1 + t2 + t3 - t : Nat) : Int)
    (sg * (r * q * q / 2000000000000000000), sg * (r * q / 1000000000))
  else (0, 0)

/-- The DPLL tracks a candidate: ACQUIRE or LOCKED. -/
def State.tracking (s : State) : Bool := s.ref.dpll == 1 || s.ref.dpll == 2

/-- Build-out and added frequency at this instant. -/
def State.drawNow (s : State) : Int × Int :=
  if s.ref.drawing && s.tracking then
    let cap := if s.ref.pbo < 0 then s.slewBound + s.ref.base else s.slewBound - s.ref.base
    drawAt s.ref.pbo s.ref.add s.slewRate cap (s.now - s.ref.yAt)
  else (s.ref.pbo, if s.tracking then s.ref.add else 0)

/-- The frequency that the state of the DPLL asks for (R317, R320 to R322). -/
def State.yWanted (s : State) : Int :=
  match s.ref.dpll with
  | 0 => 0
  | 4 => signed 32 (s.rdN Reg.RTU_FREQ_ADJ)
  | _ => s.ref.base + s.drawNow.2

/-- y at this instant in units of 10^-12: it moves towards what is asked at no more than RATE, within BOUND (R319); it stands still while the loop code loads (R420). -/
def State.yNow (s : State) : Int :=
  if s.ref.held then s.ref.y
  else
    let step := s.slewRate * ((s.now - s.ref.yAt : Nat) : Int) / 1000000000
    clampInt (-s.slewBound) s.slewBound (clampInt (s.ref.y - step) (s.ref.y + step) s.yWanted)

/-- A limit of R319 acts. -/
def State.slewing (s : State) : Bool := !s.ref.held && s.yNow != s.yWanted

/-- The phase error in ps: the selected candidate less the timescale, after the build-out. -/
def State.phaseErr (s : State) : Int := if s.ref.sel.isSome then s.ref.phase - s.drawNow.1 else 0

/-- clockClass of the device's own dataset (R334). -/
def State.clockClass (s : State) : Nat :=
  let near := decide (s.phaseErr.natAbs ≤ 1000 * s.fld Reg.RTU_LOCK_CFG 31 16)
  if s.ref.dpll = 2 ∨ (s.ref.dpll = 4 ∧ near = true) then s.fld Reg.RTU_PTP_CLASS 31 24
  else if s.ref.dpll = 0 then s.fld Reg.RTU_PTP_CLASS 7 0
  else if s.ref.dpll = 3 ∧ s.ref.inSpec = false then s.fld Reg.RTU_PTP_CLASS 15 8
  else s.fld Reg.RTU_PTP_CLASS 23 16

/-! ### PTP (R333) -/

/-- ROLE of RTU_PTP_CFG: 0 OFF, 1 SLAVE_ONLY, 2 BC, 3 GM_ONLY. -/
def State.ptpRole (s : State) : Nat := s.fld Reg.RTU_PTP_CFG 31 30

/-- The device's own clockIdentity. -/
def State.ptpId (s : State) : Nat := s.rdN Reg.RTU_PTP_ID_LO + s.rdN Reg.RTU_PTP_ID_HI * 2 ^ 32

/-- The device's own dataset as grandmaster (R334); clockClass 255 where it is SLAVE_ONLY (R333). -/
def State.ownDs (s : State) : PtpDs :=
  { gm := s.ptpId, clockClass := if s.ptpRole = 1 then 255 else s.clockClass, accuracy := s.fld Reg.RTU_PTP_CLOCK 15 8,
    variance := Config.ptpVariance.toNat, priority1 := s.fld Reg.RTU_PTP_CLOCK 31 24, priority2 := s.fld Reg.RTU_PTP_CLOCK 23 16,
    steps := 0, timeSource := s.fld Reg.RTU_PTP_CLOCK 7 0, utcOffset := s.fld Reg.RTU_UTC 15 0 }

/-- SOURCE of the dataset (RTU_PTP_STATUS): 0 own, 1 the PTP parent, 2 the twin. -/
def State.ptpSource (s : State) : Nat :=
  if s.ref.sel = some 2 ∧ (s.slavePort.bind s.parentDs).isSome then 1 else if s.ref.sel = some 3 ∧ s.ref.partnerDs.isSome then 2 else 0

/-- The clock's dataset D0, which master ports announce (R333). -/
def State.clockDs (s : State) : PtpDs :=
  match s.ptpSource with
  | 1 => (match s.slavePort.bind s.parentDs with | some d => { d with steps := d.steps + 1 } | none => s.ownDs)
  | 2 => s.ref.partnerDs.getD s.ownDs
  | _ => s.ownDs

/-- The device is grandmaster. -/
def State.isGm (s : State) : Bool := s.ptpRole != 0 && s.ptpSource == 0

/-! ### Registers formed at the read -/

/-- RTU_SEL_STATUS. -/
def State.selWord (s : State) : Nat :=
  let left := match s.ref.wtr with | some w => s.fld Reg.RTU_SEL_CFG 11 0 - (s.now - w.2.2) / 1000000000 | none => 0
  s.ref.sel.getD 7 * 2 ^ 29 + (match s.ref.sel with | some c => s.candQl c | none => 0) * 2 ^ 24 + s.ref.qual.getD 7 * 2 ^ 20 +
    s.ref.reason * 2 ^ 16 + left % 4096

/-- RTU_C_STATUS of candidate c. -/
def State.candWord (s : State) (c : Nat) : Nat :=
  let x := s.cand c
  let st := if !s.candEn c then 0 else if s.ref.qual == some c then 2 else if s.ref.sel == some c then 3
    else if x.disq then 4 else if x.lost then 5 else 1
  st * 2 ^ 29 + s.candQl c * 2 ^ 16 + b2n (s.candQlValid c) * 2 ^ 15 + b2n (s.candUsable c) * 2 ^ 14 + min x.missing 255

/-- Output k is driven: the RTU runs and the output is enabled in a mode of Table 13.6. -/
def State.outActive (s : State) (k : Nat) : Bool :=
  s.running 5 && s.bit (Reg.RTU_O_CFG (5 + k)) 31 && inR 1 5 (s.fld (Reg.RTU_O_CFG (5 + k)) 30 28)

/-- Highest and lowest y since the last write, with the present one, in 0.01 ppm. -/
def State.yRange (s : State) : Nat :=
  let y := s.yNow / 10000
  let hi := max (signed 16 (s.fld Reg.RTU_H_FREQ_RANGE 31 16)) y
  let lo := min (signed 16 (s.fld Reg.RTU_H_FREQ_RANGE 15 0)) y
  unsigned 16 hi * 65536 + unsigned 16 lo

/-- A half of the seconds of the timescale: the latched one, or the present one (R304). -/
def State.secWord (s : State) (a : Nat) : Nat :=
  match kget s.latched a with
  | some w => w.toNat
  | none => let sec := s.now / 1000000000; if a = Reg.RTU_TIME_SEC_HI then sec / 2 ^ 32 % 65536 else sec % 2 ^ 32

/-- RTU_HOLD_STATUS. -/
def State.holdWord (s : State) : Nat :=
  let inHold := s.ref.dpll == 3
  b2n s.ref.holdValid * 2 ^ 31 + b2n (inHold && s.ref.inSpec) * 2 ^ 30 +
    (if inHold then (s.now - s.ref.holdAt) / 1000000000 else s.ref.holdSecs) % 2 ^ 24

/-- RTU_PTP_STATUS. -/
def State.ptpWord (s : State) : Nat :=
  s.ptpSource * 2 ^ 29 + b2n s.isGm * 2 ^ 28 + b2n (s.slavePort.isSome && s.ref.sel != some 2) * 2 ^ 27 + s.slavePort.getD 15 * 2 ^ 20 +
    (s.clockDs.steps % 256)

/-! ### Takes and images (R102, R105, R122, Table 4.17) -/

/-- STATE codes that a take may still flip from: WAIT_TWIN, QUEUED, ARMED, COMMITTED. -/
def liveState (st : Nat) : Bool := inR 1 4 st

/-- Members of a take that have not ended. -/
def liveMembers (t : Take) : List Member := t.members.filter (fun m => liveState m.state)

/-- Members pending on the device. -/
def State.pendingMembers (s : State) : List Member := s.geyser.takes.flatMap liveMembers

/-- Latest flip epoch of takes that have not ended. -/
def State.takeFloor (s : State) : Option Nat :=
  s.pendingMembers.foldl (fun (a : Option Nat) m => some (max (a.getD 0) m.flip)) none

/-- Earliest flip epoch of takes that have not ended. -/
def State.takeFirst (s : State) : Option Nat :=
  s.pendingMembers.foldl (fun (a : Option Nat) m => some (match a with | some x => min x m.flip | none => m.flip)) none

/-- Target of the image load in progress, if it has one. -/
def State.loadTarget (s : State) : Option Nat := s.geyser.load.bind (·.target)

/-- GSE_STATUS (Table 4.17). -/
def State.gseStatus (s : State) : Nat :=
  let next := match s.takeFirst, s.loadTarget with | some x, some y => min x y | some x, none => x | none, some y => y | none, none => 0
  let ps := if s.running 15 then s.fld Reg.TWN_STATUS 31 30 else 0
  next % 2 ^ 24 * 256 + b2n (ps == 0 || ps == 3) * 8 + b2n (s.bit Reg.GSE_CFG 2) * 4 + b2n s.geyser.load.isSome * 2 + b2n (s.geyser.group != .free)

/-- Tag that the next command of port n (0 to 7) receives (R105). -/
def State.nextTag (s : State) (n : Nat) : Nat := b2n s.board.twinId * 8192 + n * 1024 + nthD s.geyser.serials n 0 % 1024

/-! ### The set point of VDD_CORE (R126, R127) -/

/-- STEPS, the set point. -/
def State.steps (s : State) : Nat := s.fld Reg.PTM_VCORE 6 0

/-- Window of a profile in steps (Table 5.2). -/
def stepWindow (profile : Nat) : Nat × Nat := match profile with | 0 => (44, 120) | 3 => (0, 28) | _ => (0, 120)

/-- The window of a profile narrowed by PTM_VCORE_LIM (R126); limits that leave nothing of it narrow nothing (log entry 41). -/
def State.vWindow (s : State) (profile : Nat) : Nat × Nat :=
  let w := stepWindow profile
  let lo := max w.1 (s.fld Reg.PTM_VCORE_LIM 7 0)
  let hi := min w.2 (s.fld Reg.PTM_VCORE_LIM 15 8)
  if lo ≤ hi then (lo, hi) else w

/-- Rail page k is enabled. -/
def State.railOn (s : State) (k : Nat) : Bool := s.bit (Reg.PTM_R_CFG k) 31

/-- PTM_LOOP_STATUS.FROZEN (R150). -/
def State.frozen (s : State) : Bool := s.bit Reg.PTM_LOOP_STATUS 1

/-- PTM_LOOP_STATUS. -/
def State.loopWord (s : State) : Nat :=
  let w := s.vWindow s.profile
  let hold := match s.power.emergTick with | some t => decide (s.power.tick ≤ t + 8) | none => false
  b2n hold * 32 + b2n (decide (w.2 ≤ s.steps)) * 16 + b2n (decide (s.steps ≤ w.1)) * 8 + b2n s.power.stale * 4 + b2n s.frozen * 2 +
    b2n (s.railOn 1 && s.bit Reg.PTM_CFG 0 && !s.frozen)

/-- The junction temperature in units of 0.125 °C (R142). -/
def State.junction (s : State) : Int := signed 16 (s.fld Reg.PTM_TS_HOT 15 0)

/-- Centre of a rail's limits in units of 0.1 mV: the set point for VDD_CORE, else the nominal value (R149). -/
def State.railCentre (s : State) (k : Nat) : Nat := if k = 1 then 6500 + 25 * s.steps else s.fld (Reg.PTM_R_NOM k) 15 0 * 10

end Sys2Proof.Machine
end

