-- ==== Sys2Proof/Machine/View.lean ====
section
/-! DEFINITION. What a read of each register returns: the stored word, or the word the device forms at the moment of the read (Tables 2.6 to 2.20, 15.5, 15.8, 15.10, 15.11, 18.7 and their like). -/

namespace Sys2Proof.Machine

/-- LIVE of the page at p (Table 2.11). -/
def State.liveWord (s : State) (p : Nat) : W :=
  let b := blockOf p
  let k := pageNo p
  let st := s.shadowStatus p
  let flt := s.fld (hSTICKY p) 31 16 % 2 ^ faultCount b k != 0
  w32 (s.fld (hLIVE p) 31 16 * 65536 + b2n flt * 4 + b2n (st == 2 || st == 3) * 2 + b2n (s.curOf b k == sRUN))

/-- The header register at offset o of the page at p. -/
def State.headerWord (s : State) (p o : Nat) : W :=
  let b := blockOf p
  let k := pageNo p
  if o = 0x00 then w32 (idWord b k)
  else if o = 0x04 then w32 (0x41010000 + s.fld (hREV p) 7 0)
  else if o = 0x08 then w32 (capsWord b k)
  else if o = 0x0C then s.rd (hSTATE (statePage b k))
  else if o = 0x10 then 0#32
  else if o = 0x14 then s.liveWord p
  else if o = 0x20 then w32 (s.irqPend p)
  else if o = 0x24 then 0#32
  else if o < 0x40 then s.rd (p + o)
  else 0#32

/-- CPC_IRQ_PAGE of block b (R370). -/
def State.irqPage (s : State) (b : Nat) : Nat :=
  let l := s.pagesAsserted.filter (fun p => blockOf p == b)
  match l with
  | [] => 0
  | p :: r => 2 ^ 31 + min (r.length + 1) 255 * 65536 + pageNo p

/-- FAULT_N is asserted: a cause of FCR_FAULT_STATUS holds (R435). -/
def State.faultN (s : State) : Bool := s.fld Reg.FCR_FAULT_STATUS 3 0 != 0

/-- Transactions queued at a target. -/
def State.depth (s : State) (t : Nat) : Nat := (s.bus.queue.filter (fun x => x.target == t)).length

/-- Transactions a master has outstanding. -/
def State.outstanding (s : State) (m : Nat) : Nat :=
  ((s.bus.queue ++ s.bus.between).filter (fun x => x.who.num == m)).length

/-- The operation under way and the waiting ones. -/
def State.engineOps (s : State) : List EngineOp := s.keys.current.toList ++ s.keys.waiting

/-- A context has an operation under way or waiting. -/
def State.ctxBusy (s : State) (c : Nat) : Bool := s.engineOps.any (fun x => x.ctx == c)

/-- KSU_STATUS: the engine is busy, the contexts that are BUSY, and how many slots are VALID (Table 16.7). -/
def State.keysWord (s : State) : Nat :=
  b2n s.keys.current.isSome * 2 ^ 31 + maskOf 4 s.ctxBusy * 2 ^ 16 + ((List.range 64).filter (fun n => s.slotWord n / 2 ^ 30 == 1)).length

/-- Registers of the control blocks whose value is formed at the read. -/
def State.ctlWord (s : State) (a : Nat) : Option Nat :=
  if a = Reg.CPC_IRQ_SUMMARY then some (maskOf 16 (fun b => s.pagesAsserted.any (fun p => blockOf p == b)))
  else if Reg.CPC_IRQ_PAGE 0 ≤ a ∧ a < Reg.CPC_IRQ_PAGE 16 then some (s.irqPage ((a - Reg.CPC_IRQ_PAGE 0) / 4))
  else if a = Reg.CPC_PLIC_PEND then some s.plicPendWord
  else if a = Reg.CPC_MTIME_LO then some (s.now % 2 ^ 32)
  else if a = Reg.CPC_MTIME_HI then some (s.now / 2 ^ 32 % 2 ^ 32)
  else if a = Reg.BMX_STATUS then some (b2n s.isSealed * 2 ^ 31 + maskOf 24 (fun t => s.depth t == 32))
  else if blockOf a = 1 ∧ 1 ≤ pageNo a ∧ pageNo a ≤ 12 ∧ offOf a = 0x104 then some (min 255 (s.outstanding (pageNo a - 1)))
  else if blockOf a = 1 ∧ 0x11 ≤ pageNo a ∧ pageNo a ≤ 0x28 ∧ offOf a = 0x100 then
    some (s.fld a 31 28 * 2 ^ 28 + b2n (s.depth (pageNo a - 0x11) != 0) * 2 ^ 27 + s.depth (pageNo a - 0x11))
  else if a = Reg.KSU_STATUS then some s.keysWord
  else if a = Reg.FCR_STATUS then
    some (b2n s.fcr.isOpen * 2 ^ 31 + b2n s.faultN * 2 ^ 30 + b2n (s.fcr.resetDue.isSome || s.draining.any (·.2)) * 2 ^ 29 +
      min s.ringFill 65535)
  else if a = Reg.FCR_FAULT_STATUS then some (b2n (s.faultN || s.board.faultLow) * 2 ^ 31 + s.fld a 3 0)
  else if a = Reg.FCR_SNAP_STATUS then
    some ((s.rdN a) % 2 ^ 30 + b2n s.fcr.cut.isSome * 2 ^ 31 + b2n s.fcr.timeArmed * 2 ^ 30)
  else none

/-- Registers of the power manager and of the fabric's profile whose value is formed at the read. -/
def State.powerWord (s : State) (a : Nat) : Option Nat :=
  if a = Reg.CXF_PROFILE then some (s.fld a 31 28 * 2 ^ 28 + s.profile * 2 ^ 16 + planeMask s.profile)
  else if a = Reg.CXF_EPOCH_LO then some (s.epoch % 2 ^ 32)
  else if a = Reg.CXF_EPOCH_HI then some (s.epoch / 2 ^ 32 % 2 ^ 32)
  else if a = Reg.CXF_BUDGET then some (planeBudget s.profile)
  else if blockOf a ≠ 4 then none
  else if a = Reg.PTM_VCORE then some ((s.vWindow s.profile).2 * 2 ^ 24 + (s.vWindow s.profile).1 * 2 ^ 16 + s.steps)
  else if a = Reg.PTM_LOOP_STATUS then some s.loopWord
  else if a = Reg.PTM_POWER_CAP then some (powerCap s.profile)
  else if a = Reg.PTM_R_NOM 1 then some (s.railCentre 1 / 10)
  else if a = Reg.PTM_CAL_AGE then some (match s.power.calTime with | some t => (s.now / 1000000000 - t) % 2 ^ 32 | none => 0)
  else none

/-- Registers of the timing unit whose value is formed at the read. -/
def State.refWord (s : State) (a : Nat) : Option Nat :=
  let k := pageNo a
  if blockOf a ≠ 5 then none
  else if a = Reg.RTU_SEL_STATUS then some s.selWord
  else if a = Reg.RTU_DPLL_STATUS then
    some (s.ref.dpll * 2 ^ 29 + b2n s.slewing * 2 ^ 28 + b2n (s.ref.dpll == 3 && s.ref.qual.isSome) * 2 ^ 27 + b2n s.ref.drawing * 2 ^ 26)
  else if a = Reg.RTU_FREQ_OUT then some (unsigned 32 s.yNow)
  else if a = Reg.RTU_PHASE_ERR then some (unsigned 32 s.phaseErr)
  else if a = Reg.RTU_PBO then some (unsigned 32 (s.drawNow.1 / 1000))
  else if a = Reg.RTU_HOLD_STATUS then some s.holdWord
  else if a = Reg.RTU_TIME_SEC_HI ∨ a = Reg.RTU_TIME_SEC_LO then some (s.secWord a)
  else if a = Reg.RTU_TIME_NS then some (s.now % 1000000000)
  else if a = Reg.RTU_SLEW_CLAMP_MS then
    some ((s.ref.clampNs + (if s.slewing then s.now - s.ref.yAt else 0)) / 1000000)
  else if a = Reg.RTU_PTP_STATUS then some s.ptpWord
  else if a = Reg.RTU_PTP_GM_ID_LO then some (if s.ptpRole = 0 then 0 else s.clockDs.gm % 2 ^ 32)
  else if a = Reg.RTU_PTP_GM_ID_HI then some (if s.ptpRole = 0 then 0 else s.clockDs.gm / 2 ^ 32 % 2 ^ 32)
  else if a = Reg.RTU_PTP_GM_QUAL then
    some (if s.ptpRole = 0 then 0 else
      s.clockDs.clockClass % 256 * 2 ^ 24 + s.clockDs.accuracy % 256 * 2 ^ 16 + s.clockDs.priority1 % 256 * 256 + s.clockDs.priority2 % 256)
  else if 1 ≤ k ∧ k ≤ 4 ∧ a = Reg.RTU_C_STATUS k then some (s.candWord (k - 1))
  else if (k = 3 ∨ k = 4) ∧ (a = Reg.RTU_C_CLK_KHZ k ∨ a = Reg.RTU_C_FP_CFG k) then some 0
  else if 5 ≤ k ∧ k ≤ 12 ∧ a = Reg.RTU_O_STATUS k then some (b2n (s.outActive (k - 5)) * 2 ^ 31 + s.rdN a % 2 ^ 31)
  else if a = Reg.RTU_H_FREQ_RANGE then some s.yRange
  else none

/-- Registers of the serial lanes whose value is formed at the read. -/
def State.laneWord (s : State) (a : Nat) : Option Nat :=
  let k := pageNo a
  if blockOf a ≠ 6 ∨ k = 0 ∨ 128 < k then none
  else
    let l := 4 * (k - 1) + s.fld (Reg.SLC_Q_SEL k) 1 0
    let x := (kget s.lanes l).getD {}
    if a = Reg.SLC_Q_TX_LOAD k then some (s.txLoadWord (k - 1))
    else if a = Reg.SLC_Q_ALIGN k then
      some (b2n (s.fld (Reg.SLC_Q_STATUS k) (3 * (l % 4) + 2) (3 * (l % 4)) == 3) * 2 ^ 15 + x.good * 256 + x.pos)
    else if a = Reg.SLC_Q_EQ k then
      some (b2n x.seeded * 2 ^ 29 +
        b2n (x.ctle == 0 || x.ctle == 15 || x.vga == 0 || x.vga == 63 || x.dfe.any (fun d => d == -32 || d == 31)) * 2 ^ 28 +
        x.ctle * 2 ^ 24 + x.vga * 2 ^ 18 + unsigned 6 (nthD x.dfe 2 0) * 2 ^ 12 + unsigned 6 (nthD x.dfe 1 0) * 2 ^ 6 + unsigned 6 (nthD x.dfe 0 0))
    else if a = Reg.SLC_Q_ERR_CNT k then
      some (s.rdN (hid a (4 * s.fld (Reg.SLC_Q_SEL k) 10 8 + l % 4)))
    else none

/-- Registers of the framing engine whose value is formed at the read. -/
def State.sfeWord (s : State) (a : Nat) : Option Nat :=
  let k := pageNo a
  if blockOf a ≠ 7 then none
  else if a = Reg.SFE_STATUS then
    some ((s.sdi.rx.filter (fun x => x.2.st == 3)).length % 8192 * 2 ^ 16 + (s.sdi.rx.filter (fun x => x.2.st == 2)).length % 8192)
  else if k = 0 ∨ 128 < k then none
  else
    let i := s.fld (Reg.SFE_Q_SEL k) 4 0
    let tx := s.bit (Reg.SFE_Q_SEL k) 5
    let r := (kget s.sdi.rx ((k - 1) * 32 + i)).getD {}
    let t := (kget s.sdi.tx ((k - 1) * 32 + i)).getD {}
    if a = Reg.SFE_Q_STATUS k then
      some (if tx then (if t.refused then 3 else if !t.on then 0 else if t.fill then 2 else 1) * 2 ^ 29
        else r.st * 2 ^ 29 + b2n r.phaseOut * 2 ^ 28 + unsigned 24 r.phase)
    else if a = Reg.SFE_Q_PID k then some (if tx then t.pid else r.pid)
    else if a = Reg.SFE_Q_CNT k then some (s.rdN (hid a (s.fld (Reg.SFE_Q_SEL k) 10 8 * 64 + b2n tx * 32 + i)))
    else none

/-- Index of the counter that FMAC_M_SEL selects: its port, queue or flow (Table 8.17). -/
def macCntIndex (c sel : Nat) : Nat :=
  if c = 9 ∨ c = 10 then sel / 2 ^ 16 % 32 else if 11 ≤ c ∧ c ≤ 15 then sel % 256 else sel / 2 ^ 24 % 4

/-- Registers of the MACs whose value is formed at the read. -/
def State.macWord (s : State) (a : Nat) : Option Nat :=
  let k := pageNo a
  if blockOf a ≠ 8 ∨ k = 0 ∨ 128 < k then none
  else
    let sel := s.rdN (Reg.FMAC_M_SEL k)
    let c := sel / 2 ^ 27
    let n := sel / 2 ^ 24 % 4
    if a = Reg.FMAC_M_CFG k then some (if s.macMode (k - 1) = 3 then s.rdN a ||| 0x3C000000 else s.rdN a)
    else if a = Reg.FMAC_M_CNT k then some (if 16 < c then 0 else s.rdN (hid a (c * 256 + macCntIndex c sel)))
    else if a = Reg.FMAC_M_PTP_ADJ k then some (s.rdN (hid a n))
    else if a = Reg.FMAC_M_SEC_STATUS k then some (s.secStatus (k - 1) n)
    else if a = Reg.FMAC_M_TX_LOAD k then some (s.macLoadWord (k - 1))
    else none

/-- Registers of the switch engine whose value is formed at the read. -/
def State.gseWord (s : State) (a : Nat) : Option Nat :=
  let k := pageNo a
  if a = Reg.GSE_STATUS then some s.gseStatus
  else if a = Reg.GSE_QUEUE then some s.pendingMembers.length
  else if 1 ≤ k ∧ k ≤ 8 ∧ a = Reg.GSE_P_NEXT_TAG k then some (s.nextTag (k - 1))
  else none

/-- Registers of the frame store whose value is formed at the read. -/
def State.fstWord (s : State) (a : Nat) : Option Nat :=
  let k := pageNo a
  let j := s.fld Reg.FST_SEL 12 0
  if blockOf a ≠ 11 then none
  else if a = Reg.FST_STATUS then some (s.store.down.length * 2 ^ 16 + s.activeSlots.length % 8192)
  else if a = Reg.FST_SLOT_STATUS then
    some (match (kget s.activeSlots j), (kget s.store.slots j) with
      | some _, some r =>
        (if s.running 11 then (if slType r.entry = 1 then (if r.frames.any (·.done) then 2 else 3) else 2) else 0) * 2 ^ 29 +
          b2n r.following * 2 ^ 28 + b2n r.lastRep * 2 ^ 27 + b2n r.lastSkip * 2 ^ 26
      | some _, none => (if s.running 11 then 1 else 0) * 2 ^ 29
      | none, _ => 0)
  else if a = Reg.FST_SLOT_FRAMES then
    some (match kget s.store.slots j with | some r => r.wrFrame % 65536 * 65536 + r.rdFrame % 65536 | none => 0)
  else if a = Reg.FST_SLOT_CNT then some (s.rdN (hid Reg.FST_SLOT_CNT (s.fld Reg.FST_SEL 18 16 * 8192 + j)))
  else if a = Reg.FST_POOL_INUSE then some s.store.inUse.sum
  else if Reg.FST_POOL_USE 0 ≤ a ∧ a < Reg.FST_POOL_USE 8 then some (nthD s.store.inUse ((a - Reg.FST_POOL_USE 0) / 4) 0)
  else if Reg.FST_TOL 0 ≤ a ∧ a < Reg.FST_TOL 8 then some (s.tolerance ((a - Reg.FST_TOL 0) / 4))
  else if a = Reg.FST_STACKS_DOWN then some (maskOf 4 s.stackDown)
  else if 1 ≤ k ∧ k ≤ 4 ∧ a = Reg.FST_S_BW_DECL k then some (s.stackBw (k - 1) % 2 ^ 20)
  else if 1 ≤ k ∧ k ≤ 4 ∧ a = Reg.FST_S_TOL_MIN k then some (s.tolMin (k - 1))
  else none

/-- Registers of the compositor whose value is formed at the read (Tables 10.6, 10.8, 10.10). -/
def State.pxpWord (s : State) (a : Nat) : Option Nat :=
  let k := pageNo a
  let run := maskOf 64 s.engineOn
  let wait := maskOf 64 (fun e => (s.engine e).deferrals != 0)
  if blockOf a ≠ 12 then none
  else if a = Reg.PXP_STATUS then
    some (((List.range 64).filter s.engineOn).length * 2 ^ 16 + b2n (s.profile == 2) * 256 +
      ((List.range 64).filter (fun e => (s.engine e).deferrals != 0)).length)
  else if a = Reg.PXP_BUDGET then some ((pxpBudget s.profile).1 * 256 + (pxpBudget s.profile).2)
  else if a = Reg.PXP_ENG_RUN_LO then some (run % 2 ^ 32)
  else if a = Reg.PXP_ENG_RUN_HI then some (run / 2 ^ 32)
  else if a = Reg.PXP_ENG_WAIT_LO then some (wait % 2 ^ 32)
  else if a = Reg.PXP_ENG_WAIT_HI then some (wait / 2 ^ 32)
  else if k = 0 ∨ 64 < k then none
  else
    let x := s.engine (k - 1)
    if a = Reg.PXP_E_STATUS k then
      some ((if x.deferrals != 0 then 2 else b2n (s.engineOn (k - 1))) * 2 ^ 29 +
        (if s.engineOn (k - 1) then s.engineWeight (k - 1) 0 else 0) * 2 ^ 16 + x.frame.getD 0 % 65536)
    else if a = Reg.PXP_E_FENCE k then
      some (b2n (x.deferrals != 0) * 2 ^ 31 + b2n (x.partner.elim false (·.2)) * 2 ^ 30 + b2n (x.own.elim false (·.2.1)) * 2 ^ 29 +
        x.own.elim 0 (·.2.2) * 2 ^ 16 + x.deferrals % 256)
    else none

/-- MRS_STATUS (Table 11.3). -/
def State.mrsStatus (s : State) : Nat :=
  let l := s.mrsLine
  let st := if !s.running 13 || s.mon.start.isNone then 0
    else if l < s.mrsLead then 1
    else if l < s.mrsLead + s.mrsVActive then 2
    else if l < s.mrsVMin then 3 else 4
  st * 2 ^ 29 + b2n s.mon.still * 2 ^ 28 + b2n (s.bit Reg.MRS_LB_WM 0) * 2 ^ 27 +
    b2n (s.bit Reg.MRS_LINK_STATUS 31 && s.mon.connected) * 2 ^ 26 + b2n s.mon.ready.isSome * 2 ^ 25 + s.mon.buf % 2 * 2 ^ 24 + l % 8192

/-- Registers of the scan-out whose value is formed at the read. -/
def State.monWord (s : State) (a : Nat) : Option Nat :=
  if blockOf a ≠ 13 then none
  else if a = Reg.MRS_STATUS then some s.mrsStatus
  else if a = Reg.MRS_LB_LEVEL then some (min 255 (s.lbLines s.mon.src) * 2 ^ 16 + s.lbLead * 256 + min 255 s.lbLevel)
  else if a = Reg.MRS_TOL then some s.mrsTol
  else if a = Reg.MRS_HPD then some (b2n s.board.hpd * 2 ^ 31 + b2n s.mon.connected * 2 ^ 30)
  else none

/-- STATE of a port as read: OFF where it is disabled or the AUD is not in RUN; RATE_ERR at a rate outside the family (R278). -/
def State.portState (s : State) (x : Nat) : Nat :=
  if !s.running 14 || !(s.portCfg x).testBit 31 then 0
  else if x < 64 && !s.inFamily (cfgRate (s.portCfg x)) then 3
  else max 1 (s.audPort x).st

/-- Registers of the audio engine whose value is formed at the read (Tables 12.6 to 12.10). -/
def State.audWord (s : State) (a : Nat) : Option Nat :=
  let k := pageNo a
  if blockOf a ≠ 14 then none
  else if a = Reg.AUD_STATUS then
    some (((List.range 512).filter (fun g => agEn (s.audSource g 0))).length * 2 ^ 16 + ((List.range 512).filter (fun g => agEn (s.audSink g 0))).length)
  else if a = Reg.AUD_CH_STATUS then
    let j := s.fld Reg.AUD_SEL 11 0
    let x := (kget s.aud.chans j).getD {}
    let left := match x.switches with | w :: _ => w.at' + w.fade - (x.last + 1) | [] => 0
    some (b2n (left != 0) * 2 ^ 31 + b2n (s.running 14 && chCode (s.chanEntry j 0) != x.src) * 2 ^ 30 + x.src * 2 ^ 12 + left % 4096)
  else if 1 ≤ k ∧ k ≤ 64 then
    let x := s.audPort (k - 1)
    if a = Reg.AUD_A_IN_STATUS k then
      some (s.portState (k - 1) * 2 ^ 29 + b2n x.phaseOut * 2 ^ 28 + unsigned 12 x.ppm * 2 ^ 16 + x.frames.length * 256 + b2n x.csValid * 128)
    else if a = Reg.AUD_A_OUT_STATUS k then
      some (b2n (s.running 14 && (s.portOut (k - 1) 0).testBit 31) * 2 ^ 31 + b2n ((kget s.aud.outs (k - 1)).getD {}).block.isSome * 2 ^ 30)
    else if a = Reg.AUD_A_CNT k then some (s.rdN (hid a (s.fld (Reg.AUD_A_SEL k) 2 0)))
    else none
  else if 65 ≤ k ∧ k ≤ 68 then
    if a = Reg.AUD_W_STATUS k then
      some (s.portState (k - 1) * 2 ^ 29 + (s.audPort (k - 1)).frames.length * 256 + (s.audPort (k + 3)).frames.length)
    else if a = Reg.AUD_W_CNT k then some (s.rdN (hid a (s.fld (Reg.AUD_W_SEL k) 2 0)))
    else none
  else none

/-- HEALTH (Table 14.1): FAILED while a Critical escalation waits for its reset, FAULT_N is asserted or the thermal shutdown has begun; DEGRADED while a block isolated by a Major escalation is not back in RUN. -/
def State.health (s : State) : Nat :=
  if s.fcr.resetDue.isSome || s.fld Reg.FCR_FAULT_STATUS 3 0 != 0 || s.power.tripped then 2
  else if s.fld Reg.FCR_ESC_BLOCKS 15 0 != 0 then 1 else 0

/-- LANES_OK of this device: lane pairs whose receiver is in LOCK and that are not marked failed (R345). -/
def State.lanesOk (s : State) : Nat :=
  if s.running 15 then maskOf 16 (fun k => s.fld (Reg.TWN_L_STATUS (k + 1)) 31 29 == 4 && !s.bit (Reg.TWN_L_STATUS (k + 1)) 25) else 0

/-- LANES_OK of the partner. -/
def State.partnerLanes (s : State) : Nat := s.fld Reg.TWN_LANE_STATUS 31 16

/-- Lane pair k is in use. -/
def State.laneActive (s : State) (k : Nat) : Bool := s.running 15 && s.twin.active.testBit k

/-- The control lane: the lowest active lane that both twins report in LANES_OK (R345). -/
def State.ctlLane (s : State) : Option Nat :=
  (List.range 16).find? (fun k => s.laneActive k && s.lanesOk.testBit k && s.partnerLanes.testBit k)

/-- An instant lies LOCK_S or more in the past. -/
def State.lockAged (s : State) (t : Option Nat) : Bool :=
  match t with | some x => decide (x + s.fld Reg.RTU_LOCK_CFG 15 8 * 1000000000 ≤ s.now) | none => false

/-- The partner's image is this device's active image (R356). -/
def State.imageMatch (s : State) : Bool :=
  match s.fabric.image with | some i => s.twin.image == some (i.id, i.hcrc) | none => false

/-- This device is ready as R356 says. -/
def State.selfReady (s : State) : Bool :=
  s.twinUp && s.health == 0 && s.bit Reg.TWN_STATUS 25 && s.imageMatch && s.lockAged s.twin.lockAt

/-- HOLDOFF_LEFT: seconds left of the hold-off, rounded up. -/
def State.holdLeft (s : State) : Nat :=
  match s.twin.holdFrom with
  | some t => ceilDiv (s.fld Reg.TWN_HOLDOFF 11 0 * 1000000000 - (s.now - t)) 1000000000
  | none => 0

/-- TWN_L_STATUS of pair k. -/
def State.pairWord (s : State) (k : Nat) : Nat :=
  let w := s.rdN (Reg.TWN_L_STATUS (k + 1))
  let on := s.laneActive k || (s.running 15 && (match s.twin.change with | some c => c.1.testBit k | none => false))
  let use := if s.ctlLane = some k then 1 else if s.laneActive k then 2 else 0
  w / 2 ^ 29 % 8 * 2 ^ 29 + b2n on * 2 ^ 28 + use * 2 ^ 26 + w % 2 ^ 26

/-- Registers of the twin unit whose value is formed at the read. -/
def State.twinWord (s : State) (a : Nat) : Option Nat :=
  if blockOf a ≠ 15 then none
  else if a = Reg.TWN_STATUS then
    let run := s.running 15
    some ((if run then s.fld a 31 30 else 0) * 2 ^ 30 + b2n s.board.twinId * 2 ^ 29 + b2n (s.bit a 28) * 2 ^ 28 + s.health * 2 ^ 26 +
      b2n (s.bit a 25) * 2 ^ 25 + b2n s.selfReady * 2 ^ 24 + s.ctlLane.getD 0 * 2 ^ 20 + (if run then s.fld a 15 0 else 0))
  else if a = Reg.TWN_ROLE then some (s.fld a 31 24 * 2 ^ 24 + s.holdLeft % 4096)
  else if a = Reg.TWN_LANE_STATUS then some (s.partnerLanes * 65536 + s.lanesOk)
  else if a = Reg.TWN_PARTNER then some (s.fld a 31 25 * 2 ^ 25 + b2n s.imageMatch * 2 ^ 24 + s.fld a 23 0)
  else if a = Reg.TWN_SEQ then some (s.twin.nextSeq % 65536 * 65536 + s.twin.lastRx.getD 0)
  else if 1 ≤ pageNo a ∧ pageNo a ≤ 16 ∧ offOf a = 0x100 then some (s.pairWord (pageNo a - 1))
  else none

/-- The chain port p. -/
def State.chainPort (s : State) (p : Nat) : ChainPort := nthD s.upd.ports p {}

/-- STATE of the update session (Table 17.9). -/
def State.updState (s : State) : Nat := match s.upd.port with | some p => s.fld (Reg.TWN_CH_UPD_STATUS (17 + p)) 31 28 | none => 0

/-- A session is open: CHECKING to PRIMARY (R418). -/
def State.updOpen (s : State) : Bool := inR 1 7 s.updState

/-- Registers of the chain pages whose value is formed at the read. -/
def State.chainWord (s : State) (a : Nat) : Option Nat :=
  let k := pageNo a
  let p := k - 17
  if blockOf a ≠ 15 ∨ inR 17 18 k = false then none
  else if a = Reg.TWN_CH_STATUS k then
    some (s.fld a 31 29 * 2 ^ 29 + b2n (s.running 15 && s.bit (Reg.TWN_CH_CFG k) 31) * 2 ^ 28 + b2n (s.updOpen && s.upd.port == some p) * 2 ^ 27 + s.fld a 15 0)
  else if a = Reg.TWN_CH_SEQ k then some ((s.chainPort p).txSeq * 65536 + (s.chainPort p).rxSeq.getD 0)
  else if a = Reg.TWN_CH_CNT k then some (s.rdN (hid a (s.fld (Reg.TWN_CH_SEL k) 2 0)))
  else none

/-- The word that a read of a register-space address returns, apart from what reading changes (R29, R30). -/
def State.view (s : State) (a : Nat) : W :=
  let p := pageOf a
  let o := offOf a
  if o < 0x100 then s.headerWord p o
  else if 0xF000 ≤ o then s.rd a
  else if 0x8000 ≤ o then (if shadowedAt (blockOf a) (pageNo a) (o - 0x8000) then s.rd a else 0#32)
  else
    match s.ctlWord a with
    | some v => w32 v
    | none => (match s.powerWord a with | some v => w32 v | none => (match s.refWord a with | some v => w32 v | none => (match s.laneWord a with | some v => w32 v | none => (match s.sfeWord a with | some v => w32 v | none => (match s.macWord a with | some v => w32 v | none => (match s.gseWord a with | some v => w32 v | none => (match s.fstWord a with | some v => w32 v | none => (match s.pxpWord a with | some v => w32 v | none => (match s.monWord a with | some v => w32 v | none => (match s.audWord a with | some v => w32 v | none => (match s.twinWord a with | some v => w32 v | none => (match s.chainWord a with | some v => w32 v | none => s.rd a))))))))))))

end Sys2Proof.Machine
end

