-- ==== Sys2Proof/Machine/Access.lean ====
section
/-! DEFINITION. Accesses to the register space: the responses of Table 2.5 and their recording, and what a write does to live, shadowed, static, lockable and write-1-to-clear fields (R29 to R37, R43 to R46, R51 to R53, R379 to R382). -/

namespace Sys2Proof.Machine

/-! What a written word reads back as. -/

/-- Field hi:lo of a word clamped to l..u. -/
def clampFld (w : W) (hi lo l u : Nat) : W := Machine.setFld w hi lo (clamp l u (Machine.fld w hi lo))

/-- An 8-bit signed field hi:lo of a word clamped to l..u. -/
def clampSigned (w : W) (hi lo : Nat) (l u : Int) : W :=
  Machine.setFld w hi lo (unsigned 8 (max l (min u (signed 8 (Machine.fld w hi lo)))))

/-- The word a register holds after a write of w: fields outside their stated range are clamped, and a 0 that reads back as 1 becomes 1 (the register tables; a range without a stated rule is clamped too, log entry 10). -/
def normalWord (a : Nat) (w : W) : W :=
  let b := blockOf a
  let k := pageNo a
  if a = Reg.CPC_WDT_CFG then clampFld w 15 0 10 65535
  else if a = Reg.CPC_SCRUB_CFG then clampFld w 7 0 1 255
  else if a = Reg.BMX_RESV_CFG then clampFld w 7 0 1 255
  else if b = 1 ∧ 1 ≤ k ∧ k ≤ 12 ∧ offOf a = 0x100 then
    clampFld (if k = 1 ∨ k = 8 then w else clampFld w 27 24 0 14) 23 16 1 255
  else if a = Reg.FCR_CFG then clampFld w 23 16 1 255
  else if a = Reg.FCR_WIN_MAJOR ∨ a = Reg.FCR_WIN_CRIT then clampFld w 23 0 1 16000000
  else if a = Reg.FCR_RING_CFG then clampFld w 4 0 4 16
  else if a = Reg.PTM_LOOP_CFG then clampFld (clampFld w 23 16 1 40) 7 0 30 200
  else if a = Reg.PTM_LOOP_RATE then clampFld (clampFld w 23 12 1 4095) 11 0 10 4095
  else if a = Reg.PTM_THERM_CFG then clampFld w 15 8 100 118
  else if b = 4 ∧ 1 ≤ k ∧ k ≤ 8 ∧ a = Reg.PTM_R_LIM k then clampFld w 7 0 10 150
  else if b = 4 ∧ 1 ≤ k ∧ k ≤ 8 ∧ a = Reg.PTM_R_POLL k then clampFld w 15 0 250 65535
  else if a = Reg.PTM_TS_CFG then clampFld w 15 0 100 10000
  else if a = Reg.RTU_SEL_CFG then clampFld w 19 16 1 15
  else if a = Reg.RTU_SLEW_CFG then clampFld (clampFld w 31 16 10 500) 15 0 10 5000
  else if a = Reg.RTU_HOLD_CFG then clampFld w 15 0 1 1000
  else if a = Reg.RTU_TIC_PERIOD then clampFld w 31 0 1000 2000000000
  else if a = Reg.RTU_DPLL_CFG then if Machine.fld w 31 30 < 2 then w else Machine.setFld w 31 30 0
  else if a = Reg.RTU_PTP_CFG then clampFld w 23 16 0 127
  else if b = 5 ∧ 0x10 ≤ k ∧ k ≤ 0x17 ∧ a = Reg.RTU_P_INTERVALS k then
    clampFld (clampSigned (clampSigned (clampSigned w 31 24 (-7) (-1)) 23 16 (-3) 1) 15 8 (-7) 0) 7 0 2 10
  else if a = Reg.RTU_PTP_FILT then clampFld w 7 0 1 255
  else if b = 5 ∧ 1 ≤ k ∧ k ≤ 4 ∧ a = Reg.RTU_C_CFG k then clampFld w 27 24 1 15
  else if b = 5 ∧ 1 ≤ k ∧ k ≤ 4 ∧ a = Reg.RTU_C_QUAL k then clampFld (clampFld w 31 20 10 4095) 19 16 1 15
  else if a = Reg.SFE_SYNC_WIN then clampFld w 19 0 100 100000
  else if b = 8 ∧ 1 ≤ k ∧ a = Reg.FMAC_M_CFG k then clampFld w 13 0 1518 9600
  else if a = Reg.CXF_PROBE_CFG then clampFld (clampFld w 23 16 1 255) 15 0 256 16384
  else if a = Reg.FST_PD_CFG then clampFld w 7 0 1 255
  else if a = Reg.FST_SCRUB_CFG then clampFld w 7 0 1 255
  else if a = Reg.PXP_FENCE_TIMEOUT then clampFld w 7 0 1 255
  else if a = Reg.MRS_CFG then clampFld w 7 0 1 255
  else if a = Reg.MRS_PCLK then clampFld w 19 0 25000 1000000
  else if a = Reg.AUD_SHUF_DELAY then Machine.setFld w 10 0 (clamp 250 2000 (ceilDiv (Machine.fld w 10 0) 125 * 125))
  else if a = Reg.TWN_CFG then clampFld w 15 8 1 255
  else if a = Reg.TWN_HOLDOFF then clampFld w 11 0 1 3600
  else if a = Reg.TWN_SNAP_LEAD then clampFld w 7 0 5 255
  else w

/-- A write of any value to this register sets the value given, whatever is written. -/
def clearsTo (a : Nat) : Option Nat :=
  let b := blockOf a
  let k := pageNo a
  if a = Reg.GSE_TWIN_RTT_MAX ∨ a = Reg.PTM_POWER_PEAK ∨ a = Reg.MRS_FRAME_US_RANGE ∨ a = Reg.RTU_TWIN_OFFSET_MAX ∨
     a = Reg.RTU_H_FREQ_RANGE ∨ a = Reg.BMX_WAIT_MAX ∨ a = Reg.FCR_SNAP_LAT_MAX ∨ a = Reg.FCR_ACK_US_MAX then some 0
  else if b = 15 ∧ 1 ≤ k ∧ k ≤ 16 ∧ a = Reg.TWN_L_ARRIVAL_MAX k then some 0
  else if b = 0 ∧ 1 ≤ k ∧ k ≤ 4 ∧ a = Reg.CPC_H_RATE_MIN k then some 0xFFFF
  else if b = 1 ∧ 1 ≤ k ∧ k ≤ 12 ∧ a = Reg.BMX_M_WAIT_MAX k then some 0
  else if b = 3 ∧ 1 ≤ k ∧ k ≤ 15 ∧ a = Reg.FCR_E_DROOP_MIN k then some 0
  else if b = 11 ∧ 1 ≤ k ∧ k ≤ 4 ∧ (a = Reg.FST_S_WAKE_MAX k ∨ a = Reg.FST_S_LAT_MAX k) then some 0
  else none

/-! Refusals. -/

/-- Code of a response in ACC_ERR, BMX_ERR_INFO and CPC_H_BUSERR_INFO (Tables 2.17, 15.7, 15.10). -/
def respCode (r : Resp) : Nat :=
  match r with | .okay => 0 | .locked => 1 | .state => 2 | .absent => 3 | .decode => 4 | .secure => 5 | .retry => 6

/-- The answer becomes a response. -/
def State.reply (s : State) (r : Resp) : State := { s with answer := { s.answer with resp := r } }

/-- The page at p records a refusal of an access to offset o in STICKY.ACC_ERR and ACC_ERR (R35). -/
def State.pageRecord (s : State) (p o : Nat) (m : Requester) (r : Resp) : State :=
  let t := s.bumpSat (hACCERR p) 23 16 1
  (((t.setFld (hACCERR p) 31 28 (respCode r)).setFld (hACCERR p) 27 24 m.num).setFld (hACCERR p) 15 0 o).stick p 2

/-- A page answers STATE (R34, R35). -/
def State.refuseState (s : State) (m : Requester) (a : Nat) : State :=
  (s.reply .state).pageRecord (pageOf a) (offOf a) m .state

/-- Source <block>_RUN_WRITE of a block that has one. -/
def runWriteSrc (b : Nat) : Option Nat :=
  match b with
  | 2 => some Src.KSU_RUN_WRITE | 5 => some Src.RTU_RUN_WRITE | 6 => some Src.SLC_RUN_WRITE | 7 => some Src.SFE_RUN_WRITE
  | 8 => some Src.FMAC_RUN_WRITE | 9 => some Src.CXF_RUN_WRITE | 10 => some Src.GSE_RUN_WRITE | 11 => some Src.FST_RUN_WRITE
  | 12 => some Src.PXP_RUN_WRITE | 13 => some Src.MRS_RUN_WRITE | 14 => some Src.AUD_RUN_WRITE | 15 => some Src.TWN_RUN_WRITE
  | _ => none

/-- Source <block>_LOCK_VIOL of a block that has one. -/
def lockViolSrc (b : Nat) : Option Nat :=
  match b with
  | 0 => some Src.CPC_LOCK_VIOL | 1 => some Src.BMX_LOCK_VIOL | 2 => some Src.KSU_LOCK_VIOL | 3 => some Src.FCR_LOCK_VIOL
  | 4 => some Src.PTM_LOCK_VIOL | 5 => some Src.RTU_LOCK_VIOL | 15 => some Src.TWN_LOCK_VIOL | _ => none

/-- A source that a block may have rises. -/
def State.raiseOpt (s : State) (src : Option Nat) : State := match src with | some n => s.raise n | none => s

/-- A write in RUN that would change a static or active shadowed field is refused (R44). -/
def State.refuseRun (s : State) (m : Requester) (a : Nat) : State :=
  ((s.refuseState m a).stick (pageOf a) 1).raiseOpt (runWriteSrc (blockOf a))

/-- A locked write is refused (R52). -/
def State.refuseLocked (s : State) (m : Requester) (a : Nat) : State :=
  (((s.reply .locked).pageRecord (pageOf a) (offOf a) m .locked).stick (pageOf a) 0).raiseOpt (lockViolSrc (blockOf a))

/-- The target that BMX_ERR_INFO and the BUSERR registers name for an address; 0 where nothing decodes. -/
def targetNo (a : Nat) : Nat := (targetOf a).getD 0

/-- The BMX records a DECODE, SECURE or RETRY response (R381, R385). -/
def State.busRecord (s : State) (m : Requester) (a : Nat) (r : Resp) (reason : Nat) (write : Bool) : State :=
  let n := min 255 (s.fld Reg.BMX_ERR_INFO 15 8 + 1)
  let t := s.wrN Reg.BMX_ERR_INFO
    (respCode r * 2 ^ 28 + m.num % 16 * 2 ^ 24 + reason * 2 ^ 22 + targetNo a * 2 ^ 16 + n * 256 + b2n write)
  let u := (t.wrN Reg.BMX_ERR_ADDR_LO a).wrN Reg.BMX_ERR_ADDR_HI (a / 2 ^ 32 % 256)
  match r with
  | .decode => (u.bump Reg.BMX_DECODE_CNT).raise Src.BMX_DECODE
  | .secure => (u.bump Reg.BMX_SECURE_CNT).raise Src.BMX_SECURE
  | _ => ((u.bump Reg.BMX_RETRY_CNT).wrN (Reg.BMX_M_LAST_RETRY (m.num + 1)) (reason * 2 ^ 26 + targetNo a * 2 ^ 16)).raise Src.BMX_RETRY

/-- Number of a privilege mode in the BUSERR and hart status registers: 0 U, 1 S, 3 M. -/
def modeNo (m : PrivMode) : Nat := match m with | .user => 0 | .supervisor => 1 | .machine => 3

/-- The reservation of a hart is lost. -/
def State.dropResv (s : State) (h : Nat) : State := { s with bus := { s.bus with resv := s.bus.resv.filter (fun r => r.1 != h) } }

/-- A core receives a response other than OKAY, or POISON, as an access fault: the first since INFO was last read is captured, every one counts, and the trap loses the hart's reservation (R382, R383). -/
def State.coreFault (s : State) (m : Requester) (a : Nat) (code reason : Nat) (kind : TxnKind) : State :=
  if 4 < m.num then s
  else
    let info := if m.num = 0 then Reg.CPC_B_BUSERR_INFO else Reg.CPC_H_BUSERR_INFO m.num
    let lo := if m.num = 0 then Reg.CPC_B_BUSERR_ADDR_LO else Reg.CPC_H_BUSERR_ADDR_LO m.num
    let cnt := if m.num = 0 then Reg.CPC_B_BUSERR_CNT else Reg.CPC_H_BUSERR_CNT m.num
    let t := if s.rdN (hid info 0) = 0 then
        (((s.wrN info (code * 2 ^ 28 + reason * 2 ^ 26 + b2n (kindWrites kind) * 2 ^ 25 + b2n (kind == .fetch) * 2 ^ 24 +
          modeNo m.mode * 2 ^ 22 + targetNo a * 2 ^ 16)).wrN lo a).wrN (lo + 4) (a / 2 ^ 32 % 256)).wrN (hid info 0) 1
      else s
    let u := (t.bump cnt).raise Src.CPC_BUSERR
    if m.num = 0 then u else u.dropResv (m.num - 1)

/-! The way of an access to its page (R34). -/

/-- WB locations: writable by the boot core only, and only before the seal (R33). -/
def isWB (a : Nat) : Bool :=
  a == Reg.BMX_PMAP_SEAL || a == Reg.KSU_LC_CMD ||
    (isRegAddr a && tableAt (blockOf a) (pageNo a) (offOf a) == some .wb)

/-- The SECURE check of an access (R32, R33, R37, R394, Table 15.5). -/
def State.secureOk (s : State) (m : Requester) (a : Nat) (kind : TxnKind) : Bool :=
  if isRegAddr a then
    let b := blockOf a
    let k := pageNo a
    s.classAdmits m b k &&
    (!kindWrites kind ||
      ((!isWB a || m.num == 0) && (offOf a != 0x24 || privAdmits (s.classNibble b k) m) &&
        (a != Reg.CPC_HART_RUN || m.num == 0)))
  else s.regionAdmits m a kind

/-- Transactions of pool class n are guaranteed or shared room (R238). -/
def State.poolFree (s : State) (n : Nat) : Bool :=
  let share := fun i => s.fld (Reg.FST_POOL_SHARE i) 15 0
  let used := fun i => nthD s.store.inUse i 0
  decide (used n < share n) ||
    decide (((List.range 8).map (fun i => used i - share i)).sum < 16384 - ((List.range 8).map share).sum)

/-- The RETRY reason of an access, 0 where it is not retried (R379). -/
def State.retryReason (s : State) (a : Nat) : Nat :=
  let t := targetNo a
  if 32 ≤ s.depth t then 1
  else if isFlash a && s.board.flashBusy then 3
  else if isStore a && s.storeOpen && !s.poolFree 3 then 2
  else 0

/-- The block behind the address answers ABSENT (R34, R40, R227). -/
def State.isAbsent (s : State) (a : Nat) : Bool :=
  if isRegAddr a then s.absentAt (blockOf a) (pageNo a) (offOf a) else isStore a && !s.storeOpen

/-- The response an access gets before its page considers it: the highest of Table 2.5 that applies, with the RETRY reason; none where it reaches the page. -/
def State.gate (s : State) (m : Requester) (a len : Nat) (kind : TxnKind) : Option (Resp × Nat) :=
  if !s.decodes a len kind then some (.decode, 0)
  else if !s.secureOk m a kind then some (.secure, 0)
  else if s.retryReason a != 0 then some (.retry, s.retryReason a)
  else if s.isAbsent a then some (.absent, 0)
  else none

/-- The device answers an access with a response other than OKAY and records it (R35, R381, R382); a core's RETRY is kept for its repeats (R379). -/
def State.deny (s : State) (m : Requester) (a len : Nat) (kind : TxnKind) (data : Nat) (r : Resp) (reason : Nat) : State :=
  let s0 := { s with answer := { resp := r, reason := reason } }
  match r with
  | .retry =>
    let t := (s0.busRecord m a .retry reason (kindWrites kind)).bump (Reg.BMX_M_RETRIED (m.num + 1))
    let u := if isStore a && reason == 2 then t.bump Reg.FST_HOST_RETRY_CNT else t
    if m.num ≤ 4 && s.fld (Reg.BMX_M_CFG (m.num + 1)) 15 12 == 0 then u.coreFault m a 6 reason kind
    else if m.num ≤ 4 then
      { u with bus := { u.bus with retrying := u.bus.retrying.filter (fun x => x.1 != m.num) ++
        [(m.num, { target := targetNo a, who := m, kind := kind, addr := a, len := len, data := data, entered := s.now, late := false, restLen := 0 }, 0)] } }
    else u
  | .absent =>
    let t := if isRegAddr a then s0.pageRecord (pageOf a) (offOf a) m .absent else s0
    (((t.bump Reg.BMX_ABSENT_CNT).bump (Reg.BMX_M_REFUSED (m.num + 1))).raise Src.BMX_ABSENT).coreFault m a 3 0 kind
  | _ => ((s0.busRecord m a r reason (kindWrites kind)).bump (Reg.BMX_M_REFUSED (m.num + 1))).coreFault m a (respCode r) 0 kind

/-- A page has answered: the master page counts the transaction, and a core takes a refusal as an access fault (R381, R382). -/
def State.settle (s : State) (m : Requester) (a : Nat) (kind : TxnKind) : State :=
  if s.answer.resp = .okay then s.bump (Reg.BMX_M_SERVED (m.num + 1))
  else (s.bump (Reg.BMX_M_REFUSED (m.num + 1))).coreFault m a (respCode s.answer.resp) 0 kind

/-- The target of an address grants a transaction of a master at once: its grants count and it stays parked there (R376, R377). -/
def State.grantNow (s : State) (m : Requester) (a : Nat) : State :=
  let p := 0x11 + targetNo a
  let t := s.bump (Reg.BMX_T_GRANTS p)
  if t.bit Reg.BMX_CFG 0 then t.setFld (Reg.BMX_T_STATUS p) 31 28 m.num else t

/-- The device answers no access while a reset is held (R454, R455). -/
def State.inHold (s : State) : Bool := s.board.resetHeld || s.board.jtagHeld

/-- The management pause refuses a write of the host or the management SPI to any page but the chain pages (R419). -/
def State.pauseBars (s : State) (m : Requester) (a : Nat) (kind : TxnKind) : Bool :=
  s.upd.pause.isSome && kindWrites kind && (m.num == 5 || m.num == 6) && isRegAddr a && !(blockOf a == 15 && (pageNo a == 17 || pageNo a == 18))

/-- An access of one 32-bit word to register space as one transaction: it is refused on its way, or reaches its page and has the effect f, which may itself refuse it (R34). -/
def State.accessWord (s : State) (m : Requester) (a : Nat) (kind : TxnKind) (data : Nat) (f : State → State) : State :=
  if s.inHold then s
  else
    match s.gate m a 4 kind with
    | some r => s.deny m a 4 kind data r.1 r.2
    | none =>
      let t := ({ s with answer := {} }).grantNow m a
      (if s.pauseBars m a kind then t.refuseState m a else f t).settle m a kind

/-- A write access of a word with its effect. -/
def State.writeAccess (s : State) (m : Requester) (a v : Nat) (f : State → State) : State := s.accessWord m a .write v f

/-- A read access of a word with its effect. -/
def State.readAccess (s : State) (m : Requester) (a : Nat) (f : State → State) : State := s.accessWord m a .read 0 f

/-- The answer carries read data. -/
def State.withData (s : State) (v : Nat) : State := { s with answer := { s.answer with data := v } }

/-! Writes. -/

/-- Lock group of a location is locked (R51). -/
def State.isLocked (s : State) (a lock : Nat) : Bool := lock != 0 && s.bit (hLOCK (pageOf a)) (lock - 1)

/-- Bits of v where the mask has 1, else of old. -/
def mergeMask (old v mask : Nat) : Nat := (old &&& (mask ^^^ 0xFFFFFFFF)) ||| (v &&& mask)

/-- A write of v reaches the active offset of a register of row r: locks (R51), static and shadowed fields (R44, R45), live fields (R43) and W1C fields (hw: bits hardware sets in the same instant, R36). -/
def State.writeRow (s : State) (m : Requester) (a v hw : Nat) (r : RegRow) : State :=
  if s.isLocked a r.lock then s.refuseLocked m a
  else
    let old := s.rdN a
    let running := s.curOf (blockOf a) (pageNo a) == sRUN
    let fixed := r.rwi ||| r.rws
    if running && ((old ^^^ v) &&& fixed) != 0 then s.refuseRun m a
    else
      let mask := if running then r.rw else r.rw ||| fixed
      let merged := mergeMask old v mask
      let new := normalWord a (w32 (mergeMask merged 0 (v &&& r.w1c) ||| (hw &&& r.w1c)))
      match clearsTo a with
      | some c => s.wrN a c
      | none =>
        let t := s.wr a new
        if !running && r.rws != 0 then t.wrN (a + 0x8000) (mergeMask (s.rdN (a + 0x8000)) new.toNat r.rws) else t

/-- A write of v reaches a shadow offset (R45, R46): the shadow copy changes and the status becomes DIRTY, or STATE answers it while armed. -/
def State.writeShadow (s : State) (m : Requester) (a v : Nat) : State :=
  let base := a - 0x8000
  match masksAt (blockOf a) (pageNo a) (offOf base) with
  | some r =>
    if r.rws = 0 then s
    else if s.shadowHeld (pageOf a) then (s.refuseState m a).stick (pageOf a) 10
    else (s.wr a (normalWord base (w32 (mergeMask (s.rdN a) v r.rws)))).setShadow (pageOf a) 1
  | none => s

/-- Words of fixed page-class entries keep their nibbles (R393). -/
def fixedClassMask (a : Nat) : Nat :=
  let k := pageNo a
  let o := offOf a
  if blockOf a = 1 ∧ k = 0x40 ∧ inR 0x1000 0x13FF o then
    let b := (o - 0x1000) / 128
    let g := (o - 0x1000) / 4 % 32
    if b = 2 then 0 else if b = 1 ∧ g = 8 then 0xFFFF0000 else if b = 0 ∧ g = 0 then 0xFF0FFFFF else 0xFFFFFFFF
  else 0xFFFFFFFF

/-- STICKY of the page at p: bits written as 1 clear unless hardware sets them in the same instant; the interrupt gateways keep what was pending (R36, Table 2.17, R369). -/
def State.clearSticky (s : State) (p v hw : Nat) : State :=
  let t := s.plicLatch
  let keep := mergeMask (t.rdN (hSTICKY p)) 0 (v % 2 ^ 32)
  let u := t.wrN (hSTICKY p) (keep ||| (hw &&& t.rdN (hSTICKY p)))
  if v.testBit 2 && !(hw.testBit 2) then u.setFld (hACCERR p) 23 16 0 else u

/-- IRQ_EN of the page at p takes a value; a vector that this asserts is notified. -/
def State.writeIrqEn (s : State) (p v : Nat) : State :=
  let was := s.irqPend p != 0
  let t := (s.plicLatch).wrN (hIRQEN p) v
  match s.vectorOf p with
  | some n => if !was && t.irqPend p != 0 && !s.vectorAsserted n then t.notifyVector n else t
  | none => t

/-- LOCK of the page at p: writing 1 sets (Table 2.16). -/
def State.writeLock (s : State) (p v : Nat) : State := s.orWord (hLOCK p) (v % 2 ^ 32)

/-- FORCE of the page at p: source n of the page rises once, as a forced raise, for every bit n below CAPS.FAULTS, in ascending order (R37). -/
def State.writeForce (s : State) (p v : Nat) : State :=
  ((List.range (faultCount (blockOf p) (pageNo p))).filter (fun n => v.testBit n)).foldl
    (fun t n => t.raiseAs (srcId (blockOf p) (pageNo p) n) true) s

/-- CLR_COUNT of the watermark at a sets COUNT to 0; its crossing bits clear under W1C (R53). -/
def State.writeWatermark (s : State) (a v hw : Nat) : State :=
  let keep := mergeMask (s.rdN a) 0 (v &&& 6) ||| (hw &&& 6)
  let t := s.wrN a keep
  if v.testBit 15 then t.setFld a 31 24 0 else t

end Sys2Proof.Machine
end

