-- ==== Sys2Proof/Machine/Control.lean ====
section
/-! DEFINITION. The control processors: warm restart, watchdog, interrupt controller, timers, mailboxes and the SRAM scrubber (R365 to R373). -/

namespace Sys2Proof.Machine

/-- The four harts. -/
def harts : List Nat := [0, 1, 2, 3]

/-- Restart address of hart h: CPC_H_BOOT_ADDR (R371). -/
def State.bootAddr (s : State) (h : Nat) : Nat := s.rd64 (Reg.CPC_H_BOOT_ADDR_LO (h + 1)) (Reg.CPC_H_BOOT_ADDR_HI (h + 1))

/-- Hart h starts in machine mode at its restart address. -/
def State.startHart (s : State) (h : Nat) : State :=
  let t := { s with ctl := { s.ctl with hartPc := setNth s.ctl.hartPc h (s.bootAddr h) } }
  (((t.setFld (Reg.CPC_H_STATUS (h + 1)) 31 29 1).setFld (Reg.CPC_H_STATUS (h + 1)) 28 27 3).setBit Reg.CPC_STATUS h true).dropResv h

/-- Hart h has been released (R392). -/
def State.released (s : State) (h : Nat) : Bool := s.bit Reg.CPC_HART_RUN h

/-- Released harts start again; a hart that was never released stays held. -/
def State.startReleased (s : State) : State := harts.foldl (fun t h => if t.released h then t.startHart h else t) s

/-- Transactions that masters a test admits have issued complete, and their responses are discarded on arrival (R371); refused accesses are not repeated. -/
def State.orphanTxns (s : State) (p : Nat → Bool) : State :=
  { s with bus := { s.bus with
    queue := mapIf (fun x => p x.who.num) (fun x => { x with orphan := true }) s.bus.queue,
    between := mapIf (fun x => p x.who.num) (fun x => { x with orphan := true }) s.bus.between,
    retrying := s.bus.retrying.filter (fun r => !p r.1) } }

/-- A warm restart of the application cores with a cause bit of CPC_RESET_CAUSE (R371). -/
def State.warmRestart (s : State) (cause : Nat) : State :=
  let t := s.orphanTxns (fun n => Nat.ble 1 n && Nat.ble n 4)
  let u := { t with bus := { t.bus with resv := [] }, ctl := { t.ctl with wdtStart := s.now } }
  ((u.setBit Reg.CPC_RESET_CAUSE cause true).bumpSat Reg.CPC_STATUS 23 16 1).startReleased

/-- CPC_RESTART.ALL. -/
def execCpcRestartAll (m : Requester) (s : State) : Host.Outcome State Fault Refusal :=
  .next (s.writeAccess m Reg.CPC_RESTART 0x80000000 (fun t => t.warmRestart 2))

/-- CPC_H_CTRL.RESTART of hart h: this hart alone under R371. -/
def State.restartHart (s : State) (h : Nat) : State :=
  if s.released h then (s.orphanTxns (fun n => n == h + 1)).startHart h else s

def execHartRestart (m : Requester) (h : Nat) (s : State) : Host.Outcome State Fault Refusal :=
  .next (s.writeAccess m (Reg.CPC_H_CTRL (h % 4 + 1)) 0x80000000 (fun t => t.restartHart (h % 4)))

/-- CPC_H_CTRL.NMI: the hart takes the interrupt, a trap that loses its reservation and ends a wait; a held hart takes none (R371, R383). -/
def State.nmiHart (s : State) (h : Nat) : State :=
  if s.released h then
    let t := { s with ctl := { s.ctl with nmis := setNth s.ctl.nmis h (nthD s.ctl.nmis h 0 + 1) } }
    ((t.setFld (Reg.CPC_H_STATUS (h + 1)) 31 29 1).setFld (Reg.CPC_H_STATUS (h + 1)) 28 27 3).dropResv h
  else s

def execHartNmi (m : Requester) (h : Nat) (s : State) : Host.Outcome State Fault Refusal :=
  .next (s.writeAccess m (Reg.CPC_H_CTRL (h % 4 + 1)) 0x40000000 (fun t => t.nmiHart (h % 4)))

/-- A write to CPC_WDT_KICK restarts the count (R372). -/
def State.kickWdt (s : State) : State := { s with ctl := { s.ctl with wdtStart := s.now } }

def execWdtKick (m : Requester) (v : Nat) (s : State) : Host.Outcome State Fault Refusal :=
  .next (s.writeAccess m Reg.CPC_WDT_KICK v State.kickWdt)

/-- TIMEOUT_MS has passed without a kick: with EN 1 the warm restart of R371, WDT in the cause and CPC_WDT (R372). -/
def State.wdtExpire (s : State) : State :=
  if s.bit Reg.CPC_WDT_CFG 31 then (s.warmRestart 3).raise Src.CPC_WDT else s

def execWdtExpire (s : State) : Host.Outcome State Fault Refusal := .next s.wdtExpire

/-! Interrupt controller (R369). -/

/-- Priority of source n. -/
def State.plicPrio (s : State) (n : Nat) : Nat := s.fld (Reg.CPC_PLIC_PRIO n) 2 0

/-- Sources a claim of context c may take: pending, enabled and of a priority above 0. -/
def State.plicReady (s : State) (c : Nat) : List Nat :=
  (List.range 32).filter (fun n => n != 0 && s.plicPending n && s.bit (Reg.CPC_PLIC_EN c) n && s.plicPrio n != 0)

/-- The source a claim of context c takes: the highest priority, the lowest number among equals; 0 where there is none. -/
def State.plicBest (s : State) (c : Nat) : Nat :=
  (s.plicReady c).foldl (fun best n => if best = 0 ∨ s.plicPrio best < s.plicPrio n then n else best) 0

/-- A claim of context c: its source is no longer pending and its gateway waits for the completion. -/
def State.plicClaim (s : State) (c : Nat) : State :=
  let n := s.plicBest c
  let t := s.withData n
  if n = 0 then t
  else { t with ctl := { t.ctl with plicPend := t.ctl.plicPend - (if t.ctl.plicPend.testBit n then 2 ^ n else 0),
                                    plicClaimed := t.ctl.plicClaimed ||| 2 ^ n } }

def execPlicClaim (m : Requester) (c : Nat) (s : State) : Host.Outcome State Fault Refusal :=
  .next (s.readAccess m (Reg.CPC_PLIC_CLAIM (c % 9)) (fun t => t.plicClaim (c % 9)))

/-- A completion of source n by context c opens the source's gateway; one that names a source not enabled for the context is ignored. -/
def State.plicComplete (s : State) (c n : Nat) : State :=
  if 0 < n ∧ n < 32 ∧ s.bit (Reg.CPC_PLIC_EN c) n = true ∧ s.ctl.plicClaimed.testBit n = true then
    { s with ctl := { s.ctl with plicClaimed := s.ctl.plicClaimed - 2 ^ n } }
  else s

def execPlicComplete (m : Requester) (c n : Nat) (s : State) : Host.Outcome State Fault Refusal :=
  .next (s.writeAccess m (Reg.CPC_PLIC_CLAIM (c % 9)) n (fun t => t.plicComplete (c % 9) n))

/-! Timers and mailboxes (R368, Table 15.2). -/

/-- Compare value of hart h, the boot core being 4. -/
def State.mtimecmp (s : State) (h : Nat) : Nat := s.rd64 (Reg.CPC_MTIMECMP_LO h) (Reg.CPC_MTIMECMP_HI h)

/-- mtime has reached the compare of hart h: its timer interrupt asserts and ends a wait. -/
def State.mtimecmpMatch (s : State) (h : Nat) : State :=
  if s.mtimecmp h ≤ s.now % 2 ^ 64 then
    let t := { s with ctl := { s.ctl with mtip := setNth s.ctl.mtip h true } }
    if h < 4 ∧ t.fld (Reg.CPC_H_STATUS (h + 1)) 31 29 = 2 then t.setFld (Reg.CPC_H_STATUS (h + 1)) 31 29 1 else t
  else s

def execMtimecmpMatch (h : Nat) (s : State) : Host.Outcome State Fault Refusal := .next (s.mtimecmpMatch (h % 5))

/-- After a change of a compare, the timer interrupt stands only while mtime has reached it. -/
def State.mtimecmpSet (s : State) (h : Nat) : State :=
  { s with ctl := { s.ctl with mtip := setNth s.ctl.mtip h (nthD s.ctl.mtip h false && decide (s.mtimecmp h ≤ s.now % 2 ^ 64)) } }

/-- A write to CPC_MBOX[n]: non-zero asserts source 17 + n. -/
def State.mboxWrite (s : State) (n v : Nat) : State := s.plicLatch.wrN (Reg.CPC_MBOX n) v

def execMboxWrite (m : Requester) (n v : Nat) (s : State) : Host.Outcome State Fault Refusal :=
  .next (s.writeAccess m (Reg.CPC_MBOX (n % 4)) v (fun t => t.mboxWrite (n % 4) v))

/-! SRAM ECC (R365). -/

/-- An ECC event of a read of the SRAM word at byte offset o. -/
def State.sramEcc (s : State) (o : Nat) (e : Ecc) : State :=
  match e with
  | .clean => s
  | .corrected => (s.bump Reg.CPC_SRAM_CORR_CNT).raise Src.CPC_SRAM_CORR
  | .uncorrectable => ((s.bump Reg.CPC_SRAM_UNCORR_CNT).wrN Reg.CPC_SRAM_ECC_ADDR (o % 0x400000 / 8 * 8)).raise Src.CPC_SRAM_UNCORR

/-- The scrubber reads the next word, correcting it, unless CPC_SCRUB_CFG.DIS is 1. -/
def State.sramScrub (s : State) (e : Ecc) : State :=
  if s.bit Reg.CPC_SCRUB_CFG 31 then s
  else
    let o := s.ctl.scrubAddr
    ({ s with ctl := { s.ctl with scrubAddr := (o + 8) % 0x400000 } }).sramEcc o e

def execSramScrub (e : Ecc) (s : State) : Host.Outcome State Fault Refusal := .next (s.sramScrub e)

end Sys2Proof.Machine
end

