-- ==== Sys2Proof/Machine/Keys.lean ====
section
/-! DEFINITION. The Key Store Unit: slots, the engine and its operations, the fuses' commands (R386, R387, R396 to R404). -/

namespace Sys2Proof.Machine

/-- The KSU is in RUN. -/
def State.ksuRun (s : State) : Bool := s.running 2

/-! Slots (R396 to R399). -/

/-- LOCKED of slot n. -/
def State.slotLocked (s : State) (n : Nat) : Bool := (s.slotWord n).testBit 21
/-- Key bytes of slot n. -/
def State.slotKey (s : State) (n : Nat) : List Byte := (kget s.keys.keys n).getD []

/-- Bit n of a _LO/_HI pair of words. -/
def pairBitAddr (lo n : Nat) : Nat := if n < 32 then lo else lo + 4

/-- The 128-bit tag of a slot's contents and of bits 29:0 of its status word (R398). -/
def State.slotTag (s : State) (n : Nat) (key : List Byte) : Nat :=
  Config.hmacSha384 (bytesBE 48 s.keys.tagKey) (key ++ bytesBE 4 (s.slotWord n % 2 ^ 30)) / 2 ^ 256

/-- Slot n takes a key with a usage and an origin: VALID, tagged, no longer BAD (R397, R402). -/
def State.storeSlot (s : State) (n : Nat) (key : List Byte) (usage origin : Nat) : State :=
  let t := (s.wrN (slotAddr n) (2 ^ 30 + usage % 64 * 2 ^ 24 + origin * 2 ^ 22 + key.length % 128)).bump Reg.KSU_SLOT_WRITES
  let u := t.setBit (pairBitAddr Reg.KSU_SLOT_BAD_LO n) (n % 32) false
  { u with keys := { u.keys with keys := kput u.keys.keys n key, tags := kput u.keys.tags n (u.slotTag n key) } }

/-- Slot n is zeroed and EMPTY. -/
def State.emptySlot (s : State) (n : Nat) : State :=
  let t := (s.wrN (slotAddr n) 0).setBit (pairBitAddr Reg.KSU_SLOT_BAD_LO n) (n % 32) false
  { t with keys := { t.keys with keys := sdel n t.keys.keys, tags := sdel n t.keys.tags } }

/-- The tag of slot n fails: BAD (R398). -/
def State.badSlot (s : State) (n : Nat) : State :=
  let t := s.setFld (slotAddr n) 31 30 2
  ((t.setBit (pairBitAddr Reg.KSU_SLOT_BAD_LO n) (n % 32) true).bump Reg.KSU_TAG_FAIL_CNT).raise Src.KSU_SLOT_TAG

/-- Address of the context page of context c (0 to 3). -/
def ctxPage (c : Nat) : Nat := pageAddr 2 (c + 1)

/-- Slot named as KEY and as DEST by the context. -/
def State.ctxKey (s : State) (c : Nat) : Nat := s.fld (Reg.KSU_C_SLOT (c + 1)) 7 0
def State.ctxDest (s : State) (c : Nat) : Nat := s.fld (Reg.KSU_C_SLOT (c + 1)) 15 8

/-- An operation under way names slot n as its key or its destination. -/
def State.slotInFlight (s : State) (n : Nat) : Bool :=
  s.engineOps.any (fun x => (s.ctxKey x.ctx == n && x.op != 1 && x.op != 7) || (s.ctxDest x.ctx == n && (x.op == 3 || x.op == 8 || x.op == 9)))

/-- The staged key bytes: KSU_KEY_DATA reads 0, its contents are private to the KSU (R397). -/
def stageAddr (i : Nat) : Nat := hid (Reg.KSU_KEY_DATA i) 0
def State.stagedKey (s : State) : List Byte := ((List.range 16).map (fun i => s.rdN (stageAddr i))).flatMap (bytesLE 4)
def State.zeroStage (s : State) : State := (List.range 16).foldl (fun t i => t.wrN (stageAddr i) 0) s

/-- KSU_SLOT_RESULT: code and slot. -/
def State.slotResult (s : State) (code n : Nat) : State := s.wrN Reg.KSU_SLOT_RESULT (code * 2 ^ 28 + n)

/-- KSU_SLOT_CMD WRITE (R397): LEN outside 1 to 64 and an empty USAGE end BAD_LEN and BAD_USAGE (log entry 11). -/
def State.slotWrite (s : State) (m : Requester) (n : Nat) : State :=
  if s.slotLocked n then s.refuseLocked m Reg.KSU_SLOT_CMD
  else if !s.ksuRun || s.slotInFlight n then s.refuseState m Reg.KSU_SLOT_CMD
  else
    let len := s.fld Reg.KSU_SLOT_ATTR 6 0
    let usage := s.fld Reg.KSU_SLOT_ATTR 29 24
    if len = 0 ∨ 64 < len then s.slotResult 2 n
    else if usage = 0 then s.slotResult 3 n
    else ((s.storeSlot n (s.stagedKey.take len) usage 0).zeroStage).slotResult 1 n

def execSlotWrite (m : Requester) (slot : Nat) (s : State) : Host.Outcome State Fault Refusal :=
  .next (s.writeAccess m Reg.KSU_SLOT_CMD (2 ^ 28 + slot % 64) (fun t => t.slotWrite m (slot % 64)))

/-- KSU_SLOT_CMD CLEAR. -/
def State.slotClear (s : State) (m : Requester) (n : Nat) : State :=
  if s.slotLocked n then s.refuseLocked m Reg.KSU_SLOT_CMD
  else if !s.ksuRun || s.slotInFlight n then s.refuseState m Reg.KSU_SLOT_CMD
  else (s.emptySlot n).slotResult 1 n

def execSlotClear (m : Requester) (slot : Nat) (s : State) : Host.Outcome State Fault Refusal :=
  .next (s.writeAccess m Reg.KSU_SLOT_CMD (2 * 2 ^ 28 + slot % 64) (fun t => t.slotClear m (slot % 64)))

/-- KSU_SLOT_CMD LOCK: LOCKED until the next cold reset; the tag covers the bit. -/
def State.slotLock (s : State) (m : Requester) (n : Nat) : State :=
  if !s.ksuRun then s.refuseState m Reg.KSU_SLOT_CMD
  else
    let t := (s.setBit (slotAddr n) 21 true).setBit (pairBitAddr Reg.KSU_SLOT_LOCKED_LO n) (n % 32) true
    let u := if t.slotState n = 1 then { t with keys := { t.keys with tags := kput t.keys.tags n (t.slotTag n (t.slotKey n)) } } else t
    u.slotResult 1 n

def execSlotLock (m : Requester) (slot : Nat) (s : State) : Host.Outcome State Fault Refusal :=
  .next (s.writeAccess m Reg.KSU_SLOT_CMD (3 * 2 ^ 28 + slot % 64) (fun t => t.slotLock m (slot % 64)))

/-! Fuse commands (R387). -/

/-- A fuse command starts programming, unless one of R387's refusals applies; ADVANCE moves on from PROVISIONED and DEPLOYED only (Table 16.1, log entry 12). -/
def State.fuseCommand (s : State) (m : Requester) (op : FuseOp) : State :=
  let a := Reg.KSU_LC_CMD
  let f := s.keys.fuses
  if s.isSealed then s.refuseLocked m a
  else
    let bad := match op with
      | .advance => !(f.lc == 1 || f.lc == 2)
      | .svnInc => s.fld Reg.KSU_SVN 6 0 == 64
      | .revoke0 => f.hash0.isSome && !f.revoked0 && !(f.hash1.isSome && !f.revoked1)
      | .revoke1 => f.hash1.isSome && !f.revoked1 && !(f.hash0.isSome && !f.revoked0)
    if bad || s.keys.programming.isSome then s.refuseState m a
    else ({ s with keys := { s.keys with programming := some op } }).setBit Reg.KSU_LC 8 true

def execLcAdvance (m : Requester) (s : State) : Host.Outcome State Fault Refusal :=
  .next (s.writeAccess m Reg.KSU_LC_CMD (2 ^ 28) (fun t => t.fuseCommand m .advance))
def execSvnInc (m : Requester) (s : State) : Host.Outcome State Fault Refusal :=
  .next (s.writeAccess m Reg.KSU_LC_CMD (2 * 2 ^ 28) (fun t => t.fuseCommand m .svnInc))
def execRevoke0 (m : Requester) (s : State) : Host.Outcome State Fault Refusal :=
  .next (s.writeAccess m Reg.KSU_LC_CMD (3 * 2 ^ 28) (fun t => t.fuseCommand m .revoke0))
def execRevoke1 (m : Requester) (s : State) : Host.Outcome State Fault Refusal :=
  .next (s.writeAccess m Reg.KSU_LC_CMD (4 * 2 ^ 28) (fun t => t.fuseCommand m .revoke1))

/-- The fuses after a command. -/
def fuseAfter (f : Fuses) (op : FuseOp) : Fuses :=
  match op with
  | .advance => { f with lc := min 3 (f.lc + 1) }
  | .svnInc => { f with svn := min 64 (f.svn + 1) }
  | .revoke0 => { f with revoked0 := true }
  | .revoke1 => { f with revoked1 := true }

/-- Programming completes; the copies in force change at the next cold reset (R387). -/
def State.fuseDone (s : State) : State :=
  match s.keys.programming with
  | none => s
  | some op => ({ s with keys := { s.keys with programmed := fuseAfter s.keys.programmed op, programming := none } }).setBit Reg.KSU_LC 8 false

def execFuseProgDone (s : State) : Host.Outcome State Fault Refusal := .next s.fuseDone

/-! The engine (R401 to R404). -/

/-- KSU_C_CMD of context c with an operation: STATE while the context is busy or the KSU is not in RUN; the engine takes it at once when idle. -/
def State.engineCommand (s : State) (m : Requester) (c op phase : Nat) : State :=
  let a := Reg.KSU_C_CMD (c + 1)
  if s.ctxBusy c || !s.ksuRun then s.refuseState m a
  else
    let t := ((s.wrN (Reg.KSU_C_STATUS (c + 1)) (2 ^ 28)).wrN (Reg.KSU_C_OWNER (c + 1)) m.num)
    let x : EngineOp := ⟨c, op, phase⟩
    match t.keys.current with
    | none => { t with keys := { t.keys with current := some x, lastCtx := c } }
    | some _ => { t with keys := { t.keys with waiting := t.keys.waiting ++ [x] } }

/-- The word a command of the engine writes. -/
def engineWord (op phase : Nat) : Nat := op * 2 ^ 28 + phase % 4 * 2 ^ 26

def execKsuSha384 (m : Requester) (c phase : Nat) (s : State) : Host.Outcome State Fault Refusal :=
  .next (s.writeAccess m (Reg.KSU_C_CMD (c % 4 + 1)) (engineWord 1 phase) (fun t => t.engineCommand m (c % 4) 1 (phase % 4)))
def execKsuHmac (m : Requester) (c phase : Nat) (s : State) : Host.Outcome State Fault Refusal :=
  .next (s.writeAccess m (Reg.KSU_C_CMD (c % 4 + 1)) (engineWord 2 phase) (fun t => t.engineCommand m (c % 4) 2 (phase % 4)))
def execKsuKdf (m : Requester) (c : Nat) (s : State) : Host.Outcome State Fault Refusal :=
  .next (s.writeAccess m (Reg.KSU_C_CMD (c % 4 + 1)) (engineWord 3 0) (fun t => t.engineCommand m (c % 4) 3 0))
def execKsuGcmEncrypt (m : Requester) (c : Nat) (s : State) : Host.Outcome State Fault Refusal :=
  .next (s.writeAccess m (Reg.KSU_C_CMD (c % 4 + 1)) (engineWord 4 0) (fun t => t.engineCommand m (c % 4) 4 0))
def execKsuGcmDecrypt (m : Requester) (c : Nat) (s : State) : Host.Outcome State Fault Refusal :=
  .next (s.writeAccess m (Reg.KSU_C_CMD (c % 4 + 1)) (engineWord 5 0) (fun t => t.engineCommand m (c % 4) 5 0))
def execKsuEcdsaSign (m : Requester) (c : Nat) (s : State) : Host.Outcome State Fault Refusal :=
  .next (s.writeAccess m (Reg.KSU_C_CMD (c % 4 + 1)) (engineWord 6 0) (fun t => t.engineCommand m (c % 4) 6 0))
def execKsuEcdsaVerify (m : Requester) (c : Nat) (s : State) : Host.Outcome State Fault Refusal :=
  .next (s.writeAccess m (Reg.KSU_C_CMD (c % 4 + 1)) (engineWord 7 0) (fun t => t.engineCommand m (c % 4) 7 0))
def execKsuEcdh (m : Requester) (c : Nat) (s : State) : Host.Outcome State Fault Refusal :=
  .next (s.writeAccess m (Reg.KSU_C_CMD (c % 4 + 1)) (engineWord 8 0) (fun t => t.engineCommand m (c % 4) 8 0))
def execKsuGenerate (m : Requester) (c : Nat) (s : State) : Host.Outcome State Fault Refusal :=
  .next (s.writeAccess m (Reg.KSU_C_CMD (c % 4 + 1)) (engineWord 9 0) (fun t => t.engineCommand m (c % 4) 9 0))

/-- Curve P-384 (FIPS 186-5, which R388 names): field prime, coefficient b and group order (PRESUMED, log entry 13). -/
def p384p : Nat := 2 ^ 384 - 2 ^ 128 - 2 ^ 96 + 2 ^ 32 - 1
def p384b : Nat := 0xB3312FA7E23EE7E4988E056BE3F82D19181D9C6EFE8141120314088F5013875AC656398D8A2ED19D2A85C8EDD3EC2AEF
def p384n : Nat := 0xFFFFFFFFFFFFFFFFFFFFFFFFFFFFFFFFFFFFFFFFFFFFFFFFC7634D81F4372DDF581A0DB248B0A77AECEC196ACCC52973

/-- Coordinates below p on the curve; (0, 0) is not on it, so the encoding of the point at infinity fails too (R404). -/
def onCurve (x y : Nat) : Bool :=
  decide (x < p384p) && decide (y < p384p) && (y * y) % p384p == (x * x * x + (p384p - 3) * x + p384b) % p384p

/-- A scalar is in 1 to n - 1 (R404). -/
def goodScalar (k : Nat) : Bool := decide (0 < k) && decide (k < p384n)

/-- n bytes of the buffer of context c from byte i. -/
def State.bufBytes (s : State) (c i n : Nat) : List Byte :=
  let w0 := i / 4
  let w1 := (i + n + 3) / 4
  (((s.rdWords (ctxPage c + 0x1000 + 4 * w0) (w1 - w0)).flatMap (bytesLE 4)).drop (i % 4)).take n

/-- Words of a byte list, the last one completed from the word it overlays. -/
def wordsOf (old : List Nat) : List Byte → List Nat
  | b0 :: b1 :: b2 :: b3 :: r => ofBytesLE [b0, b1, b2, b3] :: wordsOf old.tail r
  | [] => []
  | l => [ofBytesLE (l ++ (bytesLE 4 (old.headD 0)).drop l.length)]

/-- Bytes replace the start of the buffer of context c. -/
def State.bufWrite (s : State) (c : Nat) (l : List Byte) : State :=
  s.wrWords (ctxPage c + 0x1000) (wordsOf (s.rdWords (ctxPage c + 0x1000) ((l.length + 3) / 4)) l)

/-- Result of an operation: code of KSU_C_STATUS and output bytes. -/
structure EngineResult where
  code : Nat
  out : List Byte
  deriving DecidableEq, Repr

/-- The operation ends: status, output length, time and counts (Table 16.8, R404). -/
def State.engineEnd (s : State) (c us : Nat) (r : EngineResult) : State :=
  let k := c + 1
  let t := ((s.wrN (Reg.KSU_C_STATUS k) (r.code * 2 ^ 28)).wrN (Reg.KSU_C_OUT_LEN k) r.out.length).wrN (Reg.KSU_C_TIME_US k) (us % 65536)
  let u := ((if r.code = 2 then t else t.bump (Reg.KSU_C_ERR_CNT k)).bump (Reg.KSU_C_OPS k)).bump Reg.KSU_OPS
  let v := if r.out.isEmpty then u else u.bufWrite c r.out
  if r.code = 3 then (v.bump Reg.KSU_INVALID_CNT).raise Src.KSU_INVALID_INPUT
  else if r.code = 4 then (v.bump Reg.KSU_AUTH_FAIL_CNT).raise Src.KSU_AUTH_FAIL
  else v

/-- The key of an operation that needs a usage bit: its bytes, or the status code it ends with (6 SLOT_BAD, 7 SLOT_USAGE). -/
def State.opKey (s : State) (n usageBit : Nat) : Except Nat (List Byte) :=
  if 64 ≤ n then .error 7
  else if s.slotState n = 2 then .error 6
  else if s.slotState n = 1 ∧ (s.slotUsage n).testBit usageBit = true then .ok (s.slotKey n)
  else .error 7

/-- The key of a derivation: KEY 0xFF names the root secret, usable in PROVISIONED and DEPLOYED only (code 8 NO_ROOT; R402, Table 16.1). -/
def State.kdfKey (s : State) (n : Nat) : Except Nat (List Byte) :=
  if n = 0xFF then
    if s.keys.fuses.lc = 1 ∨ s.keys.fuses.lc = 2 then
      match s.keys.fuses.root with | some r => .ok (bytesBE 32 r) | none => .error 8
    else .error 8
  else s.opKey n 2

/-- A destination slot that may be written: it exists and is not locked. -/
def State.destOk (s : State) (n : Nat) : Bool := decide (n < 64) && !s.slotLocked n

/-- The blocks of the SP 800-108 counter-mode KDF, i from 1 (R402). -/
def kdfBlocks (key label context : List Byte) (l : Nat) : Nat → Nat → List Byte
  | 0, _ => []
  | n + 1, i => bytesBE 48 (Config.hmacSha384 key (bytesBE 4 i ++ label ++ [0#8] ++ context ++ bytesBE 4 l)) ++ kdfBlocks key label context l n (i + 1)

/-- A hash or keyed hash over the context's input by phase (R401, Table 16.9): one-shot, INIT, UPDATE, FINAL. -/
def State.hashOp (s : State) (c us phase : Nat) (f : List Byte → Nat) : State :=
  let len := s.fld (Reg.KSU_C_LEN (c + 1)) 14 0
  if 16384 < len then s.engineEnd c us ⟨10, []⟩
  else
    let d := s.bufBytes c 0 len
    let before := if phase = 0 ∨ phase = 1 then [] else (kget s.keys.hashes c).getD []
    let all := before ++ d
    if phase = 0 ∨ phase = 3 then
      let t := { s with keys := { s.keys with hashes := if phase = 3 then sdel c s.keys.hashes else s.keys.hashes } }
      let u := if phase = 3 then t.wr64 (Reg.KSU_C_HASH_LEN_LO (c + 1)) (Reg.KSU_C_HASH_LEN_HI (c + 1)) 0 else t
      u.engineEnd c us ⟨2, bytesBE 48 (f all)⟩
    else
      let t := { s with keys := { s.keys with hashes := kput s.keys.hashes c all } }
      (t.wr64 (Reg.KSU_C_HASH_LEN_LO (c + 1)) (Reg.KSU_C_HASH_LEN_HI (c + 1)) all.length).engineEnd c us ⟨2, []⟩

/-- GCM IV and tag of a context as numbers, entry 0 lowest (log entry 14). -/
def State.ctxIv (s : State) (c : Nat) : Nat := ((List.range 3).map (fun i => s.rdN (Reg.KSU_C_IV (c + 1) i) * 2 ^ (32 * i))).sum
def State.ctxTag (s : State) (c : Nat) : Nat := ((List.range 4).map (fun i => s.rdN (Reg.KSU_C_TAG (c + 1) i) * 2 ^ (32 * i))).sum

/-- The engine's operation on a context (R401, R402, R404, Table 16.5). -/
def State.engineRun (s : State) (x : EngineOp) (us : Nat) : State :=
  let c := x.ctx
  let k := c + 1
  let len := s.fld (Reg.KSU_C_LEN k) 14 0
  let aad := s.fld (Reg.KSU_C_AAD_LEN k) 14 0
  let key := s.ctxKey c
  let dest := s.ctxDest c
  let fail := fun code => s.engineEnd c us ⟨code, []⟩
  match x.op with
  | 1 => s.hashOp c us x.phase Config.sha384
  | 2 =>
    match s.opKey key 1 with
    | .error e => fail e
    | .ok kb => s.hashOp c us x.phase (Config.hmacSha384 kb)
  | 3 =>
    let l := s.fld (Reg.KSU_C_KDF_L k) 9 0
    let d := s.bufBytes c 0 len
    let ll := ofBytesLE (d.take 2)
    match s.kdfKey key with
    | .error e => fail e
    | .ok kb =>
      if 16384 < len ∨ len < 2 ∨ len < 2 + ll ∨ ¬(l = 256 ∨ l = 384 ∨ l = 512) then fail 10
      else if !s.destOk dest then fail 7
      else
        let out := (kdfBlocks kb ((d.drop 2).take ll) (d.drop (2 + ll)) l 2 1).take (l / 8)
        (s.storeSlot dest out (s.fld Reg.KSU_SLOT_ATTR 29 24) 1).engineEnd c us ⟨2, []⟩
  | 4 =>
    match s.opKey key 0 with
    | .error e => fail e
    | .ok kb =>
      if 16384 < len + aad then fail 10
      else
        let r := Config.gcmEncrypt kb (s.ctxIv c) (s.bufBytes c 0 aad) (s.bufBytes c aad len)
        let t := (List.range 4).foldl (fun t i => t.wrN (Reg.KSU_C_TAG k i) (r.2 / 2 ^ (32 * i))) s
        t.engineEnd c us ⟨2, r.1.take len⟩
  | 5 =>
    match s.opKey key 0 with
    | .error e => fail e
    | .ok kb =>
      if 16384 < len + aad then fail 10
      else
        match Config.gcmDecrypt kb (s.ctxIv c) (s.bufBytes c 0 aad) (s.bufBytes c aad len) (s.ctxTag c) with
        | some pt => s.engineEnd c us ⟨2, pt.take len⟩
        | none => s.engineEnd c us ⟨4, List.replicate len 0#8⟩
  | 6 =>
    match s.opKey key 3 with
    | .error e => fail e
    | .ok kb =>
      if !s.keys.trngOk then fail 9
      else if len != 48 then fail 10
      else if !goodScalar (ofBytesBE kb) then fail 3
      else
        let r := Config.ecdsaSign (ofBytesBE kb) (ofBytesBE (s.bufBytes c 0 48)) s.freeVal
        s.drawn.engineEnd c us ⟨2, bytesBE 48 r.1 ++ bytesBE 48 r.2⟩
  | 7 =>
    if len != 240 then fail 10
    else
      let g := fun i => ofBytesBE (s.bufBytes c (48 * i) 48)
      if !onCurve (g 0) (g 1) || !goodScalar (g 3) || !goodScalar (g 4) then fail 3
      else if Config.ecdsaVerify (g 0, g 1) (g 2) (g 3, g 4) then s.engineEnd c us ⟨2, []⟩ else fail 5
  | 8 =>
    match s.opKey key 4 with
    | .error e => fail e
    | .ok kb =>
      let x := ofBytesBE (s.bufBytes c 0 48)
      let y := ofBytesBE (s.bufBytes c 48 48)
      if len != 96 then fail 10
      else if !onCurve x y || !goodScalar (ofBytesBE kb) then fail 3
      else if !s.destOk dest then fail 7
      else (s.storeSlot dest (bytesBE 48 (Config.ecMul (ofBytesBE kb) (x, y)).1) 4 1).engineEnd c us ⟨2, []⟩
  | _ =>
    if !s.keys.trngOk then fail 9
    else if !s.destOk dest then fail 7
    else
      let d := s.freeVal % (p384n - 1) + 1
      let q := Config.ecPublic d
      (s.drawn.storeSlot dest (bytesBE 48 d) (s.fld Reg.KSU_SLOT_ATTR 29 24) 2).engineEnd c us ⟨2, bytesBE 48 q.1 ++ bytesBE 48 q.2⟩

/-- Waiting operation of the next context after c, in rotation (R401). -/
def nextWaiting (l : List EngineOp) (c : Nat) : Option EngineOp :=
  ([1, 2, 3, 4].map (fun i => (c + i) % 4)).findSome? (fun j => l.find? (fun x => x.ctx == j))

/-- The engine takes the next waiting context. -/
def State.engineNext (s : State) : State :=
  match nextWaiting s.keys.waiting s.keys.lastCtx with
  | some x => { s with keys := { s.keys with current := some x, lastCtx := x.ctx, waiting := s.keys.waiting.filter (fun y => y.ctx != x.ctx) } }
  | none => { s with keys := { s.keys with current := none } }

/-- The operation under way completes after us microseconds; tagBad says that the tag check of its key slot failed (R398), which marks the slot BAD. -/
def State.engineDone (s : State) (us : Nat) (tagBad : Bool) : State :=
  match s.keys.current with
  | none => s
  | some x =>
    let key := s.ctxKey x.ctx
    let usesKey := x.op != 1 && x.op != 7 && x.op != 9 && decide (key < 64)
    let t := if tagBad && usesKey && s.slotState key == 1 then s.badSlot key else s
    (t.engineRun x us).engineNext

def execKsuOpDone (us : Nat) (tagBad : Bool) (s : State) : Host.Outcome State Fault Refusal := .next (s.engineDone us tagBad)

/-- The TRNG fails its health tests (R404). -/
def State.trngFail (s : State) : State :=
  let t := { s with keys := { s.keys with trngOk := false } }
  (((t.setBit Reg.KSU_TRNG_STATUS 31 false).setBit Reg.KSU_TRNG_STATUS 30 true).bumpSat Reg.KSU_TRNG_STATUS 15 0 1).raise Src.KSU_TRNG_FAIL

def execTrngHealthFail (s : State) : Host.Outcome State Fault Refusal := .next s.trngFail

end Sys2Proof.Machine
end

