-- ==== Sys2Proof/Machine/Boot.lean ====
section
/-! DEFINITION. Resets of the device, the boot ROM, the protection map and the release of the harts (R388 to R395, R399, R400, R405, R455, R463). -/

namespace Sys2Proof.Machine

/-- The device after a cold reset (R399, R433's opposite): everything at reset but the flash, the fuses as programmed, KSU_GLITCH_LOG on its own supply, the straps and the pins. The RTU's reset sets the timescale to 0 (R300). What the queue, the log of things sent and the model's own counter hold stays. -/
def State.coldReset (s : State) (glitchLog : Nat) : State :=
  let t : State :=
    { pending := s.pending, mem := s.mem.filter (fun c => isFlash c.1), out := s.out, freeCount := s.freeCount,

      keys := { fuses := s.keys.programmed, programmed := s.keys.programmed, trngOk := true },
      board := { twinId := s.board.twinId, pcieDis := s.board.pcieDis, jtagHeld := s.board.jtagHeld, faultLow := s.board.faultLow,
                 hpd := s.board.hpd, flashSize := s.board.flashSize, voutMode := s.board.voutMode, pcieUp := s.board.pcieUp, pcieWidth := s.board.pcieWidth,
                 pcieRate := s.board.pcieRate } }
  t.wrN Reg.KSU_GLITCH_LOG glitchLog

/-- Power-on reset also clears KSU_GLITCH_LOG (Table 19.6). -/
def State.powerOn (s : State) : State := s.coldReset 0

def execPowerOnReset (s : State) : Host.Outcome State Fault Refusal := .next s.powerOn

/-- A low of COLD_RST_N of at least 1 µs makes a cold reset; a shorter one has no effect (R455). -/
def execColdReset (lowNs : Nat) (s : State) : Host.Outcome State Fault Refusal :=
  .next (if 1000 ≤ lowNs then s.coldReset (s.rdN Reg.KSU_GLITCH_LOG) else s)

/-- A glitch detector of a die trips (R405): every slot is zeroed with the cold reset, and the log keeps the die and the kind. -/
def State.glitchTrip (s : State) (die : Nat) (step level : Bool) : State :=
  s.coldReset (2 ^ 31 + die % 4 * 256 + ((s.rdN Reg.KSU_GLITCH_LOG % 4) ||| (b2n step * 2 + b2n level)))

def execGlitchTrip (die : Nat) (step level : Bool) (s : State) : Host.Outcome State Fault Refusal :=
  .next (s.glitchTrip die step level)

/-! The ROM (R388 to R391, Table 16.3). -/

/-- Bytes of the flash from an offset. -/
def State.flash (s : State) (o n : Nat) : List Byte := s.rdBytes (0x20000000 + o) n

/-- A little-endian field of a bank header. -/
def State.flashLE (s : State) (o n : Nat) : Nat := ofBytesLE (s.flash o n)

/-- A key hash that is programmed and not revoked. -/
def liveHash (f : Fuses) (i : Nat) : Option Nat :=
  if i = 0 then (if f.revoked0 then none else f.hash0) else if i = 1 then (if f.revoked1 then none else f.hash1) else none

/-- The checks of R389 on a bank whose bytes a reader gives by offset and number: 0 passed, else the reason of Table 16.3. -/
def bankCheck (f : Fuses) (rd : Nat → Nat → List Byte) : Nat :=
  let le := fun o n => ofBytesLE (rd o n)
  let len := le 0x0C 4
  if le 0 4 != 0x324B4253 || le 4 2 != 1 || len == 0 || decide (57344 < len) then 1
  else
    let pub := rd 0x20 96
    let early :=
      if f.lc = 0 then 0
      else
        match liveHash f (le 6 1) with
        | none => 2
        | some h =>
          if Config.sha384 pub != h then 2
          else if le 8 4 < f.svn then 3
          else if !Config.ecdsaVerify (ofBytesBE (pub.take 48), ofBytesBE (pub.drop 48)) (Config.sha384 (rd 0 0xC0))
              (ofBytesBE (rd 0xC0 48), ofBytesBE (rd 0xF0 48)) then 4
          else 0
    if early != 0 then early
    else if Config.sha384 (rd 0x200 len) != ofBytesBE (rd 0x80 48) then 5 else 0

/-- The checks of R389 on the bank at a flash offset. -/
def State.checkBank (s : State) (o : Nat) : Nat := bankCheck s.keys.fuses (fun p n => s.flash (o + p) n)

/-- The fuse copies in the KSU registers, TRNG start and per-boot draws (step 2 of Table 16.3, R400). -/
def State.readFuses (s : State) : State :=
  let f := s.keys.fuses
  let t := (s.wrN Reg.KSU_LC f.lc).wr64 Reg.KSU_UID_LO Reg.KSU_UID_HI f.uid
  let u := (t.wrN Reg.KSU_SVN f.svn).wrN Reg.KSU_KEYHASH
    (b2n f.hash0.isSome + b2n f.hash1.isSome * 2 + b2n f.revoked0 * 4 + b2n f.revoked1 * 8)
  if u.keys.trngOk then
    let v := (u.setBit Reg.KSU_TRNG_STATUS 31 true).wrN Reg.KSU_SCRAMBLE_STATUS 3
    ({ v with keys := { v.keys with masks := true, tagKey := v.freeVal } }).drawn
  else u

/-- CPC_B_STAGE. -/
def State.stage (s : State) (code reason : Nat) : State := s.wrN Reg.CPC_B_STAGE (code * 2 ^ 24 + reason * 2 ^ 16)

/-- Both banks fail, or no flash is found: the ROM asserts FAULT_N and halts the boot core (step 6; log entry 16 for FLASH_ERR). -/
def State.haltBoot (s : State) (reason : Nat) : State :=
  ((({ s with keys := { s.keys with halted := true } }).setBit Reg.FCR_FAULT_STATUS 1 true).setBit Reg.CPC_STATUS 4 false).stage 0xEE reason

/-- A bank passes: its body stands in the TCM and the boot core runs stage-2. -/
def State.bootBank (s : State) (o code reason : Nat) : State :=
  let len := s.flashLE (o + 0x0C) 4
  let body := s.flash (o + 0x200) len
  let tcm := (List.range len).foldl (fun l i => sput (fun _ => (0#8 : Byte)) l i (nthD body i 0#8)) s.tcm
  (({ s with tcm := tcm }).setFld Reg.KSU_KEYHASH 4 4 (s.flashLE (o + 6) 1)).stage code reason

/-- The ROM's run after a reset (Table 16.3 steps 1 to 7). It runs once per reset. -/
def State.bootRom (s : State) (flashOk : Bool) : State :=
  if s.inHold || s.keys.booted then s
  else
    let t := ({ s with keys := { s.keys with booted := true } }).readFuses.raiseIf (s.rdN Reg.KSU_GLITCH_LOG != 0) Src.KSU_GLITCH
    if !flashOk then t.haltBoot 6
    else
      let r0 := t.checkBank 0
      if r0 = 0 then t.bootBank 0 4 0
      else
        let u := t.setFld Reg.KSU_BOOT 23 16 r0
        let r1 := u.checkBank 0x400000
        if r1 = 0 then
          let v := (u.setBit Reg.KSU_BOOT 31 true).bootBank 0x400000 5 r0
          { v with keys := { v.keys with fallback := true } }
        else u.haltBoot r1

def execBootRom (flashOk : Bool) (s : State) : Host.Outcome State Fault Refusal := .next (s.bootRom flashOk)

/-! The protection map and the seal (R33, R392, R395). -/

/-- A write to a WB location reaches it: from the boot core before the seal it takes effect, after it LOCKED answers (R33). -/
def State.writeWB (s : State) (m : Requester) (a : Nat) (f : State → State) : State :=
  if s.isSealed then s.refuseLocked m a else f s

/-- Microseconds since power-on reset. -/
def State.sinceReset (s : State) : Nat := (s.now - s.ctl.porAt) / 1000

/-- Writing 1 to BMX_PMAP_SEAL seals the map. -/
def State.seal (s : State) (m : Requester) (v : Nat) : State :=
  s.writeWB m Reg.BMX_PMAP_SEAL (fun t =>
    if v.testBit 0 then ((t.setBit Reg.BMX_PMAP_SEAL 0 true).stage 6 0).wrN Reg.CPC_B_SEAL_US t.sinceReset else t)

def execPmapSeal (m : Requester) (v : Nat) (s : State) : Host.Outcome State Fault Refusal :=
  .next (s.writeAccess m Reg.BMX_PMAP_SEAL v (fun t => t.seal m v))

/-- A write to a map entry; the fixed entries keep their nibbles (R393, R394). -/
def State.writeMap (s : State) (m : Requester) (a v : Nat) : State :=
  s.writeWB m a (fun t => t.wrN a (mergeMask (t.rdN a) v (fixedClassMask a)))

/-- The command reaches BMX pages 0x40 to 0x42, one word of the map at word number n: 0 to 255 classes of blocks 0 to 7, then of blocks 8 to 15, then the regions. -/
def mapAddr (n : Nat) : Nat :=
  if n < 256 then pageAddr 1 0x40 + 0x1000 + 4 * n
  else if n < 512 then pageAddr 1 0x41 + 0x1000 + 4 * (n - 256)
  else pageAddr 1 0x42 + 0x1000 + 4 * ((n - 512) % 128)

def execPmapWrite (m : Requester) (n v : Nat) (s : State) : Host.Outcome State Fault Refusal :=
  .next (s.writeAccess m (mapAddr n) v (fun t => t.writeMap m (mapAddr n) v))

/-- CPC_HART_RUN: before the seal STATE answers; otherwise the named harts are released and start (R392, Table 15.5). -/
def State.hartRun (s : State) (m : Requester) (v : Nat) : State :=
  if !s.isSealed then s.refuseState m Reg.CPC_HART_RUN
  else
    let new := harts.filter (fun h => v.testBit h && !s.released h)
    let t := new.foldl (fun u h => (u.setBit Reg.CPC_HART_RUN h true).startHart h) s
    let u := if s.rdN Reg.CPC_HART_RUN = 0 ∧ new ≠ [] then (t.stage 7 0).wrN Reg.CPC_B_RELEASE_US t.sinceReset else t
    if u.keys.fallback && !new.isEmpty then ({ u with keys := { u.keys with fallback := false } }).raise Src.KSU_BANK_FALLBACK else u

def execHartRunWrite (m : Requester) (v : Nat) (s : State) : Host.Outcome State Fault Refusal :=
  .next (s.writeAccess m Reg.CPC_HART_RUN v (fun t => t.hartRun m v))

/-! JTAG (R454). -/

/-- A boundary-scan instruction that holds the device in cold reset. -/
def execJtagExtest (s : State) : Host.Outcome State Fault Refusal :=
  .next (({ s with board := { s.board with jtagHeld := true } }).coldReset (s.rdN Reg.KSU_GLITCH_LOG))

/-- Test-Logic-Reset releases the hold. -/
def execJtagTestLogicReset (s : State) : Host.Outcome State Fault Refusal :=
  .next { s with board := { s.board with jtagHeld := false } }

/-- DEBUG opens the debug module of every core, but not in DEPLOYED, where it acts as BYPASS (Table 19.5). -/
def execJtagDebug (s : State) : Host.Outcome State Fault Refusal :=
  .next (if s.keys.fuses.lc = 2 then s else { s with board := { s.board with debugOpen := true } })

/-- FUSE_PROG: in BLANK it programs the given fuses, in PROVISIONED only a lifecycle advance, elsewhere it acts as BYPASS (Table 19.5, R386); fuse values reach the registers at the next cold reset. -/
def State.jtagFuse (s : State) (advance : Bool) (root hash0 uid : Nat) : State :=
  let f := s.keys.programmed
  if s.keys.fuses.lc = 0 then
    let g := { f with root := some root, hash0 := some hash0, uid := uid % 2 ^ 64 }
    { s with keys := { s.keys with programmed := if advance then { g with lc := max g.lc 1 } else g } }
  else if s.keys.fuses.lc = 1 ∧ advance = true then { s with keys := { s.keys with programmed := { f with lc := max f.lc 2 } } }
  else s

def execJtagFuseProg (advance : Bool) (root hash0 uid : Nat) (s : State) : Host.Outcome State Fault Refusal :=
  .next (s.jtagFuse advance root hash0 uid)

end Sys2Proof.Machine
end

