-- ==== Sys2Proof/Machine/Pages.lean ====
section
/-! DEFINITION. The collar's part of a block: its reset, its drain and its pending transitions (R38 to R40, R433). -/

namespace Sys2Proof.Machine

/-- Page q is governed by the STATE of page k of block b. -/
def governs (b k q : Nat) : Bool := if ownState b k then q == k else !ownState b q

/-- The register rows and table memory of the pages that page k of block b governs return to their reset values; their shadows are CLEAN and no longer armed. Headers otherwise stay, and so do the mirrors (R40, R433, log entry 17). -/
def State.resetPages (s : State) (b k : Nat) : State :=
  let mine := fun a => blockOf a == b && governs b k (pageNo a)
  let t := s.dropRegs (fun a => mine a && (inR 0x100 0xEFFF (offOf a) || offOf a == 0x30))
  { t with armed := s.armed.filter (fun x => !mine x.1), held := s.held.filter (fun x => !mine x.1),
           latched := s.latched.filter (fun x => !mine x.1) }

/-- What a block holds beyond its registers returns to its reset value. -/
def State.clearFamily (s : State) (b k : Nat) : State :=
  match b with
  | 2 =>
    { s with keys := { s.keys with waiting := [], current := none, lastCtx := 3, hashes := [] } }
  | 6 => { s with lanes := s.lanes.filter (fun x => x.1 / 4 + 1 != k) }
  | 7 => { s with sdi := { s.sdi with rx := s.sdi.rx.filter (fun x => x.1 / 32 + 1 != k), tx := s.sdi.tx.filter (fun x => x.1 / 32 + 1 != k) } }
  | 9 => { s with fabric := {} }
  | 10 => { s with geyser := {} }
  | 11 => { s with store := {} }
  | 8 => { s with mac := { s.mac with flows := s.mac.flows.filter (fun x => x.1 / 256 + 1 != k), legs := s.mac.legs.filter (fun x => x.1 / 256 + 1 != k), lines := s.mac.lines.filter (fun x => x.flow / 256 + 1 != k), tx := s.mac.tx.filter (fun x => x.1 / 256 + 1 != k) } }
  | 13 => { s with mon := {} }
  | 12 => { s with engines := [] }
  | 14 => { s with aud := {} }
  | 5 => { s with ref := {} }
  | 4 => { s with power := { rails := s.power.rails, tripped := s.power.tripped } }
  | 15 => { s with twin := { hbOut := s.twin.hbOut }, upd := {}, lanes := s.lanes.filter (fun x => decide (x.1 < 512)) }
  | _ => s

/-- Block logic is reset: registers and everything else the block holds (R38). -/
def State.resetBlock (s : State) (b k : Nat) : State := (s.resetPages b k).clearFamily b k

/-- A page's pending request is dropped and BUSY clears. -/
def State.dropRequest (s : State) (p : Nat) : State :=
  ({ s with awaiting := s.awaiting.filter (fun x => x.1 != p) }).setBit (hSTATE p) 8 false

/-- The page enters DRAIN, to end in ISOLATED or, on an escalation, in FAULT (R38). -/
def State.startDrain (s : State) (p : Nat) (toFault : Bool) : State :=
  let t := (s.dropRequest p).setCur p sDRAIN
  { t with draining := t.draining.filter (fun x => x.1 != p) ++ [(p, toFault)] }

/-- Transactions waiting at the targets that page p of block b answers for. -/
def waitsFor (b : Nat) (p : Nat) (x : Txn) : Bool :=
  if isRegAddr x.addr then blockOf x.addr == b && statePage b (pageNo x.addr) == p && Nat.ble 0x100 (offOf x.addr)
  else b == 11 && isStore x.addr

/-- A request that is discarded at the end of DRAIN is answered ABSENT at that moment (R382). -/
def State.discard (s : State) (x : Txn) : State :=
  let t := s.deny x.who x.addr x.len x.kind x.data .absent 0
  { t with bus := { t.bus with queue := t.bus.queue.filter (fun y => y != x) } }

/-- DRAIN ends: what still waits is discarded and counted, and the page is ISOLATED or in FAULT (R38). -/
def State.drainEnd (s : State) (b k : Nat) : State :=
  let p := statePage b k
  match kget s.draining p with
  | none => s
  | some toFault =>
    let l := s.bus.queue.filter (waitsFor b p)
    let t := l.foldl State.discard s
    let u := (t.bumpSat (hSTATE p) 31 16 l.length)
    let v := if l.isEmpty then u else u.stick p 6
    ({ v with draining := v.draining.filter (fun x => x.1 != p) }).setCur p (if toFault then sFAULT else sISOLATED)

end Sys2Proof.Machine
end

