-- ==== Sys2Proof/Machine/Faults.lean ====
section
/-! DEFINITION. The FCR's commands: raises, acknowledgement, escalation, FAULT_N, the severity table, the ring and the snapshot (R425 to R439, R447). -/

namespace Sys2Proof.Machine

/-- Elements of the kind of FCR page k can have condition n (Table 18.2). -/
def elementHas (k n : Nat) : Bool :=
  let logic := k == 1 || k == 2
  let lane := inR 3 10 k
  let hbm := inR 11 14 k
  let ip := k == 15
  match n with
  | 0 => !ip | 1 => !ip | 2 => true | 3 => true | 4 => true
  | 5 => logic || lane | 6 => logic | 7 => logic || lane | 8 => logic || lane
  | 9 => !ip | 10 => !ip | 11 => logic || hbm | 12 => logic || lane | 13 => !ip
  | 14 => lane || hbm || ip | 15 => logic || hbm | _ => false

/-- A source exists: its page is implemented and its bit is below CAPS.FAULTS (R425). -/
def sourceExists (src : Nat) : Bool :=
  decide (src < 65536) && pageExists (srcBlock src) (srcPage src) && decide (srcBit src < faultCount (srcBlock src) (srcPage src))

/-- The detail registers of an element page at a raise of condition n (R426, Table 18.8). -/
def State.elementDetail (s : State) (k n detail addr : Nat) : State :=
  let t := s.setFld (Reg.FCR_E_INFO k) 26 0 detail
  match n with
  | 1 => (t.wrN (Reg.FCR_E_ADDR_LO k) addr).wrN (Reg.FCR_E_ADDR_HI k) (addr / 2 ^ 32)
  | 2 => t.bump (Reg.FCR_E_LINK_CRC_CNT k)
  | 4 => t.bumpSat (Reg.FCR_E_LINK k) 15 0 1
  | 8 => t.keepMax (Reg.FCR_E_DROOP_MIN k) (detail % 256)
  | 13 => t.wrN (Reg.FCR_E_BIST k) detail
  | _ => t

/-- The registers that note where a source of the cores' memories rose: the hart's count of cache errors, or the boot core's count and address of uncorrectable reads of its TCM (R365). -/
def State.coreDetail (s : State) (src detail : Nat) : State :=
  if src = Src.CPC_CACHE_ECC then s.bump (Reg.CPC_H_CACHE_ECC_CNT (detail % 4 + 1))
  else if src = Src.CPC_TCM_UNCORR then (s.bump Reg.CPC_B_TCM_UNCORR_CNT).wrN Reg.CPC_B_TCM_ECC_ADDR (detail % 0x10000 / 8 * 8)
  else s

/-- A source rises at an event that no other command of the table gives (R425, R426). -/
def State.faultRaise (s : State) (src detail addr : Nat) : State :=
  if !sourceExists src then s
  else if srcBlock src = 3 ∧ 1 ≤ srcPage src then
    if elementHas (srcPage src) (srcBit src) then (s.elementDetail (srcPage src) (srcBit src) detail addr).raise src else s
  else (s.coreDetail src detail).raise src

def execFaultRaise (src detail addr : Nat) (s : State) : Host.Outcome State Fault Refusal := .next (s.faultRaise src detail addr)

/-! Window end and escalation (R430, R432, R433). -/

/-- Blocks named by a mask, in rising order. -/
def blocksOf (mask : Nat) : List Nat := (List.range 16).filter (fun b => mask.testBit b)

/-- An ISO_BLOCKS mask is escalated as Critical: it names a block that cannot be isolated (R432). -/
def State.isoCritical (s : State) (iso : Nat) : Bool :=
  iso.testBit 0 || iso.testBit 1 || iso.testBit 3 || iso.testBit 4 || (iso.testBit 5 && s.running 9)

/-- Page p in IDLE or RUN starts the drain that ends in FAULT. -/
def State.escalatePage (s : State) (p : Nat) : State :=
  if s.fld (hSTATE p) 3 0 == sIDLE || s.fld (hSTATE p) 3 0 == sRUN then s.startDrain p true else s

/-- Page 0 of a block in IDLE or RUN starts the drain that ends in FAULT, and with it every page of the block that holds a source of the record; any other state is left as it is (R432). -/
def State.escalateBlock (s : State) (b : Nat) : State :=
  if s.cur b == sIDLE || s.cur b == sRUN then
    (((pageAddr b 0) :: s.fcr.recPages.filter (fun p => blockOf p == b)).foldl State.escalatePage s).orWord Reg.FCR_ESC_BLOCKS (2 ^ b)
  else s

/-- Major escalation (R432). -/
def State.escalateMajor (s : State) (seq iso : Nat) : State :=
  let t := (blocksOf iso).foldl State.escalateBlock s
  let pages := (t.draining.filter (fun x => x.2 && !s.draining.contains x)).map (·.1)
  let u := { t with fcr := { t.fcr with escalations := ⟨seq, pages, false⟩ :: t.fcr.escalations } }
  (u.bump Reg.FCR_ESC_MAJOR_CNT).raise Src.FCR_ESC_MAJOR

/-- Critical escalation up to the start of the device warm reset (R433). -/
def State.escalateCritical (s : State) (seq : Nat) : State :=
  let t := (s.bump Reg.FCR_ESC_CRIT_CNT).setBit Reg.FCR_FAULT_STATUS 0 true
  { t with fcr := { t.fcr with resetDue := some (s.now + 100000), escalations := ⟨seq, [], false⟩ :: t.fcr.escalations } }

/-- The cut of a Critical escalation, taken whatever FCR_SNAP_CFG holds unless a trigger was accepted within the last 8 µs; the record notes it when it has triggered none (R433). -/
def State.criticalCut (s : State) : State :=
  let early := match s.fcr.lastTrigger with | some t => decide (s.now < t + 8000) | none => false
  if early then s
  else
    let r := s.trigger 1 true
    if s.fcr.cutTaken || !r.2.1 then r.1 else r.1.setFld (recA 6) 15 0 (r.1.fld Reg.FCR_SNAP_STATUS 15 0)

/-- The handling window of the open record ends without acknowledgement: it closes ESCALATED, and what may escalate does (R428, R430, R432). -/
def State.windowEnd (s : State) : State :=
  if s.fcr.isOpen && s.fcr.winEnd.isSome then
    let sev := s.fcr.escSev
    let iso := s.fcr.escIso
    let seq := s.fld (recA 6) 31 16
    let critical := sev == 3 || (sev == 2 && s.isoCritical iso)
    let t := (s.setBit (recA 0) 11 true).wrN (recA 7) 0xFFFFFFFF
    let u := if critical then t.criticalCut else t
    let v := u.closeRecord
    if sev < 2 then v
    else
      let w := v.wrN Reg.FCR_ESC_LAST (seq * 65536 + iso)
      if critical then w.escalateCritical seq else w.escalateMajor seq iso
  else s

/-- An acknowledgement of an escalated record is late: it counts, and the record is acknowledged for R38. -/
def State.lateAck (s : State) (seq : Nat) : State :=
  if s.fcr.escalations.any (fun e => e.seq == seq) then
    let t := { s with fcr := { s.fcr with escalations := mapIf (fun e => e.seq == seq) (fun e => { e with acked := true }) s.fcr.escalations } }
    (t.bump Reg.FCR_ACK_LATE_CNT).raise Src.FCR_ACK_LATE
  else s

/-- A write to FCR_ACK (R430, R436, R474): it closes the open record it names before the window end; at the window end or later it is late. -/
def State.fcrAck (s : State) (v : Nat) : State :=
  let seq := v % 65536
  if s.fcr.isOpen && s.fld (recA 6) 31 16 == seq then
    let ended := match s.fcr.winEnd with | some w => decide (w ≤ s.now) | none => false
    if ended then s.windowEnd.lateAck seq
    else
      let us := min ((s.now - s.fcr.created) / 1000) 0xFFFFFFFF
      (((s.setBit (recA 0) 12 true).wrN (recA 7) us).keepMax Reg.FCR_ACK_US_MAX us).closeRecord
  else s.lateAck seq

/-! Device warm reset (R433, R434). -/

/-- Registers that a device warm reset keeps. -/
def keptInWarm (a0 : Nat) : Bool :=
  let a := a0 % 2 ^ 32
  let b := blockOf a
  let k := pageNo a
  let o := offOf a
  b == 3 || Nat.ble 0xF000 o || o == 0x28 || o == 0x34 || o == 0x38 || o == 0x3C ||
    a == Reg.CPC_HART_RUN || a == Reg.CPC_RESET_CAUSE || a == Reg.CPC_STATUS || (b == 0 && inR 1 4 k && (o == 0x108 || o == 0x10C)) ||
    (b == 0 && k == 5 && Nat.ble 0x100 o) ||
    a == Reg.BMX_PMAP_SEAL || (b == 1 && inR 0x40 0x43 k && Nat.ble 0x100 o) ||
    (b == 2 && k == 0x10 && Nat.ble 0x100 o) || (b == 2 && k == 0 && (inR 0x108 0x11C o || inR 0x120 0x120 o || inR 0x130 0x13C o || inR 0x180 0x188 o)) ||
    (b == 4 && inR 1 8 k && Nat.ble 0x100 o) || a == Reg.PTM_VCORE || a == Reg.PTM_THERM_TRIP

/-- The engines of every block but the FCR return to reset, the keys, the fuses and the board apart. -/
def State.clearAllFamilies (s : State) : State :=
  (List.range 16).foldl (fun t b => if b = 3 then t else
    (t.clearFamily b 0)) s

/-- The timescale is set to 0 by the RTU's reset; the FCR's open windows keep what is left of them (R300, log entry 18). -/
def State.restartTime (s : State) : State :=
  let d := fun t => t - s.now
  { s with now := 0, fcr := { s.fcr with
    created := d s.fcr.created, winEnd := s.fcr.winEnd.map d,
    resetDue := s.fcr.resetDue.map d,
    lastTrigger := match s.fcr.lastTrigger with | some t => if t + 8000 ≤ s.now then none else some 0 | none => none,
    timeArmed := false, time2Armed := false, deferred := none, stormMs := 0 } }

/-- The device warm reset (R433): every block other than the FCR returns to the reset state of Table 2.9 with the kept things kept, and the harts restart with DEVICE_WARM. -/
def State.warmReset (s : State) : State :=
  let t := ({ s with regs := s.regs.filter (fun c => keptInWarm c.1) }).clearAllFamilies.restartTime
  let u := { t with
    profile := 0, armed := [], awaiting := [], draining := [], held := [], latched := [],
    bus := {}, ctl := { mtip := [false, false, false, false, false], hartPc := s.ctl.hartPc, nmis := s.ctl.nmis },
    fcr := { t.fcr with resetDue := none, inReset := true },
    board := { t.board with mspiSeq := none, mspiResp := 8, mspiData := 0, mspiLate := false, mspiDup := false,
                            mspiSurplus := false, mspiDiscarded := false } }
  ((u.setBit Reg.CPC_RESET_CAUSE 1 true).bumpSat Reg.CPC_STATUS 23 16 1).startReleased

/-- 100 µs after a Critical window end the device warm reset starts; a record still open closes ESCALATED (R433, R436). -/
def execDeviceWarmReset (s : State) : Host.Outcome State Fault Refusal :=
  .next (match s.fcr.resetDue with
    | some _ =>
      let t := if s.fcr.isOpen then ((s.setBit (recA 0) 11 true).wrN (recA 7) 0xFFFFFFFF).closeRecord else s
      t.warmReset
    | none => s)

/-- Insertion of a source with its mark in ascending source ID. -/
def insertSrc (x : Nat × Bool) : List (Nat × Bool) → List (Nat × Bool)
  | [] => [x]
  | y :: r => if x.1 < y.1 then x :: y :: r else y :: insertSrc x r

/-- A source raised while the FCR was out of RUN is recorded with LATE_REC at its return. -/
def State.lateRecord (s : State) (x : Nat × Bool) : State :=
  let r := (s.bump Reg.FCR_LATE_REC_CNT).reach x.1 x.2 true true
  if r.2 then ((r.1.noteRaise Src.FCR_SNAP_DROP).reach Src.FCR_SNAP_DROP false false false).1 else r.1

/-- The FCR returns from a device warm reset (R433, R434). -/
def State.fcrReturn (s : State) : State :=
  if s.fcr.inReset then
    let l := s.fcr.lateRaises.foldr insertSrc []
    let t := { s with fcr := { s.fcr with inReset := false, lateRaises := [] } }
    let u := l.foldl State.lateRecord (t.raise Src.FCR_RESET_ESC)
    if l.isEmpty then u else u.raise Src.FCR_LATE_REC
  else s

def execFcrLateRecords (s : State) : Host.Outcome State Fault Refusal := .next s.fcrReturn

/-! FAULT_N (R435). -/

/-- A write to FCR_CTRL: ASSERT sets the software cause, RELEASE clears it and the escalation's. -/
def State.fcrCtrl (s : State) (v : Nat) : State :=
  let t := if v.testBit 30 then (s.setBit Reg.FCR_FAULT_STATUS 0 false).setBit Reg.FCR_FAULT_STATUS 3 false else s
  if v.testBit 31 then t.setBit Reg.FCR_FAULT_STATUS 3 true else t

def execFaultAssert (m : Requester) (s : State) : Host.Outcome State Fault Refusal :=
  .next (s.writeAccess m Reg.FCR_CTRL 0x80000000 (fun t => t.fcrCtrl 0x80000000))
def execFaultRelease (m : Requester) (s : State) : Host.Outcome State Fault Refusal :=
  .next (s.writeAccess m Reg.FCR_CTRL 0x40000000 (fun t => t.fcrCtrl 0x40000000))

/-- The FAULT_N pin is pulled low from outside, or let go; FCR_FAULT_PIN rises when it goes low while no cause asserts it. -/
def State.faultPin (s : State) (low : Bool) : State :=
  let t := { s with board := { s.board with faultLow := low } }
  t.raiseIf (low && !s.faultN) Src.FCR_FAULT_PIN

def execFaultNExternalLow (low : Bool) (s : State) : Host.Outcome State Fault Refusal := .next (s.faultPin low)

/-! Severity table and ring (R427, R431). -/

/-- Bits of the severity word at offset o that exist: bits 2:0 of each entry below its page's CAPS.FAULTS. -/
def sevMask (o : Nat) : Nat :=
  let q := (o - 0x1000) / 32
  let n := (o - 0x1000) % 32
  let c := if q < 16 then faultCount q 0 else faultCount 3 (q - 15)
  ((List.range 4).map (fun i => if n + i < c then 7 * 256 ^ i else 0)).sum

/-- A write to a severity word: LOCKED once lock group 0 is set (R427). -/
def State.sevWrite (s : State) (m : Requester) (a v : Nat) : State :=
  if s.isLocked a 1 then s.refuseLocked m a else s.wrN a (v &&& sevMask (offOf a))

def execSevWrite (m : Requester) (n v : Nat) (s : State) : Host.Outcome State Fault Refusal :=
  .next (s.writeAccess m (0x43201000 + 4 * (n % 248)) v (fun t => t.sevWrite m (0x43201000 + 4 * (n % 248)) v))

/-- A write to FCR_RING_CFG: EN going from 0 to 1 applies BASE and LOG2 and empties the ring (Table 18.7). -/
def State.ringCfg (s : State) (v : Nat) : State :=
  let w := normalWord Reg.FCR_RING_CFG (w32 (v &&& 0x8000001F))
  let rise := !s.bit Reg.FCR_RING_CFG 31 && bitOf w 31
  let t := s.wr Reg.FCR_RING_CFG w
  if rise then
    let u := { t with fcr := { t.fcr with ringBase := s.rd64 Reg.FCR_RING_BASE_LO Reg.FCR_RING_BASE_HI, ringLog2 := Machine.fld w 4 0 } }
    ((u.wrN Reg.FCR_RING_PROD 0).wrN Reg.FCR_RING_CONS 0).ringMark
  else t

def execRingEnable (m : Requester) (v : Nat) (s : State) : Host.Outcome State Fault Refusal :=
  .next (s.writeAccess m Reg.FCR_RING_CFG v (fun t => t.ringCfg v))

/-! Snapshots (R437 to R439, R447, R55). -/

/-- A write to FCR_SNAP_CMD (Table 18.7). -/
def State.snapCmd (s : State) (v : Nat) : State :=
  let t := if v.testBit 31 then s.snapshot 0 false else s
  let u := if v.testBit 30 then { t with fcr := { t.fcr with timeArmed := true } } else t
  if v.testBit 29 then { u with fcr := { u.fcr with timeArmed := false } } else u

def execSnapSwTrigger (m : Requester) (s : State) : Host.Outcome State Fault Refusal :=
  .next (s.writeAccess m Reg.FCR_SNAP_CMD 0x80000000 (fun t => t.snapCmd 0x80000000))
def execSnapArmTime (m : Requester) (s : State) : Host.Outcome State Fault Refusal :=
  .next (s.writeAccess m Reg.FCR_SNAP_CMD 0x40000000 (fun t => t.snapCmd 0x40000000))
def execSnapDisarmTime (m : Requester) (s : State) : Host.Outcome State Fault Refusal :=
  .next (s.writeAccess m Reg.FCR_SNAP_CMD 0x20000000 (fun t => t.snapCmd 0x20000000))

/-- The timescale reaches an armed match time, or with second the time the comparator of R358 holds: one trigger, and the match is disarmed. -/
def State.timeMatch (s : State) (second : Bool) : State :=
  let at1 := if second then s.rd64 Reg.FCR_SNAP_TIME2_LO Reg.FCR_SNAP_TIME2_HI else s.rd64 Reg.FCR_SNAP_TIME_LO Reg.FCR_SNAP_TIME_HI
  if (if second then s.fcr.time2Armed else s.fcr.timeArmed) && decide (at1 ≤ s.now % 2 ^ 64) then
    let t := ({ s with fcr := { s.fcr with timeArmed := s.fcr.timeArmed && second, time2Armed := s.fcr.time2Armed && !second,
                                           deferred := if second then none else s.fcr.deferred } }).snapshot 2 false
    if second && s.fcr.isOpen && s.fcr.deferred == some (s.fld (recA 6) 31 16) && t.rdN Reg.FCR_SNAP_CNT != s.rdN Reg.FCR_SNAP_CNT then
      t.setFld (recA 6) 15 0 (t.fld Reg.FCR_SNAP_STATUS 15 0)
    else t
  else s

def execSnapTimeMatch (second : Bool) (s : State) : Host.Outcome State Fault Refusal := .next (s.timeMatch second)

/-- A low pulse on SNAP_IN triggers at 20 ns and more; a shorter one raises FCR_SNAP_PIN. -/
def execSnapInPulse (ns : Nat) (s : State) : Host.Outcome State Fault Refusal :=
  .next (if 20 ≤ ns then s.snapshot 3 false else s.raise Src.FCR_SNAP_PIN)

/-- A Vendor_Defined message with the snapshot signature triggers; any other is discarded (R447). -/
def execPcieSnapMsg (vendor word : Nat) (s : State) : Host.Outcome State Fault Refusal :=
  .next (if s.board.pcieUp && vendor == 0x1E5A && word == 0x534E4150 then s.snapshot 5 false else s)

/-- Block-specific words that a page's mirror takes from offset 0xF100 on. -/
def State.snapWords (s : State) (b k : Nat) : List W :=
  if b = 9 ∧ k = 0 then [w32 (s.epoch % 2 ^ 32), w32 (s.epoch / 2 ^ 32), s.view Reg.CXF_SLACK_WORST]
  else if b = 9 ∧ k ≤ 16 then
    let pl := nthD s.fabric.planes (k - 1) {}
    [w32 pl.pos, w32 pl.tokens, w32 (s.now - s.epochStart)]
  else (snapOffsets b k).map (fun o => s.view (pageAddr b k + o))

/-- A page latches its mirror (R55): the header's SNAP registers and STICKY.SNAP first, then the copies. -/
def State.latchPage (s : State) (seq time b k : Nat) : State :=
  if s.curOf b k == sOFF then s
  else
    let p := pageAddr b k
    let t := (((s.wrN (hSNAPSEQ p) (2 ^ 31 + seq)).wrN (hSNAPLO p) time).wrN (hSNAPHI p) (time / 2 ^ 32)).stick p 8
    let u := t.wrWords (p + 0xF000) ((List.range 16).map (fun i => (t.headerWord p (4 * i)).toNat))
    u.wrWords (p + 0xF100) ((s.snapWords b k).map BitVec.toNat)

/-- Implemented pages of a block, in rising order. -/
def pagesOf (b : Nat) : List Nat := (List.range 256).filter (pageExists b)

/-- Some page of the block is not OFF. -/
def State.blockOn (s : State) (b : Nat) : Bool :=
  s.cur b != sOFF || ((b == 6 || b == 7 || b == 8) && (List.range 128).any (fun k => s.curOf b (k + 1) != sOFF))

/-- The cut has latched on every page: the longest latch is kept, source 21 of the PLIC and vector 480 assert once, and STICKY.SNAP of the FCR's page 0 sets (R439). -/
def State.cutDone (s : State) (lat : Nat) : State :=
  let t := (({ s with fcr := { s.fcr with cut := none } }).setBit Reg.FCR_SNAP_STATUS 31 false).keepMax Reg.FCR_SNAP_LAT_MAX lat
  let u := { t with ctl := { t.ctl with plicPend := t.ctl.plicPend ||| (if t.ctl.plicClaimed.testBit 21 then 0 else 2 ^ 21) } }
  (u.stick (pageAddr 3 0) 8).notifyVector 480

/-- The token has arrived on every input channel of a block, lat ns after the trigger instant: its pages latch (R439). -/
def State.snapLatch (s : State) (b lat : Nat) : State :=
  match s.fcr.cut with
  | none => s
  | some (seq, time) =>
    if s.fcr.latched.contains b then s
    else
      let t := (pagesOf b).foldl (fun u k => u.latchPage seq time b k) s
      let u := { t with fcr := { t.fcr with latched := b :: t.fcr.latched } }
      if (List.range 16).all (fun c => u.fcr.latched.contains c || !u.blockOn c) then u.cutDone lat else u

def execSnapLatch (b lat : Nat) (s : State) : Host.Outcome State Fault Refusal := .next (s.snapLatch (b % 16) lat)

end Sys2Proof.Machine
end

