-- ==== Sys2Proof/Machine/Cells.lean ====
section
/-! DEFINITION. The rim: assembly of cells into the ingress pools, and the release of cells and fills at the egress (R59, R64 to R67, R81 to R85, R476, R478). -/

namespace Sys2Proof.Machine

/-! The active image's definitions. -/

def State.outputs (s : State) : List OutputDef := match s.fabric.image with | some i => i.outputs | none => []
def State.pools (s : State) : List PoolDef := match s.fabric.image with | some i => i.pools | none => []
def State.outputDef (s : State) (dst : Nat) : Option OutputDef := s.outputs.find? (fun o => o.id == dst)
/-- Assembly allowance of a format in ns; 0 where the image states none (R65). -/
def State.allowance (s : State) (f : Nat) : Nat :=
  match s.fabric.image with | some i => (kget i.allow f).getD 0 | none => 0

/-- Epoch a cell is assigned to (R65). -/
def State.assignedEpoch (s : State) (c : LineCell) : Nat := (c.ptpTime + s.allowance c.format) / s.epochNs

/-! Pools (R81 to R83). -/

/-- The ingress or egress pool of an essence (dir 0 ingress, 1 egress). -/
def State.poolOf (s : State) (essence dir : Nat) : Option PoolDef := s.pools.find? (fun p => p.essence == essence && p.dir == dir)

/-- Tokens of the pools of a die and direction. -/
def State.poolTokens (s : State) (die dir : Nat) : Nat :=
  ((s.pools.filter (fun p => p.die == die && p.dir == dir)).map (fun p => p.slots * p.slotTokens)).sum

/-- Tokens that stored cells hold in the pools of a die and direction. -/
def State.usedTokens (s : State) (die dir : Nat) : Nat :=
  ((s.pools.filter (fun p => p.die == die && p.dir == dir)).map (fun p =>
    p.slotTokens * (if dir = 0 then (s.fabric.ingress.filter (fun c => c.cell.essence == p.essence)).length
      else (s.fabric.egress.filter (fun c => c.dst == p.essence && c.cell.isSome)).length))).sum

/-- Watermark register of a die and direction. -/
def bufWmReg (die dir : Nat) : Nat :=
  if dir = 0 then (if die = 0 then Reg.CXF_IBUF_WM_W else Reg.CXF_IBUF_WM_E)
  else (if die = 0 then Reg.CXF_EBUF_WM_W else Reg.CXF_EBUF_WM_E)

/-- The occupancy watermark of a die's pools sees its level, in per cent against CXF_BUF_MARK with 5 points of hysteresis. -/
def State.bufMark (s : State) (die dir : Nat) : State :=
  let total := s.poolTokens die dir
  let mark := if dir = 0 then s.fld Reg.CXF_BUF_MARK 7 0 else s.fld Reg.CXF_BUF_MARK 15 8
  if total = 0 then s else s.watermark (bufWmReg die dir) (100 * s.usedTokens die dir) (mark * total) (5 * total)

/-- All four occupancy watermarks. -/
def State.bufMarks (s : State) : State := (((s.bufMark 0 0).bufMark 1 0).bufMark 0 1).bufMark 1 1

/-- Nominal times of the cells of an essence of format f in epoch e (R65); none for ancillary formats. -/
def State.nominals (s : State) (f e : Nat) : List Nominal := nominalsIn f (s.allowance f) (e * s.epochNs) ((e + 1) * s.epochNs)

/-- Times of the groups of an ancillary essence that count in an epoch, in order: complete or begun cells and lost ones (R476). -/
def State.groupTimes (s : State) (essence e : Nat) : List Nat :=
  ((s.fabric.ingress.filter (fun c => c.cell.essence == essence && c.epoch == e)).map (fun c => c.cell.ptpTime)) ++
  ((s.fabric.lost.filter (fun l => l.1 == essence && l.2.1 == e)).map (fun l => l.2.2))

/-- Index i of a cell among those of its essence in its epoch, in order of PTP_TIME (R66, R476). -/
def State.cellIndex (s : State) (c : LineCell) (e : Nat) : Nat :=
  if fmtKind c.format = 2 then ((s.groupTimes c.essence e).filter (fun t => decide (t < c.ptpTime))).length
  else ((s.nominals c.format e).filter (fun n => decide (n.time < c.ptpTime))).length

/-- The ingress rim seals a cell of epoch e: OUTPUT_ID none, SEQ under R66, PCRC and DCRC (R58, R59). -/
def State.sealIngress (s : State) (c : LineCell) (e : Nat) : LineCell :=
  cellSealed { c with outputId := 0xFFFF, seq := seqOf (e * s.epochNs) (s.cellIndex c e), pcrc := pcrcOf c.payload }

/-- The same cell of the same essence: its nominal time says which. -/
def sameCell (c : LineCell) (x : InCell) : Bool :=
  x.cell.essence == c.essence && x.cell.ptpTime == c.ptpTime && (fmtKind c.format != 2 || !x.complete)

/-- A producer on a die has begun a cell, or completes it (R65, R81, R83): a cell of an ended epoch is not used; a full pool drops it and raises CXF_IBUF_FULL; an essence without a pool in the active image is not stored. -/
def State.assemble (s : State) (die : Nat) (c : LineCell) (complete : Bool) : State :=
  let e := s.assignedEpoch c
  if e < s.epoch then s
  else
    match s.poolOf c.essence 0 with
    | none => s
    | some p =>
      let held := s.fabric.ingress.find? (sameCell c)
      let x : InCell := ⟨if complete then s.sealIngress c e else c, e, die, 0, complete⟩
      match held with
      | some _ =>
        { s with fabric := { s.fabric with ingress := mapIf (sameCell c) (fun y => if y.complete then y else x) s.fabric.ingress } }
      | none =>
        if p.slots ≤ (s.fabric.ingress.filter (fun y => y.cell.essence == c.essence)).length then
          ({ s with fabric := { s.fabric with lost := if fmtKind c.format = 2 then s.fabric.lost ++ [(c.essence, e, c.ptpTime)] else s.fabric.lost } }).raise Src.CXF_IBUF_FULL
        else ({ s with fabric := { s.fabric with ingress := s.fabric.ingress ++ [x] } }).bufMark die 0

/-- A producer completes a cell in its ingress buffer (or, with complete false, begins it): R65. -/
def execCellAssemble (die : Nat) (c : LineCell) (complete : Bool) (s : State) : Host.Outcome State Fault Refusal :=
  .next (s.assemble (die % 2) c complete)

/-- At the end of an epoch, cells begun and not complete are not used and CXF_ASSEMBLY_LATE rises (R65). -/
def State.assemblyEnd (s : State) (e : Nat) : State :=
  let l := s.fabric.ingress.filter (fun x => decide (x.epoch ≤ e) && !x.complete)
  let anc := (l.filter (fun x => fmtKind x.cell.format == 2)).map (fun x => (x.cell.essence, x.epoch, x.cell.ptpTime))
  let t := { s with fabric := { s.fabric with ingress := s.fabric.ingress.filter (fun x => !(decide (x.epoch ≤ e) && !x.complete)), lost := s.fabric.lost ++ anc } }
  l.foldl (fun u _ => u.raise Src.CXF_ASSEMBLY_LATE) t

/-! Release (R67, R84, R85, R478). -/

/-- Fill flag of Table 3.3 by fill kind: 1 SRC_ABSENT, 2 INPUT_LOST, 3 MISFIT; kind 0 carries none. -/
def fillFlags (kind : Nat) : Nat := match kind with | 1 => 2 | 2 => 4 | 3 => 1024 | _ => 0

/-- Flags FIRST and LAST of a nominal cell. -/
def placeFlags (n : Nominal) : Nat := b2n n.first * 8 + b2n n.last * 16

/-- The fill cell of one release (R84). -/
def fillCell (o : OutputDef) (n : Nominal) (seq src kind : Nat) : LineCell :=
  let pay := fillPayload o.format n.units
  cellSealed {
    essence := src, format := o.format, frameCount := n.frameCount, line := n.line, field2 := n.field2, seq := seq,
    ptpTime := n.time % 2 ^ 64, flags := fillFlags kind + placeFlags n, outputId := o.id, units := n.units, payload := pay,
    pcrc := pcrcOf pay, dcrc := 0 }

/-- Releases of a video or audio output in the epoch that starts at t0: the nominal cells of its format whose time plus LATENCY_NS lies there, in time order (R67). -/
def State.releasesOf (s : State) (o : OutputDef) (t0 : Nat) : List Nominal := nominalsIn o.format o.latency t0 (t0 + s.epochNs)

/-- Cells and fills that stand in the egress buffer for an output and release epoch, in index order. -/
def State.standing (s : State) (dst e : Nat) : List OutCell := s.fabric.egress.filter (fun c => c.dst == dst && c.release == e)

/-- Place of the first element a test admits. -/
def placeOf {α : Type} (p : α → Bool) (l : List α) : Option Nat := l.findIdx? p

/-- Releases (by index) that the cells of an output take: those whose PTP_TIME plus latency equals a release time, then for the others the earliest release left, in index order (R67). Pairs of release index and cell index. -/
def placements (rel : List Nominal) (taken : List Nat) (cells : List OutCell) : List (Nat × Nat) :=
  let exact := cells.filterMap (fun c => match c.cell with
    | some x => (placeOf (fun n => n.time % 2 ^ 64 == x.ptpTime) rel).map (fun i => (i, c.idx))
    | none => none)
  let rest := cells.filter (fun c => c.cell.isSome && !exact.any (fun x => x.2 == c.idx))
  (rest.foldl (fun (acc : List (Nat × Nat)) c =>
    match (List.range rel.length).find? (fun i => !taken.contains i && !acc.any (fun x => x.1 == i)) with
    | some i => acc ++ [(i, c.idx)]
    | none => acc) exact)

/-- Release indices of an output already used in an epoch. -/
def State.releasedIdx (s : State) (dst e : Nat) : List Nat :=
  (s.fabric.released.filter (fun r => r.1 == dst * 2 ^ 64 + e)).map (·.2)

/-- A release of an output is used. -/
def State.markReleased (s : State) (dst e i : Nat) : State :=
  { s with fabric := { s.fabric with released := s.fabric.released ++ [(dst * 2 ^ 64 + e, i)] } }

/-- The output is owed a TAKE mark by this release epoch (R110). -/
def State.takeDue (s : State) (dst e : Nat) : Bool := s.fabric.takeMarks.any (fun m => m.1 == dst && decide (m.2 < e))

/-- The TAKE mark has been given. -/
def State.takeGiven (s : State) (dst e : Nat) : State :=
  { s with fabric := { s.fabric with takeMarks := s.fabric.takeMarks.filter (fun m => !(m.1 == dst && decide (m.2 < e))) } }

/-- A cell leaves the egress rim for its output block: it is logged and handed over. -/
def State.emit (s : State) (e : Nat) (c : LineCell) : State :=
  ({ s with fabric := { s.fabric with delivered := s.fabric.delivered ++ [(e, c)] } }).send (.cell s.now c)

/-- The egress rim stamps a carried cell for a release: OUTPUT_ID, SEQ, LATE and TAKE, and DCRC again (R59, R67). -/
def stampCell (c : LineCell) (dst seq : Nat) (late take : Bool) : LineCell :=
  let x := { c with outputId := dst, seq := seq }
  let y := if late then cellFlag x 0 else x
  cellSealed (if take then cellFlag y 5 else y)

/-- A carried cell leaves on release i of release epoch e of an output. -/
def State.releaseCell (s : State) (dst e i : Nat) (o : OutCell) (c : LineCell) : State :=
  let x := stampCell c dst (seqOf (e * s.epochNs) i) o.late (s.takeDue dst e)
  let t := { s with fabric := { s.fabric with egress := s.fabric.egress.filter (fun y => !(y.dst == dst && y.release == e && y.idx == o.idx && y.cell.isSome)) } }
  let u := if o.late then t.bump Reg.CXF_LATE_CELLS else t
  ((u.markReleased dst e i).takeGiven dst e).emit e x

/-- A fill leaves on release i (R84): its kind is counted, MISFIT with its source. -/
def State.releaseFill (s : State) (o : OutputDef) (n : Nominal) (e i src kind : Nat) : State :=
  let x := fillCell o n (seqOf (e * s.epochNs) i) src kind
  let y := if s.takeDue o.id e then cellSealed (cellFlag x 5) else x
  let t := if kind = 1 ∨ kind = 2 then s.bump Reg.CXF_FILL_CELLS else if kind = 3 then s.bump Reg.CXF_MISFIT_CNT else s
  let u := { t with fabric := { t.fabric with egress := t.fabric.egress.filter (fun z => !(z.dst == o.id && z.release == e && z.idx == i && z.cell.isNone)) } }
  ((u.markReleased o.id e i).takeGiven o.id e).emit e y

/-- A plane still carries a run for the output whose cells belong to release epoch e (R85). -/
def State.carryPending (s : State) (dst e i : Nat) : Bool :=
  s.fabric.planes.any (fun p => p.carry.any (fun c => dDst c.1 == dst && c.2 + 1 == e && decide (dFirst c.1 ≤ i) && decide (i < dFirst c.1 + dCount c.1)))

/-- Release i of an output in the present epoch (R67, R84, R478): its cell, the fill that the run left for it, or, with the CXF out of RUN or no run serving it, the fill of R478 or one without a flag. A release whose run is still carried waits for its LATE cell. -/
def State.releaseAt (s : State) (o : OutputDef) (i : Nat) : State :=
  let e := s.epoch
  let rel := s.releasesOf o s.epochStart
  match rel[i]? with
  | none => s
  | some n =>
    if (s.releasedIdx o.id e).contains i then s
    else
      let st := s.standing o.id e
      match (placements rel (s.releasedIdx o.id e) st).find? (fun x => x.1 == i) with
      | some x =>
        match st.find? (fun c => c.idx == x.2 && c.cell.isSome) with
        | some c => (match c.cell with | some d => s.releaseCell o.id e i c d | none => s)
        | none => s
      | none =>
        if s.carryPending o.id e i then s
        else
          match st.find? (fun c => c.idx == i && c.cell.isNone) with
          | some c => s.releaseFill o n e i c.src c.fill
          | none =>
            if s.running 9 then s.releaseFill o n e i 0xFFFF 0
            else
              let src := s.sourceOf o.id
              s.releaseFill o n e i src (if src = 0xFFFF then 0 else 1)

/-- Release i of an ancillary output: the cell carried with the i-th index, if any (R476). -/
def State.releaseAnc (s : State) (o : OutputDef) (i : Nat) : State :=
  let e := s.epoch
  let st := (s.standing o.id e)
  match st[0]? with
  | none => s
  | some c =>
    match c.cell with
    | some d => s.releaseCell o.id e (s.releasedIdx o.id e).length c d
    | none =>
      let n : Nominal := ⟨e * s.epochNs, e % 2 ^ 24, 0, false, false, false, 0⟩
      let t := s.releaseFill o n e (max i c.idx) c.src c.fill
      { t with fabric := { t.fabric with egress := t.fabric.egress.filter (fun z => !(z.dst == o.id && z.release == e && z.idx == c.idx)) } }

/-- At a release time the egress rim releases release i of an output. -/
def State.cellRelease (s : State) (dst i : Nat) : State :=
  match s.outputDef dst with
  | none => s
  | some o => (if fmtKind o.format = 2 then s.releaseAnc o i else s.releaseAt o i).bufMarks

def execCellRelease (dst i : Nat) (s : State) : Host.Outcome State Fault Refusal := .next (s.cellRelease dst i)

/-- The LATE cells of an output whose release time has passed leave as soon as they have arrived, in SEQ order (R85): the first that stands. -/
def State.lateRelease (s : State) (dst : Nat) : State :=
  match s.outputDef dst with
  | none => s
  | some o =>
    match s.fabric.egress.find? (fun c => c.dst == dst && c.late && c.cell.isSome) with
    | none => s
    | some c =>
      match c.cell with
      | none => s
      | some d =>
        let rel := s.releasesOf o (c.release * s.epochNs)
        let i := if fmtKind o.format = 2 then (s.releasedIdx dst c.release).length
          else ((placements rel (s.releasedIdx dst c.release) (s.standing dst c.release)).find? (fun x => x.2 == c.idx)).elim c.idx (·.1)
        (s.releaseCell dst c.release i c d).bufMarks

def execLateCellRelease (dst : Nat) (s : State) : Host.Outcome State Fault Refusal := .next (s.lateRelease dst)

/-- At the end of release epoch e, a cell that found no release counts in CXF_EXCESS_CNT and raises CXF_EXCESS; what the ended epoch left is dropped, LATE cells apart (R67, R85). Released cells stand until every packet and line built from them has left: 2.5 ms, or for ancillary cells 50 ms, a little over the longest field (R215, R217). -/
def State.releaseEnd (s : State) (e : Nat) : State :=
  let left := s.fabric.egress.filter (fun c => decide (c.release ≤ e) && !c.late && c.cell.isSome && decide (c.dst < 0xC000))
  let unplaced := left.filter (fun c =>
    match s.outputDef c.dst with
    | some o => fmtKind o.format != 2 &&
        !((placements (s.releasesOf o (c.release * s.epochNs)) (s.releasedIdx c.dst c.release) (s.standing c.dst c.release)).any (fun x => x.2 == c.idx))
    | none => false)
  let t := { s with fabric := { s.fabric with
    egress := s.fabric.egress.filter (fun c => !(decide (c.release ≤ e) && !(c.late && c.cell.isSome) && decide (c.dst < 0xC000))),
    released := s.fabric.released.filter (fun r => decide (e < r.1 % 2 ^ 64) || s.fabric.egress.any (fun c => c.late && c.dst * 2 ^ 64 + c.release == r.1)),
    delivered := s.fabric.delivered.filter (fun d =>
      decide (e * s.epochNs ≤ d.1 * s.epochNs + (if fmtKind d.2.format = 2 then 50000000 else 2500000))),
    lost := s.fabric.lost.filter (fun l => decide (e ≤ l.2.1 + 2)) } }
  (unplaced.foldl (fun u _ => (u.bump Reg.CXF_EXCESS_CNT).raise Src.CXF_EXCESS) t).bufMarks

end Sys2Proof.Machine
end

