-- ==== Sys2Proof/Machine/Planes.lean ====
section
/-! DEFINITION. The planes: run descriptors, gaps and probes, the ends of lists and carries, and what a boundary does to a plane (R75 to R89, R477). -/

namespace Sys2Proof.Machine

/-- Plane p. -/
def State.plane (s : State) (p : Nat) : Plane := nthD s.fabric.planes p {}

/-- Plane p changes. -/
def State.setPlane (s : State) (p : Nat) (x : Plane) : State := { s with fabric := { s.fabric with planes := setNth s.fabric.planes p x } }

/-- The complete cell of a source with an index in an epoch. -/
def State.sourceCell (s : State) (src e i : Nat) : Option LineCell :=
  ((s.fabric.ingress.find? (fun x => x.complete && x.cell.essence == src && x.epoch == e && s.cellIndex x.cell e == i))).map (·.cell)

/-- The format of the cells a source has in an epoch, none where it has none. -/
def State.sourceFormat (s : State) (src e : Nat) : Option Nat :=
  (s.fabric.ingress.find? (fun x => x.cell.essence == src && x.epoch == e)).map (·.cell.format)

/-- Cell index i of a source is due in an epoch (R65, R476): a video or audio index within its format's cells there (every index while no cell shows the format), an ancillary group that was begun and lost. -/
def State.indexDue (s : State) (src e i : Nat) : Bool :=
  if essenceKind src = some 2 then
    s.fabric.lost.any (fun l => l.1 == src && l.2.1 == e && ((s.groupTimes src e).filter (fun t => decide (t < l.2.2))).length == i)
  else
    match s.sourceFormat src e with
    | some f => decide (i < (s.nominals f e).length)
    | none => true

/-- Something stands in the egress for index i of a destination. -/
def State.putOut (s : State) (x : OutCell) : State := { s with fabric := { s.fabric with egress := s.fabric.egress ++ [x] } }

/-- A cell reaches the egress rim: PCRC is checked while PCRC_EN is 1; a mismatch marks FABRIC_ERR and the cell goes on (R59, Table 3.13). -/
def State.checkPcrc (s : State) (c : LineCell) (damaged : Bool) : State × LineCell :=
  if s.bit Reg.CXF_CFG 1 && (damaged || pcrcOf c.payload != c.pcrc) then
    ((s.bump Reg.CXF_CRC_ERR_CNT).raise Src.CXF_CELL_CRC, cellFlag c 9)
  else (s, c)

/-- Cell index i of a RUN of the list of epoch n (R75, R84): what stands for it in the egress, and the token times it executes. -/
def State.runIndex (s : State) (d n : Nat) (late damaged : Bool) (i : Nat) : State × Nat :=
  let src := dSrc d
  let dst := dDst d
  let anc := essenceKind dst == some 2
  let out := fun fill (c : Option LineCell) => (⟨dst, src, n + 1, i, c, fill, late⟩ : OutCell)
  if src = 0xFFFF then (if anc ∨ 0xC000 ≤ dst then (s, 0) else (s.putOut (out 0 none), 0))
  else if s.producerDown src then (if anc then (s, 0) else (s.putOut (out 1 none), 0))
  else
    match s.sourceCell src (n - 1) i with
    | some c =>
      if dResv d < payloadLen c then ((s.raise Src.CXF_MISFIT).putOut (out 3 none), 0)
      else
        let r := s.checkPcrc c damaged
        (r.1.putOut (out 0 (some r.2)), 1 + payloadLen c)
    | none => if s.indexDue src (n - 1) i then (s.putOut (out 2 none), 0) else (s, 0)

/-- A RUN of the list of epoch n executes (R75): its own token time and those of the cells it carries. -/
def State.runExec (s : State) (d n : Nat) (late : Bool) (damaged : List Nat) : State × Nat :=
  (List.range (dCount d)).foldl (fun (acc : State × Nat) j =>
    let i := dFirst d + j
    let r := acc.1.runIndex d n late (damaged.contains i) i
    (r.1, acc.2 + r.2)) (s, 1)

/-- The descriptor a plane stands at. -/
def State.planeDesc (s : State) (p : Nat) : Nat := s.desc p (s.plane p).pos

/-- The CXF keeps its planes working: in RUN, or finishing its carries after RUN (R477). -/
def State.planesWork (s : State) : Bool := s.running 9 || s.cur 9 == sDRAIN || s.busy (pageAddr 9 0)

/-- Plane p executes one RUN: the first of its carry, or the one its list stands at. -/
def State.descExec (s : State) (p : Nat) (damaged : List Nat) : State :=
  let x := s.plane p
  match x.phase with
  | .carry =>
    match x.carry with
    | c :: r =>
      if s.planesWork then
        let t := s.runExec c.1 c.2 true damaged
        (t.1.setPlane p { x with carry := r, tokens := x.tokens + t.2 }).bufMarks
      else s
    | [] => s
  | .list =>
    let d := s.planeDesc p
    if s.planesWork = true ∧ x.pos < s.listLen p ∧ dKind d = 1 then
      let t := s.runExec d s.epoch false damaged
      ((t.1.setPlane p { x with pos := x.pos + 1, tokens := x.tokens + t.2 }).setFld (Reg.CXF_PL_STATUS (p + 1)) 28 16 (x.pos + 1)).bufMarks
    else s
  | .done => s

def execRunDescExec (p : Nat) (damaged : List Nat) (s : State) : Host.Outcome State Fault Refusal := .next (s.descExec (p % 16) damaged)

/-- Probes a plane inserts at a GAP of g token times (R86). -/
def State.probesAt (s : State) (x : Plane) (g : Nat) : Nat :=
  let min0 := s.fld Reg.CXF_PROBE_CFG 15 0
  if s.bit Reg.CXF_CFG 0 ∧ x.tokens < min0 then min (min (s.fld Reg.CXF_PROBE_CFG 23 16) g) (min0 - x.tokens) else 0

/-- Probe word W of probe k of plane p in epoch n (R87). -/
def probeWord (n p k : Nat) : Nat := n % 2 ^ 32 * 2 ^ 32 + p * 2 ^ 28 + k % 4096 * 2 ^ 16 + 0xC3A5

/-- A plane reaches a GAP (R86, R87); mismatches of the probes at the terminus count and rise. -/
def State.gapExec (s : State) (p mismatches : Nat) : State :=
  let x := s.plane p
  let d := s.planeDesc p
  if x.phase = .list ∧ s.planesWork = true ∧ x.pos < s.listLen p ∧ dKind d = 2 then
    let n := s.probesAt x (dGap d)
    let t := (s.setPlane p { x with pos := x.pos + 1, tokens := x.tokens + n, probes := x.probes + n }).setFld (Reg.CXF_PL_STATUS (p + 1)) 28 16 (x.pos + 1)
    let bad := min mismatches n
    if bad = 0 then t else (t.bumpBy Reg.CXF_PROBE_ERR_CNT bad).raise Src.CXF_PROBE_ERR
  else s

def execGapExec (p mismatches : Nat) (s : State) : Host.Outcome State Fault Refusal := .next (s.gapExec (p % 16) mismatches)

/-- SLACK_PROJ of a plane (R88). -/
def slackProj (len budget elapsed tokens : Nat) : Nat := len - ceilDiv (budget * elapsed) tokens

/-- CXF_PL_SLACK_MIN keeps the smallest of SLACK and SLACK_PROJ. -/
def State.slackMin (s : State) (p v : Nat) : State :=
  if v < s.fld (Reg.CXF_PL_SLACK_MIN (p + 1)) 16 0 then s.setFld (Reg.CXF_PL_SLACK_MIN (p + 1)) 16 0 v else s

/-- Index of the plane speed table's grid point nearest to the present set point and junction temperature (R154). -/
def State.gridPoint (s : State) : Nat × Nat := (min 12 ((s.steps + 5) / 10), (clampInt 0 15 ((s.junction + 360) / 80)).toNat)

/-- Entry of the plane speed table for voltage index v, temperature index t and plane p (R154). -/
def speedAddr (v t p : Nat) : Nat := pageAddr 4 0x10 + 0x1000 + 4 * (256 * v + 16 * t + p)

/-- A valid rate of plane p: the lower of it and the entry is kept; an entry of 0 is not measured (R154). -/
def State.learnRate (s : State) (p rate : Nat) : State :=
  let g := s.gridPoint
  let a := speedAddr g.1 g.2 p
  let old := s.fld a 15 0
  s.setFld a 15 0 (if old = 0 then min rate 65535 else min old rate)

/-- The measurement registers of a plane at its finish, or at the boundary that finds it unfinished (R80, R88). -/
def State.measure (s : State) (p tokens elapsed probes : Nat) (overrun : Bool) : State :=
  let k := p + 1
  let len := s.epochNs
  let valid := !overrun && decide (s.fld Reg.CXF_PROBE_CFG 15 0 ≤ tokens)
  let slack := if overrun then 0 else len - elapsed
  let proj := if overrun then 0 else slackProj len (planeBudget s.profile) elapsed tokens
  let t := ((s.setFld (Reg.CXF_PL_TOKENS k) 17 0 tokens).setFld (Reg.CXF_PL_ELAPSED k) 17 0 elapsed).setFld (Reg.CXF_PL_SLACK k) 16 0 slack
  let u := ((t.setFld (Reg.CXF_PL_SLACK_PROJ k) 16 0 proj).setFld (Reg.CXF_PL_RATE k) 15 0 (if elapsed = 0 then 0 else tokens * 1000 / elapsed)).setFld (Reg.CXF_PL_PROBES k) 15 0 probes
  let v := ((u.setBit (Reg.CXF_PL_STATUS k) 3 valid).setBit (Reg.CXF_PL_STATUS k) 4 overrun).slackMin p slack
  let x := if valid || overrun then v.slackMin p proj else v
  if valid && decide (0 < elapsed) then x.learnRate p (tokens * 1000 / elapsed) else x

/-- Cells of the sources that a plane's RUNs name which no run of their output covers (Table 3.13). -/
def State.uncovered (s : State) (p : Nat) : Nat :=
  let runs := (s.planeList p).filter (fun d => dKind d == 1 && dSrc d != 0xFFFF)
  let lastOnes := runs.filter (fun d => !runs.any (fun r => dDst r == dDst d && decide (dFirst d < dFirst r)))
  (lastOnes.map (fun d =>
    (s.fabric.ingress.filter (fun x => x.complete && x.cell.essence == dSrc d && x.epoch + 1 == s.epoch &&
      !(runs.any (fun r => dDst r == dDst d && decide (dFirst r ≤ s.cellIndex x.cell x.epoch) && decide (s.cellIndex x.cell x.epoch < dFirst r + dCount r))))).length)).sum

/-- A plane still owes runs of the list of epoch n. -/
def State.owes (s : State) (n : Nat) : Bool :=
  s.fabric.planes.any (fun x => x.carry.any (fun c => c.2 == n) || (n == s.epoch && x.phase != .done))

/-- Ingress slots whose runs every plane has finished are freed (R81). -/
def State.freeIngress (s : State) : State :=
  { s with fabric := { s.fabric with ingress := s.fabric.ingress.filter (fun x => decide (s.epoch < x.epoch + 1) || s.owes (x.epoch + 1)) } }

/-- A plane reaches END or LIST_LEN after elapsed ns (R80): the measurement is recorded and the plane is DONE. -/
def State.listDone (s : State) (p elapsed : Nat) : State :=
  let x := s.plane p
  if x.phase = .list ∧ s.planesWork = true ∧ (s.listLen p ≤ x.pos ∨ dKind (s.planeDesc p) = 15) then
    let t := s.measure p x.tokens elapsed x.probes false
    let u := (t.setPlane p { x with phase := .done, pos := s.listLen p }).setFld (Reg.CXF_PL_STATUS (p + 1)) 28 16 (s.listLen p)
    let n := s.uncovered p
    let v := if n = 0 then u else (u.bumpBy Reg.CXF_EXCESS_CNT n).raise Src.CXF_EXCESS
    v.freeIngress.bufMarks
  else s

def execPlaneListDone (p elapsed : Nat) (s : State) : Host.Outcome State Fault Refusal := .next (s.listDone (p % 16) elapsed)

/-- A plane has completed its carried runs (R80, R477): in RUN it starts index 0 of the new list; otherwise it is DONE, and the CXF's BUSY clears with the last carry. -/
def State.carryDone (s : State) (p : Nat) : State :=
  let x := s.plane p
  if x.phase = .carry ∧ x.carry = [] then
    let t := (s.setPlane p { x with phase := if s.running 9 then .list else .done, pos := 0 }).setBit (Reg.CXF_PL_STATUS (p + 1)) 2 false
    let u := t.freeIngress.bufMarks
    if u.cur 9 = sIDLE ∧ u.fabric.planes.all (fun y => y.carry.isEmpty) then u.setBit (hSTATE (pageAddr 9 0)) 8 false else u
  else s

def execCarryDone (p : Nat) (s : State) : Host.Outcome State Fault Refusal := .next (s.carryDone (p % 16))

/-! Boundaries. -/

/-- The runs of a list from a position on, with the epoch of the list. -/
def runsFrom (l : List Nat) (pos n : Nat) : List (Nat × Nat) := ((l.drop pos).filter (fun d => dKind d == 1)).map (fun d => (d, n))

/-- Plane p at the boundary that ends epoch n, before the flips (R79, R80): what it has not executed becomes its carry. -/
def State.planeEnd (s : State) (n p : Nat) : State :=
  let x := s.plane p
  let overrun := fun (carry : List (Nat × Nat)) =>
    let t := ((s.measure p x.tokens s.epochNs x.probes true).bump Reg.CXF_OVERRUN_CNT).bump (Reg.CXF_PL_OVERRUN_CNT (p + 1))
    let u := ((t.setPlane p { x with phase := .carry, carry := carry, tokens := 0, probes := 0, pos := 0 }).setBit (Reg.CXF_PL_STATUS (p + 1)) 2 true).raise Src.CXF_OVERRUN
    u.raiseIf (carry.any (fun c => decide (c.2 < n))) Src.CXF_PLANE_STALL
  match x.phase with
  | .done => s
  | .list => overrun (x.carry ++ runsFrom (s.planeList p) x.pos n)
  | .carry => overrun (x.carry ++ runsFrom (s.planeList p) 0 n)

/-- Plane p at the start of an epoch, after the flips, while the CXF is in RUN: a plane with no carry starts index 0 of its list. -/
def State.planeStart (s : State) (p : Nat) : State :=
  let x := s.plane p
  if fabricPlane s.profile p && x.phase == .done then
    (s.setPlane p { x with phase := .list, pos := 0, tokens := 0, probes := 0 }).setFld (Reg.CXF_PL_STATUS (p + 1)) 28 16 0
  else s

/-- ACTIVE and LENT of the plane pages under a profile. -/
def State.planeLent (s : State) : State :=
  planeNos.foldl (fun t p => (t.setBit (Reg.CXF_PL_STATUS (p + 1)) 0 (fabricPlane s.profile p)).setBit (Reg.CXF_PL_STATUS (p + 1)) 1 (!fabricPlane s.profile p)) s

/-- The smaller of SLACK and, where valid, SLACK_PROJ of plane p, and whether it is the projection. -/
def State.planeSlack (s : State) (p : Nat) : Nat × Bool :=
  let a := s.fld (Reg.CXF_PL_SLACK (p + 1)) 16 0
  let b := s.fld (Reg.CXF_PL_SLACK_PROJ (p + 1)) 16 0
  if (s.bit (Reg.CXF_PL_STATUS (p + 1)) 3 || s.bit (Reg.CXF_PL_STATUS (p + 1)) 4) && decide (b < a) then (b, true) else (a, false)

/-- Fabric planes that measured in the epoch that ends. -/
def State.measured (s : State) : List Nat := planeNos.filter (fun p => fabricPlane s.profile p && (s.plane p).phase != .list)

/-- The plane with the smallest slack of an epoch, that slack, and whether it is the projection (R89). -/
def State.worstSlack (s : State) : Option (Nat × Nat × Bool) :=
  ((planeNos.filter (fabricPlane s.profile)).map (fun p => (p, s.planeSlack p))).foldl
    (fun (a : Option (Nat × Nat × Bool)) b => match a with | some x => if b.2.1 < x.2.1 then some b else a | none => some b) none

/-- CXF_SLACK_LOW rises in the epoch that ends: its worst slack lies below the threshold (R89). -/
def State.slackIsLow (s : State) : Bool :=
  let low := s.fld Reg.CXF_SLACK_TH 7 0
  match s.worstSlack with | some w => decide (low ≠ 0) && decide (w.2.1 * 1000 < low * s.epochNs) | none => false

/-- The worst plane of an epoch: CXF_SLACK_WORST is updated, and CXF_SLACK_LOW rises below its threshold (R89). -/
def State.slackWorst (s : State) : State :=
  match s.worstSlack with
  | none => s
  | some w => (s.wrN Reg.CXF_SLACK_WORST (w.1 * 2 ^ 28 + b2n w.2.2 * 2 ^ 27 + w.2.1 % 2 ^ 17)).raiseIf s.slackIsLow Src.CXF_SLACK_LOW

/-- The plane with the worst valid SLACK_PROJ of an epoch, which the PTM reads; none where no plane yields one (R88). -/
def State.worstProj (s : State) : Option (Nat × Nat) :=
  ((planeNos.filter (fun p => fabricPlane s.profile p && (s.bit (Reg.CXF_PL_STATUS (p + 1)) 3 || s.bit (Reg.CXF_PL_STATUS (p + 1)) 4))).map
    (fun p => (p, s.fld (Reg.CXF_PL_SLACK_PROJ (p + 1)) 16 0))).foldl
      (fun (a : Option (Nat × Nat)) b => match a with | some x => if b.2 < x.2 then some b else a | none => some b) none

/-- The lowest valid CXF_PL_RATE of an epoch (R140). -/
def State.worstRate (s : State) : Option Nat :=
  ((planeNos.filter (fun p => fabricPlane s.profile p && s.bit (Reg.CXF_PL_STATUS (p + 1)) 3)).map (fun p => s.fld (Reg.CXF_PL_RATE (p + 1)) 15 0)).foldl
    (fun (a : Option Nat) v => match a with | none => some v | some w => some (min w v)) none

/-- Runs a plane has not completed: its carry and what is left of a list it has started. -/
def State.runsLeft (s : State) (p : Nat) : Nat :=
  let x := s.plane p
  x.carry.length + (if x.phase = .list then (runsFrom (s.planeList p) x.pos 0).length else 0)

/-- The CXF leaves a DRAIN with runs unfinished: they are abandoned, counted as discards, and their cells are never released (R477). -/
def State.abandonCarry (s : State) : State :=
  let n := (planeNos.map s.runsLeft).sum
  let t := { s with fabric := { s.fabric with planes := s.fabric.planes.map (fun x => { x with phase := .done, carry := [] }) } }
  if n = 0 then t else (t.bumpSat (hSTATE (pageAddr 9 0)) 31 16 n).stick (pageAddr 9 0) 6

/-! The commit checks of the plane lists (R73, R78). -/

/-- The shadow list of plane p, END included. -/
def State.shadowList (s : State) (p : Nat) : List Nat :=
  listCounted ((List.range (min 4096 (Machine.fld (s.rd (Reg.CXF_PL_LIST_LEN (p + 1) + 0x8000)) 12 0))).map (s.descShadow p))

/-- Length of the shadow list of plane p as its register gives it. -/
def State.shadowLen (s : State) (p : Nat) : Nat := Machine.fld (s.rd (Reg.CXF_PL_LIST_LEN (p + 1) + 0x8000)) 12 0

/-- A RUN's source differs in kind from its destination, whose kind the OUTPUTS entry's format gives (R78). -/
def runKindBad (outs : List OutputDef) (d : Nat) : Bool :=
  dKind d == 1 && (match outs.find? (fun o => o.id == dDst d), essenceKind (dSrc d) with
    | some o, some k => k != fmtKind o.format
    | _, _ => false)

/-- LAST_REFUSAL code of the CXF's checks against a profile and the definitions that will be active, for lists of an image that declares a profile (none: lists that no image loaded): 0 passed, 4 PROFILE, 1 CAP_EXCEEDED, 2 BAD_DESC, 3 LIST_LEN, in the order of R78. -/
def State.cxfCheck (s : State) (declared : Option Nat) (profile : Nat) (outs : List OutputDef) : Nat :=
  let lists := planeNos.map s.shadowList
  if (match declared with | some d => d != profile | none => false) then 4
  else if lists.any (fun l => decide (planeBudget profile < listClaim l)) then 1
  else if lists.any (fun l => l.any (fun d => badDesc d || runKindBad outs d)) then 2
  else if planeNos.any (fun p => decide (4096 < s.shadowLen p) || (!fabricPlane profile p && s.shadowLen p != 0)) then 3
  else 0

end Sys2Proof.Machine
end

