-- ==== Sys2Proof/Machine/Link.lean ====
section
/-! DEFINITION. What the other units know of the twin: the pair state, the roles and the sending of control records (R344, R350, R353). -/

namespace Sys2Proof.Machine

/-- TWN_STATUS.PSTATE as the units see it: NO_PARTNER while the TWN is not in RUN (R344). -/
def State.pairState (s : State) : Nat := if s.running 15 then s.fld Reg.TWN_STATUS 31 30 else 0

/-- The pair is PAIRED. -/
def State.paired (s : State) : Bool := s.pairState == 2

/-- The TWN reports SPLIT or no partner (R117, R234). -/
def State.partnerless (s : State) : Bool := s.pairState == 0 || s.pairState == 3

/-- This device holds the timing-master role (R353); no role is held while the TWN is not in RUN (R344). -/
def State.isMaster (s : State) : Bool := s.running 15 && s.bit Reg.TWN_ROLE 31

/-- This device is Twin B. -/
def State.isTwinB (s : State) : Bool := s.board.twinId

/-- A record goes to the partner in the next control message with room (R349, R350); without a partner nothing is sent. -/
def State.sendCtl (s : State) (r : CtlRec) : State :=
  if s.partnerless then s else { s with twin := { s.twin with waiting := s.twin.waiting ++ [r] } }

end Sys2Proof.Machine
end

