-- ==== Sys2Proof/Machine/Store.lean ====
section
/-! DEFINITION. The frame store: slots at work, reads and their pool, power-down, ECC, scrubbing and the zero fill (R226 to R243). -/

namespace Sys2Proof.Machine

/-! Slots at work. -/

/-- A slot's run; a new one where the slot starts empty (R231). -/
def State.slotRun (s : State) (j e : Nat) : SlotRun :=
  match kget s.store.slots j with
  | some r => if r.entry = e then r else { entry := e }
  | none => { entry := e }

/-- A slot's run changes. -/
def State.setRun (s : State) (j : Nat) (r : SlotRun) : State := { s with store := { s.store with slots := kput s.store.slots j r } }

/-- Counter c of slot j (FST_SLOT_CNT) counts n. -/
def State.slotCount (s : State) (j c n : Nat) : State := s.bumpBy (hid Reg.FST_SLOT_CNT (c * 8192 + j)) n

/-- Bytes move to or from a stack. -/
def State.stackMove (s : State) (st bytes : Nat) : State :=
  { s with store := { s.store with moved := setNth s.store.moved st (nthD s.store.moved st 0 + bytes), lastUse := setNth s.store.lastUse st s.now } }

/-- Bytes of a stored cell. -/
def cellBytes (c : LineCell) : Nat := 64 * (1 + payloadLen c)

/-- Granules from a window offset on are good again, having been written (R241). -/
def State.granulesGood (s : State) (off bytes : Nat) : State :=
  { s with store := { s.store with badGranules := s.store.badGranules.filter (fun g => !(decide (off ≤ g + 63) && decide (g < off + bytes))) } }

/-- A stored cell as bytes: its descriptor token, most significant byte first, and its payload (R226). -/
def cellToBytes (c : LineCell) : List Byte := bytesBE 64 (descriptorBits c) ++ c.payload

/-- A cell is written into slot j: the counters count it, and its stack moves its bytes. -/
def State.cellCounted (s : State) (j e : Nat) (c : LineCell) : State :=
  ((s.slotCount j 0 1).bump (Reg.FST_S_WR_CNT (slStack e % 4 + 1))).stackMove (slStack e % 4) (cellBytes c)

/-- A cell is written into slot j at frame position n and index i; its tokens stand in the window (R226). -/
def State.cellWritten (s : State) (j e n i : Nat) (c : LineCell) : State :=
  let st := slStack e % 4
  ((((s.wrBytes (storeBase + cellOffset e n i) (cellToBytes c)).slotCount j 0 1).bump (Reg.FST_S_WR_CNT (st + 1))).stackMove st (cellBytes c)).granulesGood (cellOffset e n i) (cellBytes c)

/-! SYNC slots (R232, R233). -/

/-- Same place in the picture. -/
def samePlace (a b : LineCell) : Bool := a.line == b.line && a.field2 == b.field2

/-- A video cell of the source reaches its SYNC slot: the first active line of a frame begins a new source frame with its input stamp, the last one of the last field completes it; the line's place in the frame FRAMES ago is overwritten. -/
def syncVideo (r : SlotRun) (c : LineCell) (stamp : Nat) : SlotRun :=
  let e := r.entry
  let ras := fmtRaster (slFormat e)
  let starts := c.line == (rasterRange1 ras).1
  let ends := if interlaced ras then c.line == (rasterRange2 ras).2 else c.line == (rasterRange1 ras).2
  let base := if starts then { r with frames := ⟨r.next, stamp, false, [], []⟩ :: r.frames, next := r.next + 1, wrFrame := r.next % 65536 } else r
  match base.frames with
  | [] => base
  | f :: rest =>
    let g := { f with cells := f.cells ++ [c], done := f.done || ends }
    let old := rest.map (fun x => if x.num + slFrames e ≤ g.num then { x with cells := x.cells.filter (fun y => !samePlace y c) } else x)
    { base with frames := g :: old.filter (fun x => decide (g.num ≤ x.num + 2 * slFrames e)) }

/-- A companion cell joins the span of the source frame being written (R233). -/
def syncCompanion (r : SlotRun) (c : LineCell) : SlotRun :=
  match r.frames with
  | [] => r
  | f :: rest => { r with frames := { f with extra := f.extra ++ [c] } :: rest }

/-- Slots that name an essence as an asynchronous input. -/
def State.slotsOf (s : State) (x : Nat) : List (Nat × Nat) :=
  s.activeSlots.filter (fun y => (slType y.2 == 1 && (slEss y.2 == x || slAuxA y.2 == x || slAuxB y.2 == x)) ||
    (slType y.2 == 3 && (slEss y.2 == x || slAuxA y.2 == x)))

/-- The frame number that contains a nominal time. -/
def frameOf (f t : Nat) : Nat := t * (fmtPeriod f).2 / (fmtPeriod f).1

/-- A complete cell of an asynchronous input reaches the frame store (R232, R236). Cells of ESS stand in the window; the spec gives companions, leg B and ancillary cells no place in it (log entry 20). -/
def State.storeInput (s : State) (c : LineCell) : State :=
  if !s.running 11 then s
  else
    (s.slotsOf c.essence).foldl (fun t y =>
      let r := t.slotRun y.1 y.2
      let f := slFormat y.2
      let n := if slType y.2 = 1 then (if c.line == (rasterRange1 (fmtRaster f)).1 then r.next else r.next - 1) else frameOf f c.ptpTime
      let u := if slEss y.2 = c.essence ∧ fmtKind f ≠ 2 then t.cellWritten y.1 y.2 n (lineIndex (fmtRaster f) c.line) c else t.cellCounted y.1 y.2 c
      if slType y.2 = 1 then
        u.setRun y.1 (if slEss y.2 = c.essence then syncVideo r c s.now else syncCompanion r c)
      else if slEss y.2 = c.essence then u.setRun y.1 { r with cells := r.cells ++ [c], wrFrame := c.frameCount % 65536 }
      else u.setRun y.1 { r with legB := r.legB ++ [c] }) s

/-- What a client reads at the place of a cell that stands there: the tokens in the window as they are, so that a later write of the host counts (R227); none where they are no longer a cell of the slot's format. -/
def State.placedCell (s : State) (e off : Nat) (c : LineCell) : Option LineCell :=
  let m := s.loadCell off
  if m.format = slFormat e then some { m with ptpTime := c.ptpTime, line := c.line, field2 := c.field2, frameCount := c.frameCount } else none

/-- A producer completes a cell: an asynchronous one goes to the frame store, any other to its ingress buffer (R65, R232). -/
def State.produce (s : State) (die : Nat) (async : Bool) (c : LineCell) : State :=
  if async then s.storeInput c else s.assemble die c true

/-- Frame k of a format begins this many ns after the PTP epoch; its first active cell is assigned to this epoch (e_k of R232). -/
def State.frameEpoch (s : State) (f k : Nat) : Nat :=
  (lineTime f (k * rasterTotal (fmtRaster f) + (rasterRange1 (fmtRaster f)).1 - 1) + s.allowance f) / s.epochNs

/-- Output frames of a format whose first active cell is assigned to an epoch. -/
def State.framesAt (s : State) (f e : Nat) : List Nat :=
  let k0 := e * s.epochNs * (fmtPeriod f).2 / (fmtPeriod f).1
  (((List.range 4).map (fun i => k0 + i - 2)).eraseDups).filter (fun k => s.frameEpoch f k == e)

/-- The newest complete source frame of a slot. -/
def newestFrame (r : SlotRun) : Option SrcFrame := r.frames.find? (·.done)

/-- The stored frame whose stamp lies within half a frame period of a stamp (R234). -/
def frameByStamp (r : SlotRun) (stamp : Nat) : Option SrcFrame :=
  r.frames.find? (fun f => f.done && decide (2 * (max f.stamp stamp - min f.stamp stamp) * (fmtPeriod (slFormat r.entry)).2 ≤ (fmtPeriod (slFormat r.entry)).1))

/-- At the start of e_k - 1 the slot chooses for output frame k (R232), and a timing master sends its choice (R234). -/
def State.syncChoose (s : State) (j e k : Nat) : State :=
  let r := s.slotRun j e
  let own := newestFrame r
  let t := s.setRun j { r with dec := r.dec.filter (fun d => d.1 != k) ++ [(k, own.map (·.num), s.paired && !s.isMaster && s.bit Reg.FST_CFG 1)] }
  match own with
  | some f => if s.paired && s.isMaster then t.sendCtl (.sync j (k % 2 ^ 24) f.stamp) else t
  | none => t

/-- At the start of e_k the choice for output frame k stands: the twin's where it is followed, else this device's own (R232, R234). -/
def State.syncResolve (s : State) (j e k : Nat) : State :=
  let r := s.slotRun j e
  match r.dec.find? (fun d => d.1 == k) with
  | none => s
  | some d =>
    let got := s.store.decisions.find? (fun x => x.1 == j && x.2.1 == k % 2 ^ 24)
    let twin := match got with | some x => frameByStamp r x.2.2 | none => none
    let follow := d.2.2 && twin.isSome
    let num := if follow then twin.map (·.num) else d.2.1
    let rep := num.isSome && num == r.chosen
    let skip := match num, r.chosen with
      | some n, some c => r.frames.any (fun f => f.done && decide (c < f.num) && decide (f.num < n))
      | _, _ => false
    let s1 := if d.2.2 && twin.isNone then (s.bump Reg.FST_FOLLOW_MISS_CNT).raise Src.FST_FOLLOW_MISS else s
    let s2 := if rep then (s1.bump Reg.FST_SYNC_REPEAT_CNT).slotCount j 2 1 else s1
    let s3 := if skip then ((s2.bump Reg.FST_SYNC_SKIP_CNT).slotCount j 3 1).raise Src.FST_SYNC_SKIP else s2
    let s4 := { s3 with store := { s3.store with decisions := s3.store.decisions.filter (fun x => !(x.1 == j && x.2.1 == k % 2 ^ 24)) } }
    s4.setRun j { r with
      dec := r.dec.filter (fun x => x.1 != k), outs := r.outs.filter (fun o => decide (k < o.k + 3)) ++ [⟨k, num, rep, skip⟩],
      chosen := if num.isSome then num else r.chosen, rdFrame := (num.getD r.rdFrame) % 65536, following := follow, lastRep := rep, lastSkip := skip }

/-! Reads (R238, R239). -/

/-- Transactions of class n in flight change to v. -/
def State.setInUse (s : State) (n v : Nat) : State := { s with store := { s.store with inUse := setNth s.store.inUse n v } }

/-- The pool's watermark sees its level. -/
def State.poolMark (s : State) : State := s.watermark Reg.FST_POOL_WM s.store.inUse.sum (s.fld Reg.FST_POOL_MARK 14 0) 512

/-- A class takes n transactions of the pool; FST_POOL_EXHAUST rises when its share is used and the shared part is empty (R238). -/
def State.poolTake (s : State) (cls n : Nat) : State :=
  let t := (s.setInUse cls (nthD s.store.inUse cls 0 + n)).poolMark
  t.raiseIf (!t.poolFree cls) Src.FST_POOL_EXHAUST

/-- A class gives n transactions back. -/
def State.poolGive (s : State) (cls n : Nat) : State := (s.setInUse cls (nthD s.store.inUse cls 0 - n)).poolMark

/-- A fabric-facing read of a cell for its epoch: it is in flight, or waits inside the core while its class has nothing free. -/
def State.readIssue (s : State) (j e off : Nat) (c : LineCell) : State :=
  let st := slStack e % 4
  let n := ceilDiv (cellBytes c) 256
  let go := s.poolFree 0
  let t := (s.bump (Reg.FST_S_RD_CNT (st + 1))).stackMove st (cellBytes c)
  let u := if go then t.poolTake 0 n else t
  { u with store := { u.store with reads := u.store.reads ++ [⟨j, st, off, c, s.assignedEpoch c, n, go⟩] } }

/-- A due cell of a slot has nothing to read: it will be a fill (R65, R239). -/
def State.readNone (s : State) (j : Nat) : State := s.slotCount j 4 1

/-- Output cell of nominal n from a stored cell: its time, frame count and place in the output (R232, R237). -/
def outCell (c : LineCell) (essence : Nat) (n : Nominal) (rep skip : Bool) : LineCell :=
  let flags := (if c.flags.testBit 8 then 256 else 0) + placeFlags n + (if rep && n.first then 64 else 0) + (if skip && n.first then 128 else 0)
  { c with essence := essence, frameCount := n.frameCount, line := n.line, field2 := n.field2, ptpTime := n.time % 2 ^ 64, flags := flags }

/-- A run-ahead has brought this port's first cells: one of them serves the read (R118). -/
def State.takeStaged (s : State) (port e : Nat) : Option State :=
  match s.store.staged.find? (fun x => x.1 == port && decide (x.2.1 ≤ e) && decide (0 < x.2.2)) with
  | some x => some { s with store := { s.store with staged := mapIf (fun y => y == x) (fun y => (y.1, y.2.1, y.2.2 - 1)) s.store.staged } }
  | none => none

/-- A cell for a fabric-facing port is read, or comes from the staging buffer. -/
def State.portRead (s : State) (j e off : Nat) (c : LineCell) : State :=
  match s.takeStaged c.essence (s.assignedEpoch c) with
  | some t => (t.assemble (slStack e % 4 / 2) c true).slotCount j 1 1
  | none => s.readIssue j e off c

/-- SYNC: the video cells due in epoch ep (R232). -/
def State.syncVideoReads (s : State) (j e ep : Nat) : State :=
  let f := slFormat e
  (s.nominals f ep).foldl (fun t n =>
    let r := t.slotRun j e
    match r.outs.find? (fun o => o.k == frameOf f n.time) with
    | some o =>
      match r.frames.find? (fun x => some x.num == o.num) with
      | some fr =>
        match fr.cells.find? (fun c => c.line == n.line && c.field2 == n.field2) with
        | some c =>
          let off := cellOffset e fr.num (lineIndex (fmtRaster f) n.line)
          match t.placedCell e off c with
          | some m => t.readIssue j e off (outCell m (slEss e) n o.rep o.skip)
          | none => t.readNone j
        | none => t.readNone j
      | none => t.readNone j
    | none => t.readNone j) s

/-- A silent audio block (R233). -/
def silentBlock (essence f : Nat) (n : Nominal) : LineCell :=
  { essence := essence, format := f, frameCount := n.frameCount, line := 0, field2 := false, seq := 0, ptpTime := n.time % 2 ^ 64,
    flags := 64 + placeFlags n, outputId := 0xFFFF, units := n.units, payload := fillPayload f n.units, pcrc := 0, dcrc := 0 }

/-- SYNC: the companion audio blocks due in epoch ep follow the video decision (R233): the i-th block of the output frame is the i-th of the chosen frame's span; a repeated frame gives silence. -/
def State.syncAudioReads (s : State) (j e ep : Nat) : State :=
  let r0 := s.slotRun j e
  let f := slFormat e
  let known := r0.frames.findSome? (fun fr => (fr.extra.find? (fun c => c.essence == slAuxA e)).map (·.format))
  match known with
  | none => s
  | some af =>
    (s.nominals af ep).foldl (fun t n =>
      let r := t.slotRun j e
      let k := frameOf f n.time
      let start := frameStart f k
      let place := n.time / 125000 - ceilDiv start 125000
      match r.outs.find? (fun o => o.k == k) with
      | some o =>
        if o.rep then t.readIssue j e (cellOffset e 0 0) (silentBlock (slAuxA e) af n)
        else
          match (r.frames.find? (fun x => some x.num == o.num)).bind (fun fr => (fr.extra.filter (fun c => c.essence == slAuxA e))[place]?) with
          | some c => t.readIssue j e (cellOffset e 0 0) (outCell c (slAuxA e) n false false)
          | none => t.readNone j
      | none => t.readNone j) s

/-- SYNC: the companion ancillary groups of output frame k, moved from the chosen frame's time to frame k's (R233). -/
def State.syncAncReads (s : State) (j e ep : Nat) : State :=
  let r := s.slotRun j e
  let f := slFormat e
  r.outs.foldl (fun t o =>
    match r.frames.find? (fun x => some x.num == o.num) with
    | some fr =>
      match fr.cells.head? with
      | some c0 =>
        (fr.extra.filter (fun c => c.essence == slAuxB e)).foldl (fun u c =>
          let time := c.ptpTime + frameStart f o.k - frameStart f (frameOf f c0.ptpTime)
          let x := { c with ptpTime := time % 2 ^ 64, frameCount := time / 125000 % 2 ^ 24 }
          if u.assignedEpoch x = ep then u.readIssue j e (cellOffset e 0 0) x else u) t
      | none => t
    | none => t) s

/-- DELAY and MERGE: what stands for a due time, none where nothing is stored; the second answer says that leg B gave it (R235, R236). -/
def storedCell (r : SlotRun) (merge : Bool) (t line : Nat) (field2 : Bool) : Option (LineCell × Bool) :=
  let pick := fun (l : List LineCell) (clean : Bool) => l.find? (fun c => c.ptpTime == t && c.line == line && c.field2 == field2 && (!clean || !c.flags.testBit 8))
  match pick r.cells merge with
  | some c => some (c, false)
  | none =>
    if merge then
      match pick r.legB true with
      | some c => some (c, true)
      | none =>
        match pick r.cells false with
        | some c => some (c, false)
        | none => (pick r.legB false).map (fun c => (c, true))
    else none

/-- The delay of a DELAY or MERGE slot in periods of its format: PARAM, for a MERGE rounded up (R235, R236). -/
def slotPeriods (e : Nat) : Nat := periodsUp (slFormat e) (slParam e * 1000)

/-- The essence a slot presents to the fabric. -/
def slotEssence (e : Nat) : Nat := if slType e = 1 ∨ slType e = 3 then slEss e else slOut e

/-- A stored cell raised by the slot's delay. -/
def delayedCell (e : Nat) (c : LineCell) : LineCell :=
  let d := if slType e = 2 then slParam e * 1000 else periodsNs (slFormat e) (slotPeriods e)
  { c with essence := slotEssence e, ptpTime := (c.ptpTime + d) % 2 ^ 64,
           frameCount := (c.frameCount + (if fmtKind (slFormat e) = 0 then slotPeriods e else d / 125000)) % 2 ^ 24,
           flags := c.flags &&& 0x118 }

/-- A cell from leg B, or no cell from either, is counted (R236). -/
def State.mergeCount (s : State) (merge : Bool) (x : Option (LineCell × Bool)) : State :=
  if !merge then s
  else match x with
    | none => (s.bump Reg.FST_MERGE_LOST_CNT).raise Src.FST_MERGE_LOST
    | some c => if c.2 then s.bump Reg.FST_MERGE_B_CNT else s

/-- DELAY and MERGE: the cells due in epoch ep (R235, R236). -/
def State.delayReads (s : State) (j e ep : Nat) : State :=
  let f := slFormat e
  let merge := slType e == 3
  let d := if merge then periodsNs f (slotPeriods e) else slParam e * 1000
  let t := if fmtKind f = 2 then
      let r := s.slotRun j e
      let firsts := r.cells ++ r.legB.filter (fun b => !r.cells.any (fun a => a.ptpTime == b.ptpTime))
      (firsts.filter (fun c => s.assignedEpoch (delayedCell e c) == ep)).foldl (fun u c =>
        match storedCell r merge c.ptpTime c.line c.field2 with
        | some x => (u.mergeCount merge (some x)).portRead j e (cellOffset e 0 0) (delayedCell e x.1)
        | none => u) s
    else
      (s.nominals f ep).foldl (fun u n =>
        let r := u.slotRun j e
        let x := if n.time < d then none else storedCell r merge (n.time - d) n.line n.field2
        let v := u.mergeCount merge x
        match x with
        | some c =>
          let off := cellOffset e (frameOf f (n.time - d)) (lineIndex (fmtRaster f) n.line)
          match (if c.2 then some c.1 else v.placedCell e off c.1) with
          | some m => v.portRead j e off (delayedCell e m)
          | none => v.readNone j
        | none => v.readNone j) s
  let r := t.slotRun j e
  let keep := fun (c : LineCell) => decide (ep * s.epochNs ≤ c.ptpTime + d + 4 * s.epochNs)
  t.setRun j { r with cells := r.cells.filter keep, legB := r.legB.filter keep }

/-- CLIP: the cells due in epoch ep, from the frames the host has loaded (R237); a place that holds no cell of the slot's format gives a fill. -/
def State.clipReads (s : State) (j e ep : Nat) : State :=
  let f := slFormat e
  (s.nominals f ep).foldl (fun t n =>
    let frames := max 1 (slFrames e)
    let anchor := slParam e % 2 ^ 24
    let idx := (n.frameCount + 2 ^ 24 * frames - anchor) % frames
    let off := cellOffset e idx (if fmtKind f = 0 then lineIndex (fmtRaster f) n.line else 0)
    let c := t.loadCell off
    let r := t.slotRun j e
    let new := r.rdFrame ≠ idx
    let u := if new ∧ idx = 0 then t.bump Reg.FST_CLIP_WRAP_CNT else t
    let v := u.setRun j { r with rdFrame := idx }
    if c.format = f ∧ fmtKind f ≠ 2 then v.portRead j e off (outCell c (slOut e) n false false) else v.readNone j) s

/-- The FST issues the fabric-facing reads for the cells assigned to epoch ep (R239). -/
def State.slotReads (s : State) (ep : Nat) (x : Nat × Nat) : State :=
  match slType x.2 with
  | 1 => ((s.syncVideoReads x.1 x.2 ep).syncAudioReads x.1 x.2 ep).syncAncReads x.1 x.2 ep
  | 2 => s.delayReads x.1 x.2 ep
  | 3 => s.delayReads x.1 x.2 ep
  | 4 => s.clipReads x.1 x.2 ep
  | _ => s

/-! Write ports (R235). -/

/-- A DELAY slot takes the cells that have reached its write port. -/
def State.delayWrites (s : State) (x : Nat × Nat) : State :=
  if slType x.2 ≠ 2 then s
  else
    let mine := s.fabric.egress.filter (fun c => c.dst == slEss x.2)
    let t := { s with fabric := { s.fabric with egress := s.fabric.egress.filter (fun c => c.dst != slEss x.2) } }
    mine.foldl (fun u c =>
      match c.cell with
      | some d =>
        let r := u.slotRun x.1 x.2
        (if fmtKind (slFormat x.2) = 2 then u.cellCounted x.1 x.2 d
          else u.cellWritten x.1 x.2 (frameOf (slFormat x.2) d.ptpTime) (lineIndex (fmtRaster (slFormat x.2)) d.line) d).setRun x.1
          { r with cells := r.cells ++ [d], wrFrame := d.frameCount % 65536 }
      | none => u) t

/-! Epoch boundaries. -/

/-- At the end of epoch e, reads that have not completed are given up (R239). -/
def State.readsEnd (s : State) (e : Nat) : State :=
  let late := s.store.reads.filter (fun r => decide (r.epoch ≤ e))
  let t := { s with store := { s.store with reads := s.store.reads.filter (fun r => decide (e < r.epoch)) } }
  late.foldl (fun u r =>
    let v := if r.issued then u.poolGive 0 r.txns else u
    (((v.bump Reg.FST_UNDERRUN_CNT).bump (Reg.FST_CLASS_LATE 0)).slotCount r.slot 4 1).raise Src.FST_UNDERRUN) t

/-- Bandwidth of the ended epoch on each stack: MB/s, and the watermark in per cent of the 800 GB/s peak. -/
def State.bandwidthEnd (s : State) : State :=
  let t := (List.range 4).foldl (fun u i =>
    let mb := nthD s.store.moved i 0 * 1000 / s.epochNs
    let v := (u.setFld (Reg.FST_S_BW_NOW (i + 1)) 19 0 mb).watermark (Reg.FST_S_BW_WM (i + 1)) (100 * mb) (s.fld (Reg.FST_S_BW_MARK (i + 1)) 7 0 * 800000) 1600000
    (List.range 16).foldl (fun w c => w.wrN (Reg.FST_S_CH_BW (i + 1) c) (mb / 16)) v) s
  { t with store := { t.store with moved := [0, 0, 0, 0] } }

/-- The frame store at the start of epoch e, after the flips: slots that changed start again empty, write ports deliver, decisions for e are taken and the reads for e issue (R231 to R239). -/
def State.fstStart (s : State) : State :=
  if !s.running 11 then s
  else
    let e := s.epoch
    let l := s.activeSlots
    let s0 := { s with store := { s.store with slots := s.store.slots.filter (fun r => l.any (fun x => x.1 == r.1 && x.2 == r.2.entry)) } }
    let s1 := l.foldl State.delayWrites s0
    let s2 := (l.filter (fun x => slType x.2 == 1)).foldl (fun t x =>
      let u := (t.framesAt (slFormat x.2) e).foldl (fun v k => v.syncResolve x.1 x.2 k) t
      (u.framesAt (slFormat x.2) (e + 1)).foldl (fun v k => v.syncChoose x.1 x.2 k) u) s1
    l.foldl (fun t x => t.slotReads e x) s2

/-! Commands. -/

/-- The zero fill ends after a time in units of 0.01 ms: the whole window is 0 with valid ECC and BUSY clears (R228). -/
def State.zeroFillDone (s : State) (hundredths : Nat) : State :=
  if !s.store.filling then s
  else
    let t := { s with mem := s.mem.filter (fun c => !(isStore c.1)), store := { s.store with filling := false, badGranules := [] } }
    (t.wrN Reg.FST_INIT_STATUS (2 ^ 31 + min hundredths 65535)).setBit (hSTATE (pageAddr 11 0)) 8 (t.awaiting.any (fun x => x.1 == pageAddr 11 0))

def execFstZeroFillDone (hundredths : Nat) (s : State) : Host.Outcome State Fault Refusal := .next (s.zeroFillDone hundredths)

/-- An uncorrectable granule is recorded (R241). -/
def State.eccBad (s : State) (st off : Nat) : State :=
  let t := ((s.wrN Reg.FST_ECC_ADDR_LO off).wrN Reg.FST_ECC_ADDR_HI (off / 2 ^ 32 % 16)).bump Reg.FST_ECC_UNCORR_CNT
  let u := { t with store := { t.store with badGranules := off / 64 * 64 :: t.store.badGranules.filter (fun g => g != off / 64 * 64) } }
  (u.bump (Reg.FST_S_ECC_UNCORR (st + 1))).raise Src.FST_ECC_UNCORR

/-- A corrected read is counted, with its channel: 256-byte units rotate across the 16 channels (R226, R241). -/
def State.eccFixed (s : State) (st off : Nat) : State :=
  (((s.bump Reg.FST_ECC_CORR_CNT).bump (Reg.FST_S_ECC_CORR (st + 1))).bump (Reg.FST_S_CH_ECC (st + 1) (off / 256 % 16))).raise Src.FST_ECC_CORR

/-- The ECC outcome of token n of a stored cell (R241): an uncorrectable payload token reads as 0 and marks IN_ERR, an uncorrectable descriptor drops the cell. -/
def eccCell (c : LineCell) (n : Nat) : Option LineCell :=
  if n = 0 then none
  else some { c with payload := c.payload.take (64 * (n - 1)) ++ List.replicate 64 0#8 ++ c.payload.drop (64 * n),
                     flags := if c.flags.testBit 8 then c.flags else c.flags + 256 }

/-- Latency in ns against the tolerance of class 0, and the longest read. -/
def State.readLatency (s : State) (st ns : Nat) : State :=
  let t := s.keepMax (Reg.FST_S_LAT_MAX (st + 1)) ns
  if s.epochNs / 2 < ns then t.bump (Reg.FST_CLASS_LATE 0) else t

/-- Waiting reads go out while their class has room. -/
def State.readsGo (s : State) : State :=
  match s.store.reads.findIdx? (fun r => !r.issued) with
  | some i =>
    match s.store.reads[i]? with
    | some r => if s.poolFree 0 then
        let t := s.poolTake 0 r.txns
        { t with store := { t.store with reads := setNth t.store.reads i { r with issued := true } } }
      else s
    | none => s
  | none => s

/-- The i-th read in progress completes after a latency, with token tok read as the ECC says (R239, R241). -/
def State.readDone (s : State) (i ns tok : Nat) (ecc : Ecc) : State :=
  match s.store.reads[i]? with
  | none => s
  | some r =>
    if !r.issued || s.store.down.any (fun d => d.1 == r.stack) then s
    else
      let tk := tok % (1 + payloadLen r.cell)
      let off := r.addr + 64 * tk
      let bad := ecc == .uncorrectable || s.store.badGranules.contains (off / 64 * 64)
      let s1 := ({ s with store := { s.store with reads := s.store.reads.eraseIdx i } }).poolGive 0 r.txns
      let s2 := s1.readLatency r.stack ns
      let s3 := if bad then s2.eccBad r.stack off else if ecc = .corrected then s2.eccFixed r.stack off else s2
      let c := if bad then eccCell r.cell tk else some r.cell
      let s4 := match c with
        | some x => (s3.assemble (r.stack / 2) x true).slotCount r.slot 1 1
        | none => s3.slotCount r.slot 4 1
      s4.readsGo

/-! Latency tolerance and power-down (R240). -/

/-- A stack that has been idle for IDLE_US enters power-down where its tolerances permit and no client is urgent. -/
def State.stackPowerDown (s : State) (st : Nat) : State :=
  let p := Reg.FST_PD_CFG
  let ok := s.bit p 31 && decide (s.fld p 7 0 * 1000 ≤ s.now - nthD s.store.lastUse st 0) && decide (12 ≤ s.tolMin st) && !s.store.urgent.contains st &&
    !s.store.reads.any (fun r => r.stack == st && r.issued) && (s.cur 11 == sIDLE || s.cur 11 == sRUN) && !s.stackDown st
  if ok then
    (({ s with store := { s.store with down := s.store.down ++ [(st, s.now)] } }).bump (Reg.FST_S_PD_CNT (st + 1))).setBit (Reg.FST_S_STATUS (st + 1)) 0 true
  else s

def execStackPowerDown (st : Nat) (s : State) : Host.Outcome State Fault Refusal := .next (s.stackPowerDown (st % 4))

/-- A stack in power-down serves again after a wake of some ns. -/
def State.stackWake (s : State) (st ns : Nat) : State :=
  match kget s.store.down st with
  | none => s
  | some since =>
    let t := { s with store := { s.store with down := s.store.down.filter (fun d => d.1 != st), lastUse := setNth s.store.lastUse st s.now } }
    ((t.bumpBy (Reg.FST_S_PD_US (st + 1)) ((s.now - since) / 1000)).keepMax (Reg.FST_S_WAKE_MAX (st + 1)) ns).setBit (Reg.FST_S_STATUS (st + 1)) 0 false

def execStackWake (st ns : Nat) (s : State) : Host.Outcome State Fault Refusal := .next (s.stackWake (st % 4) ns)

/-- URGENT of the MRS rises or falls on a stack (R240): the stack stays awake. -/
def State.setUrgent (s : State) (st : Nat) (on : Bool) : State :=
  let t := { s with store := { s.store with urgent := if on then st :: s.store.urgent.filter (· != st) else s.store.urgent.filter (· != st) } }
  t.setBit (Reg.FST_S_STATUS (st + 1)) 2 on

/-! Scrubbing (R242). -/

/-- Granules of a stack. -/
def stackGranules : Nat := 0x10000000

/-- The scrubber reads the next granule of a stack. -/
def State.scrubRead (s : State) (st : Nat) (ecc : Ecc) : State :=
  if s.bit Reg.FST_SCRUB_CFG 31 || !(s.cur 11 == sIDLE || s.cur 11 == sRUN) || s.store.filling || s.stackDown st then s
  else
    let g := nthD s.store.scrubbed st 0
    let off := st * 0x400000000 + (g % stackGranules) * 64
    let bad := ecc == .uncorrectable || s.store.badGranules.contains off
    let t := if bad then s.eccBad st off else if ecc = .corrected then s.eccFixed st off else s
    let l := setNth s.store.scrubbed st (g + 1)
    let whole := l.all (fun x => decide (stackGranules ≤ x))
    let n := if whole then [0, 0, 0, 0] else l
    let u := { t with store := { t.store with scrubbed := n } }
    let v := if whole then u.bumpSat Reg.FST_SCRUB_STATUS 31 24 1 else u
    let w := v.setFld Reg.FST_SCRUB_STATUS 6 0 ((n.map (fun x => min x stackGranules)).sum * 100 / (4 * stackGranules))
    w.wrN (Reg.FST_S_SCRUB_POS (st + 1)) ((nthD n st 0 % stackGranules) * 64 / 4096)

def execScrubRead (st : Nat) (ecc : Ecc) (s : State) : Host.Outcome State Fault Refusal := .next (s.scrubRead (st % 4) ecc)

/-! Decisions from the twin (R234). -/

/-- A SYNC record from the timing master is kept for the start of e_k; a device that does not follow ignores it. -/
def State.syncRx (s : State) (slot k stamp : Nat) : State :=
  if s.bit Reg.FST_CFG 1 && s.running 11 then
    { s with store := { s.store with decisions := s.store.decisions.filter (fun x => !(x.1 == slot && x.2.1 == k)) ++ [(slot, k, stamp)] } }
  else s

def execSyncRx (slot k stamp : Nat) (s : State) : Host.Outcome State Fault Refusal := .next (s.syncRx slot (k % 2 ^ 24) stamp)

end Sys2Proof.Machine
end

