-- ==== Sys2Proof/Machine/Lanes.lean ====
section
/-! DEFINITION. The serial lanes: PLLs, block lock, bursts and markers, sleep and wake, eye scan, adaptation and seeds (R158 to R177). -/

namespace Sys2Proof.Machine

/-! Lanes and their registers. -/

/-- Page of quad q. -/
def quadPage (q : Nat) : Nat := pageAddr 6 (q + 1)

/-- Lane L. -/
def State.lane (s : State) (l : Nat) : Lane := (kget s.lanes l).getD {}

/-- Lane L changes. -/
def State.setLane (s : State) (l : Nat) (x : Lane) : State := { s with lanes := kput s.lanes l x }

/-- RX_STATE of lane index n (Table 6.12): 0 OFF, 1 ACQUIRE, 2 ALIGN, 3 LOCK, 4 SLEEP, 5 WAKING. -/
def State.rxState (s : State) (l : Nat) : Nat := s.fld (Reg.SLC_Q_STATUS (l / 4 + 1)) (3 * (l % 4) + 2) (3 * (l % 4))
def State.setRx (s : State) (l v : Nat) : State := s.setFld (Reg.SLC_Q_STATUS (l / 4 + 1)) (3 * (l % 4) + 2) (3 * (l % 4)) v

/-- TX_STATE of lane index n (Table 6.12): 0 OFF, 1 ACTIVE, 2 SLEEP_ENTRY, 3 SLEEP, 4 WAKING. -/
def State.txState (s : State) (l : Nat) : Nat := s.fld (Reg.SLC_Q_STATUS (l / 4 + 1)) (12 + 3 * (l % 4) + 2) (12 + 3 * (l % 4))
def State.setTx (s : State) (l v : Nat) : State := s.setFld (Reg.SLC_Q_STATUS (l / 4 + 1)) (12 + 3 * (l % 4) + 2) (12 + 3 * (l % 4)) v

/-- Sticky kind k of a lane: 0 LOCK_LOST, 1 RX_ERR, 2 OVERFLOW, 3 STATE. -/
def State.laneStick (s : State) (l k : Nat) : State := s.stick (quadPage (l / 4)) (16 + 4 * k + l % 4)

/-- Counter CNT of a lane counts one (Table 6.6). -/
def State.laneCount (s : State) (l c : Nat) : State := s.bump (hid (Reg.SLC_Q_ERR_CNT (l / 4 + 1)) (4 * c + l % 4))

def State.rxRate (s : State) (l : Nat) : Nat := s.fld (Reg.SLC_Q_CFG (l / 4 + 1)) 1 0
def State.txRate (s : State) (l : Nat) : Nat := s.fld (Reg.SLC_Q_CFG (l / 4 + 1)) 5 4

/-- The quad of a lane is in RUN. -/
def State.quadRuns (s : State) (l : Nat) : Bool := s.fld (hSTATE (quadPage (l / 4))) 3 0 == sRUN

/-- A lane's receiver is in LOCK. -/
def State.locked (s : State) (l : Nat) : Bool := s.quadRuns l && s.rxState l == 3

/-! Receive FIFO and its watermark (R169). -/

/-- Blocks in a lane's FIFO. -/
def fifoFill (x : Lane) : Nat := (x.fifo.map (·.blocks)).sum

/-- SLC_Q_WM sees the highest fill of the quad against 75 % of 2,048 blocks. -/
def State.fifoMark (s : State) (q : Nat) : State :=
  let top := ((List.range 4).map (fun n => fifoFill (s.lane (4 * q + n)))).foldl max 0
  s.watermark (Reg.SLC_Q_WM (q + 1)) (100 * top) (75 * 2048) (10 * 2048)

/-! Loss of lock, acquisition and seeds (R170, R176). -/

/-- The lock of a lane ends (R170): SLC_LOCK_LOST rises, and the lane tries for 100 µs at the same position; it shows ACQUIRE meanwhile (log entry 24). -/
def State.lockLost (s : State) (l : Nat) : State :=
  let t := (s.setRx l 1).setLane l { s.lane l with recovering := true, good := 0, bad := [] }
  (t.laneStick l 0).raise Src.SLC_LOCK_LOST

/-- Seed entry of a lane (Table 6.8). -/
def seedAddr (l : Nat) : Nat := pageAddr 6 0x81 + 0x1000 + 8 * l

/-- An acquisition starts from the lane's seed, or from the default settings where it has no valid one for the rate (R176). -/
def State.seedLane (s : State) (l : Nat) : State :=
  let w := s.rd (seedAddr l)
  let v := s.rd (seedAddr l + 4)
  if bitOf w 30 ∧ Machine.fld w 29 28 = s.rxRate l then
    s.setLane l { s.lane l with
      ctle := Machine.fld w 3 0, vga := Machine.fld w 9 4,
      dfe := [signed 6 (Machine.fld w 15 10), signed 6 (Machine.fld w 21 16), signed 6 (Machine.fld w 27 22)],
      eyeW := Machine.fld v 15 8, eyeH := Machine.fld v 7 0, seeded := true, recovering := false, good := 0, bad := [] }
  else
    (s.setLane l { s.lane l with ctle := 8, vga := 32, dfe := [0, 0, 0], seeded := false, recovering := false, good := 0, bad := [] }).raise Src.SLC_SEED_INVALID

/-! PLLs and the quad's states (R160). -/

/-- PLL lock bit of a direction. -/
def pllBit (tx : Bool) : Nat := if tx then 31 else 30

/-- A STATE event of the whole quad: a change of PLL lock. -/
def State.quadEvent (s : State) (q : Nat) : State := (List.range 4).foldl (fun t n => t.laneStick (4 * q + n) 3) s

/-- A PLL's lock changes. -/
def State.setPll (s : State) (q : Nat) (tx on : Bool) : State :=
  if s.bit (Reg.SLC_Q_STATUS (q + 1)) (pllBit tx) = on then s
  else (s.setBit (Reg.SLC_Q_STATUS (q + 1)) (pllBit tx) on).quadEvent q

/-- Effective TX_SLEEP of a lane: ignored on a lane with an enabled stream or at an Ethernet rate (R171). -/
def State.txSleeps (s : State) (l : Nat) : Bool :=
  s.bit (Reg.SLC_Q_SLEEP (l / 4 + 1)) (l % 4) && slfRate (s.txRate l) && !(List.range 8).any (s.streamOn (l / 4) (l % 4))

/-- Both PLLs of a quad are locked. -/
def State.quadLocked (s : State) (q : Nat) : Bool := s.bit (Reg.SLC_Q_STATUS (q + 1)) 31 && s.bit (Reg.SLC_Q_STATUS (q + 1)) 30

/-- A quad enters RUN: its enabled transmitters drive and its enabled receivers acquire. -/
def State.quadStart (s : State) (q : Nat) : State :=
  (List.range 4).foldl (fun t n =>
    let l := 4 * q + n
    let u := if t.bit (Reg.SLC_Q_CFG (q + 1)) (20 + n) then t.setTx l (if t.txSleeps l then 3 else 1) else t.setTx l 0
    if u.bit (Reg.SLC_Q_CFG (q + 1)) (16 + n) then (u.setRx l 1).seedLane l else u.setRx l 0) s

/-- A quad leaves RUN: its lanes are off and its PLLs stop. -/
def State.quadStop (s : State) (q : Nat) : State :=
  let t := (List.range 4).foldl (fun t n =>
    ((t.setTx (4 * q + n) 0).setRx (4 * q + n) 0).setLane (4 * q + n) { t.lane (4 * q + n) with fifo := [], txq := [], recovering := false }) s
  ((t.setPll q true false).setPll q false false).fifoMark q

/-- A transmitter whose PLL has relocked drives again, and one that woke with it sends its WAKE blocks (R160, R172). -/
def State.txResume (s : State) (q : Nat) : State :=
  (List.range 4).foldl (fun t n =>
    let l := 4 * q + n
    if t.txState l = 4 then
      ((t.setTx l 1).laneStick l 3).send (.blocks t.now l (List.replicate 128 (true, 0xA5A5A5A5A5A5A555)))
    else if t.quadRuns l && t.bit (Reg.SLC_Q_CFG (q + 1)) (20 + n) && t.txState l == 0 then t.setTx l 1
    else t) s

/-- A lane PLL locks (R160): the page enters RUN with the boundary after both have locked. -/
def State.pllLock (s : State) (q : Nat) (tx : Bool) : State :=
  if s.fld (hSTATE (quadPage q)) 3 0 = sRUN ∨ s.awaiting.any (fun x => x.1 == quadPage q && x.2 == sRUN) then
    let t := s.setPll q tx true
    if tx then t.txResume q else t
  else s

def execPllLock (q : Nat) (tx : Bool) (s : State) : Host.Outcome State Fault Refusal := .next (s.pllLock (q % 128) tx)

/-- The PLLs have not locked within 1 ms (R160): the page stays in IDLE. -/
def State.pllTimeout (s : State) (q : Nat) : State :=
  if s.awaiting.any (fun x => x.1 == quadPage q && x.2 == sRUN) && !s.quadLocked q then
    let t := ((s.dropRequest (quadPage q)).setPll q true false).setPll q false false
    (t.stick (quadPage q) 5).raise Src.SLC_PLL_UNLOCK
  else s

def execPllLockTimeout (q : Nat) (s : State) : Host.Outcome State Fault Refusal := .next (s.pllTimeout (q % 128))

/-- A PLL loses lock in RUN (R160): the transmitters of its direction stop driving, or the receivers lose lock. -/
def State.pllUnlock (s : State) (q : Nat) (tx : Bool) : State :=
  if s.fld (hSTATE (quadPage q)) 3 0 = sRUN then
    (List.range 4).foldl (fun t n =>
      let l := 4 * q + n
      if tx then (if t.txState l = 1 then t.setTx l 0 else t)
      else if t.rxState l = 3 then t.lockLost l else t) (s.setPll q tx false)
  else s

def execPllUnlock (q : Nat) (tx : Bool) (s : State) : Host.Outcome State Fault Refusal := .next (s.pllUnlock (q % 128) tx)

/-! Block lock (R170). -/

/-- A receive lane sees an invalid sync header in block number b: it counts while locked, and 16 within 64 blocks end the lock; out of lock it ends the run of valid headers. -/
def State.headerInvalid (s : State) (l b : Nat) : State :=
  let x := s.lane l
  if s.locked l then
    let w := (b :: x.bad).filter (fun y => decide (b < y + 64))
    let t := (s.setLane l { x with bad := w }).laneCount l 0
    if 16 ≤ w.length then t.lockLost l else t
  else if s.rxState l = 2 ∨ x.recovering then s.setLane l { x with good := 0 }
  else s

/-- 64 consecutive valid headers put a lane in ALIGN, or one that lost its lock, into LOCK. -/
def State.laneLock (s : State) (l : Nat) : State :=
  if s.quadRuns l && (s.rxState l == 2 || (s.lane l).recovering) then
    (s.setRx l 3).setLane l { s.lane l with good := 64, bad := [], recovering := false }
  else s

/-- A lane that has not relocked within 100 µs enters ALIGN; at an Ethernet rate it acquires again, for such a lane never enters ALIGN. -/
def State.recoveryTimeout (s : State) (l : Nat) : State :=
  if (s.lane l).recovering then (s.setRx l (if slfRate (s.rxRate l) then 2 else 1)).setLane l { s.lane l with good := 0, recovering := false }
  else s

/-- SLC_Q_ALIGN of quad q is written with v: SLIP moves the boundary of the selected lane one bit later and clears GOOD. -/
def State.alignWrite (s : State) (q v : Nat) : State :=
  let l := 4 * q + s.fld (Reg.SLC_Q_SEL (q + 1)) 1 0
  if v.testBit 31 then s.setLane l { s.lane l with pos := (s.lane l).pos + 1 - (if (s.lane l).pos = 65 then 66 else 0), good := 0 } else s

def execAlignSlip (m : Requester) (q v : Nat) (s : State) : Host.Outcome State Fault Refusal :=
  .next (s.writeAccess m (Reg.SLC_Q_ALIGN (q % 128 + 1)) v (fun t => t.alignWrite (q % 128) v))

/-! Bursts and markers (R163 to R169). -/

/-- HCRC of the low 59 bits of a BURST payload in transmission order: x⁵ + x² + 1, initial value all ones (R163). -/
def hcrc (payload : Nat) : Nat :=
  (List.range 59).foldl (fun c i => if c.testBit 4 != payload.testBit i then (c * 2 % 32) ^^^ 5 else c * 2 % 32) 31

/-- A BURST block's payload (Table 6.3). -/
def burstPayload (fill err : Bool) (seq words stream : Nat) : Nat :=
  let b := b2n fill * 2 ^ 58 + b2n err * 2 ^ 57 + seq % 2 ^ 32 * 2 ^ 25 + words % 2 ^ 14 * 2 ^ 11 + stream % 8 * 256 + 0x78
  hcrc b * 2 ^ 59 + b

/-- PCRC of data-block payloads, with their bytes in transmission order (R164, R473). -/
def blocksCrc (l : List Nat) : Nat := crc32c (l.flatMap (bytesLE 8))

/-- An END block's payload (Table 6.4). -/
def endPayload (pcrc stream : Nat) : Nat := pcrc * 2 ^ 16 + stream % 8 * 256 + 0x87

/-- The data blocks of a line's words, word w at bit 10w of the burst's bit string (R166). -/
def wordBlocks (words : List Nat) : List Nat :=
  let v := words.foldr (fun w acc => w % 1024 + 1024 * acc) 0
  (List.range (ceilDiv (10 * words.length) 64)).map (fun k => v / 2 ^ (64 * k) % 2 ^ 64)

/-- A whole burst (R166). -/
def burstOf (x : TxLine) (seq : Nat) : List (Bool × Nat) :=
  let d := wordBlocks x.words
  (true, burstPayload x.fill x.err seq x.words.length x.stream) :: (d.map (fun w => (false, w)) ++ [(true, endPayload (blocksCrc d) x.stream)])

/-- a is newer than b by serial-number arithmetic over n bits. -/
def newer (n a b : Nat) : Bool :=
  let d := (a % 2 ^ n + 2 ^ n - b % 2 ^ n) % 2 ^ n
  decide (0 < d) && decide (d < 2 ^ (n - 1))

/-- A receive error of a lane (Table 6.6): its counter, sticky kind and source. -/
def State.rxError (s : State) (l cnt kind src : Nat) : State := ((s.laneCount l cnt).laneStick l kind).raise src

/-- A burst of lane L is received: its BURST payload h and the blocks that follow up to its end, as control mark and payload (R166, R169, Table 6.6 in its order; log entry 25). -/
def State.burstRx (s : State) (l h : Nat) (body : List (Bool × Nat)) : State :=
  if !s.locked l || !slfRate (s.rxRate l) then s
  else if hcrc (h % 2 ^ 59) ≠ h / 2 ^ 59 % 32 then s.rxError l 1 1 Src.SLC_BURST_CRC
  else
    let words := h / 2 ^ 11 % 2 ^ 14
    let stream := h / 256 % 8
    let seq := h / 2 ^ 25 % 2 ^ 32
    let n := ceilDiv (10 * words) 64
    let data := body.take n
    match body[n]? with
    | none => s.rxError l 3 1 Src.SLC_FRAMING
    | some last =>
      if data.any (·.1) || !last.1 || last.2 % 256 != 0x87 || last.2 / 256 % 8 != stream || body.length != n + 1 then s.rxError l 3 1 Src.SLC_FRAMING
      else
        let x := s.lane l
        if 2048 < fifoFill x + n + 2 then s.rxError l 4 2 Src.SLC_RX_OVERFLOW
        else if (match kget x.lastSeq stream with | some b => !newer 32 seq b | none => false) then s.rxError l 5 1 Src.SLC_FRAMING
        else
          let bad := blocksCrc (data.map (·.2)) != last.2 / 2 ^ 16 % 2 ^ 32
          let t := s.setLane l { x with
            lastSeq := kput x.lastSeq stream seq,
            fifo := x.fifo ++ [⟨stream, seq, words, n + 2, bad, h.testBit 58, h.testBit 57⟩] }
          (if bad then t.rxError l 2 1 Src.SLC_BURST_CRC else t).fifoMark (l / 4)

def execSlfBurstRx (lane header : Nat) (body : List (Bool × Nat)) (s : State) : Host.Outcome State Fault Refusal :=
  .next (s.burstRx (lane % 512) header body)

/-- A MARKER is received: its MCOUNT is one more than the last (R165, Table 6.6). -/
def State.markerRx (s : State) (l payload : Nat) : State :=
  if !s.locked l || !slfRate (s.rxRate l) then s
  else
    let c := payload / 2 ^ 30 % 2 ^ 32
    let x := s.lane l
    let t := s.setLane l { x with mcount := some c }
    match x.mcount with
    | some b => if c = (b + 1) % 2 ^ 32 then t else t.rxError l 3 1 Src.SLC_FRAMING
    | none => t

def execSlfMarkerRx (lane payload : Nat) (s : State) : Host.Outcome State Fault Refusal := .next (s.markerRx (lane % 512) payload)

/-- A lane transmits: in RUN, enabled, awake, its PLL locked. -/
def State.sends (s : State) (l : Nat) : Bool :=
  s.quadRuns l && s.txState l == 1 && s.bit (Reg.SLC_Q_STATUS (l / 4 + 1)) 31 && slfRate (s.txRate l)

/-- At a line's departure time the lane sends the stream's oldest line, with SEQ from the epoch and the line's index in it (R168). -/
def State.burstTx (s : State) (l stream : Nat) : State :=
  let x := s.lane l
  if s.sends l && s.streamOn (l / 4) (l % 4) stream then
    match x.txq.find? (fun y => y.stream == stream) with
    | some y =>
      let i := match x.sent.find? (fun z => z.1 == stream) with | some z => if z.2.1 = s.epoch then z.2.2 else 0 | none => 0
      (s.setLane l { x with txq := x.txq.erase y, sent := x.sent.filter (fun z => z.1 != stream) ++ [(stream, s.epoch, i + 1)] }).send
        (.blocks s.now l (burstOf y (seqOf s.epochStart i)))
    | none => s
  else s

def execSlfBurstTx (lane stream : Nat) (s : State) : Host.Outcome State Fault Refusal := .next (s.burstTx (lane % 512) (stream % 8))

/-- A MARKER block's payload (Table 6.5). -/
def State.markerPayload (s : State) (l count : Nat) : Nat :=
  count % 2 ^ 32 * 2 ^ 30 + maskOf 8 (s.streamOn (l / 4) (l % 4)) * 2 ^ 22 + (if s.txRate l = 3 then 2 ^ 18 else 0) + b2n s.isTwinB * 2 ^ 17 + l * 256 + 0x33

/-- The lane sends a MARKER, and MCOUNT steps (R165). -/
def State.markerTx (s : State) (l : Nat) : State :=
  if s.sends l then
    let x := s.lane l
    (s.setLane l { x with txMcount := (x.txMcount + 1) % 2 ^ 32 }).send (.blocks s.now l [(true, s.markerPayload l x.txMcount)])
  else s

def execSlfMarkerTx (lane : Nat) (s : State) : Host.Outcome State Fault Refusal := .next (s.markerTx (lane % 512))

/-! Sleep and wake (R171 to R173). -/

/-- All four lanes of a quad sleep in a direction: its PLL powers down (R171). -/
def State.pllRest (s : State) (q : Nat) (tx : Bool) : State :=
  if (List.range 4).all (fun n => if tx then s.txState (4 * q + n) == 3 else s.rxState (4 * q + n) == 4) then s.setPll q tx false else s

/-- A transmitter goes to sleep after 16 SLEEP blocks (R171). -/
def State.txSleep (s : State) (l : Nat) : State :=
  if s.txState l = 1 then
    (((s.send (.blocks s.now l (List.replicate 16 (true, 0x4B)))).setTx l 3).laneStick l 3).pllRest (l / 4) true
  else s

/-- A transmitter wakes with 128 WAKE blocks; where its PLL was down it relocks first, a full wake (R172, Table 6.14). -/
def State.txWake (s : State) (l : Nat) : State :=
  if s.txState l = 3 then
    let up := s.bit (Reg.SLC_Q_STATUS (l / 4 + 1)) 31
    let t := s.setFld (Reg.SLC_LANE_WAKE_MODE (l / 4 + 1)) (8 + 2 * (l % 4) + 1) (8 + 2 * (l % 4)) (if up then 1 else 3)
    if up then ((t.setTx l 1).laneStick l 3).send (.blocks s.now l (List.replicate 128 (true, 0xA5A5A5A5A5A5A555)))
    else t.setTx l 4
  else s

/-- SLC_Q_SLEEP of quad q is written with v: each lane whose TX_SLEEP clears wakes, and each whose effective TX_SLEEP sets goes to sleep; an ignored TX_SLEEP reads 0 (R171, R172). -/
def State.sleepWrite (s : State) (q v : Nat) : State :=
  let a := Reg.SLC_Q_SLEEP (q + 1)
  let ignored := maskOf 4 (fun n => !slfRate (s.txRate (4 * q + n)) || (List.range 8).any (s.streamOn q n))
  let t := s.wrN a (mergeMask (s.rdN a) (mergeMask v 0 ignored) 0x000F0F0F)
  let w := (List.range 4).foldl (fun u n => if t.txSleeps (4 * q + n) then u else u.txWake (4 * q + n)) t
  (List.range 4).foldl (fun u n => if t.txSleeps (4 * q + n) then u.txSleep (4 * q + n) else u) w

def execTxSleepSet (m : Requester) (q v : Nat) (s : State) : Host.Outcome State Fault Refusal :=
  .next (s.writeAccess m (Reg.SLC_Q_SLEEP (q % 128 + 1)) v (fun t => t.sleepWrite (q % 128) v))

def execTxSleepClear (m : Requester) (q v : Nat) (s : State) : Host.Outcome State Fault Refusal :=
  .next (s.writeAccess m (Reg.SLC_Q_SLEEP (q % 128 + 1)) v (fun t => t.sleepWrite (q % 128) v))

/-- A receiver sees a SLEEP block (R171): it sleeps with RX_SLEEP_EN, else it stays awake in ACQUIRE. -/
def State.sleepRx (s : State) (l : Nat) : State :=
  if s.locked l && slfRate (s.rxRate l) then
    if s.bit (Reg.SLC_Q_SLEEP (l / 4 + 1)) (8 + l % 4) then ((s.setRx l 4).laneStick l 3).pllRest (l / 4) false
    else s.setRx l 1
  else s

def execSlfSleepRx (lane : Nat) (s : State) : Host.Outcome State Fault Refusal := .next (s.sleepRx (lane % 512))

/-- A sleeping receiver detects WAKE blocks with an offset in ppm (R173): a fast wake within ±300 ppm with FAST_EN, else a full retrain; a receiver whose PLL was down retrains (Table 6.14). -/
def State.rxWake (s : State) (l : Nat) (ppm : Int) : State :=
  if s.quadRuns l && s.rxState l == 4 then
    let w := Reg.SLC_LANE_WAKE_MODE (l / 4 + 1)
    let near := decide (-300 ≤ ppm) && decide (ppm ≤ 300)
    let fast := s.bit (Reg.SLC_Q_SLEEP (l / 4 + 1)) (16 + l % 4)
    let up := s.bit (Reg.SLC_Q_STATUS (l / 4 + 1)) 30
    let mode := if !near then 2 else if fast && up then 1 else 3
    let t := ((s.setFld w 31 30 (l % 4)).setFld w 29 16 (unsigned 14 ppm)).setFld w (2 * (l % 4) + 1) (2 * (l % 4)) mode
    if mode = 1 then
      (((t.setRx l 3).setLane l { t.lane l with good := 64, bad := [] }).laneCount l 6).laneStick l 3
    else
      ((((t.setRx l 5).laneCount l 7).laneStick l 3).raise Src.SLC_FULL_RETRAIN).seedLane l
  else s

def execRxWake (lane : Nat) (ppm : Int) (s : State) : Host.Outcome State Fault Refusal := .next (s.rxWake (lane % 512) ppm)

/-- A retrain or a first acquisition completes: the lane enters ALIGN; at an Ethernet rate it is in LOCK at once, its alignment being the FMAC's (R170, R173; log entry 24). -/
def State.retrainDone (s : State) (l : Nat) : State :=
  if s.quadRuns l && (s.rxState l == 5 || s.rxState l == 1) && !(s.lane l).recovering && s.bit (Reg.SLC_Q_STATUS (l / 4 + 1)) 30 then
    (s.setRx l (if slfRate (s.rxRate l) then 2 else 3)).setLane l { s.lane l with good := 0, bad := [] }
  else s

def execRxRetrainDone (lane : Nat) (s : State) : Host.Outcome State Fault Refusal := .next (s.retrainDone (lane % 512))

/-! Eye scan and adaptation (R174, R175). -/

/-- SLC_Q_EYE_CMD of quad q is written with v: its fields are kept inside their ranges, and START begins a scan of the selected lane unless one runs. -/
def State.eyeWrite (s : State) (q v : Nat) : State :=
  let k := q + 1
  let voff := if v / 256 % 256 = 128 then 129 else v / 256 % 256
  let h := signed 7 v
  let hoff := unsigned 7 (if h < -32 then -32 else if 31 < h then 31 else h)
  let t := s.wrN (Reg.SLC_Q_EYE_CMD k) (v / 2 ^ 24 % 16 * 2 ^ 24 + voff * 256 + hoff)
  if v.testBit 31 && !s.bit (Reg.SLC_Q_EYE_RESULT k) 31 then
    t.wrN (Reg.SLC_Q_EYE_RESULT k) (2 ^ 31 + s.fld (Reg.SLC_Q_SEL k) 1 0 * 2 ^ 28 + s.fld (Reg.SLC_Q_EYE_RESULT k) 23 0)
  else t

def execEyeScanStart (m : Requester) (q v : Nat) (s : State) : Host.Outcome State Fault Refusal :=
  .next (s.writeAccess m (Reg.SLC_Q_EYE_CMD (q % 128 + 1)) v (fun t => t.eyeWrite (q % 128) v))

/-- A scan completes with a number of mismatches (Table 6.18). -/
def State.eyeDone (s : State) (q errors : Nat) : State :=
  let a := Reg.SLC_Q_EYE_RESULT (q + 1)
  if s.bit a 31 then ((s.setBit a 31 false).setBit a 30 true).setFld a 23 0 (min errors (2 ^ 24 - 1)) else s

def execEyeScanDone (q errors : Nat) (s : State) : Host.Outcome State Fault Refusal := .next (s.eyeDone (q % 128) errors)

/-- A lane's setting is at the end of its range. -/
def atLimit (x : Lane) : Bool :=
  x.ctle == 0 || x.ctle == 15 || x.vga == 0 || x.vga == 63 || x.dfe.any (fun d => d == -32 || d == 31)

/-- A locked lane changes one setting by one code (R175): 0 CTLE, 1 VGA, 2 to 4 the DFE taps; the eye it then measures is kept for the seed table. A scan on the lane suspends adaptation (R174). -/
def State.adaptStep (s : State) (l setting : Nat) (up : Bool) (eyeW eyeH : Nat) : State :=
  let x := s.lane l
  let k := l / 4 + 1
  let scanning := s.bit (Reg.SLC_Q_EYE_RESULT k) 31 && s.fld (Reg.SLC_Q_EYE_RESULT k) 29 28 == l % 4
  let may := if l < 512 then s.locked l && s.bit (Reg.SLC_Q_CFG k) 8 && !scanning
    else s.running 15 && s.fld (Reg.TWN_L_STATUS (l - 511)) 31 29 == 4
  if may then
    let mv := fun (v hi : Nat) => if up then min hi (v + 1) else v - 1
    let tap := fun (d : Int) => if up then min 31 (d + 1) else max (-32) (d - 1)
    let y : Lane := match setting with
      | 0 => { x with ctle := mv x.ctle 15 }
      | 1 => { x with vga := mv x.vga 63 }
      | n => { x with dfe := setNth x.dfe (n - 2) (tap (nthD x.dfe (n - 2) 0)) }
    let z := { y with eyeW := eyeW, eyeH := eyeH }
    let reached := atLimit { x with
      ctle := (if setting = 0 then y.ctle else 8), vga := (if setting = 1 then y.vga else 32),
      dfe := (if 2 ≤ setting then [nthD y.dfe (setting - 2) 0] else []) } && y != x
    (s.setLane l z).raiseIf (reached && decide (l < 512)) Src.SLC_ADAPT_LIMIT
  else s

def execAdaptStep (lane setting : Nat) (up : Bool) (eyeW eyeH : Nat) (s : State) : Host.Outcome State Fault Refusal :=
  .next (s.adaptStep (lane % 528) (setting % 5) up (eyeW % 256) (eyeH % 256))

/-- The seed entry that a SAVE writes for a lane (R176): the live state of a lane in LOCK, the table's entry of another. -/
def State.seedWords (s : State) (l : Nat) : Nat × Nat :=
  if s.locked l then
    let x := s.lane l
    (2 ^ 30 + s.rxRate l * 2 ^ 28 + unsigned 6 (nthD x.dfe 2 0) * 2 ^ 22 + unsigned 6 (nthD x.dfe 1 0) * 2 ^ 16 + unsigned 6 (nthD x.dfe 0 0) * 2 ^ 10 +
      x.vga * 16 + x.ctle, x.eyeW * 256 + x.eyeH)
  else (s.rdN (seedAddr l), s.rdN (seedAddr l + 4))

end Sys2Proof.Machine
end

