-- ==== Sys2Proof/Machine/Sdi.lean ====
section
/-! DEFINITION. The SDI framing engine: stream contexts, deframing into cells and reframing from cells (R178 to R195). -/

namespace Sys2Proof.Machine

/-! Contexts. -/

/-- Key of a context: quad and index. -/
def sdiKey (q i : Nat) : Nat := q * 32 + i
def State.rxCtx (s : State) (q i : Nat) : RxCtx := (kget s.sdi.rx (sdiKey q i)).getD {}
def State.setRxCtx (s : State) (q i : Nat) (x : RxCtx) : State := { s with sdi := { s.sdi with rx := kput s.sdi.rx (sdiKey q i) x } }
def State.txCtx (s : State) (q i : Nat) : TxCtx := (kget s.sdi.tx (sdiKey q i)).getD {}
def State.setTxCtx (s : State) (q i : Nat) (x : TxCtx) : State := { s with sdi := { s.sdi with tx := kput s.sdi.tx (sdiKey q i) x } }

/-- Counter c of a context counts n (Table 7.9). -/
def State.ctxCount (s : State) (q dir i c n : Nat) : State := s.bumpBy (hid (Reg.SFE_Q_CNT (q + 1)) (c * 64 + dir * 32 + i)) n

/-- A receive or transmit event on a lane index of a quad page. -/
def State.sfeStick (s : State) (q dir i : Nat) : State := s.stick (pageAddr 7 (q + 1)) (16 + 4 * dir + i / 8)

/-- An event of a context rises with its source. -/
def State.sfeRaise (s : State) (q dir i src : Nat) : State := (s.sfeStick q dir i).raise src

/-- The IDs of a context are valid under R63 (R181). -/
def ctxIdsOk (e dir : Nat) : Bool :=
  let role := if dir = 0 then EssenceRole.input else EssenceRole.output
  let ok := fun (v k : Nat) (opt : Bool) => (opt && v == 0xFFFF) || (essenceRole v == role && essenceKind v == some k)
  ok (ctxVideo e) 0 false && ok (ctxAnc e) 2 true && ok (ctxAud e) 1 true

/-- A context may leave OFF (R181). -/
def ctxOk (e dir : Nat) : Bool := ifaceOk e && ctxIdsOk e dir

/-- Die of quad q. -/
def quadDie (q : Nat) : Nat := if q < 64 then 0 else 1

/-- At an epoch boundary a context is on where its page runs and its EN is 1 (R182, Table 7.3). -/
def State.rxCtxBoundary (s : State) (q i : Nat) : State :=
  let e := s.sfeCtx q 0 i
  let x := s.rxCtx q i
  let want := s.curOf 7 (q + 1) == sRUN && ctxEn e
  if want then
    if x.st = 0 then
      if ctxOk e 0 then s.setRxCtx q i { x with st := 1, refused := false, good := 0, other := 0, lines := 0, bad := 0, others := 0, last := none }
      else (s.setRxCtx q i { x with st := 3, refused := true }).sfeRaise q 0 i Src.SFE_FORMAT_MISMATCH
    else s
  else if x.st = 0 then s
  else
    let t := s.setRxCtx q i { x with st := 0, refused := false, asyncGroups := [] }
    { t with sdi := { t.sdi with audio := t.sdi.audio.filter (fun p => p.essence != ctxAud e), halves := t.sdi.halves.filter (fun h => h.essence != ctxVideo e) } }

/-- The transmit side of the same boundary. -/
def State.txCtxBoundary (s : State) (q i : Nat) : State :=
  let e := s.sfeCtx q 1 i
  let x := s.txCtx q i
  let want := s.curOf 7 (q + 1) == sRUN && ctxEn e
  if want then
    if x.on || x.refused then s
    else if ctxOk e 1 then s.setTxCtx q i { x with on := true, anc := [], ancSeq := none }
    else (s.setTxCtx q i { x with refused := true }).sfeRaise q 1 i Src.SFE_FORMAT_MISMATCH
  else if x.on || x.refused then s.setTxCtx q i { x with on := false, refused := false, fill := false }
  else s

/-- Contexts that a boundary may change: those at work and those whose word 3 is listed, as quad, direction and index. -/
def State.ctxsListed (s : State) : List (Nat × Nat × Nat) :=
  s.regs.filterMap (fun c =>
    if c.1 < 2 ^ 32 ∧ blockOf c.1 = 7 ∧ 1 ≤ pageNo c.1 ∧ inR 0x1000 0x13FF (offOf c.1) ∧ offOf c.1 % 16 = 12
    then some (pageNo c.1 - 1, (offOf c.1 - 0x1000) / 512, (offOf c.1 - 0x1000) % 512 / 16) else none) ++
  (s.sdi.rx.map (fun x => (x.1 / 32, 0, x.1 % 32))) ++ (s.sdi.tx.map (fun x => (x.1 / 32, 1, x.1 % 32)))

/-- Contexts become enabled or disabled at the epoch boundary (R182). -/
def State.sfeBoundary (s : State) : State :=
  s.ctxsListed.foldl (fun t x => if x.2.1 = 0 then t.rxCtxBoundary x.1 x.2.2 else t.txCtxBoundary x.1 x.2.2) s

/-- A word of a context is written (R182): in RUN a context whose EN reads 1 answers STATE, but for a write to word 3 that clears EN. -/
def State.ctxWrite (s : State) (m : Requester) (q dir i w v : Nat) : State :=
  let a := sfeCtxAddr q dir i + 4 * w
  if s.curOf 7 (q + 1) = sRUN ∧ s.bit (sfeCtxAddr q dir i + 12) 31 = true ∧ ¬ (w = 3 ∧ v.testBit 31 = false) then
    (s.refuseState m a).raise Src.SFE_RUN_WRITE
  else s.wrN a v

def execSfeCtxWrite (m : Requester) (q dir i w v : Nat) (s : State) : Host.Outcome State Fault Refusal :=
  .next (s.writeAccess m (sfeCtxAddr (q % 128) (dir % 2) (i % 32) + 4 * (w % 4)) v (fun t => t.ctxWrite m (q % 128) (dir % 2) (i % 32) (w % 4) v))

/-! ST 352 (PRESUMED from the standard, log entry 7). -/

/-- The ST 352 payload identifier of an interface and format, bytes 1 to 4 from bit 31 down (R185, R191). -/
def pidOf (e : Nat) : Nat :=
  let f := ctxFormat e
  let r := fmtRaster f
  let b1 := match ctxIface e with
    | 0 => if r = 0 then 0x84 else 0x85
    | 1 => if ctxQuad e then (if ctxLevelB e then 0x98 else 0x97) else if ctxLevelB e then 0x8A else if r = 0 then 0x88 else 0x89
    | 2 => 0xC0
    | _ => 0xCE
  let prog := !interlaced r
  let b2 := b2n (prog && !(ctxLevelB e && fastRate (fmtRate f))) * 128 + b2n (r != 1) * 64 + nthD [2, 3, 5, 6, 7, 4, 8, 9, 10, 11] (fmtRate f) 0
  let b3 := b2n (r == 5 || r == 6) * 64 + (if f % 4 = 0 then 0 else 32) + nthD [0, 1, 2, 4, 5] (fmtSampling f) 0
  let b4 := ctxQlink e * 64 + (match f % 4 with | 2 => 32 | 3 => 16 | _ => 0) + fmtDepth f
  b1 * 2 ^ 24 + b2 * 2 ^ 16 + b3 * 256 + b4

/-! Lines and pictures. -/

/-- The picture is UHD. -/
def uhdCtx (e : Nat) : Bool := fmtRaster (ctxFormat e) == 4 || fmtRaster (ctxFormat e) == 6

/-- Total lines of the interface's frame. -/
def ifaceLines (e : Nat) : Nat := if uhdCtx e then 1125 else rasterTotal (fmtRaster (ctxFormat e))

/-- The frame in which a burst of interface line l arrives at time t: the one whose line l is nominally nearest (R64, R187). -/
def burstFrame (e l t : Nat) : Nat :=
  let p := (fmtPeriod (ctxFormat e)).1
  let q := (fmtPeriod (ctxFormat e)).2
  let n := ifaceLines e
  (2 * (t * q * n - (l - 1) * p) + p * n) / (2 * p * n)

/-- The raster line whose samples a burst carries, 0 where the interface line is not active: the line itself, or of a UHD picture the line of its sub-image pair (ST 2081-10, ST 2082-10, ST 425-5: PRESUMED, log entry 7). -/
def pictureLine (e l : Nat) (half : Bool) : Nat :=
  if uhdCtx e then
    if 42 ≤ l ∧ l ≤ 1121 then
      if ctxQuad e then
        (if ctxQdiv e then 42 + (l - 42) + (if 2 ≤ ctxQlink e then 1080 else 0) else 42 + 2 * (l - 42) + ctxQlink e / 2)
      else 42 + 2 * (l - 42) + b2n half
    else 0
  else if activeLine (fmtRaster (ctxFormat e)) l then l else 0

/-- The format whose line timing the interface lines have. -/
def ifaceFormat (e : Nat) : Nat := if uhdCtx e then ctxFormat e % 2048 + 3 * 2048 else ctxFormat e

/-- Samples of two halves joined (R179): two samples at a time, or side by side. -/
def joinHalves (e : Nat) : List Nat → List Nat → List Nat
  | a, b => if ctxQdiv e then a ++ b else
    let g := 2 * components (fmtSampling (ctxFormat e))
    (List.range (a.length / g)).flatMap (fun i => (a.drop (g * i)).take g ++ (b.drop (g * i)).take g)

/-- The half of a picture line that a link carries. -/
def halfOf (e : Nat) (l : List Nat) : List Nat :=
  let side := ctxQlink e % 2
  if ctxQdiv e then (if side = 0 then l.take (l.length / 2) else l.drop (l.length / 2))
  else
    let g := 2 * components (fmtSampling (ctxFormat e))
    (List.range (l.length / (2 * g))).flatMap (fun i => (l.drop (2 * g * i + g * side)).take g)

/-! Ancillary packets (R71, R185; parity and checksum of ST 291-1 PRESUMED, log entry 7). -/

/-- Even parity of bits 7:0 in bit 8 and its complement in bit 9. -/
def parityOk (w : Nat) : Bool :=
  let ones := ((List.range 8).filter (fun i => w.testBit i)).length
  (w.testBit 8 == (ones % 2 == 1)) && (w.testBit 9 != w.testBit 8)

/-- A word with its parity bits. -/
def withParity (w : Nat) : Nat :=
  let ones := ((List.range 8).filter (fun i => w.testBit i)).length
  w % 256 + (if ones % 2 = 1 then 256 else 512)

/-- The checksum word of a packet. -/
def ancSum (p : AncPkt) : Nat :=
  let c := ((p.did :: p.sdid :: p.dc :: p.words).map (· % 512)).sum % 512
  c + (if c.testBit 8 then 0 else 512)

/-- A packet's DID, SDID and DC keep their parity, and its checksum holds. -/
def ancOk (p : AncPkt) : Bool := parityOk p.did && parityOk p.sdid && parityOk p.dc && p.cs % 1024 == ancSum p

/-- A packet as it stands in a cell: the header of Table 3.8 and its user data words, padded to 64 bits (R71). -/
def ancBytes (p : AncPkt) : List Byte :=
  let h := p.did % 1024 * 2 ^ 54 + p.sdid % 1024 * 2 ^ 44 + p.words.length % 256 * 2 ^ 36 + p.line % 8192 * 2 ^ 23 + p.hoff % 4096 * 2 ^ 11 +
    b2n p.c * 2 ^ 10 + b2n p.link * 2 ^ 9
  let n := ceilDiv (10 * p.words.length) 64
  bytesBE 8 h ++ bytesBE (8 * n) ((p.words.foldl (fun acc w => acc * 1024 + w % 1024) 0) * 2 ^ (64 * n - 10 * p.words.length))

/-- A payload padded with 0 to whole tokens. -/
def padTokens (l : List Byte) : List Byte := l ++ List.replicate ((64 - l.length % 64) % 64) 0#8

/-- The packets of a cell's payload, n of them, with parity and checksum regenerated. -/
def ancParse : Nat → List Byte → List AncPkt
  | 0, _ => []
  | n + 1, l =>
    let h := ofBytesBE (l.take 8)
    let dc := bits h 43 36
    let k := 8 * ceilDiv (10 * dc) 64
    let v := ofBytesBE ((l.drop 8).take k)
    let ws := (List.range dc).map (fun i => v / 2 ^ (8 * k - 10 * (i + 1)) % 1024)
    let p : AncPkt := { did := withParity (bits h 63 54), sdid := withParity (bits h 53 44), dc := withParity dc, line := bits h 35 23,
                        hoff := bits h 22 11, c := h.testBit 10, link := h.testBit 9, words := ws, cs := 0 }
    { p with cs := ancSum p } :: ancParse n (l.drop (8 + k))

/-! Audio blocks (R70, R186). -/

/-- Block number of sample n at a rate in Hz, and the sample's place in it. -/
def sampleBlock (hz n : Nat) : Nat × Nat :=
  let b := n * 8000 / hz
  (b, n - firstSample hz (b * 125000))

/-- The cell of an audio block from its words by place; missing words are 0 with V set and mark an error. -/
def audioCell (essence format b : Nat) (words : List (Nat × Nat)) (err : Bool) : LineCell :=
  let n := audioNominal format b
  let total := n.units * fmtChannels format
  let l := (List.range total).map (fun i => (kget words i).getD 0x80)
  let miss := (List.range total).any (fun i => (kget words i).isNone)
  { essence := essence, format := format, frameCount := n.frameCount, line := 0, field2 := false, seq := 0, ptpTime := n.time % 2 ^ 64,
    flags := placeFlags n + b2n (err || miss) * 256, outputId := 0xFFFF, units := n.units, payload := packFields 32 l, pcrc := 0, dcrc := 0 }

/-- A sample word joins its block; a whole block is produced (R70). -/
def State.audioWord (s : State) (die essence format : Nat) (async err : Bool) (chan n w : Nat) : State :=
  let hz := audioHz (fmtAudioRate format)
  let b := (sampleBlock hz n).1
  let place := (sampleBlock hz n).2 * fmtChannels format + chan
  let mine := fun (p : AudPart) => p.essence == essence && p.block == b
  let old := s.sdi.audio.find? mine
  let p : AudPart := match old with
    | some p => { p with words := kput p.words place w, err := p.err || err }
    | none => ⟨essence, format, b, die, async, [(place, w)], err⟩
  let rest := s.sdi.audio.filter (fun x => !mine x)
  if p.words.length = (audioNominal format b).units * fmtChannels format then
    ({ s with sdi := { s.sdi with audio := rest } }).produce die async (audioCell essence format b p.words p.err)
  else
    let t := { s with sdi := { s.sdi with audio := rest ++ [p] } }
    if old.isNone && !async then t.assemble die (audioCell essence format b p.words p.err) false else t

/-- Channels that a context embeds less 1 (R186): at 96 kHz at most 16. -/
def ctxLastCh (e : Nat) : Nat := if ctxAud96 e then min 15 (ctxChM1 e) else ctxChM1 e

/-- Format of a context's audio group (R62). -/
def ctxAudFormat (e : Nat) : Nat := 0x4000 + ctxLastCh e * 256 + (if ctxAud96 e then 4 else 2) * 32

/-! Deframing (R183 to R187). -/

/-- The four links of a quad link: contexts of the quad with QUAD set and the same VIDEO_ID. -/
def State.quadLinks (s : State) (q e : Nat) : List Nat :=
  (List.range 32).filter (fun i => ctxEn (s.sfeCtx q 0 i) && ctxQuad (s.sfeCtx q 0 i) && ctxVideo (s.sfeCtx q 0 i) == ctxVideo e)

/-- Contexts of a list go to MISMATCH. -/
def State.mismatchAll (s : State) (q : Nat) (l : List Nat) : State :=
  l.foldl (fun t i => if (t.rxCtx q i).st = 0 then t else t.setRxCtx q i { t.rxCtx q i with st := 3, good := 0, other := 0 }) s

/-- A context goes to MISMATCH with SFE_FORMAT_MISMATCH. -/
def State.ctxMismatch (s : State) (q i : Nat) : State := (s.mismatchAll q [i]).sfeRaise q 0 i Src.SFE_FORMAT_MISMATCH

/-- The burst's structure against the context: a wrong number of words is out of place. -/
def burstPlace (e words : Nat) (p : LinePlace) : LinePlace :=
  match p with | .inPlace => if words = burstWords e then .inPlace else .misplaced | x => x

/-- The state machine of Table 7.3 on a burst: the frame just ended is judged when a new one begins, then the burst counts. -/
def State.ctxBurst (s : State) (q i : Nat) (p : LinePlace) (first : Bool) : State :=
  let e := s.sfeCtx q 0 i
  let x := s.rxCtx q i
  let s1 :=
    if !first then s
    else
      let ok := x.lines == burstsPerFrame e && x.bad == 0 && x.others == 0
      let alien := decide (0 < x.lines) && x.others == x.lines
      let g := if ok then x.good + 1 else 0
      let o := if alien then x.other + 1 else 0
      let y := { x with good := g, other := o, lines := 0, bad := 0, others := 0 }
      if x.st = 2 then (if alien then (s.setRxCtx q i y).ctxMismatch q i else s.setRxCtx q i y)
      else if 2 ≤ g then s.setRxCtx q i { y with st := 2 }
      else if x.st = 1 ∧ 2 ≤ o then (s.setRxCtx q i y).ctxMismatch q i
      else s.setRxCtx q i y
  let z := s1.rxCtx q i
  let w := { z with lines := z.lines + 1, bad := z.bad + (if p = .misplaced then 1 else 0), others := z.others + (if p = .other then 1 else 0) }
  let t := s1.setRxCtx q i w
  if w.st = 2 ∧ p = .misplaced then
    let u := (t.ctxCount q 0 i 2 1).sfeRaise q 0 i Src.SFE_TRS_ERR
    if w.bad = 8 then u.ctxMismatch q i else u
  else t

/-- The links of a quad link arrive within 4 µs of each other at the same line, or all four go to MISMATCH (R180). -/
def State.skewCheck (s : State) (q i line : Nat) : State :=
  let e := s.sfeCtx q 0 i
  if !ctxQuad e then s
  else
    let l := s.quadLinks q e
    let far := l.any (fun j => j != i && (match (s.rxCtx q j).last with | some y => y.1 == line && decide (4000 < s.now - y.2) && decide (s.now - y.2 < 1000000) | none => false))
    if far then (s.mismatchAll q l).sfeRaise q 0 i Src.SFE_LINK_SKEW else s

/-- PHASE at EAV of line 1 of a frame, and its window for a context without ASYNC (R187). -/
def State.phaseCheck (s : State) (q i : Nat) : State :=
  let e := s.sfeCtx q 0 i
  let k := burstFrame e 1 s.now
  let ph : Int := (s.now : Int) - (frameStart (ctxFormat e) k : Int)
  let out := !ctxAsync e && decide ((s.fld Reg.SFE_SYNC_WIN 19 0 : Int) < ph ∨ ph < -(s.fld Reg.SFE_SYNC_WIN 19 0 : Int))
  let t := s.setRxCtx q i { s.rxCtx q i with phase := ph, phaseOut := out }
  if out then t.sfeRaise q 0 i Src.SFE_PHASE_WINDOW else t

/-- The video cell of a line (R69, R184). -/
def lineVideo (e n : Nat) (samples : List Nat) (err : Bool) : LineCell :=
  let f := ctxFormat e
  let m := videoNominal f n
  { essence := ctxVideo e, format := f, frameCount := m.frameCount, line := m.line, field2 := m.field2, seq := 0, ptpTime := m.time % 2 ^ 64,
    flags := placeFlags m + b2n err * 256, outputId := 0xFFFF, units := m.units, payload := packFields (depthBits (fmtDepth f)) samples, pcrc := 0, dcrc := 0 }

/-- The active samples of a line become its video cell; a link of a quad link waits for the other half of its picture line (R179, R184). -/
def State.lineSamples (s : State) (q e n : Nat) (samples : List Nat) (err : Bool) : State :=
  let die := quadDie q
  if ctxQuad e then
    let side := ctxQlink e % 2
    let mate := fun (h : HalfLine) => h.essence == ctxVideo e && h.line == n && h.side != side
    match s.sdi.halves.find? mate with
    | some h =>
      let t := { s with sdi := { s.sdi with halves := s.sdi.halves.filter (fun x => !mate x) } }
      t.produce die (ctxAsync e) (lineVideo e n (if side = 0 then joinHalves e samples h.samples else joinHalves e h.samples samples) (err || h.err))
    | none =>
      let t := { s with sdi := { s.sdi with halves := (s.sdi.halves ++ [HalfLine.mk (ctxVideo e) n side samples err]).drop (s.sdi.halves.length + 1 - 8192) } }
      if ctxAsync e then t else t.assemble die (lineVideo e n [] err) false
  else s.produce die (ctxAsync e) (lineVideo e n samples err)

/-- The ancillary packets of a line (R184, R185): ST 352 is consumed, a packet failing its parity or checksum is dropped, and the rest become one group. -/
def State.lineAnc (s : State) (q i l k : Nat) (pkts : List AncPkt) : State :=
  let e := s.sfeCtx q 0 i
  let good := pkts.filter ancOk
  let drops := pkts.length - good.length
  let isPid := fun (p : AncPkt) => p.did % 256 == 0x41 && p.sdid % 256 == 0x01
  let rest := good.filter (fun p => !isPid p)
  let s1 := match good.find? isPid with
    | some p =>
      let v := (p.words.take 4).foldl (fun acc w => acc * 256 + w % 256) 0
      let x := s.rxCtx q i
      let t := s.setRxCtx q i { x with pid := v }
      let u := if v = x.pid then t else t.ctxCount q 0 i 7 1
      if s.bit Reg.SFE_CFG 1 && v != pidOf e then u.ctxMismatch q i else u
    | none => s
  let s2 := if drops = 0 then s1 else ((s1.ctxCount q 0 i 4 drops).bumpBy Reg.SFE_ANC_DROP_CNT drops).sfeRaise q 0 i Src.SFE_ANC_CHECKSUM
  if (rest.isEmpty && drops == 0) || ctxAnc e == 0xFFFF then s2
  else
    let n := k * rasterTotal (fmtRaster (ifaceFormat e)) + l - 1
    let t := lineTime (ifaceFormat e) n
    let hanc := rest.all (fun p => decide (rasterWidth (fmtRaster (ctxFormat e)) ≤ p.hoff)) && !rest.isEmpty
    let c : LineCell := { essence := ctxAnc e, format := 0x8000 + b2n hanc * 0x1000, frameCount := t / 125000 % 2 ^ 24, line := l,
                          field2 := inField2 (fmtRaster (ctxFormat e)) l, seq := 0, ptpTime := t % 2 ^ 64, flags := b2n (drops != 0) * 256, outputId := 0xFFFF,
                          units := rest.length, payload := padTokens (rest.flatMap ancBytes), pcrc := 0, dcrc := 0 }
    (s2.ctxCount q 0 i 3 rest.length).produce (quadDie q) (ctxAsync e) c

/-- The embedded audio of a line (R186). -/
def State.lineAudio (s : State) (q i : Nat) (control : List (Nat × Bool)) (pkts : List SdiAudio) : State :=
  let e := s.sfeCtx q 0 i
  let x := s.rxCtx q i
  let marks := control.foldl (fun (l : List Nat) c => if c.2 then c.1 :: l.filter (· != c.1) else l.filter (· != c.1)) x.asyncGroups
  let t := (s.setRxCtx q i { x with asyncGroups := marks })
  let u := if control.any (·.2) then t.sfeRaise q 0 i Src.SFE_AUD_ERR else t
  if ctxAud e = 0xFFFF then u
  else
    pkts.foldl (fun v p =>
      let bad := p.ecc == .uncorrectable
      let mute := bad || marks.contains p.group
      let w0 := v.ctxCount q 0 i 5 1
      let w1 := if bad then (w0.ctxCount q 0 i 6 1).sfeRaise q 0 i Src.SFE_AUD_ERR else w0
      p.samples.foldl (fun y z =>
        if z.1 ≤ ctxLastCh e then
          y.audioWord (quadDie q) (ctxAud e) (ctxAudFormat e) (ctxAsync e) bad z.1 z.2.1 (if mute then 0x80 else z.2.2)
        else y) w1) u

/-- One line period of a LOCKED context, its burst delivered with an SLF error mark (R169, R184). -/
def State.lockedLine (s : State) (q i : Nat) (slfErr : Bool) (x : SdiLine) : State :=
  let e := s.sfeCtx q 0 i
  let k := burstFrame e x.line s.now
  let s1 := (s.bump Reg.SFE_RX_LINES).ctxCount q 0 i 0 1
  let s2 := if x.crcOk then s1 else ((s1.bump Reg.SFE_CRC_ERR_CNT).ctxCount q 0 i 1 1).sfeRaise q 0 i Src.SFE_CRC_ERR
  let s3 := if x.first then s2.phaseCheck q i else s2
  let rl := pictureLine e x.line x.half
  let s4 := if rl = 0 then s3
    else s3.lineSamples q e (k * rasterTotal (fmtRaster (ctxFormat e)) + rl - 1) x.video (!x.crcOk || slfErr || !x.lnOk)
  if ctxQuad e && ctxQlink e != 0 then s4
  else (s4.lineAnc q i x.line k x.anc).lineAudio q i x.control x.audio

/-- A line period reaches a receive context: a line 1 of an asynchronous source is an event of the TIC's calibration (R329); the state machine follows, then, for a LOCKED context and a burst in its place, the content. -/
def State.ctxLine (s : State) (q i words : Nat) (slfErr : Bool) (x : SdiLine) : State :=
  let c := s.rxCtx q i
  if c.st = 0 ∨ c.refused = true then s
  else
    let e := s.sfeCtx q 0 i
    let p := burstPlace e words x.place
    let s0 := if ctxAsync e && x.line == 1 && s.running 5 && s.bit Reg.RTU_TIC_CFG 29 then s.bumpSat Reg.RTU_TIC_CAL_STATUS 23 0 1 else s
    let s1 := (s0.skewCheck q i x.line)
    let s2 := (s1.setRxCtx q i { s1.rxCtx q i with last := some (x.line, s.now) }).ctxBurst q i p x.first
    if (s2.rxCtx q i).st = 2 ∧ p = .inPlace then s2.lockedLine q i slfErr x else s2

/-- The SFE takes the oldest received line of a stream from its lane's FIFO and deframes it (R184). -/
def State.sfeLineRx (s : State) (l stream : Nat) (x : SdiLine) : State :=
  let ln := s.lane l
  match ln.fifo.find? (fun y => y.stream == stream) with
  | none => s
  | some y =>
    let t := (s.setLane l { ln with fifo := ln.fifo.erase y }).fifoMark (l / 4)
    if t.curOf 7 (l / 4 + 1) = sRUN then t.ctxLine (l / 4) (8 * (l % 4) + stream) y.words y.err x else t

def execSfeLineRx (lane stream : Nat) (line : SdiLine) (s : State) : Host.Outcome State Fault Refusal :=
  .next (s.sfeLineRx (lane % 512) (stream % 8) line)

/-- A LOCKED context has had no burst for 2 ms (Table 7.3); the other links of its quad link go to MISMATCH (R180). -/
def State.inputLoss (s : State) (q i : Nat) : State :=
  let x := s.rxCtx q i
  if x.st = 2 then
    let e := s.sfeCtx q 0 i
    let t := (s.setRxCtx q i { x with st := 1, good := 0, other := 0, lines := 0, bad := 0, others := 0 }).sfeRaise q 0 i Src.SFE_INPUT_LOSS
    if ctxQuad e then t.mismatchAll q ((s.quadLinks q e).filter (· != i)) else t
  else s

def execSfeInputLossTimeout (q i : Nat) (s : State) : Host.Outcome State Fault Refusal := .next (s.inputLoss (q % 128) (i % 32))

end Sys2Proof.Machine
end

