-- ==== Sys2Proof/Machine/SdiTx.lean ====
section
/-! DEFINITION. The reframing side of the SDI framing engine: every burst of an output built again from cells (R188 to R194). -/

namespace Sys2Proof.Machine

/-! Cells that the egress rim has handed over. -/

/-- A fill cell: one of the fill flags, or the essence of a parked run (Table 3.3, R84). -/
def isFill (c : LineCell) : Bool := c.flags.testBit 1 || c.flags.testBit 2 || c.flags.testBit 10 || c.essence == 0xFFFF

/-- The cell released for an output at the release of a nominal time, found by its SEQ (R66, R67). -/
def State.releasedAt (s : State) (id time : Nat) : Option LineCell :=
  match s.outputDef id with
  | none => none
  | some o =>
    let e := (time + o.latency) / s.epochNs
    let l := s.releasesOf o (e * s.epochNs)
    match placeOf (fun (n : Nominal) => n.time == time) l with
    | none => none
    | some i => (s.fabric.delivered.find? (fun d => d.2.outputId == id && d.2.seq == seqOf (e * s.epochNs) i)).map (·.2)

/-- The video cell for global line n of an output of format f: that released at the line's time, or, of an output that releases another format, the latest released one. -/
def State.videoFor (s : State) (id f n : Nat) : Option LineCell :=
  match s.outputDef id with
  | none => none
  | some o =>
    if o.format = f then s.releasedAt id (lineTime f n)
    else (s.fabric.delivered.reverse.find? (fun d => d.2.outputId == id)).map (·.2)

/-- Components of a packed payload: n fields of w bits from the most significant end (R69, R70). -/
def unpackFields (w n : Nat) (l : List Byte) : List Nat :=
  let v := ofBytesBE l
  let total := 8 * l.length
  (List.range n).map (fun i => v / 2 ^ (total - w * (i + 1)) % 2 ^ w)

/-- The active samples of a cell. -/
def cellSamples (c : LineCell) : List Nat :=
  unpackFields (depthBits (fmtDepth c.format)) (c.units * components (fmtSampling c.format)) c.payload

/-- Black for a whole line of a format (R190). -/
def blackLine (f : Nat) : List Nat :=
  let g := blackSamples f
  (List.replicate (if fmtSampling f = 0 ∨ fmtSampling f = 3 then rasterWidth (fmtRaster f) / 2 else rasterWidth (fmtRaster f)) g).flatten

/-! Placing ancillary packets (R192). -/

/-- Words that a packet takes: flag of three words, DID, SDID, DC, user data, checksum. -/
def ancLen (p : AncPkt) : Nat := 7 + p.words.length

/-- The ancillary regions of an interface line as position ranges: after EAV, line number and CRC up to SAV, and, on a line without picture, the active positions. -/
def ancRegions (f l : Nat) : List (Nat × Nat) :=
  let r := fmtRaster f
  let w := rasterWidth r
  (if activeLine r l then [] else [(0, w)]) ++ [(w + 8, lineSamples r (fmtRate f) - 4)]

/-- A place for n words at or after position h in a data stream of a line, clear of what is used. -/
def freePlace (regions : List (Nat × Nat)) (used : List (Nat × Nat × Nat)) (c h n : Nat) : Option Nat :=
  let cand := h :: (regions.map (·.1)) ++ ((used.filter (fun u => u.1 == c)).map (fun u => u.2.1 + u.2.2))
  let ok := fun (x : Nat) => decide (h ≤ x) && regions.any (fun g => decide (g.1 ≤ x) && decide (x + n ≤ g.2)) &&
    !used.any (fun u => u.1 == c && decide (u.2.1 < x + n) && decide (x < u.2.1 + u.2.2))
  (cand.filter ok).foldl (fun (a : Option Nat) x => match a with | none => some x | some y => some (min x y)) none

/-- Packets taken in order onto line l: placed ones as data stream and position, and those left waiting. A packet due on this line starts at its own offset, one that is overdue anywhere on it. -/
def placeAnc (f l : Nat) : List (Nat × Nat × Nat) → List AncPkt → List (Nat × AncPkt) × List AncPkt
  | _, [] => ([], [])
  | used, p :: r =>
    if l < p.line ∧ p.line ≤ rasterTotal (fmtRaster f) ∧ inField2 (fmtRaster f) p.line = inField2 (fmtRaster f) l then
      let x := placeAnc f l used r
      (x.1, p :: x.2)
    else
      let c := b2n p.c
      match freePlace (ancRegions f l) used c (if p.line = l then p.hoff else 0) (ancLen p) with
      | some pos =>
        let x := placeAnc f l ((c, pos, ancLen p) :: used) r
        ((pos, p) :: x.1, x.2)
      | none =>
        let x := placeAnc f l used r
        (x.1, p :: x.2)

/-- Line l ends its field. -/
def fieldEnds (f l : Nat) : Bool :=
  let r := fmtRaster f
  l == rasterTotal r || (interlaced r && l == (rasterRange1 r).2 + 3)

/-- Ancillary cells of an output released up to a time and newer than the last taken, in order. -/
def State.ancCells (s : State) (id : Nat) (seen : Option Nat) : List LineCell :=
  (s.fabric.delivered.filter (fun d => d.2.outputId == id && (match seen with | some q => newer 32 d.2.seq q | none => true))).map (·.2)

/-- New ancillary packets join the transmit context; with a TAKE in the vertical interval the new source's packets of lines below 7 are not inserted, and count (R194). -/
def State.ancTake (s : State) (q i l : Nat) : State :=
  let e := s.sfeCtx q 1 i
  let f := ifaceFormat e
  let x := s.txCtx q i
  let cells := s.ancCells (ctxAnc e) x.ancSeq
  let vertical := decide (l < 7) || decide ((if interlaced (fmtRaster f) then (rasterRange2 (fmtRaster f)).2 else (rasterRange1 (fmtRaster f)).2) < l)
  let step := fun (acc : List AncPkt × Bool × Nat) (c : LineCell) =>
    let low := acc.2.1 || (c.flags.testBit 5 && vertical)
    let pk := if isFill c then [] else ancParse c.units c.payload
    let barred := if low then (pk.filter (fun p => decide (p.line < 7))) else []
    (acc.1 ++ (if low then pk.filter (fun p => !decide (p.line < 7)) else pk), low, acc.2.2 + barred.length)
  let r := cells.foldl step (x.anc, (x.takeLow && l != 7), 0)
  let t := s.setTxCtx q i { x with anc := r.1, takeLow := r.2.1, ancSeq := (match cells.getLast? with | some c => some c.seq | none => x.ancSeq) }
  if r.2.2 = 0 then t else t.ctxCount q 1 i 3 r.2.2

/-! Embedded audio (R193). -/

/-- Samples of the output group whose instants lie in the time range of interface line l of frame k, as channel, sample number and word; a block that has not come gives silence with V set. -/
def State.audioFor (s : State) (e k l : Nat) : List (Nat × Nat × Nat) :=
  if ctxAud e = 0xFFFF then []
  else
    let hz := if ctxAud96 e then 96000 else 48000
    let p := fmtPeriod (ctxFormat e)
    let t0 := (k * p.1 * ifaceLines e + (l - 1) * p.1) / (p.2 * ifaceLines e)
    let t1 := (k * p.1 * ifaceLines e + l * p.1) / (p.2 * ifaceLines e)
    let a := firstSample hz t0
    ((List.range (firstSample hz t1 - a)).map (a + ·)).flatMap (fun n =>
      let f := ctxAudFormat e
      let b := (sampleBlock hz n).1
      let cell := s.releasedAt (ctxAud e) (audioNominal f b).time
      (List.range (ctxLastCh e + 1)).map (fun ch =>
        (ch, n, match cell with
          | some c => if c.format = f then nthD (unpackFields 32 (c.units * fmtChannels c.format) c.payload) ((sampleBlock hz n).2 * fmtChannels c.format + ch) 0x80 else 0x80
          | none => 0x80)))

/-- Audio data packets that carry some samples: one for each group of four channels and sample. -/
def audioPackets (e : Nat) (l : List (Nat × Nat × Nat)) : Nat := l.length / (ctxLastCh e + 1) * ceilDiv (ctxLastCh e + 1) 4

/-- Interface lines that carry the ST 352 packet (PRESUMED, log entry 7). -/
def pidLine (f l : Nat) : Bool := l == 10 || (interlaced (fmtRaster f) && l == 572)

/-! The line (R188 to R191). -/

/-- The video part of a line: its samples, whether it is FILL, whether its cell carries an error, and whether its cell is of another format. -/
def State.lineSource (s : State) (e n : Nat) (on : Bool) : List Nat × Bool × Bool × Bool :=
  let f := ctxFormat e
  let l := n % rasterTotal (fmtRaster f) + 1
  let black := if ctxQuad e then halfOf e (blackLine f) else blackLine f
  if !activeLine (fmtRaster f) l then (if on then ([], false, false, false) else ([], true, false, false))
  else if !on then (black, true, false, false)
  else
    match s.videoFor (ctxVideo e) f n with
    | none => (black, true, false, false)
    | some c =>
      if c.format ≠ f then (black, true, false, true)
      else if isFill c then (black, true, false, false)
      else (if ctxQuad e then halfOf e (cellSamples c) else cellSamples c, false, c.flags.testBit 8 || c.flags.testBit 9, false)

/-- A built burst of interface line l goes to its lane; while SFE microcode loads, the last complete frame goes in its place from the next frame start on (R421). -/
def State.queueLine (s : State) (lane q i l : Nat) (b : TxLine) : State :=
  let y := s.txCtx q i
  let hold := s.upd.loading.contains 4 && (l == 1 || y.holding)
  let z := if hold then { y with holding := true }
    else if l = 1 then { y with holding := false, last := y.frame, frame := [(1, b)] }
    else { y with holding := false, frame := y.frame ++ [(l, b)] }
  let c := if hold then (match kget y.last l with | some w => { w with pos := b.pos } | none => b) else b
  let t := s.setTxCtx q i z
  t.setLane lane { t.lane lane with txq := (t.lane lane).txq ++ [c] }

/-- The SFE builds the burst of stream x of lane L for the raster line n (counted from the PTP epoch) on interface line l, and hands it to the lane (R188). -/
def State.sfeLineTx (s : State) (lane x n l : Nat) : State :=
  let q := lane / 4
  let i := 8 * (lane % 4) + x
  let e := s.sfeCtx q 1 i
  let c := s.txCtx q i
  if s.curOf 7 (q + 1) ≠ sRUN ∨ (s.streamOn q (lane % 4) x = false ∧ s.sixFlow q i = false) ∨ c.refused = true then s
  else
    let f := ctxFormat e
    let k := n / rasterTotal (fmtRaster f)
    let src := s.lineSource e n c.on
    let s1 := if c.on && ctxAnc e != 0xFFFF && ctxQlink e == 0 then s.ancTake q i l else s
    let aud := if c.on && ctxQlink e == 0 then s.audioFor e k l else []
    let pid := if s.bit Reg.SFE_CFG 0 && pidLine (ifaceFormat e) l then some (pidOf e) else none
    let w := rasterWidth (fmtRaster (ifaceFormat e)) + 8
    let used := (if aud.isEmpty then [] else [(1, w, 31 * audioPackets e aud)]) ++ (match pid with | some _ => [(0, w, 11)] | none => [])
    let y := s1.txCtx q i
    let placed := placeAnc (ifaceFormat e) l used y.anc
    let ends := fieldEnds (ifaceFormat e) l
    let lost := if ends then placed.2.length else 0
    let invert := src.2.2.1 && s.bit Reg.SFE_CFG 2
    let s2 := s1.setTxCtx q i { y with anc := (if ends then [] else placed.2), fill := src.2.1, pid := pid.getD y.pid }
    let s3 := ((s2.bump Reg.SFE_TX_LINES).ctxCount q 1 i 0 1).ctxCount q 1 i 2 placed.1.length
    let s4 := if src.2.1 then (s3.ctxCount q 1 i 1 1).bump Reg.SFE_FILL_LINES else s3
    let s5 := if src.2.2.2 then s4.sfeRaise q 1 i Src.SFE_SRC_FORMAT else s4
    let s6 := if lost = 0 then s5 else ((s5.ctxCount q 1 i 3 lost).bumpBy Reg.SFE_ANC_DROP_CNT lost).sfeRaise q 1 i Src.SFE_ANC_OVERFLOW
    let s7 := if invert then s6.ctxCount q 1 i 5 1 else s6
    let s8 := s7.ctxCount q 1 i 4 (audioPackets e aud)
    let out : SdiOut := { iface := ctxIface e, levelB := ctxLevelB e, qlink := ctxQlink e, format := f, line := l, video := src.1, anc := placed.1,
                          audio := aud, pid := pid, crcInverted := invert }
    let words := (List.range (burstWords e)).map (fun j => (Config.sdiWord out j).toNat)
    s8.queueLine lane q i l ⟨x, words, src.2.1, src.2.2.1, (k * burstsPerFrame e + (l - 1)) * burstWords e * 10⟩

def execSfeLineTx (lane stream n line : Nat) (s : State) : Host.Outcome State Fault Refusal :=
  .next (s.sfeLineTx (lane % 512) (stream % 8) n line)

end Sys2Proof.Machine
end

