-- ==== Sys2Proof/Machine/Mac.lean ====
section
/-! DEFINITION. The MACs: tables, commit checks, link state, counters and MACsec (R196 to R209, R223 to R225). -/

namespace Sys2Proof.Machine

/-- Die of MAC q. -/
def macDie (q : Nat) : Nat := if q < 64 then 0 else 1

/-- MAC q is in RUN. -/
def State.macRuns (s : State) (q : Nat) : Bool := s.curOf 8 (q + 1) == sRUN

/-- Counter c of MAC q for port, queue or flow i counts n (Table 8.17). -/
def State.macCount (s : State) (q c i n : Nat) : State := s.bumpBy (hid (Reg.FMAC_M_CNT (q + 1)) (c * 256 + i)) n

/-- Sticky event of a port of MAC q: base 16 link change, 20 drop, 24 delivery, 28 MACsec. -/
def State.macStick (s : State) (q base n : Nat) : State := s.stick (macPage q) (base + n)

/-- Port n of MAC q is provided and enabled. -/
def State.portOn (s : State) (q n : Nat) : Bool :=
  decide (n < modePorts (s.macMode q)) && s.bit (Reg.FMAC_M_CFG (q + 1)) (22 + n)

/-- Port n of MAC q is up (R198). -/
def State.portUp (s : State) (q n : Nat) : Bool := s.macRuns q && s.portOn q n && s.bit (Reg.FMAC_M_STATUS (q + 1)) (28 + n)

/-- RS-FEC runs on port n of MAC q (Table 8.1). -/
def State.fecOn (s : State) (q n : Nat) : Bool :=
  s.macMode q == 3 || (s.macMode q != 0 && s.bit (Reg.FMAC_M_CFG (q + 1)) (26 + n))

def State.mtu (s : State) (q : Nat) : Nat := s.fld (Reg.FMAC_M_CFG (q + 1)) 13 0

/-! Tables (Tables 8.3, 8.4, 8.6, 8.10); shift 0x8000 is the shadow. -/

def State.rule (s : State) (q i shift : Nat) : Nat := s.entry (macPage q + 0x1000 + 16 * i + shift) 4
def State.queueEntry (s : State) (q i shift : Nat) : Nat := s.entry (macPage q + 0x1400 + 8 * i + shift) 2
def State.txRing (s : State) (q n shift : Nat) : Nat := s.entry (macPage q + 0x1500 + 8 * n + shift) 2
def State.portEntry (s : State) (q n : Nat) : Nat := s.entry (macPage q + 0x1600 + 16 * n) 4
def rlEn (e : Nat) : Bool := e.testBit 127
def rlQueue (e : Nat) : Nat := bits e 47 43
def quSink (e : Nat) : Nat := bits e 63 62
def quLimit (e : Nat) : Nat := 1024 * bits e 61 52
def quMark (e : Nat) : Nat := bits e 51 45
def ringSlotsOf (e : Nat) : Nat := 2 ^ bits e 44 41
def ringBase (e : Nat) : Nat := storeBase + 0x10000 * bits e 40 21

/-- Flows of a table of MAC q that are enabled, in index order, with their entries. -/
def State.flowsAt (s : State) (q base shift : Nat) : List (Nat × Nat) :=
  (List.range 256).filterMap (fun i =>
    let a := macPage q + base + 32 * i + shift
    if s.bit (a + 28) 31 then some (i, s.entry a 8) else none)

/-- The receive flows of MAC q. -/
def State.rxFlows (s : State) (q shift : Nat) : List (Nat × Nat) := s.flowsAt q 0x2000 shift

/-! The checks at a flip (Table 8.7). -/

/-- A mask of ports names a port that the mode does not provide. -/
def badPorts (mode mask : Nat) : Bool := decide (2 ^ modePorts mode ≤ mask)

/-- A HOST or transmit ring lies outside the frame-store window. -/
def ringOutside (e : Nat) : Bool := decide (storeBase + 0x1000000000 < ringBase e + 0x4000 * (1 + ringSlotsOf e))

/-- An audio format that a flow may carry: 48 or 96 kHz, and no more channels than a packet takes (R211, R215). -/
def audioFlowOk (f : Nat) (tx oneMs : Bool) : Bool :=
  (fmtAudioRate f == 2 || fmtAudioRate f == 4) &&
  (!tx || !oneMs || decide (fmtChannels f ≤ (if fmtAudioRate f = 2 then 8 else 4)))

/-- FORMAT suits the KIND of a flow. -/
def flowFormatOk (kind f : Nat) (tx oneMs : Bool) : Bool :=
  formatValid f tx &&
  match kind with
  | 0 => fmtKind f == 0 && decide (fmtSampling f ≤ 2)
  | 1 => fmtKind f == 1 && audioFlowOk f tx oneMs
  | 2 => fmtKind f == 1 && audioFlowOk f tx oneMs
  | 3 => fmtKind f == 2
  | _ => false

/-- Receive flow (i, e) fails BAD_FLOW among the flows l. -/
def rxFlowBad (mode : Nat) (l : List (Nat × Nat)) (x : Nat × Nat) : Bool :=
  let e := x.2
  decide (4 < rfKind e) || badPorts mode (rfPorts e) ||
  (if rfKind e = 4 then l.any (fun y => y.1 != x.1 && rfKind y.2 == 4 && rfCtx y.2 == rfCtx e &&
      !(rfMerge e && rfMerge y.2 && rfPartner e == y.1 && rfPartner y.2 == x.1))
   else essenceRole (rfEssence e) != .input || essenceKind (rfEssence e) != some (fmtKind (rfFormat e)) || !flowFormatOk (rfKind e) (rfFormat e) false false)

/-- Largest frame of a -20 flow, with its headers, two row headers and the FCS. -/
def rowFrame (e : Nat) : Nat := wireOverhead e - 20 + 14 + 12 + pktBytes e

/-- Transmit flow (i, e) fails BAD_FLOW among the flows l. -/
def txFlowBad (mode mtu : Nat) (l : List (Nat × Nat)) (x : Nat × Nat) : Bool :=
  let e := x.2
  decide (4 < tfKind e) || decide (modePorts mode ≤ tfPortA e) || (tfBEn e && decide (modePorts mode ≤ tfPortB e)) ||
  (if tfKind e = 4 then l.any (fun y => y.1 != x.1 && tfKind y.2 == 4 && tfCtx y.2 == tfCtx e)
   else essenceRole (tfEssence e) != .output || essenceKind (tfEssence e) != some (fmtKind (tfFormat e)) ||
     !flowFormatOk (tfKind e) (tfFormat e) true (tfPtime1ms e) ||
     (tfKind e == 0 && (!inR 1 49 (tfPkt e) || decide (mtu < rowFrame e))) ||
     (tfKind e == 3 && !inR 1 8 (tfPkt e)))

/-- Two receive flows share their addresses and a port. -/
def flowsDup (a b : Nat) : Bool :=
  rfDstIp a == rfDstIp b && rfUdpDst a == rfUdpDst b && rfSrcIp a == rfSrcIp b && (rfPorts a &&& rfPorts b) != 0

/-- The first failing check of Table 8.7 over the shadow tables of MAC q, with the page offset of the first failing entry; code 0 where all pass. -/
def State.macVerdict (s : State) (q : Nat) : Nat × Nat :=
  let sh := 0x8000
  let mode := s.macMode q
  let quads := (List.range 32).map (fun i => s.queueEntry q i sh)
  let badRule := (List.range 64).find? (fun i =>
    let e := s.rule q i sh
    rlEn e && (quSink (nthD quads (rlQueue e) 0) == 0 || decide (bits e 63 48 < bits e 79 64) || badPorts mode (bits e 126 123)))
  match badRule with
  | some i => (1, 0x1000 + 16 * i)
  | none =>
    let ports := ((List.range (modePorts mode)).filter (fun n => s.portOn q n)).length
    let room := ((quads.filter (fun e => quSink e != 0)).map quLimit).sum + 2 * s.mtu q * ports
    let badRing := (List.range 32).find? (fun i => quSink (nthD quads i 0) == 3 && ringOutside (nthD quads i 0))
    let badTx := (List.range 4).find? (fun n => (s.txRing q n sh).testBit 63 && ringOutside (s.txRing q n sh))
    if 262144 < room then (2, 0x1400)
    else match badRing, badTx with
    | some i, _ => (2, 0x1400 + 8 * i)
    | none, some n => (2, 0x1500 + 8 * n)
    | none, none =>
      let rx := s.rxFlows q sh
      let tx := s.flowsAt q 0x4000 sh
      match rx.find? (rxFlowBad mode rx), tx.find? (txFlowBad mode (s.mtu q) tx) with
      | some x, _ => (3, 0x2000 + 32 * x.1)
      | none, some x => (3, 0x4000 + 32 * x.1)
      | none, none =>
        match rx.find? (fun x => rx.any (fun y => decide (y.1 < x.1) && flowsDup x.2 y.2)) with
        | some x => (4, 0x2000 + 32 * x.1)
        | none =>
          match (List.range (modePorts mode)).find? (fun n => s.portOver q n sh) with
          | some n => (5, 0x4000 + 32 * ((tx.find? (fun x => tfPortA x.2 == n || (tfBEn x.2 && tfPortB x.2 == n))).elim 0 (·.1)))
          | none => (0, 0)

/-- The MAC's check of its shadow at a commit point (R206): it passes, or FMAC_M_FLT_REFUSAL takes the code and FMAC_FLIP_REFUSED rises. -/
def State.macCheck (s : State) (q : Nat) : State × Bool :=
  let r := s.macVerdict q
  if r.1 = 0 then (s, true) else ((s.wrN (Reg.FMAC_M_FLT_REFUSAL (q + 1)) (r.1 * 2 ^ 28 + r.2)).raise Src.FMAC_FLIP_REFUSED, false)

/-- The quad's rates are not the mode's: REQ = RUN is answered STATE (R196). -/
def State.macRateBad (s : State) (q : Nat) : Bool :=
  s.fld (Reg.SLC_Q_CFG (q + 1)) 1 0 != modeRate (s.macMode q) || s.fld (Reg.SLC_Q_CFG (q + 1)) 5 4 != modeRate (s.macMode q)

/-- MAC q leaves RUN: its ports are down and what it was building is given up. -/
def State.macStop (s : State) (q : Nat) : State :=
  let t := s.wrN (Reg.FMAC_M_STATUS (q + 1)) 0
  { t with mac := { t.mac with flows := t.mac.flows.filter (fun x => x.1 / 256 != q), legs := t.mac.legs.filter (fun x => x.1 / 256 != q),
                               lines := t.mac.lines.filter (fun x => x.flow / 256 != q), tx := t.mac.tx.filter (fun x => x.1 / 256 != q) } }

/-! Ports (R198). -/

/-- The PCS of a port reports its locks and faults: the port is up while every lock that applies holds and no local fault comes in; FMAC_LINK_DOWN rises when it goes down. -/
def State.portLink (s : State) (q n : Nat) (block am fec lf rf : Bool) : State :=
  if !s.macRuns q || !s.portOn q n then s
  else
    let a := Reg.FMAC_M_STATUS (q + 1)
    let was := s.bit a (28 + n)
    let up := block && (decide (s.macMode q < 2) || am) && (!s.fecOn q n || fec) && !lf
    let t := (((((s.setBit a (28 + n) up).setBit a (24 + n) block).setBit a (20 + n) am).setBit a (16 + n) fec).setBit a (12 + n) lf).setBit a (8 + n) rf
    let u := if was = up then t else t.macStick q 16 n
    u.raiseIf (was && !up) Src.FMAC_LINK_DOWN

def execPortLinkChange (q n : Nat) (block am fec lf rf : Bool) (s : State) : Host.Outcome State Fault Refusal :=
  .next (s.portLink (q % 128) (n % 4) block am fec lf rf)

/-! MACsec (R223, R224). -/

/-- SAK: bits 255:0 of the slot. -/
def State.saKey (s : State) (e : Nat) : List Byte := (s.slotKey (saSlot e)).take 32
/-- Salt: bits 351:256 of the slot. -/
def State.saSalt (s : State) (e : Nat) : Nat := ofBytesLE (((s.slotKey (saSlot e)).drop 32).take 12)

/-- The 96-bit IV of a packet: SCI and PN, or with XPN the salt combined with SSCI and the whole PN (IEEE 802.1AE: PRESUMED, log entry 27). -/
def State.saIv (s : State) (e pn : Nat) : Nat :=
  if saXpn e then s.saSalt e ^^^ (saSsci e * 2 ^ 64 + pn % 2 ^ 64) else saSci e * 2 ^ 32 + pn % 2 ^ 32

/-- The PN of an SA takes a value. -/
def State.setPn (s : State) (q n j v : Nat) : State := s.wr64 (saAddr q n j + 8) (saAddr q n j + 12) (v % 2 ^ 64)

/-- The port uses MACsec. -/
def State.secOn (s : State) (q n : Nat) : Bool := s.bit (Reg.FMAC_M_CFG (q + 1)) (18 + n)

/-- Bytes of the SecTAG with its EtherType (IEEE 802.1AE: PRESUMED, log entry 27): explicit SCI, E and C with confidentiality, the AN, the short length and the low PN. -/
def secTag (e pn len : Nat) : List Byte :=
  bytesBE 2 0x88E5 ++ [BitVec.ofNat 8 (0x20 + (if saConf e then 0x0C else 0) + bits e 253 252), BitVec.ofNat 8 (if len < 48 then len else 0)] ++
  bytesBE 4 (pn % 2 ^ 32) ++ bytesBE 8 (saSci e)

/-- A frame (without its FCS) is protected for port n, or none where the SA in use sends nothing (R223, R224). -/
def State.protect (s : State) (q n : Nat) (f : List Byte) : State × Option (List Byte) :=
  if !s.secOn q n then (s, some f)
  else
    match s.txSa q n with
    | none => (s, none)
    | some j =>
      let e := s.sa q n j
      if saExhausted e then (s, none)
      else
        let pn := saPn e
        let data := f.drop 12
        let head := f.take 12 ++ secTag e pn data.length
        let r := if saConf e then Config.gcmEncrypt (s.saKey e) (s.saIv e pn) head data
          else (data, (Config.gcmEncrypt (s.saKey e) (s.saIv e pn) (head ++ data) []).2)
        let t := s.setPn q n j (pn + 1)
        let u := if 3 * (saRange e / 4) = pn + 1 then (t.macStick q 28 n).raise Src.FMAC_SEC_PN else t
        (u, some (head ++ r.1 ++ bytesBE 16 r.2))

/-- The packet number of a received frame, with its upper half recovered for XPN (IEEE 802.1AEbw: PRESUMED, log entry 27). -/
def rxPn (e low : Nat) : Nat :=
  if saXpn e then
    let hi := saPn e / 2 ^ 32
    let l := saPn e % 2 ^ 32
    if l.testBit 31 && !low.testBit 31 then (hi + 1) * 2 ^ 32 + low else hi * 2 ^ 32 + low
  else low

/-- A received frame under the MACsec rule (R224): the frame it protected, or none, with the SA's lowest acceptable PN moved on. -/
def State.unprotect (s : State) (q n : Nat) (f : List Byte) : State × Option (List Byte) :=
  if ofBytesBE ((f.drop 12).take 2) ≠ 0x88E5 then (s, none)
  else
    let tci := ofBytesBE ((f.drop 14).take 1)
    let sl := ofBytesBE ((f.drop 15).take 1) % 64
    let sc := tci.testBit 5
    let sci := if sc then ofBytesBE ((f.drop 20).take 8) else ofBytesBE ((f.drop 6).take 6) * 65536 + 1
    let hl := if sc then 28 else 20
    let body := f.drop hl
    let len := if sl = 0 then body.length - 16 else min sl (body.length - 16)
    match ((List.range 8).map (· + 2)).find? (fun j => let e := s.sa q n j; s.saUsable e true && saSci e == sci && bits e 253 252 == tci % 4) with
    | none => (s, none)
    | some j =>
      let e := s.sa q n j
      let pn := rxPn e (ofBytesBE ((f.drop 16).take 4))
      let data := body.take len
      let icv := ofBytesBE ((body.drop len).take 16)
      let head := f.take hl
      let plain := if tci.testBit 3 then Config.gcmDecrypt (s.saKey e) (s.saIv e pn) head data icv
        else (Config.gcmDecrypt (s.saKey e) (s.saIv e pn) (head ++ data) [] icv).map (fun _ => data)
      match plain with
      | none => (s, none)
      | some p => if pn < saPn e then (s, none) else (s.setPn q n j (pn + 1), some (f.take 12 ++ p))

/-- A write of TX_AN for the selected port takes effect at the next frame (R224). -/
def State.txAnWrite (s : State) (q v : Nat) : State :=
  let a := hid (Reg.FMAC_M_SEC_STATUS (q + 1)) (s.fld (Reg.FMAC_M_SEL (q + 1)) 25 24)
  s.wrN a (v / 2 ^ 30 % 4 * 2 ^ 30)

def execSecTxAnWrite (m : Requester) (q v : Nat) (s : State) : Host.Outcome State Fault Refusal :=
  .next (s.writeAccess m (Reg.FMAC_M_SEC_STATUS (q % 128 + 1)) v (fun t => t.txAnWrite (q % 128) v))

/-- A write of the timestamp corrections of the selected port. -/
def State.ptpAdjWrite (s : State) (q v : Nat) : State :=
  s.wrN (hid (Reg.FMAC_M_PTP_ADJ (q + 1)) (s.fld (Reg.FMAC_M_SEL (q + 1)) 25 24)) v

/-! Timestamps (R222). -/

/-- The PTP time of a frame received now at a port: the instant with the board's RX correction in sixteenths of a ns. -/
def State.rxStamp (s : State) (q n : Nat) : Nat :=
  ((s.now : Int) + signed 16 (s.rdN (hid (Reg.FMAC_M_PTP_ADJ (q + 1)) n)) / 16).toNat

/-- The PTP time of a frame sent now from a port. -/
def State.txStamp (s : State) (q n : Nat) : Nat :=
  ((s.now : Int) + signed 16 (s.rdN (hid (Reg.FMAC_M_PTP_ADJ (q + 1)) n) / 65536) / 16).toNat

/-! Frames. -/

/-- CRC-32 of IEEE 802.3 over the bytes of a frame. -/
def crc32 (l : List Byte) : Nat := l.foldl (crcByte 0xEDB88320) 0xFFFFFFFF ^^^ 0xFFFFFFFF

/-- A frame with its padding to 60 bytes and its FCS. -/
def withFcs (f : List Byte) : List Byte :=
  let g := f ++ List.replicate (60 - f.length) 0#8
  g ++ bytesLE 4 (crc32 g)

/-- A frame leaves port n of MAC q, protected where the port says so; a frame that the SA in use cannot protect is withheld and counted (R224). The answer says whether it left. -/
def State.frameOut (s : State) (q n : Nat) (f : List Byte) : State × Bool :=
  match s.protect q n f with
  | (t, some g) => ((t.macCount q 1 n 1).send (.frame s.now q n (withFcs g)), true)
  | (t, none) => (t.macCount q 5 n 1, false)

end Sys2Proof.Machine
end

