-- ==== Sys2Proof/Machine/MacRx.lean ====
section
/-! DEFINITION. The receive path of the MACs: checks, filter, queues, host rings and the extraction of media flows (R199 to R204, R209 to R213). -/

namespace Sys2Proof.Machine

/-! What a frame shows. -/

/-- A 16-bit and an n-byte big-endian field of a frame. -/
def be (f : List Byte) (at' n : Nat) : Nat := ofBytesBE ((f.drop at').take n)

/-- The frame carries the one tag that is parsed (R202). -/
def tagged (f : List Byte) : Bool := be f 12 2 == 0x8100
/-- EtherType after the tag, and what follows it. -/
def etherType (f : List Byte) : Nat := if tagged f then be f 16 2 else be f 12 2
def l3 (f : List Byte) : List Byte := if tagged f then f.drop 18 else f.drop 14

/-- Sum of the 16-bit words of a header, folded as the Internet checksum does. -/
def onesSum : List Byte → Nat
  | a :: b :: r => a.toNat * 256 + b.toNat + onesSum r
  | [a] => a.toNat * 256
  | [] => 0
def foldSum (n : Nat) : Nat := let x := n % 65536 + n / 65536; x % 65536 + x / 65536

/-- An IPv4 frame, by its EtherType and version. -/
def isIp4 (f : List Byte) : Bool := etherType f == 0x0800 && be (l3 f) 0 1 / 16 == 4
/-- Header length of an IPv4 datagram. -/
def ipHead (d : List Byte) : Nat := be d 0 1 % 16 * 4
/-- A UDP datagram by its protocol and offset 0. -/
def isUdp (f : List Byte) : Bool := isIp4 f && be (l3 f) 9 1 == 17 && be (l3 f) 6 2 % 8192 == 0
/-- UDP destination port. -/
def udpDst (f : List Byte) : Nat := be (l3 f) (ipHead (l3 f) + 2) 2

/-- A valid IPv4 UDP datagram (R209): right checksum, no fragmentation, protocol 17. -/
def validUdp (f : List Byte) : Bool :=
  let d := l3 f
  isIp4 f && decide (20 ≤ ipHead d) && decide (ipHead d + 8 ≤ be d 2 2) && decide (be d 2 2 ≤ d.length) &&
    foldSum (onesSum (d.take (ipHead d))) == 0xFFFF && be d 6 2 % 16384 == 0 && be d 9 1 == 17
/-- The UDP payload. -/
def udpData (f : List Byte) : List Byte :=
  let d := l3 f
  ((d.take (be d 2 2)).drop (ipHead d + 8)).take (be d (ipHead d + 4) 2 - 8)

/-- A filter rule matches a frame from port n (R202, Table 8.3). -/
def ruleMatches (e n : Nat) (f : List Byte) : Bool :=
  let t := tagged f
  rlEn e && (bits e 126 123).testBit n &&
  (match bits e 122 121 with
    | 0 => true | 1 => !t | 2 => t && be f 14 2 % 4096 == bits e 120 109 | _ => t) &&
  (!e.testBit 108 || (t && be f 14 2 / 8192 == bits e 107 105)) &&
  (!e.testBit 104 || etherType f == bits e 103 88) &&
  (!e.testBit 87 || (isIp4 f && be (l3 f) 1 1 / 4 == bits e 86 81)) &&
  (!e.testBit 80 || (isUdp f && inR (bits e 79 64) (bits e 63 48) (udpDst f)))

/-- Queue of the first rule that matches. -/
def State.steer (s : State) (q n : Nat) (f : List Byte) : Option Nat :=
  ((List.range 64).find? (fun i => ruleMatches (s.rule q i 0) n f)).map (fun i => rlQueue (s.rule q i 0))

/-- The first enabled receive flow that a datagram from port n matches (R209). -/
def State.flowFor (s : State) (q n : Nat) (f : List Byte) : Option (Nat × Nat) :=
  if !validUdp f then none
  else (s.rxFlows q 0).find? (fun x =>
    be (l3 f) 16 4 == rfDstIp x.2 && udpDst f == rfUdpDst x.2 && (rfSrcIp x.2 == 0 || be (l3 f) 12 4 == rfSrcIp x.2) && (rfPorts x.2).testBit n)

/-! Host rings (R204). -/

/-- A ring's PROD and CONS. -/
def State.ringProd (s : State) (base : Nat) : Nat := ofBytesLE (s.rdBytes base 4)
def State.ringCons (s : State) (base : Nat) : Nat := ofBytesLE (s.rdBytes (base + 64) 4)
/-- Address of slot i of a ring. -/
def ringSlot (e i : Nat) : Nat := ringBase e + 0x4000 * (1 + i % ringSlotsOf e)

/-- Bytes written into the frame-store window. -/
def State.storeBytes (s : State) (a : Nat) (l : List Byte) : State := (s.wrBytes a l).granulesGood (a - storeBase) l.length

/-- A receive ring takes a frame: it is open and has room. -/
def State.ringTakes (s : State) (e : Nat) : Bool :=
  s.storeOpen && (s.ringProd (ringBase e) + 2 ^ 32 - s.ringCons (ringBase e)) % 2 ^ 32 != ringSlotsOf e

/-- The FMAC writes the slot and then advances PROD (R204, Table 8.5). -/
def State.ringFrame (s : State) (q n k e : Nat) (sec : Bool) (f : List Byte) : State :=
  let p := s.ringProd (ringBase e)
  let head := bytesLE 2 f.length ++ [BitVec.ofNat 8 n, BitVec.ofNat 8 k] ++ bytesLE 4 (b2n (tagged f) + 2 * b2n sec) ++ bytesLE 8 (s.rxStamp q n)
  ((s.storeBytes (ringSlot e p) (head ++ f)).storeBytes (ringBase e) (bytesLE 4 (p + 1))).macStick q 24 n

/-! RTP. -/

/-- An RTP packet: marker, sequence number, timestamp and payload. -/
structure Rtp where
  m : Bool
  seq : Nat
  ts : Nat
  data : List Byte
  deriving DecidableEq, Repr

/-- RTP over a UDP payload (RFC 3550: PRESUMED, log entry 28); none where it is no RTP packet. -/
def rtpOf (d : List Byte) : Option Rtp :=
  let b := be d 0 1
  if d.length < 12 ∨ b / 64 ≠ 2 then none
  else
    let h := 12 + 4 * (b % 16)
    let x := if b.testBit 4 then h + 4 + 4 * be d (h + 2) 2 else h
    let pad := if b.testBit 5 then ofBytesBE (d.drop (d.length - 1)) else 0
    some ⟨(be d 1 1).testBit 7, be d 2 2, be d 4 4, (d.take (d.length - pad)).drop x⟩

/-- Media clock of a flow in Hz (R210); 27 MHz for ST 2022-6 (PRESUMED, log entry 28). -/
def mediaClock (kind f : Nat) : Nat :=
  match kind with | 0 => 90000 | 3 => 90000 | 4 => 27000000 | _ => audioHz (fmtAudioRate f)

/-- The latest count of a clock, not after time t, whose low 32 bits are ts (R210). -/
def clockCount (hz ts t : Nat) : Nat :=
  let c := t * hz / 1000000000
  c - (c + 2 ^ 32 - ts) % 2 ^ 32

/-- Alignment point of frame k of a video format as a media-clock count. -/
def alignCount (hz f k : Nat) : Nat := k * (rateFrac (fmtRate f)).2 * hz / (rateFrac (fmtRate f)).1

/-- Longest frame period of Table 3.4 in ns: what "one frame period" bounds for audio, which has none of its own (log entry 28). -/
def longestFrame : Nat := 41708334

/-- Frame rate that an ancillary flow's timestamps follow is not in its format: the alignment points of any rate of Table 3.4 count (log entry 28). -/
def rateCodes : List Nat := List.range 13

/-- A video format of a rate, for its alignment points. -/
def rateFormat (r : Nat) : Nat := r * 128

/-- Time in ns of the alignment point or sample instant that a timestamp names, for a flow with ASYNC 0 tested under R210; none where the test fails. -/
def nominalOf (kind f ts t : Nat) (async : Bool) : Option Nat :=
  let hz := mediaClock kind f
  let c := clockCount hz ts t
  let time := ceilDiv (c * 1000000000) hz
  if async || kind == 4 then some time
  else match kind with
  | 0 =>
    let k := (t * (fmtPeriod f).2) / (fmtPeriod f).1
    if alignCount hz f k % 2 ^ 32 = ts then some (frameStart f k) else none
  | 3 => (rateCodes.find? (fun r =>
      let g := rateFormat r
      alignCount hz g ((t * (fmtPeriod g).2) / (fmtPeriod g).1) % 2 ^ 32 == ts)).map (fun r =>
        let g := rateFormat r
        frameStart g ((t * (fmtPeriod g).2) / (fmtPeriod g).1))
  | _ => if t < time + longestFrame then some time else none

/-! Flows at work. -/

/-- Key of flow i of MAC q. -/
def flowKey (q i : Nat) : Nat := q * 256 + i

/-- The partner of a merged flow: the two entries name each other (R213). -/
def State.mergeWith (s : State) (q i : Nat) : Option Nat :=
  let e := s.rxFlow q i
  let p := s.rxFlow q (rfPartner e)
  if rfMerge e && rfEn p && rfMerge p && rfPartner p == i && rfPartner e != i then some (rfPartner e) else none

/-- The lower index of a merged flow; a flow's own index otherwise. -/
def State.leadOf (s : State) (q i : Nat) : Nat := match s.mergeWith q i with | some p => min i p | none => i

/-- A receive flow at work. -/
def State.flowRun (s : State) (k : Nat) : RxFlow := (kget s.mac.flows k).getD {}
def State.setFlow (s : State) (k : Nat) (x : RxFlow) : State := { s with mac := { s.mac with flows := kput s.mac.flows k x } }

/-- Bits of a kind's sequence numbers (R212). -/
def seqBits (kind : Nat) : Nat := if kind = 0 ∨ kind = 3 then 32 else 16

/-- A packet's cell has closed: it is dropped, counted and raises FMAC_PKT_LATE (R212). -/
def State.pktLate (s : State) (q i : Nat) : State := (s.macCount q 14 (s.leadOf q i) 1).raise Src.FMAC_PKT_LATE

/-- Time plus allowance lies in this epoch. -/
def State.epochOf (s : State) (f time : Nat) : Nat := (time + s.allowance f) / s.epochNs

/-- A sequence number joins those received for a flow, with the epoch of its cell. -/
def State.seqSeen (s : State) (k bits seq e : Nat) : State :=
  let x := s.flowRun k
  s.setFlow k { x with base := some (x.base.getD ((seq + 2 ^ bits - 1) % 2 ^ bits)), got := x.got ++ [(seq, e)] }

/-! Kinds (R211). -/

/-- Bytes covered from 0 on by byte ranges given as start and end; n bounds the search. -/
def coveredTo (l : List (Nat × Nat)) : Nat → Nat → Nat
  | 0, p => p
  | n + 1, p => match l.find? (fun r => decide (r.1 ≤ p) && decide (p < r.2)) with
    | some r => coveredTo l n r.2
    | none => p

/-- Bytes of a payload replaced from a place on. -/
def overlay (l : List Byte) (at' : Nat) (b : List Byte) : List Byte := l.take at' ++ b ++ l.drop (at' + b.length)

/-- A -20 row segment: field, row within the field or frame, first pixel and bytes. -/
structure RowSeg where
  field2 : Bool
  row : Nat
  pixel : Nat
  data : List Byte
  deriving DecidableEq, Repr

/-- Sample row data headers of RFC 4175 (PRESUMED, log entry 28): length, F and line, C and offset, at most three of them. -/
def rowHeads : Nat → List Byte → List (Nat × Nat × Nat) × List Byte
  | 0, d => ([], d)
  | n + 1, d =>
    let h := (be d 0 2, be d 2 2, be d 4 2)
    if d.length < 6 then ([], [])
    else if h.2.2.testBit 15 then let r := rowHeads n (d.drop 6); (h :: r.1, r.2)
    else ([h], d.drop 6)

/-- The segments of a -20 payload after its extended sequence number. -/
def rowSegs (d : List Byte) : List RowSeg :=
  let r := rowHeads 3 d
  (r.1.foldl (fun (acc : List RowSeg × List Byte) h =>
    (acc.1 ++ [⟨h.2.1.testBit 15, h.2.1 % 2 ^ 15, h.2.2 % 2 ^ 15, acc.2.take h.1⟩], acc.2.drop h.1)) ([], r.2)).1

/-- Raster line of a row (ST 2110-20 counts from the first active line of the frame, field or segment). -/
def rowLine (f : Nat) (g : RowSeg) : Nat :=
  let r := fmtRaster f
  if interlaced r && g.field2 then (rasterRange2 r).1 + g.row else (rasterRange1 r).1 + g.row

/-- First byte of a segment within its line. -/
def segByte (f : Nat) (g : RowSeg) : Nat := g.pixel * components (fmtSampling f) * depthBits (fmtDepth f) / 8

/-- The segment lies within the flow's format. -/
def segOk (f : Nat) (g : RowSeg) : Bool :=
  activeLine (fmtRaster f) (rowLine f g) && (!interlaced (fmtRaster f) || inField2 (fmtRaster f) (rowLine f g) == g.field2) &&
  decide (segByte f g + g.data.length ≤ lineBytes f)

/-- Nominal time of raster line l of the frame whose alignment point lies at a. -/
def lineAt (f a l : Nat) : Nat :=
  let k := a * (fmtPeriod f).2 / (fmtPeriod f).1
  if frameStart f k = a then lineTime f (k * rasterTotal (fmtRaster f) + l - 1)
  else if frameStart f (k + 1) = a then lineTime f ((k + 1) * rasterTotal (fmtRaster f) + l - 1)
  else a + lineTime f (l - 1)

/-- The cell of raster line l, black, of a -20 flow of frame alignment a. -/
def rowCell (e a l : Nat) : LineCell :=
  let f := rfFormat e
  let k := a * (fmtPeriod f).2 / (fmtPeriod f).1
  let k' := if frameStart f (k + 1) = a then k + 1 else k
  let m := videoNominal f (k' * rasterTotal (fmtRaster f) + l - 1)
  { essence := rfEssence e, format := f, frameCount := m.frameCount, line := l, field2 := m.field2, seq := 0,
    ptpTime := lineAt f a l % 2 ^ 64, flags := placeFlags m, outputId := 0xFFFF, units := m.units, payload := fillPayload f m.units, pcrc := 0, dcrc := 0 }

/-- A segment joins its cell; a cell with every byte is sent (R212). -/
def State.rowIn (s : State) (q k e a : Nat) (g : RowSeg) : State :=
  let f := rfFormat e
  if !segOk f g || g.data.isEmpty then s
  else
    let c := rowCell e a (rowLine f g)
    let mine := fun (x : RowCell) => x.flow == k && x.cell.ptpTime == c.ptpTime
    let old := s.mac.lines.find? mine
    let x : RowCell := old.getD ⟨k, rfAsync e, c, []⟩
    let b := segByte f g
    let y := { x with cell := { x.cell with payload := overlay x.cell.payload b g.data }, ranges := x.ranges ++ [(b, b + g.data.length)] }
    let rest := s.mac.lines.filter (fun z => !mine z)
    if lineBytes f ≤ coveredTo y.ranges y.ranges.length 0 then
      ({ s with mac := { s.mac with lines := rest } }).produce (macDie q) (rfAsync e) y.cell
    else
      let t := { s with mac := { s.mac with lines := rest ++ [y] } }
      if old.isNone && !rfAsync e then t.assemble (macDie q) y.cell false else t

/-- Bytes of a sample and samples per channel of an audio payload, by its size (R211, log entry 28). -/
def audioShape (kind f bytes : Nat) : Option (Nat × Nat) :=
  let hz := audioHz (fmtAudioRate f)
  let counts := [hz / 8000, hz / 4000, hz / 3000, hz / 1000]
  let widths := if kind = 2 then [4] else [2, 3]
  (widths.flatMap (fun w => counts.map (fun n => (w, n)))).find? (fun x => x.1 * x.2 * fmtChannels f == bytes)

/-- The word of Table 3.7 from a sample's bytes: L16 and L24 left-aligned, AM824 with its V, U, C and block start (ST 2110-31: PRESUMED, log entry 28). -/
def audioInWord (kind : Nat) (b : List Byte) : Nat :=
  let v := ofBytesBE b
  if kind = 2 then v % 2 ^ 24 * 256 + b2n (v.testBit 24) * 128 + b2n (v.testBit 25) * 64 + b2n (v.testBit 26) * 32 + b2n (v.testBit 29) * 16
  else if b.length = 2 then v * 2 ^ 16 else v * 2 ^ 8

/-- The samples of an audio payload whose first sample has number n0 join their blocks (R211). -/
def State.audioIn (s : State) (q e n0 : Nat) (d : List Byte) : State :=
  match audioShape (rfKind e) (rfFormat e) d.length with
  | none => s
  | some (w, n) =>
    let ch := fmtChannels (rfFormat e)
    (List.range (n * ch)).foldl (fun t i =>
      t.audioWord (macDie q) (rfEssence e) (rfFormat e) (rfAsync e) false (i % ch) (n0 + i / ch) (audioInWord (rfKind e) ((d.drop (w * i)).take w))) s

/-- Ten-bit words from a bit string held most significant bit first. -/
def tenBits (v total at' n : Nat) : List Nat := (List.range n).map (fun i => v / 2 ^ (total - (at' + 10 * (i + 1))) % 1024)

/-- Ancillary packets of an RFC 8331 payload after its header (PRESUMED, log entry 28), n of them. -/
def ancIn : Nat → List Byte → List AncPkt
  | 0, _ => []
  | n + 1, d =>
    if d.length < 8 then []
    else
      let h := ofBytesBE (d.take 4)
      let total := 8 * d.length
      let v := ofBytesBE d
      let head := tenBits v total 32 3
      let dc := nthD head 2 0 % 256
      let ws := tenBits v total 62 (dc + 1)
      let p : AncPkt := { did := nthD head 0 0, sdid := nthD head 1 0, dc := nthD head 2 0, line := bits h 30 20, hoff := bits h 19 8,
                          c := h.testBit 31, link := bits h 6 0 != 0, words := ws.take dc, cs := nthD ws dc 0 }
      p :: ancIn n (d.drop (4 * ceilDiv (62 + 10 * (dc + 1)) 32))

/-- A -40 packet becomes one ancillary cell (R211). -/
def State.ancPktIn (s : State) (q i e time : Nat) (d : List Byte) : State :=
  let l := ancIn (be d 4 1) (d.drop 8)
  let good := l.filter ancOk
  let bad := l.length - good.length
  let c : LineCell := { essence := rfEssence e, format := rfFormat e, frameCount := time / 125000 % 2 ^ 24, line := (good.map (·.line)).headD 0,
                        field2 := be d 5 1 / 64 == 3, seq := 0, ptpTime := time % 2 ^ 64, flags := b2n (bad != 0) * 256, outputId := 0xFFFF, units := good.length,
                        payload := padTokens (good.flatMap ancBytes), pcrc := 0, dcrc := 0 }
  (if bad = 0 then s else s.macCount q 12 (s.leadOf q i) bad).produce (macDie q) (rfAsync e) c

/-- ST 2022-6 (R211): the words of a datagram go on in the burst of the receive context; a burst that is full waits for the SFE as a line of an SLF stream would. Datagrams that are missing leave their place empty and mark the burst (log entry 29). -/
def State.sixIn (s : State) (q k e seq : Nat) (d : List Byte) : State :=
  let x := s.flowRun k
  let i := rfCtx e
  let gap := match x.base with | some b => (seq + 65536 - b) % 65536 - 1 | none => 0
  let total := x.six + 8 * 1376 * gap + 8 * (d.length - 8)
  let size := 10 * burstWords (s.sfeCtx q 0 i)
  let n := total / size
  let err := x.sixErr || gap != 0
  let ln := s.lane (4 * q + i / 8)
  let bursts : List RxLine := (List.range n).map (fun j => ⟨i % 8, (x.sixSeq + j) % 2 ^ 32, size / 10, 0, err, false, false⟩)
  let t := s.setLane (4 * q + i / 8) { ln with fifo := ln.fifo ++ bursts }
  t.setFlow k { x with base := some seq, six := total % size, sixErr := if n = 0 then err else false, sixSeq := x.sixSeq + n }

/-- A datagram of a flow (R210 to R213). -/
def State.mediaIn (s : State) (q i e : Nat) (d : List Byte) : State :=
  let s0 := s.macCount q 11 i 1
  let s1 := { s0 with mac := { s0.mac with legs := kput s0.mac.legs (flowKey q i) s0.now } }
  match rtpOf d with
  | none => s1
  | some r =>
    let k := flowKey q (s1.leadOf q i)
    let kind := rfKind e
    let x := s1.flowRun k
    let w := seqBits kind
    let seq := if w = 32 then be r.data 0 2 * 65536 + r.seq else r.seq
    match nominalOf kind (rfFormat e) r.ts s1.now (rfAsync e) with
    | none => (s1.macCount q 14 (s1.leadOf q i) 1).raise Src.FMAC_RTP_TS
    | some a =>
      if kind = 4 then
        if (match x.base with | some b => !newer 16 seq b | none => false) then (if (s1.mergeWith q i).isSome then s1.macCount q 13 i 1 else s1)
        else s1.sixIn q k e seq r.data
      else if x.got.any (fun y => y.1 == seq) then (if (s1.mergeWith q i).isSome then s1.macCount q 13 i 1 else s1)
      else
        let f := rfFormat e
        let segs := (rowSegs (r.data.drop 2)).filter (segOk f)
        let n0 := clockCount (mediaClock kind f) r.ts s1.now
        let times := match kind with
          | 0 => segs.map (fun g => lineAt f a (rowLine f g))
          | 3 => [a]
          | _ => match audioShape kind f r.data.length with
            | some (_, n) => [(audioNominal f (sampleBlock (audioHz (fmtAudioRate f)) (n0 + n - 1)).1).time]
            | none => [a]
        let ep := (times.map (s1.epochOf f)).foldl max 0
        if ep < max x.opened s1.epoch then s1.pktLate q i
        else
          let s2 := s1.seqSeen k w seq ep
          match kind with
          | 0 => segs.foldl (fun t g => if t.epochOf f (lineAt f a (rowLine f g)) < max x.opened t.epoch then t else t.rowIn q k e a g) s2
          | 3 => s2.ancPktIn q i e a r.data
          | _ => s2.audioIn q e n0 r.data

/-! Frames (R199 to R203). -/

/-- A drop of a frame: its counter, the port's sticky bit and the source (Table 8.2). -/
def State.frameDrop (s : State) (q n cnt i src : Nat) : State := ((s.macCount q cnt i 1).macStick q 20 n).raise src

/-- A frame is accepted by its queue: delivered to a flow, the RTU or a host ring (R203). -/
def State.frameTo (s : State) (q n k e : Nat) (sec : Bool) (f : List Byte) : State :=
  let sel := s.fld (Reg.FMAC_M_SEL (q + 1)) 20 16 == k
  let m := fun (t : State) (lv : Nat) => if sel then t.watermark (Reg.FMAC_M_Q_WM (q + 1)) (100 * lv) (quMark e * quLimit e) (5 * quLimit e) else t
  let s1 := m ((s.macCount q 0 n 1).macCount q 10 k 1) f.length
  let s2 := match quSink e with
    | 1 => (match s1.flowFor q n f with | some x => s1.mediaIn q x.1 x.2 (udpData f) | none => s1)
    | 3 => s1.ringFrame q n k e sec f
    | _ => s1
  m s2 0

/-- The sink of a queue finds no place for the frame: its LIMIT, or its host ring (R200). -/
def State.queueFull (s : State) (e bytes : Nat) : Bool := decide (quLimit e < bytes) || (quSink e == 3 && !s.ringTakes e)

/-- A frame from the MACsec check on. -/
def State.frameSteer (s : State) (q n : Nat) (sec : Bool) (f : List Byte) : State :=
  match s.steer q n f with
  | none => s.frameDrop q n 6 n Src.FMAC_FILTER_MISS
  | some k =>
    let e := s.queueEntry q k 0
    if quSink e = 0 ∨ (quSink e = 1 ∧ (s.flowFor q n f).isNone = true) then s.frameDrop q n 6 n Src.FMAC_FILTER_MISS
    else if s.queueFull e f.length then s.frameDrop q n 9 k Src.FMAC_QUEUE_FULL
    else s.frameTo q n k e sec f

/-- A frame from its destination address to its FCS has arrived whole on a port, with a mark for a PCS error or an uncorrectable codeword within it (Table 8.2 in its order). -/
def State.frameRx (s : State) (q n : Nat) (f : List Byte) (bad : Bool) : State :=
  let body := f.take (f.length - 4)
  if f.length < 64 then s.frameDrop q n 2 n Src.FMAC_RUNT
  else if s.mtu q < f.length then s.frameDrop q n 4 n Src.FMAC_OVERSIZE
  else if bad || crc32 body != ofBytesLE (f.drop (f.length - 4)) then s.frameDrop q n 3 n Src.FMAC_FCS_ERR
  else if s.secOn q n then
    match s.unprotect q n body with
    | (t, some g) => t.frameSteer q n true g
    | (t, none) => (t.macStick q 28 n).frameDrop q n 5 n Src.FMAC_SEC_FAIL
  else s.frameSteer q n false body

/-- FRAME_RX: the codewords that carried the frame are counted first (R197); a port that is down delivers nothing. -/
def State.frameIn (s : State) (q n : Nat) (f : List Byte) (pcsErr : Bool) (fixed lost : Nat) : State :=
  if !s.portUp q n then s
  else
    let fec := s.fecOn q n
    let s1 := if fec then (s.macCount q 7 n fixed).macCount q 8 n lost else s
    let s2 := s1.raiseIf (fec && lost != 0) Src.FMAC_FEC_UNCORR
    s2.frameRx q n f (pcsErr || (fec && lost != 0))

def execFrameRx (q port : Nat) (frame : List Byte) (pcsErr : Bool) (fixed lost : Nat) (s : State) : Host.Outcome State Fault Refusal :=
  .next (s.frameIn (q % 128) (port % 4) frame pcsErr fixed lost)

/-! Closing (R212, R213). -/

/-- A video cell that closes is sent with black where nothing came, and IN_ERR. -/
def State.rowClose (s : State) (q : Nat) (x : RowCell) : State :=
  s.produce (macDie q) x.async (if x.cell.flags.testBit 8 then x.cell else { x.cell with flags := x.cell.flags + 256 })

/-- Missing sequence numbers of a flow among those whose cells close with epoch e, and the numbers kept to tell later copies. -/
def seqsClose (bits e : Nat) (x : RxFlow) : Nat × RxFlow :=
  match x.base with
  | none => (0, { x with opened := e + 1 })
  | some b =>
    let d := fun (n : Nat) => (n + 2 ^ bits - b) % 2 ^ bits
    let ahead := x.got.filter (fun y => decide (0 < d y.1) && decide (d y.1 < 2 ^ (bits - 1)))
    let top := ((ahead.filter (fun y => decide (y.2 ≤ e))).map (fun y => d y.1)).foldl max 0
    let have' := (ahead.filter (fun y => decide (d y.1 ≤ top))).length
    (top - have', { x with base := some ((b + top) % 2 ^ bits), got := x.got.filter (fun y => decide (e ≤ y.2 + 80)), opened := e + 1 })

/-- 1 µs before the end of the present epoch the flow's cells assigned to it close (R212). -/
def State.cellClose (s : State) (q i : Nat) : State :=
  let e := s.rxFlow q i
  if !s.macRuns q || !rfEn e || rfKind e == 4 then s
  else
    let k := flowKey q (s.leadOf q i)
    let ep := s.epoch
    let due := fun (x : RowCell) => x.flow == k && decide (s.epochOf x.cell.format x.cell.ptpTime ≤ ep)
    let lines := s.mac.lines.filter due
    let s1 := { s with mac := { s.mac with lines := s.mac.lines.filter (fun x => !due x) } }
    let s2 := lines.foldl (fun t x => t.rowClose q x) s1
    let aud := fun (p : AudPart) => p.essence == rfEssence e && decide (s.epochOf p.format (audioNominal p.format p.block).time ≤ ep)
    let parts := if rfKind e = 1 ∨ rfKind e = 2 then s2.sdi.audio.filter aud else []
    let s3 := if parts.isEmpty then s2 else { s2 with sdi := { s2.sdi with audio := s2.sdi.audio.filter (fun p => !aud p) } }
    let s4 := parts.foldl (fun t p => t.produce (macDie q) p.async (audioCell p.essence p.format p.block p.words true)) s3
    let r := seqsClose (seqBits (rfKind e)) ep (s4.flowRun k)
    let s5 := s4.setFlow k r.2
    if r.1 = 0 then s5 else (List.range r.1).foldl (fun t _ => t.raise Src.FMAC_PKT_LOSS) (s5.macCount q 12 (s.leadOf q i) r.1)

def execFlowCellClose (q i : Nat) (s : State) : Host.Outcome State Fault Refusal := .next (s.cellClose (q % 128) (i % 256))

/-- One leg of a merge has delivered nothing for 10 ms while the other does: FMAC_MERGE_LEG rises (R213). -/
def State.mergeLeg (s : State) (q i : Nat) : State :=
  match s.mergeWith q i with
  | none => s
  | some p =>
    let silent := fun j => match kget s.mac.legs (flowKey q j) with | some t => decide (t + 10000000 ≤ s.now) | none => true
    s.raiseIf (s.macRuns q && rfEn (s.rxFlow q i) && silent i && !silent p) Src.FMAC_MERGE_LEG

def execMergeLegTimeout (q i : Nat) (s : State) : Host.Outcome State Fault Refusal := .next (s.mergeLeg (q % 128) (i % 256))

end Sys2Proof.Machine
end

