-- ==== Sys2Proof/Machine/MacTx.lean ====
section
/-! DEFINITION. The transmit path of the MACs: media packets built from released cells, and frames of the host transmit rings (R214 to R221). -/

namespace Sys2Proof

/-- The eight header bytes of an ST 2022-6 datagram for a stream context and datagram number (ST 2022-6; log entry 26). -/
opaque Config.sixHeader : Nat → Nat → BitVec 64

namespace Machine

/-! Packing (R214, R216; RTP, IPv4 and UDP layouts of their standards: PRESUMED, log entry 28). -/

/-- Destination MAC address of an IPv4 destination on a port (R214). -/
def dstMac (port ip : Nat) : Nat := if ip / 2 ^ 28 = 14 then 0x01005E000000 + ip % 2 ^ 23 else bits port 47 0

/-- IPv4 header (R214). -/
def ip4Head (e src dst bytes : Nat) : List Byte :=
  let h := fun (sum : Nat) => [0x45#8, BitVec.ofNat 8 (tfDscp e * 4)] ++ bytesBE 2 (20 + bytes) ++ bytesBE 2 0 ++ bytesBE 2 0x4000 ++
    [BitVec.ofNat 8 (tfTtl e), 17#8] ++ bytesBE 2 sum ++ bytesBE 4 src ++ bytesBE 4 dst
  h (0xFFFF - foldSum (onesSum (h 0)))

/-- The frame of a datagram on a port, without its FCS (R214). -/
def mediaFrame (e port dst : Nat) (data : List Byte) : List Byte :=
  bytesBE 6 (dstMac port dst) ++ bytesBE 6 (bits port 127 80) ++
  (if tfVid e = 0 then [] else bytesBE 2 0x8100 ++ bytesBE 2 (tfPcp e * 8192 + tfVid e)) ++ bytesBE 2 0x0800 ++
  ip4Head e (bits port 79 48) dst (8 + data.length) ++ bytesBE 2 (tfUdpSrc e) ++ bytesBE 2 (tfUdpDst e) ++ bytesBE 2 (8 + data.length) ++ bytesBE 2 0 ++ data

/-- The RTP header of a flow's packet. -/
def rtpHead (e : Nat) (m : Bool) (seq ts : Nat) : List Byte :=
  [0x80#8, BitVec.ofNat 8 (b2n m * 128 + tfPt e)] ++ bytesBE 2 (seq % 65536) ++ bytesBE 4 (ts % 2 ^ 32) ++ bytesBE 4 (tfSsrc e)

/-! Payloads. Each answers the RTP datagram, or none while its data is incomplete (R218). -/

/-- A transmit flow at work. -/
def State.txFlowRun (s : State) (k : Nat) : TxFlow := (kget s.mac.tx k).getD {}
def State.setTxFlow (s : State) (k : Nat) (x : TxFlow) : State := { s with mac := { s.mac with tx := kput s.mac.tx k x } }

/-- Global line number of active line l of part p (field or frame) of frame F. -/
def activeGlobal (f F p l : Nat) : Nat :=
  let r := fmtRaster f
  F * rasterTotal r + (if p = 0 then (rasterRange1 r).1 + l else (rasterRange2 r).1 + l) - 1

/-- The bytes of a line as the flow sends them, and whether the cell is of another format, which goes as black (R219). -/
def State.rowBytes (s : State) (e n : Nat) : Option (List Byte × Bool) :=
  let f := tfFormat e
  match s.videoFor (tfEssence e) f n with
  | none => none
  | some c => if c.format = f then some (c.payload.take (lineBytes f), false) else some ((fillPayload f (rasterWidth (fmtRaster f))).take (lineBytes f), true)

/-- Row segments of packet j of a field or frame: line, first byte, bytes. -/
def packetRows (e j : Nat) : List (Nat × Nat × Nat) :=
  let f := tfFormat e
  let lb := lineBytes f
  let lo := j * pktBytes e
  let hi := min (lo + pktBytes e) (packLines f * lb)
  (List.range (ceilDiv hi lb - lo / lb)).map (fun i =>
    let l := lo / lb + i
    let a := max lo (l * lb)
    (l, a - l * lb, min hi ((l + 1) * lb) - a))

/-- First pixel of a byte of a line. -/
def bytePixel (f b : Nat) : Nat := b * 8 / (components (fmtSampling f) * depthBits (fmtDepth f))

/-- The sample row data headers of segments. -/
def rowHeadBytes (f : Nat) (field2 : Bool) : List (Nat × Nat × Nat) → List Byte
  | [] => []
  | g :: r => bytesBE 2 g.2.2 ++ bytesBE 2 (b2n field2 * 32768 + g.1) ++ bytesBE 2 ((if r.isEmpty then 0 else 32768) + bytePixel f g.2.1) ++ rowHeadBytes f field2 r

/-- Packet n of a -20 flow, counted from the PTP epoch (R215, R216): its datagram and whether a cell of another format was met. -/
def State.rowPacket (s : State) (e n : Nat) : Option (List Byte × Bool) :=
  let f := tfFormat e
  let per := max 1 (partPackets e)
  let frame := n / (per * packParts f)
  let part := n / per % packParts f
  let j := n % per
  let rows := packetRows e j
  let data := rows.map (fun g => (s.rowBytes e (activeGlobal f frame part g.1)).map (fun x => ((x.1.drop g.2.1).take g.2.2, x.2)))
  if data.any (·.isNone) then none
  else
    let d := data.filterMap id
    some (rtpHead e (j + 1 == per) n (alignCount 90000 f frame) ++ bytesBE 2 (n / 65536) ++ rowHeadBytes f (part == 1) rows ++ (d.map (·.1)).flatten,
      d.any (·.2))

/-- The bytes of an audio word as the flow sends it: L24, L16 or AM824 with its parity again and B from Z (R215). -/
def audioOutBytes (e w chan : Nat) : List Byte :=
  if tfKind e = 2 then
    let v := b2n (w.testBit 4) * 32 + b2n (chan % 2 == 0) * 16 + b2n (w.testBit 5) * 4 + b2n (w.testBit 6) * 2 + b2n (w.testBit 7)
    let ones := ((List.range 3).filter (fun i => v.testBit i)).length + ((List.range 24).filter (fun i => (w / 256).testBit i)).length
    bytesBE 4 ((v + ones % 2 * 8) * 2 ^ 24 + w / 256)
  else if audioBytes e = 2 then bytesBE 2 (w / 2 ^ 16) else bytesBE 3 (w / 2 ^ 8)

/-- Packet n of a -30 or -31 flow, n counting packet times from the PTP epoch (R215, R216). -/
def State.audioPacket (s : State) (e n : Nat) : Option (List Byte × Bool) :=
  let g := tfFormat e / 16 * 16
  let hz := audioHz (fmtAudioRate g)
  let blocks := if tfPtime1ms e then (List.range 8).map (8 * n + ·) else [n]
  let cells := blocks.map (fun b => s.releasedAt (tfEssence e) (audioNominal g b).time)
  if cells.any (·.isNone) then none
  else
    let ch := fmtChannels g
    let words := ((blocks.zip (cells.filterMap id)).map (fun x =>
      let k := (audioNominal g x.1).units * ch
      if x.2.format = g then unpackFields 32 k x.2.payload else List.replicate k 0x80)).flatten
    let t := n * (if tfPtime1ms e then 1000000 else 125000)
    some (rtpHead e false n (firstSample hz t) ++ ((List.range words.length).map (fun i => audioOutBytes e (nthD words i 0x80) (i % ch))).flatten, false)

/-- Bits of a packet in RFC 8331 form, as bytes aligned to 32 bits. -/
def ancOutBytes (p : AncPkt) : List Byte :=
  let ws := [p.did, p.sdid, p.dc] ++ p.words ++ [p.cs]
  let head := b2n p.c * 2 ^ 31 + p.line % 2048 * 2 ^ 20 + p.hoff % 4096 * 2 ^ 8 + b2n p.link * 129
  let n := 10 * ws.length
  let words := ceilDiv n 32
  bytesBE 4 head ++ bytesBE (4 * words) ((ws.foldl (fun acc w => acc * 1024 + w % 1024) 0) * 2 ^ (32 * words - n))

/-- Packets that fit a number of bytes, in order, and those that move on. -/
def ancFit : Nat → List AncPkt → List AncPkt × List AncPkt
  | _, [] => ([], [])
  | room, p :: r =>
    let n := (ancOutBytes p).length
    if n ≤ room then let x := ancFit (room - n) r; (p :: x.1, x.2) else ([], p :: r)

/-- Packet n of a -40 flow, n counting packets from the PTP epoch (R215, R216): its datagram, what stays pending, what is dropped, and the SEQ of the last cell taken. -/
def State.ancPacket (s : State) (q i e n : Nat) : List Byte × TxFlow × Nat :=
  let x := s.txFlowRun (flowKey q i)
  let cells := s.ancCells (tfEssence e) x.ancSeq
  let fresh := cells.flatMap (fun c => if isFill c then [] else ancParse c.units c.payload)
  let room := min (s.mtu q - (wireOverhead e - 20) - 20) 65535
  let fit := ancFit room ((x.anc ++ fresh).take 255)
  let rest := fit.2 ++ (x.anc ++ fresh).drop 255
  let per := max 1 (tfPkt e)
  let last := n % per + 1 == per
  let body := (fit.1.map ancOutBytes).flatten
  let v := s.ancVideo (tfEssence e)
  let g := n / per
  let field := if packParts v = 1 then 0 else 2 + g % 2
  (rtpHead e last n (alignCount 90000 v (g / packParts v)) ++ bytesBE 2 (n / 65536) ++ bytesBE 2 body.length ++
      [BitVec.ofNat 8 fit.1.length, BitVec.ofNat 8 (field * 64), 0#8, 0#8] ++ body,
    { ancSeq := (match cells.getLast? with | some c => some c.seq | none => x.ancSeq), anc := if last then [] else rest },
    if last then rest.length else 0)

/-- Datagram n of an ST 2022-6 flow (R215, R216): bytes 1,376n on of the stream counted from the PTP epoch, from the lines that the context has built. -/
def State.sixPacket (s : State) (q e n : Nat) : Option (List Byte) :=
  let i := tfCtx e
  let c := s.sfeCtx q 1 i
  let size := 10 * burstWords c
  let lo := 11008 * n
  let lines := (s.lane (4 * q + i / 8)).txq.filter (fun x => x.stream == i % 8)
  let bit := fun (p : Nat) => (lines.find? (fun x => decide (x.pos ≤ p) && decide (p < x.pos + size))).map (fun x =>
    (nthD x.words ((p - x.pos) / 10) 0).testBit (9 - (p - x.pos) % 10))
  let l := (List.range 11008).map (fun j => bit (lo + j))
  if l.any (·.isNone) then none
  else
    let v := l.foldl (fun acc b => 2 * acc + b2n (b.getD false)) 0
    let frame := size * burstsPerFrame c
    let r := rateFrac (fmtRate (ctxFormat c))
    let m := (lo + 11008) / frame != lo / frame
    some (rtpHead e m n (lo * r.2 * 27000000 / (frame * r.1)) ++ bytesBE 8 (Config.sixHeader c n).toNat ++ bytesBE 1376 v)

/-- Lines that every datagram up to number n has used leave the context's queue. -/
def State.sixUsed (s : State) (q e n : Nat) : State :=
  let i := tfCtx e
  let size := 10 * burstWords (s.sfeCtx q 1 i)
  let ln := s.lane (4 * q + i / 8)
  s.setLane (4 * q + i / 8) { ln with txq := ln.txq.filter (fun x => x.stream != i % 8 || decide (11008 * (n + 1) < x.pos + size)) }

/-! Departures (R217 to R220). -/

/-- One leg of a packet leaves its port, or is discarded while the port is down (R198, R220). -/
def State.legOut (s : State) (q i e port dst : Nat) (d : List Byte) : State :=
  if !s.portUp q port then s.macCount q 16 port 1
  else
    let r := s.frameOut q port (mediaFrame e (s.portEntry q port) dst d)
    if r.2 then r.1.macCount q 15 i 1 else r.1

/-- Both legs of a packet (R220). -/
def State.legsOut (s : State) (q i e : Nat) (d : List Byte) : State :=
  let t := s.legOut q i e (tfPortA e) (tfDstA e) d
  if tfBEn e then t.legOut q i e (tfPortB e) (tfDstB e) d else t

/-- Packet n of transmit flow i of MAC q is due (R217); while its data is incomplete it waits (R218). -/
def State.mediaOut (s : State) (q i n : Nat) : State :=
  let e := s.txFlow q i
  if !s.macRuns q || !tfEn e then s
  else
    match tfKind e with
    | 0 => (match s.rowPacket e n with
      | some r => (s.legsOut q i e r.1).raiseIf r.2 Src.FMAC_SRC_FORMAT
      | none => s)
    | 3 =>
      let r := s.ancPacket q i e n
      let t := s.setTxFlow (flowKey q i) r.2.1
      (if r.2.2 = 0 then t else t.macCount q 12 i r.2.2).legsOut q i e r.1
    | 4 => (match s.sixPacket q e n with
      | some d => (s.legsOut q i e d).sixUsed q e n
      | none => s)
    | _ => (match s.audioPacket e n with
      | some r => s.legsOut q i e r.1
      | none => s)

def execMediaPktTx (q i n : Nat) (s : State) : Host.Outcome State Fault Refusal := .next (s.mediaOut (q % 128) (i % 256) n)

/-- The frame at the head of a port's transmit ring is sent; while the port is down it is discarded, and CONS advances either way (R198, R204). -/
def State.hostOut (s : State) (q n : Nat) : State :=
  let e := s.txRing q n 0
  if !s.macRuns q || !e.testBit 63 || !s.storeOpen then s
  else
    let base := ringBase e
    let c := s.ringCons base
    if s.ringProd base = c then s
    else
      let a := ringSlot e c
      let f := s.rdBytes (a + 16) (ofBytesLE (s.rdBytes a 2))
      let t := s.storeBytes (base + 64) (bytesLE 4 (c + 1))
      if s.portUp q n then (t.frameOut q n f).1 else t.macCount q 16 n 1

def execHostFrameTx (q port : Nat) (s : State) : Host.Outcome State Fault Refusal := .next (s.hostOut (q % 128) (port % 4))

end Machine
end Sys2Proof
end

