-- ==== Sys2Proof/Machine/Mon.lean ====
section
/-! DEFINITION. The monitor scan-out: frame starts, the line buffer, AUX, hot plug and link training (R263 to R277). -/

namespace Sys2Proof

/-- CRC-32C over the active samples of a frame as sent; the spec gives the code and not how the samples become bytes (R268, log entry 31). -/
opaque Config.frameCrc : List Nat → BitVec 32

namespace Machine

/-! Checks. -/

/-- Bits per pixel as sent (R264). -/
def State.mrsBpp (s : State) (w : Nat) : Nat :=
  let b8 := s.bit Reg.MRS_LINK_CFG 4
  if fmtSampling (s.mrsFormat w) = 0 then (if b8 then 16 else 20) else if b8 then 24 else 30

/-- Link rate in Mbit/s per lane, and lanes (R263). -/
def mrsRate (r : Nat) : Nat := match r with | 0 => 1620 | 1 => 2700 | 2 => 5400 | _ => 8100
def mrsLanes (l : Nat) : Nat := 2 ^ min l 2

/-- Refusal code of a request for RUN (R265); 0 where it may start. -/
def State.mrsRefusal (s : State) : Nat :=
  let w := s.rdN Reg.MRS_SRC
  let pclk := s.fld Reg.MRS_PCLK 19 0
  let bpp := if mrsKind w = 0 then 0 else s.mrsBpp w
  let lo := s.fld Reg.MRS_VRR_MIN 15 0
  let hi := s.fld Reg.MRS_VRR_MAX 15 0
  let st := s.fld Reg.MRS_VRR_MAX 31 16
  if mrsLanes (s.fld Reg.MRS_LINK_CFG 3 2) * mrsRate (s.fld Reg.MRS_LINK_CFG 1 0) * 776 < pclk * bpp then 1
  else if lo * pclk < s.mrsVMin * s.mrsHTotal * 1000 ∨ lo < 8333 ∨ 41667 < hi ∨ hi < lo ∨ st < lo ∨ hi < st then 2
  else 0

/-- The check of a source flip at its commit point (R269) against a slot plan given by its shift, the engine's slot with it. -/
def State.mrsVerdict (s : State) (w slotShift engineShift : Nat) : Nat :=
  let e := s.entry (fstSlotAddr (mrsSlot w) + slotShift) 8
  let f := slFormat e
  if mrsKind w = 0 then 0
  else if slType e ≠ 6 ∨ slFrames e ≠ 2 ∨ interlaced (fmtRaster f) = true ∨ fmtDepth f ≠ 1 ∨ rasterWidth (fmtRaster f) ≠ s.fld Reg.MRS_H_TIMING 15 0 ∨
      activeLines (fmtRaster f) ≠ s.mrsVActive then 3
  else if mrsKind w = 1 ∧ s.rdN (Reg.PXP_E_CFG (mrsEngine w + 1) + engineShift) % 8192 ≠ mrsSlot w then 4
  else 0

/-- The MRS's check of its shadow at a commit point: it passes, or MRS_REFUSAL takes the code and MRS_FLIP_REFUSED rises. -/
def State.mrsCheck (s : State) : State × Bool :=
  let r := s.mrsVerdict (s.rdN (Reg.MRS_SRC + 0x8000)) 0 0
  if r = 0 then (s, true) else ((s.wrN Reg.MRS_REFUSAL (r * 2 ^ 28)).raise Src.MRS_FLIP_REFUSED, false)

/-! The line buffer (R270 to R272). -/

/-- The watermark sees the level; URGENT follows it, and an upward crossing counts and raises MRS_URGENT (R270). -/
def State.lbMark (s : State) : State :=
  let a := Reg.MRS_LB_WM
  let t := s.watermark a s.lbLevel (s.fld Reg.MRS_LB_MARK 7 0) (s.fld Reg.MRS_LB_MARK 15 8)
  let st := slStack (s.slotEntry (mrsSlot s.mon.src)) % 4
  if !s.bit a 0 && t.bit a 0 then ((t.bump Reg.MRS_URGENT_CNT).raise Src.MRS_URGENT).setUrgent st true
  else if s.bit a 0 && !t.bit a 0 then t.setUrgent st false else t

/-- Fetch transactions of one line. -/
def State.lbTxns (s : State) : Nat := ceilDiv (64 * (1 + fmtTokens (s.mrsFormat s.mon.src))) 256

/-- The next lines are asked for while the buffer has room (R270): n bounds them. -/
def State.lbAsk (s : State) : Nat → State
  | 0 => s
  | n + 1 =>
    let m := s.mon
    let sent := min s.mrsVActive (s.mrsLine - s.mrsLead)
    if mrsKind m.src ≠ 0 ∧ m.aborted.isNone = true ∧ s.running 11 = true ∧ m.asked < s.mrsVActive ∧ m.asked < sent + s.lbLines m.src ∧ s.poolFree 5 = true then
      (({ s with mon := { m with asked := m.asked + 1 } }).poolTake 5 s.lbTxns).lbAsk n
    else s

/-- The oldest line asked for has come. -/
def State.lbLine (s : State) (ns : Nat) : State :=
  let m := s.mon
  if m.fetched < m.asked then
    let st := slStack (s.slotEntry (mrsSlot m.src)) % 4
    let t := (({ s with mon := { m with fetched := m.fetched + 1 } }).poolGive 5 s.lbTxns).keepMax (Reg.FST_S_LAT_MAX (st + 1)) ns
    ((t.stackMove st (lineBytes (s.mrsFormat m.src))).lbAsk 32).lbMark
  else s

/-- A read of the frame store completes: the i-th fabric-facing one, or, past those, the scan-out's oldest line (R239, R270). -/
def State.anyReadDone (s : State) (i ns tok : Nat) (ecc : Ecc) : State :=
  if i < s.store.reads.length then s.readDone i ns tok ecc
  else
    let st := slStack (s.slotEntry (mrsSlot s.mon.src)) % 4
    let off := cellOffset (s.slotEntry (mrsSlot s.mon.src)) s.mon.buf s.mon.fetched + 64 * (tok % (1 + fmtTokens (s.mrsFormat s.mon.src)))
    let t := if s.mon.fetched < s.mon.asked then
        (if ecc = .uncorrectable ∨ s.store.badGranules.contains (off / 64 * 64) = true then s.eccBad st off else if ecc = .corrected then s.eccFixed st off else s)
      else s
    t.lbLine ns

def execFstReadDone (i ns tok : Nat) (ecc : Ecc) (s : State) : Host.Outcome State Fault Refusal := .next (s.anyReadDone i ns tok ecc)

/-- What was asked for and has not come is given up. -/
def State.lbFlush (s : State) : State :=
  let n := s.mon.asked - s.mon.fetched
  ({ s with mon := { s.mon with asked := s.mon.fetched } }).poolGive 5 (n * s.lbTxns)

/-! Frames (R266 to R268). -/

/-- An entry of MRS_HIST. -/
def State.mrsHist (s : State) (kind us : Nat) : State :=
  let l := (kind * 2 ^ 30 + min (us / 4) 16383 * 2 ^ 16 + s.rdN Reg.MRS_FRAMES % 65536) :: s.rdWords (Reg.MRS_HIST 0) 15
  s.wrWords (Reg.MRS_HIST 0) l

/-- Components of line i of the frame being scanned, as sent: from the slot, or MRS_BG from an underrun on (R264, R272). -/
def State.mrsSamples (s : State) (i : Nat) : List Nat :=
  let f := s.mrsFormat s.mon.src
  let n := rasterWidth (fmtRaster f) * components (fmtSampling f)
  let bg := s.rdN Reg.MRS_BG
  let group := if fmtSampling f = 0 then [bg / 1024 % 1024, bg / 2 ^ 20 % 1024, bg % 1024, bg / 2 ^ 20 % 1024]
    else if fmtSampling f = 1 then [bg / 1024 % 1024, bg / 2 ^ 20 % 1024, bg % 1024] else [bg / 2 ^ 20 % 1024, bg / 1024 % 1024, bg % 1024]
  let l := if (match s.mon.aborted with | some a => decide (a ≤ i) | none => false) then (List.replicate (n / group.length) group).flatten
    else unpackFields 10 n (s.loadCell (cellOffset (s.slotEntry (mrsSlot s.mon.src)) s.mon.buf i)).payload
  if s.bit Reg.MRS_LINK_CFG 4 then l.map (fun v => (v + 2) / 4) else l

/-- The CRC of the frame that ends and the run of equal ones (R268). -/
def State.mrsCrc (s : State) : State :=
  if !s.bit Reg.MRS_CFG 9 || !s.bit Reg.MRS_CFG 8 || mrsKind s.mon.src == 0 then s
  else
    let c := (Config.frameCrc ((List.range s.mrsVActive).flatMap s.mrsSamples)).toNat
    let same := s.mon.equal != 0 && s.rdN Reg.MRS_FRAME_CRC == c
    let n := if same then s.mon.equal + 1 else 1
    let still := same && decide (s.fld Reg.MRS_CFG 7 0 ≤ n)
    let t := ({ s with mon := { s.mon with equal := n, still := still } }).wrN Reg.MRS_FRAME_CRC c
    if still = s.mon.still then t else t.mrsHist 3 (s.fld Reg.MRS_FRAME_US 15 0)

/-- A frame starts, new or a repeat (R266): the frame before it is closed, its period is kept, and the fetch begins again from line 1. -/
def State.mrsStart (s : State) (new : Bool) : State :=
  let s1 := match s.mon.start with
    | some t =>
      let us := min 65535 ((s.now - t) / 1000)
      let u := (s.mrsCrc.lbFlush).setFld Reg.MRS_FRAME_US 15 0 us
      let r := u.rdN Reg.MRS_FRAME_US_RANGE
      let lo := if r % 65536 = 0 then us else min (r % 65536) us
      u.wrN Reg.MRS_FRAME_US_RANGE (max (r / 65536) us * 65536 + lo)
    | none => s
  let s2 := ((s1.bump Reg.MRS_FRAMES).bump (if new then Reg.MRS_NEW_FRAMES else Reg.MRS_REPEATS)).mrsHist (if new then 0 else 1) (s1.fld Reg.MRS_FRAME_US 15 0)
  let src := s2.rdN Reg.MRS_SRC
  let b := if new then s2.mon.ready.getD s2.mon.buf else s2.mon.buf
  let t := { s2 with mon := { s2.mon with start := some s.now, src := src, buf := b, ready := if new then none else s2.mon.ready,
                                          fetched := 0, asked := 0, aborted := none } }
  ((t.lbAsk 64).lbMark).send (.scan s.now src b)

/-- Whole µs since the last frame start; none before the first. -/
def State.mrsSince (s : State) : Option Nat := s.mon.start.map (fun t => (s.now - t) / 1000)

/-- A frame start falls due (R266, R268): with VRR after a READY and MIN_US, or STATIC_US while the picture is static; else on the fixed beat. -/
def State.mrsFrameStart (s : State) : State :=
  if !s.running 13 then s
  else if s.bit Reg.MRS_CFG 8 then
    let wait := if s.mon.still && s.bit Reg.MRS_CFG 9 then s.fld Reg.MRS_VRR_MAX 31 16 else s.fld Reg.MRS_VRR_MIN 15 0
    let may := match s.mrsSince with | some u => decide (wait ≤ u) | none => true
    if s.mon.ready.isSome && may then s.mrsStart true else s
  else
    let due := match s.mon.start with | some t => decide (s.mrsLinesNs s.mrsVMin ≤ s.now - t) | none => true
    if due then s.mrsStart s.mon.ready.isSome else s

def execMrsFrameStart (s : State) : Host.Outcome State Fault Refusal := .next s.mrsFrameStart

/-- MAX_US passes: the frame starts, with a pending READY or as a repeat that counts as late (R266). -/
def State.mrsMaxUs (s : State) : State :=
  let due := match s.mrsSince with | some u => decide (s.fld Reg.MRS_VRR_MAX 15 0 ≤ u) | none => true
  if !s.running 13 || !s.bit Reg.MRS_CFG 8 || !due then s
  else if s.mon.ready.isSome then s.mrsStart true
  else ((s.mrsStart false).bump Reg.MRS_READY_LATE_CNT).raise Src.MRS_READY_LATE

def execMrsMaxUsExpire (s : State) : Host.Outcome State Fault Refusal := .next s.mrsMaxUs

/-- A READY of a buffer replaces one still pending (R267). -/
def State.mrsReady (s : State) (buf : Nat) : State :=
  if s.running 13 then { s with mon := { s.mon with ready := some buf } } else s

/-- The host marks a frame buffer complete (R267). -/
def State.mrsHostReady (s : State) (v : Nat) : State := if mrsKind (s.rdN Reg.MRS_SRC) = 2 then s.mrsReady (v % 2) else s

def execMrsFrameReadyWrite (m : Requester) (v : Nat) (s : State) : Host.Outcome State Fault Refusal :=
  .next (s.writeAccess m Reg.MRS_FRAME_READY v (fun t => t.mrsHostReady v))

/-- An active line is due and not wholly in the buffer (R272): that line and the rest of the frame are background. -/
def State.mrsUnderrun (s : State) : State :=
  if !s.running 13 || s.mon.start.isNone || s.mon.aborted.isSome || mrsKind s.mon.src == 0 || decide (s.mrsVActive ≤ s.mon.fetched) then s
  else
    let t := s.lbFlush
    let u := { t with mon := { t.mon with aborted := some t.mon.fetched } }
    ((u.bump Reg.MRS_UNDERRUN_CNT).mrsHist 2 (s.fld Reg.MRS_FRAME_US 15 0)).raise Src.MRS_UNDERRUN

def execMrsUnderrun (s : State) : Host.Outcome State Fault Refusal := .next s.mrsUnderrun

/-- The MRS leaves RUN: the scan stops. -/
def State.mrsStop (s : State) : State :=
  let t := s.lbFlush
  { t with mon := { t.mon with start := none, ready := none, aborted := none, equal := 0, still := false, fetched := 0, asked := 0 } }

/-! AUX (R274). -/

/-- STATE, bytes transferred and retries of the AUX request. -/
def State.auxStatus (s : State) (st bytes : Nat) : State :=
  s.wrN Reg.MRS_AUX_STATUS (st * 2 ^ 29 + bytes * 2 ^ 16 + s.rdN Reg.MRS_AUX_STATUS % 16)

/-- The AUX channel is busy with a request or with training. -/
def State.auxBusy (s : State) : Bool := s.mon.aux.isSome || s.bit Reg.MRS_LINK_STATUS 30

/-- The bytes of MRS_AUX_DATA. -/
def State.auxData (s : State) (n : Nat) : List Byte := ((s.rdWords (Reg.MRS_AUX_DATA 0) 4).flatMap (bytesLE 4)).take n

/-- REQ of a command writes. -/
def auxWrites (cmd : Nat) : Bool := cmd / 2 ^ 28 == 8 || cmd / 2 ^ 28 % 2 == 0
def auxLen (cmd : Nat) : Nat := cmd % 16 + 1

/-- The request goes out. -/
def State.auxSend (s : State) (cmd : Nat) : State :=
  ({ s with mon := { s.mon with aux := some (cmd, s.now), deferred := false } }).send
    (.aux s.now cmd (if auxWrites cmd then s.auxData (auxLen cmd) else []))

/-- A request that does not end in ACK counts and raises MRS_AUX_FAIL. -/
def State.auxFail (s : State) : State := (s.bump Reg.MRS_AUX_FAIL_CNT).raise Src.MRS_AUX_FAIL

/-- The request ends with a state and bytes transferred. -/
def State.auxEnd (s : State) (st bytes : Nat) : State :=
  let t := ({ s with mon := { s.mon with aux := none, deferred := false } }).auxStatus st bytes
  if st = 2 then t else t.auxFail

/-- REQ codes of MRS_AUX_CMD. -/
def auxKnown (cmd : Nat) : Bool := [8, 9, 0, 4, 1, 5].contains (cmd / 2 ^ 28)

/-- A write to MRS_AUX_CMD: it starts a request, or is ignored and counted while the channel is busy; a REQ code that the register does not give starts none. -/
def State.auxCommand (s : State) (cmd : Nat) : State :=
  if s.auxBusy then s.bump Reg.MRS_AUX_FAIL_CNT
  else if auxKnown cmd then (s.wrN Reg.MRS_AUX_STATUS (2 ^ 29)).auxSend cmd
  else s

/-- A write to MRS_AUX_CMD with a REQ code. -/
def State.auxWrite (s : State) (m : Requester) (req addr len : Nat) : State :=
  let v := req * 2 ^ 28 + addr % 2 ^ 20 * 256 + len % 16
  s.writeAccess m Reg.MRS_AUX_CMD v (fun t => t.auxCommand v)

def execAuxNativeWrite (m : Requester) (addr len : Nat) (s : State) : Host.Outcome State Fault Refusal := .next (s.auxWrite m 8 addr len)
def execAuxNativeRead (m : Requester) (addr len : Nat) (s : State) : Host.Outcome State Fault Refusal := .next (s.auxWrite m 9 addr len)
def execAuxI2cWrite (m : Requester) (mot : Bool) (addr len : Nat) (s : State) : Host.Outcome State Fault Refusal :=
  .next (s.auxWrite m (if mot then 4 else 0) addr len)
def execAuxI2cRead (m : Requester) (mot : Bool) (addr len : Nat) (s : State) : Host.Outcome State Fault Refusal :=
  .next (s.auxWrite m (if mot then 5 else 1) addr len)

/-- Read data returns to MRS_AUX_DATA. -/
def State.auxStore (s : State) (l : List Byte) : State :=
  let d := l.take 16
  let old := s.auxData 16
  let b := d ++ old.drop d.length
  s.wrWords (Reg.MRS_AUX_DATA 0) ((List.range 4).map (fun i => ofBytesLE ((b.drop (4 * i)).take 4)))

/-- A reply arrives (R274): 0 ACK with the bytes read, 1 NACK, else DEFER. -/
def State.auxReply (s : State) (kind : Nat) (data : List Byte) : State :=
  match s.mon.aux with
  | none => s
  | some (cmd, _) =>
    if s.mon.deferred then s
    else match kind with
    | 0 => if auxWrites cmd then s.auxEnd 2 (auxLen cmd) else
        let d := data.take (auxLen cmd)
        (s.auxStore d).auxEnd 2 d.length
    | 1 => s.auxEnd 3 0
    | _ => if s.fld Reg.MRS_AUX_STATUS 3 0 = 7 then s.auxEnd 5 0 else { s with mon := { s.mon with aux := some (cmd, s.now), deferred := true } }

def execAuxReply (kind : Nat) (data : List Byte) (s : State) : Host.Outcome State Fault Refusal := .next (s.auxReply (kind % 3) data)

/-- 100 µs after a DEFER the request goes again. -/
def State.auxRetry (s : State) : State :=
  match s.mon.aux with
  | some (cmd, t) =>
    if s.mon.deferred && decide (t + 100000 ≤ s.now) then
      ((s.setFld Reg.MRS_AUX_STATUS 3 0 (s.fld Reg.MRS_AUX_STATUS 3 0 + 1)).bump Reg.MRS_AUX_RETRY_CNT).auxSend cmd
    else s
  | none => s

def execAuxDeferRetry (s : State) : Host.Outcome State Fault Refusal := .next s.auxRetry

/-- No reply within 400 µs. -/
def State.auxTimeout (s : State) : State :=
  match s.mon.aux with
  | some (_, t) => if !s.mon.deferred && decide (t + 400000 ≤ s.now) then s.auxEnd 4 0 else s
  | none => s

def execAuxTimeout (s : State) : Host.Outcome State Fault Refusal := .next s.auxTimeout

/-! Hot plug (R275). -/

/-- The MRS's logic works: the block is in IDLE or RUN. -/
def State.mrsAlive (s : State) : Bool := s.cur 13 == sIDLE || s.cur 13 == sRUN

/-- The level of DP_HPD. -/
def State.setHpd (s : State) (b : Bool) : State := { s with board := { s.board with hpd := b } }

def State.hpdIrq (s : State) : State :=
  if s.mrsAlive && s.mon.connected then ((s.setHpd true).bump Reg.MRS_HPD_IRQ_CNT).raise Src.MRS_HPD_EVENT else s.setHpd true

def execHpdIrq (s : State) : Host.Outcome State Fault Refusal := .next s.hpdIrq

def State.hpdUnplug (s : State) : State :=
  if s.mrsAlive then
    let t := { (s.setHpd false) with mon := { s.mon with connected := false } }
    (t.setBit Reg.MRS_LINK_STATUS 31 false).raise Src.MRS_LINK_LOST
  else s.setHpd false

def execHpdUnplug (s : State) : Host.Outcome State Fault Refusal := .next s.hpdUnplug

def State.hpdPlug (s : State) : State :=
  if s.mrsAlive then ({ (s.setHpd true) with mon := { s.mon with connected := true } }).raise Src.MRS_HPD_EVENT else s.setHpd true

def execHpdPlug (s : State) : Host.Outcome State Fault Refusal := .next s.hpdPlug

/-! Training (R276). -/

/-- A write of TRAIN starts a training run; while one runs it changes nothing. -/
def State.linkTrain (s : State) (v : Nat) : State :=
  if !v.testBit 31 || s.bit Reg.MRS_LINK_STATUS 30 then s
  else (s.wrN Reg.MRS_LINK_STATUS (2 ^ 30)).bump Reg.MRS_TRAIN_CNT

def execLinkTrain (m : Requester) (v : Nat) (s : State) : Host.Outcome State Fault Refusal :=
  .next (s.writeAccess m Reg.MRS_LINK_CMD v (fun t => t.linkTrain v))

/-- Training ends: 1 OK, 2 CR_FAIL, 3 EQ_FAIL, with the levels reached, the lanes aligned and the capabilities read. -/
def State.trainDone (s : State) (result swing preemph lanes : Nat) (dpcd : List Byte) : State :=
  if !s.bit Reg.MRS_LINK_STATUS 30 then s
  else
    let b := dpcd ++ List.replicate (64 - dpcd.length) 0#8
    let t := s.wrWords (Reg.MRS_DPCD_CAP 0) ((List.range 16).map (fun i => ofBytesLE ((b.drop (4 * i)).take 4)))
    let ok := result == 1 && s.mon.connected
    let u := t.wrN Reg.MRS_LINK_STATUS (b2n ok * 2 ^ 31 + (if result = 1 then 1 else result) * 2 ^ 28 + swing * 256 + preemph * 16 + lanes)
    u.raiseIf (result != 1) Src.MRS_TRAIN_FAIL

def execLinkTrainDone (result swing preemph lanes : Nat) (dpcd : List Byte) (s : State) : Host.Outcome State Fault Refusal :=
  .next (s.trainDone (clamp 1 3 result) (swing % 16) (preemph % 16) (lanes % 16) dpcd)

end Machine
end Sys2Proof
end

