-- ==== Sys2Proof/Machine/Comp.lean ====
section
/-! DEFINITION. The compositor: layer engines, blending, flips with fences and programs (R244 to R261). -/

namespace Sys2Proof.Machine

/-! Lines of a raster as the engines number them: 0 the first active line, fields interleaved (R250). -/

/-- Raster line of active line j. -/
def rasterLine (r j : Nat) : Nat :=
  if interlaced r then (if j % 2 = 0 then (rasterRange1 r).1 + j / 2 else (rasterRange2 r).1 + j / 2) else (rasterRange1 r).1 + j

/-- Die of engine e. -/
def engineDie (e : Nat) : Nat := if e < 32 then 0 else 1

/-! Formats (R251). -/

/-- An engine's output format: 10-bit, SAMPLING 0, 1 or 2. -/
def engineFormatOk (o : Nat) : Bool := formatValid o && fmtKind o == 0 && fmtDepth o == 1 && decide (fmtSampling o ≤ 2)

/-- A layer format is compatible with an engine's format. -/
def layerCompat (o f : Nat) : Bool :=
  formatValid f && fmtKind f == 0 && fmtRate f == fmtRate o && f % 4 == o % 4 && fmtDepth f == 1 &&
  interlaced (fmtRaster f) == interlaced (fmtRaster o) &&
  (fmtSampling f == fmtSampling o || (fmtSampling f == 3 && fmtSampling o == 0) || (fmtSampling f == 4 && (fmtSampling o == 1 || fmtSampling o == 2)))

/-! Pixels. -/

/-- A line of pixels: Y or R of each sample, Cb or G and Cr or B (of each pair in 4:2:2), and the alpha component where the picture has one. -/
structure PixLine where
  c0 : List Nat
  c1 : List Nat
  c2 : List Nat
  a : List Nat
  deriving DecidableEq, Repr

/-- Every n-th component from place k on. -/
def pick (l : List Nat) (n k : Nat) : List Nat := (List.range (l.length / n)).map (fun i => nthD l (n * i + k) 0)

/-- The pixels of a line of components in the order of its SAMPLING, read as those of an output SAMPLING (R69, R251). -/
def pixLine (sampling out : Nat) (l : List Nat) : PixLine :=
  match sampling with
  | 0 => ⟨pick l 2 1, pick l 4 0, pick l 4 2, []⟩
  | 1 => ⟨pick l 3 1, pick l 3 0, pick l 3 2, []⟩
  | 2 => ⟨pick l 3 0, pick l 3 1, pick l 3 2, []⟩
  | 3 => ⟨pick l 3 1, pick l 6 0, pick l 6 3, pick l 3 2⟩
  | _ => if out = 2 then ⟨pick l 4 0, pick l 4 1, pick l 4 2, pick l 4 3⟩ else ⟨pick l 4 1, pick l 4 0, pick l 4 2, pick l 4 3⟩

/-- The components of a line of pixels in the order of an output SAMPLING. -/
def pixComponents (out : Nat) (p : PixLine) : List Nat :=
  match out with
  | 0 => (List.range p.c1.length).flatMap (fun i => [nthD p.c1 i 0, nthD p.c0 (2 * i) 0, nthD p.c2 i 0, nthD p.c0 (2 * i + 1) 0])
  | 1 => (List.range p.c0.length).flatMap (fun i => [nthD p.c1 i 0, nthD p.c0 i 0, nthD p.c2 i 0])
  | _ => (List.range p.c0.length).flatMap (fun i => [nthD p.c0 i 0, nthD p.c1 i 0, nthD p.c2 i 0])

/-- A flat line of w samples. -/
def flatLine (out w : Nat) (y c1 c2 : Nat) : PixLine :=
  let n := if out = 0 then w / 2 else w
  ⟨List.replicate w y, List.replicate n c1, List.replicate n c2, []⟩

/-! Layers (R246 to R250). -/

/-- A layer's line as it meets the engine: its pixels and whether its cell carries IN_ERR or FABRIC_ERR; none where it is transparent. -/
abbrev LayerLine := Option (PixLine × Bool)

/-- Source line of a layer for output line j, as the layer's own active line; none outside the placed rectangle (R250). The picture has h lines. -/
def layerRow (e j h : Nat) : Option Nat :=
  let d := (j : Int) - lyPosY e
  let n := if lyCropH e = 0 then h - lyCropY e else lyCropH e
  if d < 0 ∨ (n : Int) ≤ d then none
  else
    let r := lyCropY e + d.toNat
    if r < h then some r else none

/-- The pixels of a cell for an output sampling. -/
def cellPix (out : Nat) (c : LineCell) : PixLine := pixLine (fmtSampling c.format) out (cellSamples c)

/-- The FABRIC cell of layer l of engine e for its line r of frame k; also whether a cell came at all. -/
def State.fabricCell (s : State) (e l k r : Nat) : Option LineCell :=
  (s.fabric.egress.findSome? (fun x =>
    if x.dst = 0xC400 + 16 * e + l then
      (match x.cell with
        | some c => if c.frameCount = k % 2 ^ 24 ∧ c.line = rasterLine (fmtRaster c.format) r ∧ fmtKind c.format = 0 then some c else none
        | none => none)
    else none))

/-- A line of a slot that an engine writes is invalid (R247). -/
def State.lineInvalid (s : State) (slot k r : Nat) : Bool :=
  s.engines.any (fun x => s.engineOn x.1 && egSlot x.2.cfg == slot && x.2.frame.isSome &&
    !x.2.valid.any (fun v => v.1 % 2 == k % 2 && v.2.1 == r && v.2.2 == slot))

/-- The STORE cell of a layer for its line r of frame k (R246, R247). -/
def State.storeCell (s : State) (slot k r : Nat) : Option LineCell :=
  let e := s.slotEntry slot
  let line := rasterLine (fmtRaster (slFormat e)) r
  if !s.storeOpen || !(slType e == 5 || slType e == 6) || s.lineInvalid slot (k % max 1 (slFrames e)) line then none
  else
    let c := s.loadCell (cellOffset e (k % max 1 (slFrames e)) (lineIndex (fmtRaster (slFormat e)) line))
    if c.format = slFormat e then some c else none

/-- Layer l of engine e on output line j of frame k, with the counts and raises of R248 and R251. -/
def State.layerLine (s : State) (e l ent o k j : Nat) : State × LayerLine :=
  if !lyEn ent then (s, none)
  else if lyKind ent = 2 then
    let c := bits ent 79 50
    let r := layerRow ent j (rasterHeight (fmtRaster o))
    (s, r.map (fun _ => (flatLine (fmtSampling o) (rasterWidth (fmtRaster o)) (c / 2 ^ 20) (c / 2 ^ 10 % 1024) (c % 1024), false)))
  else
    let src := if lyKind ent = 1 then slFormat (s.slotEntry (lySlot ent)) else o
    match layerRow ent j (rasterHeight (fmtRaster src)) with
    | none => (s, none)
    | some r =>
      let cell := if lyKind ent = 1 then s.storeCell (lySlot ent) k r else s.fabricCell e l k r
      match cell with
      | none => (s.bump Reg.PXP_TRANSP_LINES, none)
      | some c =>
        if isFill c then (s.bump Reg.PXP_TRANSP_LINES, none)
        else if !layerCompat o c.format then
          (((s.bump Reg.PXP_TRANSP_LINES).bump Reg.PXP_LAYER_FMT_CNT).raise Src.PXP_LAYER_FORMAT, none)
        else (s, some (cellPix (fmtSampling o) c, c.flags.testBit 8 || c.flags.testBit 9))

/-- Column of the source for output sample x; none outside the placed rectangle or the source of w samples (R250). -/
def layerCol (e x w : Nat) : Option Nat :=
  let d := (x : Int) - lyPosX e
  let n := if lyCropW e = 0 then w - lyCropX e else lyCropW e
  if d < 0 ∨ (n : Int) ≤ d then none
  else
    let c := lyCropX e + d.toNat
    if c < w then some c else none

/-- A layer's luma at output sample x; none where it is transparent. -/
def layerLuma (e : Nat) (p : LayerLine) (x : Nat) : Option Nat :=
  match p with
  | none => none
  | some q => (layerCol e x q.1.c0.length).map (fun c => nthD q.1.c0 c 0)

/-! Blending (R252 to R254). -/

/-- The key of a luma value between the clips. -/
def keyClip (lo hi y : Nat) : Nat :=
  if y ≤ lo then 0 else if hi ≤ y then 1023 else ((y - lo) * 1023 + (hi - lo) / 2) / (hi - lo)

/-- Alpha of a layer at output sample x, whose source column is c (R252). -/
def layerAlpha (e : Nat) (p : PixLine) (keyY : Option Nat) (c : Nat) : Nat :=
  let k := match lyKey e with
    | 0 => 1023
    | 1 => nthD p.a c 1023
    | 2 => keyClip (lyLo e) (lyHi e) (nthD p.c0 c 0)
    | _ => match keyY with | some y => keyClip (lyLo e) (lyHi e) y | none => 0
  let i := if e.testBit 249 then 1023 - k else k
  (i * bits e 243 234 + 511) / 1023

/-- One component over what lies beneath (R253). -/
def blend (premult : Bool) (a f b : Nat) : Nat :=
  clamp 4 1019 (if premult then f + ((1023 - a) * b + 511) / 1023 else (a * f + (1023 - a) * b + 511) / 1023)

/-- Layer ent over the line so far (R252 to R254); the key layer's entry and line serve LINEAR. The answer says whether any alpha was not 0. -/
def layerOver (ent : Nat) (p : PixLine) (keyEnt : Nat) (key : LayerLine) (out : Nat) (b : PixLine) : PixLine × Bool :=
  let w := p.c0.length
  let pre := ent.testBit 252 && lyKind ent != 2
  let sub := if out = 0 then 2 else 1
  let al := fun x => (layerCol ent x w).map (fun c => (c, layerAlpha ent p (layerLuma keyEnt key x) c))
  let luma := (List.range b.c0.length).map (fun x => match al x with
    | some (c, a) => blend pre a (nthD p.c0 c 0) (nthD b.c0 x 0)
    | none => nthD b.c0 x 0)
  let chroma := fun (f g : List Nat) => (List.range g.length).map (fun i => match al (sub * i) with
    | some (c, a) => blend pre a (nthD f (c / sub) 0) (nthD g i 0)
    | none => nthD g i 0)
  (⟨luma, chroma p.c1 b.c1, chroma p.c2 b.c2, []⟩,
    (List.range b.c0.length).any (fun x => match al x with | some (_, a) => a != 0 | none => false))

/-- The layers of a line in order, each with its entry, over the line so far; the second answer says that a contributing layer carried an error. -/
def overAll (all : List (Nat × LayerLine)) (out : Nat) : List (Nat × LayerLine) → PixLine × Bool → PixLine × Bool
  | [], acc => acc
  | x :: r, acc =>
    match x.2 with
    | none => overAll all out r acc
    | some p =>
      let key := nthD all (lyKeyLayer x.1) (0, none)
      let y := layerOver x.1 p.1 key.1 key.2 out acc.1
      overAll all out r (y.1, acc.2 || (y.2 && p.2))

/-- The background line of an engine, clamped to 4 to 1,019. -/
def bgLine (o bg : Nat) : PixLine :=
  flatLine (fmtSampling o) (rasterWidth (fmtRaster o)) (clamp 4 1019 (bg / 2 ^ 20 % 1024)) (clamp 4 1019 (bg / 2 ^ 10 % 1024)) (clamp 4 1019 (bg % 1024))

/-! Frames (R247). -/

/-- Engine e starts to write frame k: every line of that stored frame is invalid, and the frame keeps the program now in force (R247, R255). While PXP microcode loads it writes none (R421). -/
def State.engineFrame (s : State) (e k : Nat) : State :=
  if !s.engineOn e then s
  else if s.upd.loading.contains 5 then s.setEngine e { s.engine e with frame := none }
  else
    let x := s.engine e
    s.setEngine e { x with
      frame := some k, cfg := s.engineCfg e 0, format := s.engineFormat e 0, bg := s.rdN (Reg.PXP_E_BG (e + 1)), layers := s.engineLayers e 0,
      valid := x.valid.filter (fun v => v.1 % 2 != k % 2) }

def execPxpFrameStart (e k : Nat) (s : State) : Host.Outcome State Fault Refusal := .next (s.engineFrame (e % 64) k)

/-- The lines of an engine's layers on output line j, with their entries, gathered in layer order. -/
def State.gather (s : State) (e o k j : Nat) : List (Nat × Nat) → List (Nat × LayerLine) → State × List (Nat × LayerLine)
  | [], acc => (s, acc)
  | x :: r, acc =>
    let t := s.layerLine e x.1 x.2 o k j
    t.1.gather e o k j r (acc ++ [(x.2, t.2)])

/-- Engine e composites output line j of the frame it writes and stores it (R246 to R254). -/
def State.lineComposite (s : State) (e j : Nat) : State :=
  let x := s.engine e
  match x.frame with
  | none => s
  | some k =>
    let o := x.format
    let r := fmtRaster o
    if !s.engineOn e || !engineFormatOk o || decide (rasterHeight r ≤ j) then s
    else
      let g := s.gather e o k j ((List.range x.layers.length).zip x.layers) []
      let mix := overAll g.2 (fmtSampling o) g.2 (bgLine o x.bg, false)
      let mark := mix.2 && s.bit Reg.PXP_CFG 1
      let line := rasterLine r j
      let m := videoNominal o (k * rasterTotal r + line - 1)
      let pay := packFields 10 (pixComponents (fmtSampling o) mix.1)
      let c := cellSealed { essence := 0x4400 + e, format := o, frameCount := m.frameCount, line := m.line, field2 := m.field2, seq := 0,
                            ptpTime := m.time % 2 ^ 64, flags := placeFlags m + b2n mark * 256, outputId := 0xFFFF, units := m.units, payload := pay,
                            pcrc := pcrcOf pay, dcrc := 0 }
      let slot := egSlot x.cfg
      let ent := s.slotEntry slot
      let off := cellOffset ent (k % 2) (lineIndex r line)
      if !s.storeOpen then g.1
      else
        let t := (((g.1.wrBytes (storeBase + off) (cellToBytes c)).granulesGood off (cellBytes c)).stackMove (slStack ent % 4) (cellBytes c))
        let u := t.setEngine e { x with valid := x.valid.filter (fun v => !(v.1 == k && v.2.1 == line)) ++ [(k, line, slot)] }
        let v := (u.bump Reg.PXP_LINES_OUT).bump (Reg.PXP_E_LINES (e + 1))
        let w := if mark then (v.bump Reg.PXP_ERR_LINES).raise Src.PXP_LAYER_ERR else v
        let src := w.rdN Reg.MRS_SRC
        if ((w.engine e).valid.filter (fun y => y.1 == k)).length = activeLines r ∧ mrsKind src = 1 ∧ mrsEngine src = e then w.mrsReady (k % 2) else w

def execPxpLineComposite (e line : Nat) (s : State) : Host.Outcome State Fault Refusal := .next (s.lineComposite (e % 64) line)

/-- A run of the active lists reads this essence. -/
def State.readByRuns (s : State) (essence : Nat) : Bool :=
  planeNos.any (fun p => (s.planeList p).any (fun d => dKind d == 1 && dSrc d == essence))

/-- The frame from which engine e presents a line: that of the frame before, or, while PXP microcode loads, the latest that was complete (R247, R421). -/
def State.presented (s : State) (e f line k : Nat) : Nat :=
  let l := (s.engine e).valid
  if !s.upd.loading.contains 5 || l.any (fun v => v.1 == k && v.2.1 == line) then k
  else ((l.map (·.1)).filter (fun j => (l.filter (fun v => v.1 == j)).length == activeLines (fmtRaster f))).foldl max 0

/-- Engine e presents the lines due in epoch ep: those of the stored frame before, with the times of this one; a line still invalid counts and raises PXP_ENGINE_LATE (R247). -/
def State.enginePresent (s : State) (ep e : Nat) : State :=
  let id := 0x4400 + e
  let f := s.engineFormat e 0
  if !s.readByRuns id then s
  else (s.nominals f ep).foldl (fun t n =>
    let k := t.presented e f n.line (frameOf f n.time - 1)
    match (t.engine e).valid.find? (fun v => v.1 == k && v.2.1 == n.line) with
    | some v =>
      let ent := t.slotEntry v.2.2
      let c := t.loadCell (cellOffset ent (k % 2) (lineIndex (fmtRaster f) n.line))
      t.assemble (engineDie e) { c with essence := id, frameCount := n.frameCount, ptpTime := n.time % 2 ^ 64, line := n.line, field2 := n.field2 } true
    | none => (t.bump Reg.PXP_LINES_LATE).raise Src.PXP_ENGINE_LATE) s

/-- The compositor at the start of an epoch: its sources present their lines, and cells that its sinks no longer need are dropped. -/
def State.pxpStart (s : State) : State :=
  let t := ((List.range 64).filter s.engineOn).foldl (fun u e => u.enginePresent s.epoch e) s
  { t with fabric := { t.fabric with egress := t.fabric.egress.filter (fun c =>
      !(inR 0xC400 0xC7FF c.dst && decide (c.release * s.epochNs + 100000000 < s.now))) } }

/-- The PXP leaves RUN: what its engines were writing is given up. -/
def State.pxpStop (s : State) : State :=
  { s with engines := s.engines.map (fun x => (x.1, { x.2 with frame := none, valid := [] })) }

/-! Flips (R255 to R260). -/

/-- Smallest frame flip epoch of a format that is not before E: e_k + 2 of some frame k (R255). -/
def State.frameFlip (s : State) (f E : Nat) : Nat :=
  let k0 := (E - 2) * s.epochNs * (fmtPeriod f).2 / (fmtPeriod f).1
  match ((List.range 6).map (fun i => s.frameEpoch f (k0 + i - 3) + 2)).find? (fun x => decide (E ≤ x)) with
  | some x => x
  | none => E

/-- Format whose frames time the flips of an engine: that of its new program, or of the active one where the new one has none. -/
def State.flipFormat (s : State) (e : Nat) : Nat :=
  if engineFormatOk (s.engineFormat e 0x8000) then s.engineFormat e 0x8000 else s.engineFormat e 0

/-- The epoch that a flip of engine e armed for E takes (R255); an engine without a valid format on either side flips at E itself (log entry 32). -/
def State.engineTarget (s : State) (e E : Nat) : Nat := if engineFormatOk (s.flipFormat e) then s.frameFlip (s.flipFormat e) E else E

/-- A field of a layer entry breaks Table 10.2, R250 or R252 for an engine of format o with the program's layers. -/
def layerBad (o : Nat) (all : List Nat) (slotFormat : Nat → Nat) (l ent : Nat) : Bool :=
  let key := nthD all (lyKeyLayer ent) 0
  let lumaKey := lyKey ent == 2 || lyKey ent == 3
  lyKind ent == 3 || ent % 2 ^ 50 != 0 || (lyKind ent == 1 && decide (6143 < lySlot ent)) ||
  (fmtSampling o == 0 && (lyPosX ent % 2 != 0 || lyCropX ent % 2 != 0 || lyCropW ent % 2 != 0)) ||
  (interlaced (fmtRaster o) && (lyPosY ent % 2 != 0 || lyCropY ent % 2 != 0)) ||
  (lyKey ent == 1 && (lyKind ent == 2 || (lyKind ent == 1 && !(fmtSampling (slotFormat (lySlot ent)) == 3 || fmtSampling (slotFormat (lySlot ent)) == 4)))) ||
  (lumaKey && (fmtSampling o == 2 || decide (lyHi ent ≤ lyLo ent))) ||
  (lyKey ent == 3 && (lyKeyLayer ent == l || !lyEn key))

/-- The engine may be enabled in a profile (R244). -/
def enginePermitted (profile e : Nat) : Bool :=
  match profile with | 1 => decide (e % 32 < 16) | 3 => decide (e % 32 < 8) | _ => true

/-- Checks 1 to 4 of Table 10.4 on engine e's program at a shift, against the slot plan at a shift and a profile: code and layer. -/
def State.pxpVerdict (s : State) (e shift slotShift profile : Nat) : Nat × Nat :=
  let cfg := s.engineCfg e shift
  let o := s.engineFormat e shift
  let all := s.engineLayers e shift
  let slot := fun j => s.entry (fstSlotAddr j + slotShift) 8
  let on := ((List.range all.length).zip all).filter (fun x => lyEn x.2)
  let out := slot (egSlot cfg)
  if !cfg.testBit 31 then (0, 0)
  else if !engineFormatOk o || decide (32 < egLayers cfg) then (1, 0)
  else match on.find? (fun x => layerBad o all (fun j => slFormat (slot j)) x.1 x.2) with
  | some x => (2, x.1)
  | none =>
    if !((slType out == 5 || slType out == 6) && slFrames out == 2 && slFormat out == o) then (3, 0)
    else match on.find? (fun x => lyKind x.2 == 1 &&
        (let y := slot (lySlot x.2)
         !((slType y == 5 || slType y == 6) && (slFrames y &&& (slFrames y - 1)) == 0 && slFrames y != 0 && layerCompat o (slFormat y)))) with
    | some x => (3, x.1)
    | none =>
      if !enginePermitted profile e || decide ((pxpBudget profile).1 < s.engineWeight e shift) then (4, 0)
      else match on.find? (fun x => decide (16 ≤ x.1) && (lyKind x.2 == 0 || profile != 2)) with
      | some x => (4, x.1)
      | none => (0, 0)

/-- A refusal of a flip of engine e (R256). -/
def State.pxpRefuse (s : State) (e code l : Nat) : State :=
  let t := s.wrN Reg.PXP_REFUSAL (code * 2 ^ 28 + e * 2 ^ 16 + l)
  (if code = 4 then t.bump Reg.PXP_BUDGET_CNT else t).raise Src.PXP_FLIP_REFUSED

/-- Fence n. -/
def fenceAddr (n : Nat) : Nat := pageAddr 12 0x50 + 0x1000 + 4 * n

/-- A layer's fence is met (R257). -/
def State.fenceMet (s : State) (ent : Nat) : Bool :=
  decide ((s.rdN (fenceAddr (lyFence ent)) + 2 ^ 32 - lyFenceVal ent) % 2 ^ 32 < 2 ^ 31)

/-- Readiness of engine e's new program and its first unmet fence (R257). -/
def State.fenceReady (s : State) (e : Nat) : Bool × Nat :=
  match (s.engineLayers e 0x8000).find? (fun x => lyEn x && lyFenceEn x && !s.fenceMet x) with
  | some x => (false, lyFence x)
  | none => (true, 0)

/-- A write to a fence (R257). -/
def State.fenceWrite (s : State) (n v : Nat) : State := (s.wrN (fenceAddr n) v).bump Reg.PXP_FENCE_WRITES

def execFenceWrite (m : Requester) (n v : Nat) (s : State) : Host.Outcome State Fault Refusal :=
  .next (s.writeAccess m (fenceAddr (n % 256)) v (fun t => t.fenceWrite (n % 256) v))

/-- Target epoch of a page that is armed. -/
def State.targetOfPage (s : State) (p : Nat) : Option Nat := (s.armed.find? (fun x => x.1 == p)).map (·.2)

/-- The exchange with the twin applies: FENCE_TWIN is 1 and there is a partner (R258). -/
def State.fenceTwin (s : State) : Bool := s.bit Reg.PXP_CFG 0 && !s.partnerless

/-- At the fence point of an armed flip its readiness is found and goes to the twin (R257, R258). -/
def State.fencePoint (s : State) (e : Nat) : State :=
  let p := enginePage e
  if s.shadowStatus p ≠ 2 then s
  else match s.targetOfPage p with
  | none => s
  | some T =>
    let r := s.fenceReady e
    let t := s.setEngine e { s.engine e with own := some (T, r.1, r.2) }
    if s.fenceTwin then t.sendCtl (.fence e r.1 (T % 2 ^ 24)) else t

def execFencePoint (e : Nat) (s : State) : Host.Outcome State Fault Refusal := .next (s.fencePoint (e % 64))

/-- A report of the twin's readiness (R258). -/
def State.fenceRx (s : State) (e : Nat) (ready : Bool) (epoch : Nat) : State :=
  let x := s.engine (e % 64)
  s.setEngine (e % 64) { x with partner := some (epoch % 2 ^ 24, ready) }

/-- An entry of PXP_FENCE_HIST: 0 deferred, 1 skipped, 2 twin report missing. -/
def State.fenceHist (s : State) (kind e fence T : Nat) : State :=
  s.wrWords (Reg.PXP_FENCE_HIST 0) ((kind * 2 ^ 30 + e * 2 ^ 24 + fence * 2 ^ 16 + T % 65536) :: s.rdWords (Reg.PXP_FENCE_HIST 0) 15)

/-- The pending flip of an engine is over: its deferrals and reports are forgotten. -/
def State.flipOver (s : State) (e : Nat) : State := s.setEngine e { s.engine e with deferrals := 0, own := none, partner := none }

/-- The target of an armed page moves (R260). -/
def State.moveTarget (s : State) (p T : Nat) : State :=
  ({ s with armed := mapIf (fun x => x.1 == p) (fun x => (x.1, T)) s.armed }).setFld (hSHADOW p) 23 0 (T % 2 ^ 24)

/-- Commit point of a flip of engine e armed for T (R256 to R260): 0 it commits, 1 it is refused, 2 it is deferred. -/
def State.pxpCommit (s : State) (e T : Nat) : State × Nat :=
  let v := s.pxpVerdict e 0x8000 0 s.profile
  if v.1 ≠ 0 then ((s.pxpRefuse e v.1 v.2).flipOver e, 1)
  else
    let x := s.engine e
    let own := match x.own with | some (t, r, n) => if t = T then (r, n) else s.fenceReady e | none => s.fenceReady e
    let report := match x.partner with | some (t, r) => if t = T % 2 ^ 24 then some r else none | none => none
    let missing := s.fenceTwin && report.isNone
    let ready := own.1 && (!s.fenceTwin || report == some true)
    let s1 := if missing then ((s.bump Reg.PXP_FENCE_TWIN_CNT).raise Src.PXP_FENCE_TWIN).fenceHist 2 e own.2 T else s
    if ready then (s1, 0)
    else if x.deferrals < s.fld Reg.PXP_FENCE_TIMEOUT 7 0 then
      let t := ((s1.bump Reg.PXP_DEFER_CNT).raise Src.PXP_FENCE_DEFER).fenceHist 0 e own.2 T
      let u := t.setEngine e { t.engine e with deferrals := x.deferrals + 1, own := some (T, own.1, own.2), partner := none }
      (u.moveTarget (enginePage e) (u.engineTarget e (T + 1)), 2)
    else
      let t := ((((s1.bump Reg.PXP_SKIP_CNT).wrN Reg.PXP_REFUSAL (5 * 2 ^ 28 + e * 2 ^ 16)).raise Src.PXP_FENCE_TIMEOUT).raise Src.PXP_FLIP_REFUSED).fenceHist 1 e own.2 T
      (t.flipOver e, 1)

/-- A flip of engine e is taken at its boundary. -/
def State.pxpFlip (s : State) (e : Nat) : State := (s.bump Reg.PXP_FLIPS).flipOver e

end Sys2Proof.Machine
end

