-- ==== Sys2Proof/Machine/Aud.lean ====
section
/-! DEFINITION. The audio engine: AES3 and word-select ports, elastic buffers and their slips, channel maps, switching and fades (R278 to R298). -/

namespace Sys2Proof.Machine

/-! Ports. -/

def State.setPort (s : State) (x : Nat) (p : AudPort) : State := { s with aud := { s.aud with ports := kput s.aud.ports x p } }

/-- Sampling frequency of a port. -/
def State.portHz (s : State) (x : Nat) : Nat := audioHz (cfgRate (s.portCfg x))

/-- A port is enabled, the AUD runs and its rate lies in the family (R278). -/
def State.portWorks (s : State) (x : Nat) : Bool := s.running 14 && (s.portCfg x).testBit 31 && s.inFamily (cfgRate (s.portCfg x))

/-- The port uses an elastic buffer: ASYNC of an AES3 input, or a word-select port without MASTER (R281, R288). -/
def State.portElastic (s : State) (x : Nat) : Bool := if x < 64 then (s.portCfg x).testBit 30 else !(s.portCfg x).testBit 30

/-- Counter c of a port's page counts one. -/
def State.portCount (s : State) (x c : Nat) : State :=
  s.bump (hid (if x < 64 then Reg.AUD_A_CNT (x + 1) else Reg.AUD_W_CNT (portPage x)) c)

/-- An input event (bit 16) or output event (bit 17) of a port's page. -/
def State.portEvent (s : State) (x : Nat) : State := s.stick (pageAddr 14 (portPage x)) (if 68 ≤ x then 17 else 16)

/-- Counter of repeats and of discards of a port (Tables 12.7, 12.10). -/
def repeatCnt (x : Nat) : Nat := if x < 64 then 3 else if x < 68 then 2 else 4
def discardCnt (x : Nat) : Nat := if x < 64 then 4 else if x < 68 then 3 else 5

/-- A slip of a port: a repeat or a discard counts and raises AUD_SLIP. -/
def State.slip (s : State) (x c : Nat) : State := ((s.portCount x c).portEvent x).raise Src.AUD_SLIP

/-- Word 0 with V set, as silence of a failed input. -/
def mutedWord : Nat := 0x80
/-- A word with V set, or with Z cleared. -/
def withV (w : Nat) : Nat := if w.testBit 7 then w else w + 128
def withoutZ (w : Nat) : Nat := if w.testBit 4 then w - 16 else w

/-- The elastic watermark of a port's page sees its fill: 28 frames, hysteresis 4. -/
def State.fifoWm (s : State) (x : Nat) : State :=
  if x < 64 then s.watermark (Reg.AUD_A_FIFO_WM (x + 1)) (s.audPort x).frames.length 28 4
  else
    let a := 64 + x % 4
    s.watermark (Reg.AUD_W_FIFO_WM (portPage x)) (max (s.audPort a).frames.length (s.audPort (a + 4)).frames.length) 28 4

/-- A pair is assigned to instant n. -/
def State.assignPair (s : State) (x n w0 w1 : Nat) : State :=
  let p := s.audPort x
  s.setPort x { p with hist := ((n, w0, w1) :: p.hist.filter (fun h => h.1 != n)).take 1024 }

/-- A frame joins the elastic buffer; a full one discards its oldest frame (R281). -/
def State.elasticPut (s : State) (x : Nat) (f : AudFrame) : State :=
  let p := s.audPort x
  if p.frames.length < 32 then (s.setPort x { p with frames := p.frames ++ [f] }).fifoWm x
  else ((s.setPort x { p with frames := p.frames.drop 1 ++ [f], slipped := true }).slip x (discardCnt x)).fifoWm x

/-- This device decides the slips of elastic ports: as timing master, without FOLLOW_EN, or without a partner (R282). -/
def State.slipsAlone (s : State) : Bool := s.isMaster || s.partnerless || !s.bit Reg.AUD_CFG 0

/-- The timing master tells the twin which frame it assigned to instant n. -/
def State.tellSlip (s : State) (x n stamp : Nat) : State := if s.isMaster then s.sendCtl (.audSlip x n stamp) else s

/-- The port's own decision at instant n (R281): taking begins with 16 frames, the oldest is taken, an empty buffer repeats. -/
def State.takeAlone (s : State) (x n : Nat) : State :=
  let p := s.audPort x
  if !p.taking && decide (p.frames.length < 16) then s.assignPair x n mutedWord mutedWord
  else
    match p.frames with
    | f :: r =>
      let t := (s.setPort x { p with frames := r, last := f, taking := true, slipped := false }).fifoWm x
      (if !p.taking || p.slipped then t.tellSlip x n f.stamp else t).assignPair x n f.w0 f.w1
    | [] =>
      let t := (s.setPort x { p with slipped := false }).tellSlip x n p.last.stamp
      (t.slip x (repeatCnt x)).assignPair x n (withoutZ p.last.w0) (withoutZ p.last.w1)

/-- The follower misses a decision: it counts, raises AUD_FOLLOW_MISS and decides alone (R282). -/
def State.followMiss (s : State) (x n : Nat) : State :=
  ((s.bump Reg.AUD_FOLLOW_MISS_CNT).raise Src.AUD_FOLLOW_MISS).takeAlone x n

/-- Instant n of an elastic port (R281, R282). -/
def State.takeElastic (s : State) (x n : Nat) : State :=
  let hz := s.portHz x
  if s.slipsAlone then s.takeAlone x n
  else
    let p := s.audPort x
    match s.aud.slips.find? (fun m => m.1 == x && m.2.1 == n) with
    | some m =>
      let near := fun (f : AudFrame) => decide ((max f.stamp m.2.2.1 - min f.stamp m.2.2.1) * 2 * hz ≤ 1000000000)
      if n * 1000000000 / hz < m.2.2.2 + 1000000 then s.followMiss x n
      else match p.frames.findIdx? near with
        | some i =>
          match p.frames[i]? with
          | some f => ((s.setPort x { p with frames := p.frames.drop (i + 1), last := f, taking := true, slipped := false }).fifoWm x).assignPair x n f.w0 f.w1
          | none => s
        | none =>
          if p.taking && near p.last then (s.slip x (repeatCnt x)).assignPair x n (withoutZ p.last.w0) (withoutZ p.last.w1) else s.followMiss x n
    | none =>
      if p.taking then
        (match p.frames with
          | f :: r => ((s.setPort x { p with frames := r, last := f, slipped := false }).fifoWm x).assignPair x n f.w0 f.w1
          | [] => s.followMiss x n)
      else if 16 ≤ p.frames.length then s.followMiss x n
      else s.assignPair x n mutedWord mutedWord

/-! AES3 inputs (R280 to R284). -/

/-- CRC of a channel-status block's first 23 bytes, as its byte 23 (AES3: PRESUMED, log entry 33). -/
def csCrc (l : List Byte) : Nat := (l.take 23).foldl (crcByte 0xB8) 0xFF

/-- Bytes of a block from its bits, least significant first. -/
def bytesOfBits : Nat → List Bool → List Byte
  | 0, _ => []
  | n + 1, l => BitVec.ofNat 8 (((List.range 8).map (fun i => b2n (l.getD i false) * 2 ^ i)).sum) :: bytesOfBits n (l.drop 8)

/-- A complete block of 192 frames with a right CRCC (R284). -/
def csBlock (l : List Bool) : Option (List Byte) :=
  let b := bytesOfBits 24 l
  if l.length = 192 ∧ csCrc b = (b.getD 23 0#8).toNat then some b else none

/-- Address of the captured block of a subframe of an input. -/
def csAddr (p sub : Nat) : Nat := pageAddr 14 0x25 + 0x1000 + 64 * p + 32 * sub

/-- A captured block is kept. -/
def State.csKeep (s : State) (p sub : Nat) (b : List Byte) : State :=
  s.wrWords (csAddr p sub) ((List.range 6).map (fun i => ofBytesLE ((b.drop (4 * i)).take 4)))

/-- Channel-status bits of a frame join the block; a Z preamble closes the one before (R284). -/
def State.csFrame (s : State) (p : Nat) (z c0 c1 : Bool) : State :=
  let x := s.audPort p
  if !z then (if x.csOn then s.setPort p { x with cs := (x.cs ++ [(c0, c1)]).take 200 } else s)
  else
    let t := s.setPort p { x with cs := [(c0, c1)], csOn := true }
    if !x.csOn then t
    else
      match csBlock (x.cs.map (·.1)), csBlock (x.cs.map (·.2)) with
      | some a, some b => ((t.csKeep p 0 a).csKeep p 1 b).setPort p { t.audPort p with csValid := true }
      | a, b =>
        let u := match a with | some l => t.csKeep p 0 l | none => t
        let v := match b with | some l => u.csKeep p 1 l | none => u
        ((v.portCount p 5).portEvent p).raise Src.AUD_CS_CRC

/-- A synchronous frame goes to its instant (R280). -/
def State.syncFrame (s : State) (p w0 w1 : Nat) : State :=
  let hz : Int := s.portHz p
  let a : Int := (s.now : Int) - signed 24 (s.fld (Reg.AUD_A_IN_OFFSET (p + 1)) 23 0)
  let n := ((2 * a * hz + 1000000000) / 2000000000).toNat
  let ph := a - (n * 1000000000 / hz)
  let out := decide (1000000000 < 4 * ph * hz ∨ 4 * ph * hz < -1000000000)
  let s1 := (s.wrN (Reg.AUD_A_IN_PHASE (p + 1)) (unsigned 32 ph)).setPort p { s.audPort p with phaseOut := out }
  let s2 := if out then (s1.portEvent p).raise Src.AUD_AES_PHASE else s1
  let s3 := if (s2.audPort p).hist.any (fun h => h.1 == n) then s2.slip p 4 else s2
  (s3.assignPair p n w0 w1).setPort p { (s3.assignPair p n w0 w1).audPort p with last := ⟨s.now, w0, w1⟩ }

/-- An AES3 input frame arrives: its words, parity errors of the subframes, a biphase violation or missing preamble, and the measured rate error in ppm (R280 to R284). -/
def State.aesFrame (s : State) (p w0 w1 : Nat) (par0 par1 bad : Bool) (ppm : Int) : State :=
  if !s.portWorks p then s
  else if bad then ((s.portCount p 2).portEvent p).raise Src.AUD_AES_ERR
  else
    let x := s.audPort p
    let far := decide (1000 < ppm ∨ ppm < -1000)
    let s0 := (s.portCount p 0).setPort p { x with ppm := ppm, st := if far then 3 else 2 }
    let s1 := if far && x.st != 3 then ((s0.portCount p 7).portEvent p).raise Src.AUD_AES_LOSS else s0
    let n := b2n par0 + b2n par1
    let s2 := (List.range n).foldl (fun t _ => ((t.portCount p 1).portEvent p).raise Src.AUD_AES_ERR) s1
    let v0 := if par0 then withV x.last.w0 else w0
    let v1 := if par1 then withV x.last.w1 else w1
    let s3 := if n = 0 then s2.csFrame p (w0.testBit 4) (w0.testBit 5) (w1.testBit 5) else s2
    if s3.portElastic p then s3.elasticPut p ⟨s.now, v0, v1⟩ else s3.syncFrame p v0 v1

def execAesFrameRx (p w0 w1 : Nat) (par0 par1 bad : Bool) (ppm : Int) (s : State) : Host.Outcome State Fault Refusal :=
  .next (s.aesFrame (p % 64) (w0 % 2 ^ 32) (w1 % 2 ^ 32) par0 par1 bad ppm)

/-- No valid preamble for 8 frame periods: ACQUIRE, and 0 with V set until relock (R283). -/
def State.aesLoss (s : State) (p : Nat) : State :=
  let x := s.audPort p
  if !s.portWorks p || x.st != 2 then s
  else
    let t := s.setPort p { x with st := 1, frames := [], taking := false, cs := [], csOn := false }
    (((t.portCount p 7).portEvent p).raise Src.AUD_AES_LOSS).fifoWm p

def execAesLossTimeout (p : Nat) (s : State) : Host.Outcome State Fault Refusal := .next (s.aesLoss (p % 64))

/-! Sinks (R293). -/

/-- Latency of the output group that a sink holds; 0 where the image states none. -/
def State.latencyOf (s : State) (id : Nat) : Nat := match s.outputDef id with | some o => o.latency | none => 0

/-- The sink cell of block b, if a cell of the sink's FORMAT that is no fill has been released. -/
def State.sinkCell (s : State) (k b : Nat) : Option LineCell :=
  let e := s.audSink k 0
  match s.releasedAt (agId e) (audioNominal (asFormat e) b).time with
  | some c => if c.format = asFormat e ∧ isFill c = false then some c else none
  | none => none

/-- The word of channel c of a sink at instant n. -/
def State.sinkWord (s : State) (k c n : Nat) : Nat :=
  let f := asFormat (s.audSink k 0)
  let p := sampleBlock (audioHz (fmtAudioRate f)) n
  match s.sinkCell k p.1 with
  | some x => nthD (unpackFields 32 (x.units * fmtChannels f) x.payload) (p.2 * fmtChannels f + c) mutedWord
  | none => mutedWord

/-- The sink cells of a block that a group draws on are judged once each: fill, missing and wrong FORMAT count, the last raises AUD_SINK_FORMAT. -/
def State.sinkJudge (s : State) (b k : Nat) : State :=
  if s.aud.counted.contains (k, b) then s
  else
    let e := s.audSink k 0
    let t := { s with aud := { s.aud with counted := ((k, b) :: s.aud.counted).take 8192 } }
    match s.releasedAt (agId e) (audioNominal (asFormat e) b).time with
    | some c => if c.format ≠ asFormat e then (t.bump Reg.AUD_SINK_FILL).raise Src.AUD_SINK_FORMAT else if isFill c then t.bump Reg.AUD_SINK_FILL else t
    | none => t.bump Reg.AUD_SINK_FILL

/-- A sink cell of a block carries IN_ERR or a fill flag, or has not come. -/
def State.sinkErr (s : State) (k b : Nat) : Bool :=
  let e := s.audSink k 0
  match s.releasedAt (agId e) (audioNominal (asFormat e) b).time with
  | some c => c.flags.testBit 8 || isFill c
  | none => true

/-! Channels (R290 to R296). -/

/-- The word of a source code (KIND, SRC, SUB) at instant n. -/
def State.sourceWord (s : State) (code n : Nat) : Nat :=
  let kind := code / 2 ^ 15
  let src := code / 64 % 512
  let sub := code % 64
  match kind with
  | 0 => 0
  | 1 => s.sinkWord src sub n
  | _ =>
    let x := if kind = 2 then src % 64 else 64 + src % 4
    if !s.portWorks x || (s.audPort x).st != 2 then mutedWord
    else match kget (s.audPort x).hist n with | some w => if sub = 0 then w.1 else w.2 | none => mutedWord

/-- A source carries non-PCM data: its sink's FORMAT says so, or the captured channel status of its input (R296). -/
def State.sourceNonPcm (s : State) (code : Nat) : Bool :=
  match code / 2 ^ 15 with
  | 1 => fmtNonPcm (asFormat (s.audSink (code / 64 % 512) 0))
  | 2 => (s.audPort (code / 64 % 64)).csValid && s.bit (csAddr (code / 64 % 64) (code % 2)) 1
  | _ => false

/-- One faded sample (R296): k-th of L from the switch, old O and new N as signed 24-bit integers, floor towards minus infinity. -/
def fadeSample (L k O N : Nat) : Nat :=
  unsigned 24 ((signed 24 N * (k + 1) + signed 24 O * ((L : Int) - k - 1) + (L / 2 : Nat)) / L)

/-- The word of channel entry j at instant n (R295, R296). -/
def State.chanWord (s : State) (j n : Nat) : Nat :=
  let x := (kget s.aud.chans j).getD {}
  match x.switches.find? (fun w => decide (w.at' ≤ n)) with
  | none => match x.switches.getLast? with | some w => s.sourceWord w.old n | none => s.sourceWord x.src n
  | some w =>
    let new := s.sourceWord w.new n
    let k := n - w.at'
    if w.fade ≤ k then new
    else
      let old := s.sourceWord w.old n
      fadeSample w.fade k (old / 256) (new / 256) * 256 + new % 128 + (if new.testBit 7 || old.testBit 7 then 128 else 0)

/-- Channel entry j at instant n of its group's rate: it switches at the first instant at or after AT and the flip (R295). -/
def State.chanInstant (s : State) (nonPcm : Bool) (hz n j : Nat) : State :=
  let e := s.chanEntry j 0
  let x := (kget s.aud.chans j).getD {}
  let code := chCode e
  if code = x.src then
    (if (kget s.aud.chans j).isNone then s else { s with aud := { s.aud with chans := kput s.aud.chans j { x with last := n } } })
  else if chAt e * hz ≤ n * 1000000000 ∧ s.aud.flipAt * hz ≤ n * 1000000000 then
    let cut := nonPcm || s.sourceNonPcm x.src || s.sourceNonPcm code
    let L := if cut then 0 else chFade e
    let y : ChanRun := { src := code, switches := ((⟨n, x.src, code, L⟩ : ChanSwitch) :: x.switches).take 16, last := n }
    let t := ({ s with aud := { s.aud with chans := kput s.aud.chans j y } }).bump Reg.AUD_SWITCHES
    if L = 0 then t else t.bump Reg.AUD_FADES
  else { s with aud := { s.aud with chans := kput s.aud.chans j { x with last := n } } }

/-- Enabled source groups with their entries. -/
def State.sourceGroups (s : State) (shift : Nat) : List (Nat × Nat) :=
  ((List.range 512).map (fun g => (g, s.audSource g shift))).filter (fun x => agEn x.2)

/-- Enabled sink groups with their entries. -/
def State.sinkGroups (s : State) (shift : Nat) : List (Nat × Nat) :=
  ((List.range 512).map (fun k => (k, s.audSink k shift))).filter (fun x => agEn x.2)

/-- Channel entries of a source group. -/
def groupChans (e : Nat) : List Nat := (List.range (agChannels e)).map (fun c => (agFirst e + c) % 4096)

/-- Grid instants from sample instant t to the frame that sends it: a latency in samples, rounded up (R285, R288). -/
def latencySamples (hz lat : Nat) : Nat := ceilDiv (lat * hz) 1000000000

/-- The pair of an output port for the frame that starts at instant n. -/
def State.outPair (s : State) (x n : Nat) : Nat × Nat :=
  let w := s.portOut x 0
  let k := w / 2 ^ 16 % 512
  let t := n - latencySamples (s.portHz x) (s.latencyOf (agId (s.audSink k 0)))
  (s.sinkWord k (w % 64) t, s.sinkWord k (w % 64 + 1) t)

/-- Instant n of an input port of the rate: an elastic port takes a frame; a synchronous one repeats where no frame came (R280, R281). -/
def State.portInstant (s : State) (n x : Nat) : State :=
  if !s.portWorks x then s
  else if 68 ≤ x then
    (if s.portElastic x && (s.portOut x 0).testBit 31 then
      let w := s.outPair x n
      s.elasticPut x ⟨s.now, w.1, w.2⟩
    else s)
  else if (s.audPort x).st ≠ 2 then s
  else if s.portElastic x then s.takeElastic x n
  else if 64 ≤ x ∨ (s.audPort x).hist.any (fun h => h.1 == n) = true then s
  else
    let l := (s.audPort x).last
    (s.slip x 3).assignPair x n (withoutZ l.w0) (withoutZ l.w1)

/-- A sample instant of a rate (R279 to R282, R295). -/
def State.sampleInstant (s : State) (rate n : Nat) : State :=
  if !s.running 14 then s
  else
    let ports := (List.range 72).filter (fun x => cfgRate (s.portCfg x) == rate)
    let t := ports.foldl (fun u x => u.portInstant n x) s
    let groups := (t.sourceGroups 0).filter (fun g => agRate g.2 == rate)
    let u := groups.foldl (fun v g => (groupChans g.2).foldl (fun w j => w.chanInstant (agNonPcm g.2) (audioHz rate) n j) v) t
    { u with aud := { u.aud with slips := u.aud.slips.filter (fun m => !(cfgRate (s.portCfg m.1) == rate && decide (m.2.1 ≤ n))) } }

def execAudSampleInstant (rate n : Nat) (s : State) : Host.Outcome State Fault Refusal := .next (s.sampleInstant (rate % 7) n)

/-- A slip of the timing master arrives (R282). -/
def State.audSlipRx (s : State) (x n stamp : Nat) : State :=
  { s with aud := { s.aud with slips := (⟨x % 72, n, stamp, s.now⟩ :: s.aud.slips.filter (fun m => !(m.1 == x % 72 && m.2.1 == n))).take 1024 } }

/-- The AUD writes the cell of source group g built from the samples of block b (R290 to R294). -/
def State.audSourceCell (s : State) (g b : Nat) : State :=
  let e := s.audSource g 0
  if !s.running 14 || !agEn e then s
  else
    let f := agFormat e
    let hz := audioHz (agRate e)
    let m := audioNominal f b
    let n0 := firstSample hz (b * 125000)
    let chans := groupChans e
    let words := ((List.range m.units).map (fun i => chans.map (fun j => s.chanWord j (n0 + i)))).flatten
    let srcOf := fun (j : Nat) => ((kget s.aud.chans j).getD {}).src
    let sinks := ((chans.filter (fun j => srcOf j / 2 ^ 15 == 1)).map (fun j => srcOf j / 64 % 512)).eraseDups
    let err := s.bit Reg.AUD_CFG 1 && sinks.any (fun k => s.sinkErr k b)
    let d := if agShuffle e then s.fld Reg.AUD_SHUF_DELAY 10 0 else 0
    let t := sinks.foldl (fun u k => u.sinkJudge b k) s
    let c : LineCell := { essence := agId e, format := f, frameCount := (b + d / 125) % 2 ^ 24, line := 0, field2 := false, seq := 0,
                          ptpTime := (m.time + d * 1000) % 2 ^ 64, flags := placeFlags m + b2n err * 256, outputId := 0xFFFF, units := m.units,
                          payload := packFields 32 words, pcrc := 0, dcrc := 0 }
    t.assemble 1 c true

def execAudSourceCell (g b : Nat) (s : State) : Host.Outcome State Fault Refusal := .next (s.audSourceCell (g % 512) b)

/-! AES3 outputs (R285, R286). -/

/-- The template of an output with its CRCC. -/
def State.csTemplate (s : State) (p : Nat) : List Byte :=
  let b := ((s.rdWords (pageAddr 14 0x24 + 0x1000 + 32 * p) 6).flatMap (bytesLE 4)).take 23
  b ++ [BitVec.ofNat 8 (csCrc b)]

/-- Parity bit that makes the bits of a word, V, U and C even. -/
def aesParity (w : Nat) : Bool := ((List.range 27).filter (fun i => (w / 32).testBit i)).length % 2 == 1

/-- The AES3 frame of an output that starts at grid instant n (R285, R286). -/
def State.aesOut (s : State) (p n : Nat) : State :=
  let w := s.portOut p 0
  if !s.running 14 || !w.testBit 31 || !s.inFamily (cfgRate (s.portCfg p)) then s
  else
    let pair := s.outPair p n
    let x := (kget s.aud.outs p).getD {}
    let z := pair.1.testBit 4
    let block := if z && x.on then (match csBlock x.acc with | some b => some b | none => x.block) else x.block
    let acc := if z then [pair.1.testBit 5] else if x.on then (x.acc ++ [pair.1.testBit 5]).take 200 else []
    let start := n % 192 == 0
    let cur := if start then (if w.testBit 30 then some (block.getD (s.csTemplate p)) else some (s.csTemplate p)) else x.cur
    let cs := (cur.getD (s.csTemplate p)).getD (n % 192 / 8) 0#8
    let c := cs.toNat.testBit (n % 8)
    let word := fun (v : Nat) => v / 64 * 64 + b2n c * 32 + b2n start * 16
    let t := { s with aud := { s.aud with outs := kput s.aud.outs p { acc := acc, on := x.on || z, block := block, cur := cur } } }
    (t.portCount p 6).send (.aes n p (word pair.1) (word pair.2) (aesParity (word pair.1)) (aesParity (word pair.2)))

def execAesFrameTx (p n : Nat) (s : State) : Host.Outcome State Fault Refusal := .next (s.aesOut (p % 64) n)

/-! Word-select ports (R287, R288). -/

/-- Slot width of a word-select port. -/
def slotBits (cfg : Nat) : Nat := if cfg.testBit 28 then 32 else 24

/-- The pair of one sample period of word-select port w, in the slots opened at instant n, with the BCLK periods counted and their rate error in ppm. -/
def State.wsFrame (s : State) (w n left right bclks : Nat) (ppm : Int) : State :=
  let x := 64 + w
  let cfg := s.portCfg x
  if !s.portWorks x then s
  else if !cfg.testBit 30 && (decide (1000 < ppm ∨ ppm < -1000) || bclks != 2 * slotBits cfg) then
    (((s.setPort x { s.audPort x with st := 3, frames := [], taking := false }).portCount x 6).portEvent x).raise Src.AUD_WS_CLOCK
  else
    let word := fun (v : Nat) => (if cfg.testBit 28 then v / 256 % 2 ^ 24 else v % 2 ^ 24) * 256
    let t := (s.portCount x 0).setPort x { s.audPort x with st := 2 }
    if cfg.testBit 30 then t.assignPair x (n - 1) (word left) (word right)
    else t.elasticPut x ⟨s.now, word left, word right⟩

def execWsFrameRx (w n left right bclks : Nat) (ppm : Int) (s : State) : Host.Outcome State Fault Refusal :=
  .next (s.wsFrame (w % 4) n left right bclks ppm)

/-- The pair of one sample period of word-select port w leaves in the slots opened at instant n. -/
def State.wsOut (s : State) (w n : Nat) : State :=
  let x := 68 + w
  let cfg := s.portCfg x
  if !s.portWorks x || !(s.portOut x 0).testBit 31 || (s.audPort (64 + w)).st == 3 then s
  else
    let t := if cfg.testBit 30 then (let p := s.outPair x n; s.assignPair x n p.1 p.2) else s.takeElastic x n
    let pair := (kget (t.audPort x).hist n).getD (mutedWord, mutedWord)
    let slot := fun (v : Nat) => if cfg.testBit 28 then v / 256 * 256 else v / 256
    (t.portCount x 1).send (.ws n w (slot pair.1) (slot pair.2))

def execWsFrameTx (w n : Nat) (s : State) : Host.Outcome State Fault Refusal := .next (s.wsOut (w % 4) n)

/-! Map flips (R297). -/

/-- An enabled SFE receive context or FMAC receive flow produces the essence, in the tables that will be in force. -/
def State.inputProduced (s : State) (x : Nat) : Bool :=
  s.regs.any (fun c =>
    let a := c.1
    let o := offOf a
    if 2 ^ 32 ≤ a ∨ c.2.toNat < 2 ^ 31 then false
    else if blockOf a = 7 ∧ inR 0x1000 0x11FF o ∧ o % 16 = 12 then ctxAud (s.entry (a - 12) 4) == x
    else if blockOf a = 8 ∧ (if s.shadowHeld (pageOf a) then inR 0xA000 0xBFFF o else inR 0x2000 0x3FFF o) ∧ o % 32 = 28 then
      s.rdN (a - 4) / 65536 == x && bits c.2.toNat 29 27 != 4
    else false)

/-- The channel entry breaks BAD_CHANNEL in its group. -/
def State.chanBad (s : State) (shift : Nat) (g : Nat) (j : Nat) : Bool :=
  let e := s.chanEntry j shift
  let src := chSrc e
  match chKind e with
  | 0 => false
  | 1 =>
    let k := s.audSink src shift
    !agShuffle g || !agEn k || decide (fmtChannels (asFormat k) ≤ chSub e) || fmtAudioRate (asFormat k) != agRate g
  | 2 => decide (63 < src) || !(s.portCfg src).testBit 31 || decide (1 < chSub e) || cfgRate (s.portCfg src) != agRate g
  | 3 => decide (3 < src) || !(s.portCfg (64 + src)).testBit 31 || decide (1 < chSub e) || cfgRate (s.portCfg (64 + src)) != agRate g
  | _ => true

/-- The output word of port x (AES3 0 to 63, word-select 64 to 67) breaks BAD_PORT. -/
def State.outPortBad (s : State) (shift x : Nat) : Bool :=
  let w := s.portOut x shift
  let k := s.audSink (w / 2 ^ 16 % 512) shift
  let f := asFormat k
  let r := cfgRate (s.portCfg x)
  w.testBit 31 && (!agEn k || decide (fmtChannels f ≤ w % 64 + 1) || fmtAudioRate f != r || !s.inFamily r)

/-- The first failing check of Table 12.5 over the map at a shift, with the latencies of the outputs in force; code 0 where all pass. -/
def State.audVerdict (s : State) (shift : Nat) (latency : Nat → Nat) : Nat × Nat :=
  let gs := s.sourceGroups shift
  let ks := s.sinkGroups shift
  let badGroup := gs.find? (fun x => !inR 0x1000 0x17FF (agId x.2) || agRate x.2 == 7 || decide (4096 < agFirst x.2 + agChannels x.2))
  let badSink := ks.find? (fun x => !inR 0x9000 0x97FF (agId x.2) || fmtKind (asFormat x.2) != 1 || !formatValid (asFormat x.2))
  match badGroup, badSink with
  | some x, _ => (1, x.1)
  | none, some x => (1, x.1)
  | none, none =>
    match gs.findSome? (fun x => (groupChans x.2).find? (fun j => s.chanBad shift x.2 j)) with
    | some j => (2, j)
    | none =>
      let clash := gs.find? (fun x => gs.any (fun y => decide (y.1 < x.1) && (agId y.2 == agId x.2 ||
        (decide (agFirst y.2 < agFirst x.2 + agChannels x.2) && decide (agFirst x.2 < agFirst y.2 + agChannels y.2)))))
      match clash, ks.find? (fun x => ks.any (fun y => decide (y.1 < x.1) && agId y.2 == agId x.2)) with
      | some x, _ => (3, x.1)
      | none, some x => (3, x.1)
      | none, none =>
        match gs.find? (fun x => s.inputProduced (agId x.2)) with
        | some x => (4, x.1)
        | none =>
          let d := s.fld Reg.AUD_SHUF_DELAY 10 0 * 1000
          let late := gs.findSome? (fun x => if agShuffle x.2 then (groupChans x.2).find? (fun j =>
            let e := s.chanEntry j shift
            chKind e == 1 && decide (d < latency (agId (s.audSink (chSrc e) shift)))) else none)
          match late with
          | some j => (5, j)
          | none =>
            match (List.range 68).find? (fun x => s.outPortBad shift x) with
            | some x => (6, x)
            | none => (0, 0)

/-- The AUD's check of its shadow at a commit point: it passes, or AUD_REFUSAL takes the code and AUD_MAP_REFUSED rises. -/
def State.audCheck (s : State) : State × Bool :=
  let r := s.audVerdict 0x8000 s.latencyOf
  if r.1 = 0 then (s, true) else ((s.wrN Reg.AUD_REFUSAL (r.1 * 2 ^ 28 + r.2 % 4096)).raise Src.AUD_MAP_REFUSED, false)

/-- The map flips at a boundary: it governs every instant from there on. -/
def State.audFlip (s : State) : State := { s with aud := { s.aud with flipAt := s.now } }

/-- The AUD leaves RUN: its buffers are given up. -/
def State.audStop (s : State) : State := { s with aud := { s.aud with ports := [], outs := [], slips := [], counted := [] } }

end Sys2Proof.Machine
end

