-- ==== Sys2Proof/Machine/Ref.lean ====
section
/-! DEFINITION. The timing unit: the timing history, the system DPLL with its slew limits and holdover, reference candidates and their selection (R300 to R323, R338). -/

namespace Sys2Proof.Machine

/-! ### History (R338, Table 13.9) -/

/-- Entries of the log move down by one; the newest is written. -/
def State.pushLog (s : State) (v : Nat) : State :=
  ((List.range 15).foldl (fun t i => t.wrN (Reg.RTU_H_LOG (15 - i)) (s.rdN (Reg.RTU_H_LOG (14 - i)))) s).wrN (Reg.RTU_H_LOG 0) v

/-- History event n concerning candidate or port c. -/
def State.hist (s : State) (n c : Nat) : State :=
  let t := s.stick (pageAddr 5 0x20) (16 + n)
  let u := if n = 0 then t.wr64 Reg.RTU_H_LAST_SW_LO Reg.RTU_H_LAST_SW_HI s.now
    else if n = 1 then t.wr64 Reg.RTU_H_LAST_HOLD_LO Reg.RTU_H_LAST_HOLD_HI s.now else t
  if s.bit Reg.RTU_H_CFG n then
    (u.pushLog (n * 2 ^ 28 + c % 16 * 2 ^ 24 + s.now / 1000000000 % 2 ^ 24)).bump Reg.RTU_H_COUNT
  else u

/-- History event 6 where the QL of the selected candidate has changed. -/
def State.qlChange (s : State) (c old : Nat) : State :=
  if s.ref.sel = some c ∧ s.candQl c ≠ old then s.hist 6 c else s

/-! ### The frequency word over time (R319 to R321) -/

/-- Stretches of y no older than AVG_S. -/
def State.trackKept (s : State) : List (Nat × Nat × Int) :=
  s.ref.track.filter (fun x => decide (s.now ≤ x.2.1 + 1000000000 * s.fld Reg.RTU_HOLD_CFG 15 0))

/-- The timing unit brought to this instant: y, the draw-down, time clamped and the stretch of y since the last event (R319 to R321). -/
def State.refSync (s : State) : State :=
  let y := s.yNow
  let d := s.drawNow
  let slow := s.slewing
  let dt := s.now - s.ref.yAt
  let range := s.yRange
  let t := { s with ref := { s.ref with
    y := y, yAt := s.now, pbo := d.1, add := d.2,
    clampFrom := if slow then (match s.ref.clampFrom with | some x => some x | none => some s.ref.yAt) else none,
    clampNs := s.ref.clampNs + (if slow then dt else 0),
    track := if s.tracking && decide (0 < dt) then (s.ref.yAt, s.now, (s.ref.y + y) / 2) :: s.trackKept else s.ref.track } }
  let u := if range = s.rdN Reg.RTU_H_FREQ_RANGE then t else t.wrN Reg.RTU_H_FREQ_RANGE range
  if slow && s.ref.clampFrom.isNone then u.hist 8 (s.ref.sel.getD 0) else u

/-- Mean of y over the last AVG_S seconds of tracking, and whether that long was available (R321). -/
def State.holdMean (s : State) : Int × Bool :=
  let from' := s.now - 1000000000 * s.fld Reg.RTU_HOLD_CFG 15 0
  let l := s.trackKept
  let span := (l.map (fun x => x.2.1 - max x.1 from')).sum
  let area := (l.map (fun x => x.2.2 * ((x.2.1 - max x.1 from' : Nat) : Int))).foldl (· + ·) 0
  if span = 0 then (s.ref.y, false) else (area / span, decide (1000000000 * s.fld Reg.RTU_HOLD_CFG 15 0 ≤ span))

/-! ### The state of the DPLL (Table 13.5) -/

/-- The DPLL leaves HOLDOVER: its length is kept (R321, Table 13.19). -/
def State.leaveHold (s : State) : State :=
  let n := (s.now - s.ref.holdAt) / 1000000000
  (({ s with ref := { s.ref with holdSecs := n } }).keepMax Reg.RTU_H_HOLD_MAX_S n).hist 2 (s.ref.sel.getD 0)

/-- The DPLL goes to another state (Table 13.5); the unit is at this instant. -/
def State.dpllTo (s : State) (new : Nat) : State :=
  if s.ref.dpll = new then s
  else
    let t := if s.ref.dpll = 3 then s.leaveHold else s
    match new with
    | 0 =>
      let u := { t with ref := { t.ref with dpll := 0, drawing := false, add := 0, pbo := 0, wasFree := true } }
      (u.hist 3 0).raise Src.RTU_FREE_RUN
    | 1 => { t with ref := { t.ref with dpll := 1, base := t.ref.y - t.ref.add, integ := t.ref.y - t.ref.add } }
    | 2 => ({ t with ref := { t.ref with dpll := 2, wasFree := false } }).hist 4 (t.ref.sel.getD 0)
    | 3 =>
      let m := if t.tracking then t.holdMean else (t.ref.y, false)
      ({ t with ref := { t.ref with dpll := 3, base := m.1, holdValid := m.2, holdAt := t.now, holdRaised := false, inSpec := true, wasFree := false,
                                    track := [] } }).bump Reg.RTU_HOLD_ENTRIES
    | _ => { t with ref := { t.ref with dpll := 4 } }

/-- HOLDOVER with no candidate qualifying is reported once (Table 13.5). -/
def State.holdReport (s : State) : State :=
  if s.ref.dpll == 3 && s.ref.qual.isNone && !s.ref.holdRaised && s.running 5 then
    (({ s with ref := { s.ref with holdRaised := true } }).hist 1 0).raise Src.RTU_HOLDOVER
  else s

/-! ### Selection (R310 to R316) -/

/-- Candidate c starts qualifying for a reason; the candidate selected before is no longer tracked (R311, R312). -/
def State.qualify (s : State) (c reason : Nat) : State :=
  let prev := match s.ref.sel with | some x => some x | none => s.ref.qual
  let t := { s with ref := { s.ref with sel := none, qual := some c, reason := reason, wtr := none } }
  let u := if t.tracking then t.dpllTo 3 else t
  let v := (u.bump Reg.RTU_SWITCHES).hist 0 c
  if prev ≠ some c ∧ (prev = some 3 ∨ c = 3) then v.hist 13 c else v

/-- The lead that waits is dropped. -/
def State.noLead (s : State) : State := { s with ref := { s.ref with wtr := none } }

/-- Selection under R311 with best candidate b against the present one c. -/
def State.selectLead (s : State) (b c : Nat) (fell skip : Bool) : State :=
  let lead := s.candQl b - s.candQl c
  let hyst := s.fld Reg.RTU_SEL_CFG 19 16
  let more := decide (s.candQl c < s.candQl b) && decide (hyst ≤ lead)
  if !s.candUsable c then s.qualify b 3
  else if more && fell then s.qualify b 4
  else if more || (s.candQl b == s.candQl c && decide (s.candPrio b < s.candPrio c) && s.bit Reg.RTU_SEL_CFG 27) then
    let why := if more then 1 else 2
    if skip then s.qualify b why
    else if s.ref.wtr.map (fun w => (w.1, w.2.1)) = some (b, why) then s
    else { s with ref := { s.ref with wtr := some (b, why, s.now) } }
  else s.noLead

/-- The QL of every candidate is noted as seen by selection. -/
def State.noteSeen (s : State) : State :=
  (List.range 4).foldl (fun t c => t.setCand c { t.cand c with seen := s.candQl c }) { s with ref := { s.ref with noWtr := false } }

/-- The selected candidate is lost (R313): HOLDOVER at once and RTU_REF_LOSS. -/
def State.dropRef (s : State) (c : Nat) : State :=
  let t := (s.setCand c { s.cand c with lost := true }).raise Src.RTU_REF_LOSS
  let u := { t with ref := { t.ref with sel := none, wtr := none } }
  let v := if u.tracking then u.dpllTo 3 else u
  if c = 3 then v.hist 13 3 else v

/-- Selection by R311, R314 and R315 with nothing lost; why is the reason where no candidate was chosen before. -/
def State.choose (s : State) (why : Nat) (fell skip : Bool) : State :=
  let f := s.fld Reg.RTU_SEL_CFG 31 28
  let cur := match s.ref.qual with | some x => some x | none => s.ref.sel
  if f = 5 ∨ f = 6 then
    let t := { s with ref := { s.ref with sel := none, qual := none, wtr := none } }
    if t.ref.dpll = 4 then t else t.dpllTo (if f = 5 then 3 else 0)
  else if 1 ≤ f ∧ f ≤ 4 ∧ s.candEn (f - 1) = true then
    if cur = some (f - 1) then s.noLead else s.qualify (f - 1) 6
  else if s.bit Reg.RTU_CFG 1 && s.candUsable 3 then
    if cur = some 3 then s.noLead else s.qualify 3 7
  else
    match s.bestCand with
    | none => { s with ref := { s.ref with qual := none, wtr := none } }
    | some b =>
      if s.ref.qual.isSome && s.ref.qual != some b then
        (match s.ref.sel with | some c => ({ s with ref := { s.ref with qual := none } }).selectLead b c fell skip | none => s.qualify b why)
      else match cur with
        | none => s.qualify b why
        | some c => if c = b then s.noLead else s.selectLead b c fell skip

/-- The candidate selected has become unusable, unless it is forced (R313, R314). -/
def State.refDead (s : State) : Option Nat :=
  let f := s.fld Reg.RTU_SEL_CFG 31 28
  match s.ref.sel with
  | some c => if s.candUsable c || (f == c + 1 && s.candEn c) then none else some c
  | none => none

/-- Selection after any change (R310 to R316): first a loss of the selected candidate, then the choice. -/
def State.reselect (s0 : State) (why : Nat) : State :=
  if !s0.running 5 then s0
  else
    let s := s0.refSync
    let cur := match s.ref.qual with | some x => some x | none => s.ref.sel
    let fell := match cur with | some c => decide (s.candQl c < (s.cand c).seen) | none => false
    let skip := s.ref.noWtr
    match s.refDead with
    | some c => ((s.noteSeen.dropRef c).choose 3 false true).holdReport
    | none => (s.noteSeen.choose why fell skip).holdReport

/-- The WTR of the lead that waits has run (R311). -/
def State.wtrExpire (s0 : State) : State :=
  if !s0.running 5 then s0
  else
    let s := s0.refSync
    match s.ref.wtr with
    | some w =>
      if s.now < w.2.2 + 1000000000 * s.fld Reg.RTU_SEL_CFG 11 0 then s
      else ({ s with ref := { s.ref with noWtr := true } }).reselect w.2.1
    | none => s

def execWtrExpire (s : State) : Host.Outcome State Fault Refusal := .next s.wtrExpire

/-! ### Quality messages (R306 to R308) -/

/-- Byte i of a message. -/
def qmByte (l : List Byte) (i : Nat) : Nat := (nthD l i 0#8).toNat

/-- A message is valid: 18 bytes with SYNC, VER_TYPE and CRC right (R307). -/
def qmValid (l : List Byte) : Bool :=
  l.length == 18 && qmByte l 0 == 0x7E && qmByte l 1 == 0x11 && crc8 ((l.drop 1).take 16) == qmByte l 17

/-- RTU_UTC follows the selected REF candidate's messages that carry UTC_VALID (R337). -/
def State.utcFrom (s : State) (n : Nat) (l : List Byte) : State :=
  let f := qmByte l 3
  if s.bit Reg.RTU_CFG 2 && s.ref.sel == some n && f.testBit 3 then
    let w := 2 ^ 31 + f / 2 % 2 * 2 ^ 30 + f / 4 % 2 * 2 ^ 29 + qmByte l 14 + qmByte l 15 * 256
    let leap := f / 2 % 4 != 0 && s.fld Reg.RTU_UTC 30 29 == 0
    let t := s.wrN Reg.RTU_UTC w
    if leap then t.hist 14 n else t
  else s

/-- A quality message on REF_QM[n] (R306 to R308). -/
def State.qmMsg (s : State) (n : Nat) (l : List Byte) : State :=
  if !s.running 5 then s
  else if !qmValid l then (s.bump (Reg.RTU_C_QM_MISS_CNT (n + 1))).raise Src.RTU_QM_CRC
  else
    let old := s.candQl n
    let x := s.cand n
    let ns := ofBytesLE ((l.drop 4).take 6) * 1000000000 + ofBytesLE ((l.drop 10).take 4)
    let t := (s.bump (Reg.RTU_C_QM_CNT (n + 1))).wrN (Reg.RTU_C_QM_LAST (n + 1)) (qmByte l 16 * 65536 + qmByte l 3 * 256 + qmByte l 2 % 16)
    let u := t.setCand n { x with ql := qmByte l 2 % 16, qlValid := true, timeValid := (qmByte l 3).testBit 0, missing := 0,
                                  time := match x.pulse with | some p => some (ns, p / 1000) | none => x.time }
    ((u.utcFrom n l).qlChange n old).reselect 1

def execQmMsgRx (n : Nat) (bytes : List Byte) (s : State) : Host.Outcome State Fault Refusal := .next (s.qmMsg (n % 2) bytes)

/-- A message is missing; the fifth in a row makes the QL unknown (R307). -/
def State.qmMissing (s : State) (n : Nat) : State :=
  if !s.running 5 then s
  else
    let x := s.cand n
    let t := (s.bump (Reg.RTU_C_QM_MISS_CNT (n + 1))).setCand n { x with missing := x.missing + 1 }
    if x.missing + 1 = 5 then
      ((t.setCand n { x with missing := 5, qlValid := false }).raise Src.RTU_QM_LOSS).reselect 3
    else t

def execQmMissing (n : Nat) (s : State) : Host.Outcome State Fault Refusal := .next (s.qmMissing (n % 2))

/-! ### Loss of the selected candidate (R313) -/

/-- A selected candidate is lost by its signals. -/
def State.refLost (s : State) (c : Nat) : State :=
  if s.running 5 && s.ref.sel == some c then
    let t := s.refSync
    (t.noteSeen.dropRef c).reselect 3 |>.holdReport
  else s

/-- Candidate c fails qualification: it is disqualified and selection moves on (R312). -/
def State.qualFail (s : State) (c : Nat) : State :=
  let x := s.cand c
  let t := ((s.setCand c { x with disq := true }).bump (Reg.RTU_C_DISQ_CNT (c + 1))).raise Src.RTU_REF_FAULT
  (({ t with ref := { t.ref with qual := none } }).hist 7 c).reselect 5

def execRefClkLoss (n : Nat) (s : State) : Host.Outcome State Fault Refusal := .next (s.refLost (n % 2))
def execRefFpMiss (n : Nat) (s : State) : Host.Outcome State Fault Refusal := .next (s.refLost (n % 2))

/-- 60 s after a failed qualification (R312). -/
def State.disqualExpire (s : State) (c : Nat) : State := (s.setCand c { s.cand c with disq := false }).reselect 1

def execDisqualExpire (c : Nat) (s : State) : Host.Outcome State Fault Refusal := .next (s.disqualExpire (c % 4))

/-! ### The loop (R317 to R322) -/

/-- Natural frequency of the loop in 10^-6 rad/s: 2π × bandwidth ÷ 10.10, for a bandwidth code (R318). -/
def loopOmega (code : Nat) : Int :=
  match code with | 0 => 6221 | 1 => 62210 | 2 => 622098 | _ => 6220976

/-- Phase of the selected candidate less the timescale in ps: as measured on a REF input less the path delay, the offset of the exchange of R335, or the partner's θ (R305, R335, R346). -/
def State.phaseOf (s : State) (c : Nat) (phase : Int) : Int :=
  match c with
  | 2 => -signed 32 (s.rdN Reg.RTU_PTP_OFFSET)
  | 3 => s.ref.theta
  | _ => phase - signed 32 (s.rdN (Reg.RTU_C_PATH_OFF (c + 1)))

/-- LO_CLK against the selected candidate in ppb, from the candidate's frequency offset against the timescale (R301). -/
def State.loMeasured (s : State) (freq : Int) : State :=
  s.wrN Reg.RTU_LO_STATUS (2 ^ 31 + unsigned 24 ((-(s.yNow + freq)) / 1000))

/-- What a measurement shows on the candidate's page (Table 13.16). -/
def State.candMeasured (s : State) (c : Nat) (p freq : Int) : State :=
  (s.wrN (Reg.RTU_C_PHASE (c + 1)) (unsigned 32 (p / 1000))).wrN (Reg.RTU_C_FREQ (c + 1)) (unsigned 32 freq)

/-- One update of the loop with phase error e ps: a proportional-integral filter of ζ = 5, its integrator held inside BOUND (R318, R319; log entry 35). -/
def State.loopStep (s : State) (e : Int) (dt : Nat) : State :=
  let w := loopOmega (if s.ref.dpll = 1 then s.fld Reg.RTU_DPLL_CFG 5 4 else s.fld Reg.RTU_DPLL_CFG 1 0)
  let i := clampInt (-s.slewBound) s.slewBound (s.ref.integ + w * w * e * dt / 1000000000000000000000)
  { s with ref := { s.ref with integ := i, base := i + 10 * w * e / 1000000 } }

/-- A phase measurement of the selected candidate (R318), or of the qualifying one for its page. -/
def State.dpllUpdate (s0 : State) (phase freq : Int) : State :=
  if !s0.running 5 then s0
  else
    let dt := s0.now - s0.ref.yAt
    let s := s0.refSync
    match s.ref.sel with
    | none => (match s.ref.qual with | some c => s.candMeasured c (s.phaseOf c phase) freq | none => s)
    | some c =>
      let p := s.phaseOf c phase
      let t := ({ s with ref := { s.ref with phase := p } }).candMeasured c p freq |>.loMeasured freq
      let e := p - t.ref.pbo
      let u := if t.tracking && !t.ref.held then t.loopStep e dt else t
      if u.ref.dpll = 2 ∧ 4000 * u.fld Reg.RTU_LOCK_CFG 31 16 < e.natAbs then
        ((u.raise Src.RTU_LOCK_LOST).hist 5 c).dpllTo 1
      else u

def execDpllUpdate (phase freq : Int) (s : State) : Host.Outcome State Fault Refusal := .next (s.dpllUpdate phase freq)

/-- The lock criteria have held for LOCK_S; they are not met while a draw-down is in progress (R317, R318). -/
def State.dpllLock (s : State) : State :=
  if s.running 5 && s.ref.dpll == 1 && !s.ref.drawing && s.ref.sel.isSome then s.refSync.dpllTo 2 else s

def execDpllLock (s : State) : Host.Outcome State Fault Refusal := .next s.dpllLock

/-- The draw-down ends (R320). -/
def State.drawDone (s0 : State) : State :=
  let s := s0.refSync
  if s.ref.drawing then
    ({ s with ref := { s.ref with drawing := false, pbo := 0, add := 0 } }).hist 9 (s.ref.sel.getD 0)
  else s

def execPboDrawDone (s : State) : Host.Outcome State Fault Refusal := .next s.drawDone

/-- SPEC_S in HOLDOVER have passed (R321). -/
def State.holdSpec (s : State) : State :=
  if s.ref.dpll == 3 && s.ref.inSpec then
    ({ s with ref := { s.ref with inSpec := false } }).raise Src.RTU_HOLD_SPEC
  else s

def execHoldoverSpecExpire (s : State) : Host.Outcome State Fault Refusal := .next s.holdSpec

/-- A clamp has lasted longer than 1 s (R319). -/
def State.slewLimit (s : State) : State :=
  let t := s.refSync
  match t.ref.clampFrom with
  | some x => if x + 1000000000 < t.now then t.raise Src.RTU_SLEW_LIMIT else t
  | none => t

def execSlewClampLimit (s : State) : Host.Outcome State Fault Refusal := .next s.slewLimit

/-- LO_CLK without an edge for 1 µs, or measured (R301). -/
def State.loFault (s : State) (present : Bool) (ppb : Int) : State :=
  let t := s.wrN Reg.RTU_LO_STATUS (b2n present * 2 ^ 31 + unsigned 24 ppb)
  t.raiseIf (!present || decide (20000 < ppb.natAbs)) Src.RTU_LO_FAULT

def execLoClkFault (present : Bool) (ppb : Int) (s : State) : Host.Outcome State Fault Refusal := .next (s.loFault present ppb)

/-- A write to RTU_PHASE_ADJ adds its value in ns to the build-out in either mode; with PBO_KEEP 0 it is drawn down (R320). -/
def State.phaseAdj (s0 : State) (v : Nat) : State :=
  let s := s0.refSync
  { s with ref := { s.ref with pbo := s.ref.pbo + 1000 * signed 32 v, drawing := s.ref.drawing || (s.ref.sel.isSome && !s.pboKeep) } }

def execPhaseAdjWrite (m : Requester) (v : Nat) (s : State) : Host.Outcome State Fault Refusal :=
  .next (s.writeAccess m Reg.RTU_PHASE_ADJ v (fun t => t.phaseAdj v))

/-- MODE takes effect: SW opens the loop, HW closes it (Table 13.5, R303). -/
def State.applyMode (s : State) : State :=
  if !s.running 5 then s
  else
    let sw := s.fld Reg.RTU_DPLL_CFG 31 30 == 1
    if sw && s.ref.dpll != 4 then s.dpllTo 4
    else if !sw && s.ref.dpll == 4 then (s.dpllTo (if s.ref.sel.isSome then 1 else 3)).holdReport
    else s

/-- A register of the RTU is written by the common rule after the unit was brought to this instant. -/
def State.refRow (s : State) (m : Requester) (a v : Nat) : State :=
  match masksAt (blockOf a) (pageNo a) (offOf a) with
  | some r => s.refSync.writeRow m a v 0 r
  | none => s

/-- A write to RTU_DPLL_CFG; PBO_KEEP ends a draw-down and keeps the build-out (R317, R320). -/
def State.dpllCfg (s : State) (m : Requester) (v : Nat) : State :=
  let t := s.refRow m Reg.RTU_DPLL_CFG v
  let u := if t.pboKeep && t.ref.drawing then { t with ref := { t.ref with drawing := false, add := 0 } } else t
  let w := if s.pboKeep && !u.pboKeep && u.ref.pbo != 0 && u.ref.sel.isSome then { u with ref := { u.ref with drawing := true } } else u
  w.applyMode.reselect 1

def execDpllModeWrite (m : Requester) (v : Nat) (s : State) : Host.Outcome State Fault Refusal :=
  .next (s.writeAccess m Reg.RTU_DPLL_CFG v (fun t => t.dpllCfg m v))

/-- A write to RTU_SEL_CFG; FORCE going to 0 returns to R311 without any WTR (R314). -/
def State.selCfg (s : State) (m : Requester) (v : Nat) : State :=
  let t := s.refRow m Reg.RTU_SEL_CFG v
  let back := s.fld Reg.RTU_SEL_CFG 31 28 != 0 && t.fld Reg.RTU_SEL_CFG 31 28 == 0
  ({ t with ref := { t.ref with noWtr := back || t.ref.noWtr } }).reselect 1

def execSelForceWrite (m : Requester) (v : Nat) (s : State) : Host.Outcome State Fault Refusal :=
  .next (s.writeAccess m Reg.RTU_SEL_CFG v (fun t => t.selCfg m v))

/-! ### The audio clock (R323) -/

/-- A write to RTU_ACLK: a change of AFAM is answered STATE unless the AUD is in OFF, ISOLATED or IDLE; ACLK then stops and SWITCHING sets. -/
def State.aclkWrite (s : State) (m : Requester) (v : Nat) : State :=
  if s.bit Reg.RTU_ACLK 31 == v.testBit 31 then s
  else if s.cur 14 == sOFF || s.cur 14 == sISOLATED || s.cur 14 == sIDLE then
    s.wrN Reg.RTU_ACLK (b2n (v.testBit 31) * 2 ^ 31 + 2)
  else s.refuseState m Reg.RTU_ACLK

def execAclkFamilyWrite (m : Requester) (v : Nat) (s : State) : Host.Outcome State Fault Refusal :=
  .next (s.writeAccess m Reg.RTU_ACLK v (fun t => t.aclkWrite m v))

/-- ACLK resumes in the new family. -/
def State.aclkDone (s : State) : State :=
  if s.bit Reg.RTU_ACLK 1 then (s.setBit Reg.RTU_ACLK 1 false).setBit Reg.RTU_ACLK 0 true else s

def execAclkSwitchDone (s : State) : Host.Outcome State Fault Refusal := .next s.aclkDone

/-- The loop code is loaded and the DPLL no longer holds y (R420). -/
def State.loopLoaded (s : State) : State :=
  if s.ref.held then { s with ref := { s.ref with held := false, yAt := s.now } } else s

def execRtuLoopLoadDone (s : State) : Host.Outcome State Fault Refusal := .next s.loopLoaded

/-! ### Block state (R300, R303) -/

/-- The RTU enters RUN. -/
def State.refStart (s : State) : State :=
  let t := (List.range 8).foldl (fun u p =>
    if u.bit (Reg.RTU_P_CFG (16 + p)) 31 && u.ptpRole != 0 then u.wrN (Reg.RTU_P_STATE (16 + p)) 4 else u) s.refSync
  let u := (List.range 8).foldl (fun v k =>
    { v with ref := { v.ref with outs := setNth v.ref.outs k { offset := signed 32 (v.rdN (Reg.RTU_O_OFFSET (5 + k))) } } }) t
  u.applyMode.reselect 1

/-- The RTU leaves RUN: it runs the timescale, TCLK and ACLK in FREE_RUN and does nothing else (R303). -/
def State.refStop (s : State) : State :=
  let t := s.refSync
  let u := { t with ref := { t.ref with sel := none, qual := none, wtr := none, dpll := 0, drawing := false, add := 0, pbo := 0, wasFree := true,
                                        ticArmed := false, ticStart := none, ticStop := none,
                                        ports := List.replicate 8 {}, window := [] } }
  (List.range 8).foldl (fun v p => v.wrN (Reg.RTU_P_STATE (16 + p)) 3) u

end Sys2Proof.Machine
end

