-- ==== Sys2Proof/Machine/RefOut.lean ====
section
/-! DEFINITION. Timing outputs, reference pulses and the time-interval counter of the timing unit (R304, R305, R324 to R329). -/

namespace Sys2Proof.Machine

/-! ### Timing outputs (R324 to R326, Table 13.17) -/

def State.tout (s : State) (k : Nat) : TimingOut := nthD s.ref.outs k {}
def State.setTout (s : State) (k : Nat) (x : TimingOut) : State := { s with ref := { s.ref with outs := setNth s.ref.outs k x } }
def State.toutMode (s : State) (k : Nat) : Nat := s.fld (Reg.RTU_O_CFG (5 + k)) 30 28

/-- Period in ps of the pulses on REF_FP[n]: one second, or the frame of a RATE code (R305). -/
def State.fpPeriod (s : State) (n : Nat) : Nat :=
  let w := s.rdN (Reg.RTU_C_FP_CFG (n + 1))
  if w.testBit 31 then 1000000000000 else 1000000000000 * (rateFrac (w % 16)).2 / (rateFrac (w % 16)).1

/-- The OFFSET in force at a due edge: a written one counts from 1 ms after its write (R325). -/
def TimingOut.offsetAt (x : TimingOut) (now : Nat) : TimingOut :=
  match x.change with
  | some c => if c.2 + 1000000 ≤ now then { x with offset := c.1, change := none } else x
  | none => x

/-- A REF_PULSE output after an edge: without a pulse since, it runs on by one period, FLYWHEEL sets and the missing count rises (R326). -/
def State.flywheel (s : State) (k : Nat) (x : TimingOut) : State :=
  if s.toutMode k ≠ 5 ∨ x.base.isNone then s.setTout k x
  else if x.fresh then s.setTout k { x with fresh := false }
  else
    let n := s.fpPeriod (s.fld (Reg.RTU_O_CFG (5 + k)) 26 26)
    ((s.setTout k { x with base := x.base.map (· + n) }).setBit (Reg.RTU_O_STATUS (5 + k)) 30 true).bumpSat (Reg.RTU_O_STATUS (5 + k)) 15 0 1

/-- Width of an output's pulse in ns; 0 for a square wave. -/
def State.toutWidth (s : State) (k : Nat) : Nat :=
  if s.toutMode k = 2 ∨ s.toutMode k = 4 then 0 else clamp 10 1000000 (s.fld (Reg.RTU_O_WIDTH (5 + k)) 23 0)

/-- A leading edge of output k is due; a REF_PULSE output without an input pulse yet has none (R324, R326). -/
def State.toutEdge (s : State) (k : Nat) : State :=
  if !s.outActive k || (s.toutMode k == 5 && (s.tout k).base.isNone) then s
  else
    let t := (s.bump (Reg.RTU_O_PULSES (5 + k))).send (.edge s.now k (!s.bit (Reg.RTU_O_CFG (5 + k)) 27) (s.toutWidth k))
    t.flywheel k ((t.tout k).offsetAt t.now)

def execToutEdge (k : Nat) (s : State) : Host.Outcome State Fault Refusal := .next (s.toutEdge (k % 8))

/-- A write to RTU_O_OFFSET (R325). -/
def State.toutOffset (s : State) (k v : Nat) : State :=
  (s.wrN (Reg.RTU_O_OFFSET (5 + k)) v).setTout k { s.tout k with change := some (signed 32 v, s.now) }

def execToutOffsetWrite (m : Requester) (k v : Nat) (s : State) : Host.Outcome State Fault Refusal :=
  .next (s.writeAccess m (Reg.RTU_O_OFFSET (5 + k % 8)) v (fun t => t.toutOffset (k % 8) v))

/-- A write to RTU_O_CTRL: REALIGN waits for the next pulse (R326). -/
def State.toutRealign (s : State) (k v : Nat) : State :=
  if v.testBit 31 then s.setTout k { s.tout k with realign := true } else s

def execToutRealign (m : Requester) (k : Nat) (s : State) : Host.Outcome State Fault Refusal :=
  .next (s.writeAccess m (Reg.RTU_O_CTRL (5 + k % 8)) 0x80000000 (fun t => t.toutRealign (k % 8) 0x80000000))

/-- A pulse at t ps on the input of REF_PULSE output k: it aligns the output where it is awaited or within 100 ns of its prediction, and is ignored otherwise (R326). -/
def State.pulseOut (s : State) (n t k : Nat) : State :=
  if !s.outActive k || s.toutMode k != 5 || s.fld (Reg.RTU_O_CFG (5 + k)) 26 26 != n then s
  else
    let x := s.tout k
    let o := Reg.RTU_O_STATUS (5 + k)
    let aligned := (s.setTout k { x with base := some t, fresh := true, realign := false }).setFld o 15 0 0 |>.setBit o 30 false
    match x.base with
    | none => aligned.setBit o 29 false
    | some b =>
      let d := (t - b) % s.fpPeriod n
      let off := min d (s.fpPeriod n - d)
      if x.realign then aligned.setBit o 29 false
      else if off ≤ 100000 ∧ b ≤ t then aligned
      else (s.setBit o 29 true).raise Src.RTU_TOUT_JUMP

/-- A pulse on REF_FP[n] with its timestamp in ps (R304, R305, R326). -/
def State.fpPulse (s : State) (n stamp : Nat) : State :=
  if !s.running 5 then s
  else
    let t := s.setCand n { s.cand n with pulse := some stamp }
    let at' := ((stamp : Int) - signed 32 (t.rdN (Reg.RTU_C_PATH_OFF (n + 1)))).toNat
    (List.range 8).foldl (fun u k => u.pulseOut n at' k) t

def execRefFpPulse (n stamp : Nat) (s : State) : Host.Outcome State Fault Refusal := .next (s.fpPulse (n % 2) stamp)

/-! ### The time-interval counter (R327 to R329) -/

/-- Bin edge b in 1/16 ps and offset of source n in 1/16 ps. -/
def State.binEdge (s : State) (b : Nat) : Nat := s.fld (0x45211100 + 4 * b) 15 0
def State.ticOffset (s : State) (n : Nat) : Int := signed 32 (s.rdN (0x45211000 + 4 * n))

/-- A capture in 1/16 ps: tick and bin edge, less the source's offset (R327, log entry 36). -/
def State.ticStamp (s : State) (source tick bin : Nat) : Int :=
  (tick * 16000 : Nat) + (s.binEdge bin : Int) - s.ticOffset source

/-- RTU_TIC_LO and RTU_TIC_HI take a result's flags and its value. -/
def State.ticWrite (s : State) (flags : Nat) (d : Int) : State :=
  let v := unsigned 40 d
  (s.wrN Reg.RTU_TIC_LO v).wrN Reg.RTU_TIC_HI (flags * 2 ^ 27 + v / 2 ^ 32)

/-- The TIC is armed again after a result while CONT is 1. -/
def State.ticRearm (s : State) : State :=
  { s with ref := { s.ref with ticStart := none, ticStop := none, ticArmed := s.bit Reg.RTU_TIC_CFG 30 } }

/-- d reduced by whole periods into -PERIOD/2 to +PERIOD/2. -/
def ticWrap (d p : Int) : Int := let r := d % p; if p < 2 * r then r - p else r

/-- Both events are captured: the result (R327, R328). Codes in the flags: 16 VALID, 8 UNDER_RES, 4 WRAP, 2 TIMEOUT, 1 STOP_FIRST. -/
def State.ticResult (s : State) (a b : Int) : State :=
  let d16 := b - a
  let d := d16 / 64
  let p : Int := (s.rdN Reg.RTU_TIC_PERIOD * 250 : Nat)
  let first := b2n (decide (d16 < 0))
  let t := s.bump Reg.RTU_TIC_EVENTS
  let u := if d16.natAbs < 64 then (t.ticWrite (16 + 8 + first) 0).bump Reg.RTU_TIC_UNDER_CNT
    else if p < 2 * d.natAbs then (t.ticWrite (16 + 4 + first) (ticWrap d p)).bump Reg.RTU_TIC_WRAP_CNT
    else t.ticWrite (16 + first) d
  u.ticRearm

/-- An event of a source is captured as START, STOP or both (R327). -/
def State.ticCapture (s : State) (source tick bin : Nat) : State :=
  if !s.running 5 || !s.ref.ticArmed then s
  else
    let x := s.ticStamp source tick bin
    let isA := s.fld Reg.RTU_TIC_CFG 27 24 == source && s.ref.ticStart.isNone
    let isB := s.fld Reg.RTU_TIC_CFG 23 20 == source && s.ref.ticStop.isNone
    let a := if isA then some x else s.ref.ticStart
    let b := if isB then some x else s.ref.ticStop
    match a, b with
    | some p, some q => s.ticResult p q
    | _, _ => { s with ref := { s.ref with ticStart := a, ticStop := b } }

def execTicCapture (source tick bin : Nat) (s : State) : Host.Outcome State Fault Refusal := .next (s.ticCapture (source % 16) tick (bin % 250))

/-- A write to RTU_TIC_CFG; ARM arms the counter (R327). -/
def State.ticCfg (s : State) (m : Requester) (v : Nat) : State :=
  let t := s.refRow m Reg.RTU_TIC_CFG v
  if v.testBit 31 && t.running 5 then { t with ref := { t.ref with ticArmed := true, ticStart := none, ticStop := none } } else t

def execTicArm (m : Requester) (v : Nat) (s : State) : Host.Outcome State Fault Refusal :=
  .next (s.writeAccess m Reg.RTU_TIC_CFG (v ||| 0x80000000) (fun t => t.ticCfg m (v ||| 0x80000000)))

/-- PERIOD has passed since the first event: TIMEOUT sets and no value is given (R328). -/
def State.ticTimeout (s : State) : State :=
  if s.ref.ticArmed && (s.ref.ticStart.isSome || s.ref.ticStop.isSome) then
    (s.ticWrite (2 + b2n s.ref.ticStart.isNone) 0).ticRearm
  else s

def execTicTimeout (s : State) : Host.Outcome State Fault Refusal := .next s.ticTimeout

/-- 2^20 calibration events, given by their counts in the 250 bins, replace the bin edges (R329). -/
def State.ticCal (s : State) (counts : List Nat) : State :=
  if !s.running 5 || !s.bit Reg.RTU_TIC_CFG 29 || counts.sum != 2 ^ 20 then s
  else
    let t := (List.range 251).foldl (fun u b => u.setFld (0x45211100 + 4 * b) 15 0 (16000 * (counts.take b).sum / 2 ^ 20)) s
    ((t.bumpSat Reg.RTU_TIC_CAL_STATUS 31 24 1).setFld Reg.RTU_TIC_CAL_STATUS 23 0 0).hist 15 0

def execTicCalUpdate (counts : List Nat) (s : State) : Host.Outcome State Fault Refusal := .next (s.ticCal counts)

end Sys2Proof.Machine
end

