-- ==== Sys2Proof/Machine/Ptp.lean ====
section
/-! DEFINITION. The PTP ports of the timing unit: messages sent and received, exchanges, the best master clock decision and the port states (R331 to R337; IEEE 1588-2019 where the spec names it, log entry 37). -/

namespace Sys2Proof.Machine

def State.ptpPort (s : State) (p : Nat) : PtpPort := nthD s.ref.ports p {}
def State.setPtpPort (s : State) (p : Nat) (x : PtpPort) : State := { s with ref := { s.ref with ports := setNth s.ref.ports p x } }
def State.portSt (s : State) (p : Nat) : Nat := s.fld (Reg.RTU_P_STATE (16 + p)) 3 0

/-- Port p takes part in PTP: the RTU runs, the port is enabled and the clock has a role. -/
def State.ptpOn (s : State) (p : Nat) : Bool := s.running 5 && s.bit (Reg.RTU_P_CFG (16 + p)) 31 && s.ptpRole != 0

/-- A port changes its state (history event PTP_STATE, R338). -/
def State.setPortState (s : State) (p st : Nat) : State :=
  if s.portSt p = st then s else (s.wrN (Reg.RTU_P_STATE (16 + p)) st).hist 11 p

/-! ### Dataset comparison (IEEE 1588-2019 9.3.4) -/

/-- A dataset as received: the dataset, its sender's identity and port, and the receiving port; the clock's own has the own identity and port 0. -/
structure PtpBest where
  ds : PtpDs
  sender : Nat
  port : Nat
  rx : Nat
  deriving DecidableEq, Repr

/-- Outcome of a comparison of A with B. -/
inductive PtpOrder where
  | better | betterTop | worse | worseTop | same
  deriving DecidableEq, Repr

/-- Order of two numbers of which the lower is better; else what follows. -/
def lowerFirst (a b : Nat) (rest : PtpOrder) : PtpOrder := if a < b then .better else if b < a then .worse else rest

/-- Order by topology of two numbers. -/
def lowerTop (a b : Nat) (rest : PtpOrder) : PtpOrder := if a < b then .betterTop else if b < a then .worseTop else rest

/-- Comparison of dataset A with dataset B at a clock of the given identity. -/
def ptpCompare (own : Nat) (a b : PtpBest) : PtpOrder :=
  if a.ds.gm = b.ds.gm then
    if b.ds.steps + 1 < a.ds.steps then .worse
    else if a.ds.steps + 1 < b.ds.steps then .better
    else if b.ds.steps < a.ds.steps then (if own < a.sender then .worse else if a.sender < own then .worseTop else .same)
    else if a.ds.steps < b.ds.steps then (if own < b.sender then .better else if b.sender < own then .betterTop else .same)
    else lowerTop a.sender b.sender (lowerTop a.port b.port (lowerTop a.rx b.rx .same))
  else
    lowerFirst a.ds.priority1 b.ds.priority1 (lowerFirst a.ds.clockClass b.ds.clockClass (lowerFirst a.ds.accuracy b.ds.accuracy
      (lowerFirst a.ds.variance b.ds.variance (lowerFirst a.ds.priority2 b.ds.priority2 (lowerFirst a.ds.gm b.ds.gm .same)))))

/-- A is better than B, by its dataset or by topology. -/
def ptpAhead (own : Nat) (a b : PtpBest) : Bool :=
  match ptpCompare own a b with | .better => true | .betterTop => true | _ => false

/-- The best of a list. -/
def ptpBestOf (own : Nat) (l : List PtpBest) : Option PtpBest :=
  l.foldl (fun o x => match o with | none => some x | some y => some (if ptpAhead own x y then x else y)) none

/-! ### Foreign masters and the decision (R333, R336) -/

/-- Announce interval of port p in ns. -/
def State.annNs (s : State) (p : Nat) : Nat :=
  let l := signed 8 (s.fld (Reg.RTU_P_INTERVALS (16 + p)) 23 16)
  if l < 0 then 1000000000 / 2 ^ l.natAbs else 1000000000 * 2 ^ l.natAbs

/-- Foreign masters of a port that qualify: two Announce messages within four announce intervals, fewer than 255 steps, not the clock itself; a MASTER_ONLY port has none. -/
def State.portForeign (s : State) (p : Nat) : List PtpBest :=
  if s.bit (Reg.RTU_P_CFG (16 + p)) 27 then []
  else ((s.ptpPort p).foreign.filter (fun f =>
      f.sender != s.ptpId && decide (f.ds.steps < 255) &&
      (match f.before with | some t => decide (s.now ≤ t + 4 * s.annNs p) | none => false))).map (fun f => ⟨f.ds, f.sender, f.port, p⟩)

/-- The best master heard on a port. -/
def State.portBest (s : State) (p : Nat) : Option PtpBest := ptpBestOf s.ptpId (s.portForeign p)

/-- The best master heard on any port. -/
def State.clockBest (s : State) : Option PtpBest :=
  ptpBestOf s.ptpId ((List.range 8).filterMap (fun p => if s.ptpOn p then s.portBest p else none))

/-- State decision of port p (IEEE 1588-2019 9.3.3) as a portState: 6 MASTER, 7 PASSIVE, 9 SLAVE, 4 LISTENING, and whether a MASTER first waits in PRE_MASTER. -/
def State.portDecision (s : State) (p : Nat) (best : Option PtpBest) : Nat × Bool :=
  let own := s.ptpId
  let d0 : PtpBest := ⟨s.clockDs, own, 0, 0⟩
  let er := s.portBest p
  if s.ptpRole = 1 then
    (match best with | some e => if e.rx = p then (9, false) else (4, false) | none => (4, false))
  else if inR 1 127 d0.ds.clockClass then
    (match er with | some e => if ptpAhead own d0 e then (6, false) else if s.ptpRole = 2 ∧ best.map (·.rx) = some p then (9, false) else (7, false)
                   | none => (6, false))
  else
    match best with
    | none => (6, false)
    | some e =>
      if ptpAhead own d0 e then (6, false)
      else if e.rx = p then (if s.ptpRole = 3 then (7, false) else (9, false))
      else match er with
        | some x => if ptpCompare own e x = .betterTop then (7, false) else (6, true)
        | none => (6, true)

/-- Port p goes where its decision says; under SPLIT a device without the timing-master role makes no new master (R336). -/
def State.portTo (s : State) (p : Nat) (best : Option PtpBest) : State :=
  let d := s.portDecision p best
  let st := s.portSt p
  let x := s.ptpPort p
  if d.1 = 6 then
    if st = 6 then s
    else if s.pairState == 3 && !s.isMaster then (s.setPtpPort p { x with parent := none, qual := 0 }).setPortState p 7
    else if !d.2 then (s.setPtpPort p { x with parent := none, qual := 0 }).setPortState p 6
    else if st = 5 then
      if x.qual ≤ 1 then (s.setPtpPort p { x with qual := 0 }).setPortState p 6 else s.setPtpPort p { x with qual := x.qual - 1 }
    else
      (s.setPtpPort p { x with parent := none, qual := (match best with | some e => e.ds.steps + 1 | none => 1) }).setPortState p 5
  else if d.1 = 9 then
    match best with
    | some e =>
      let same := x.parent == some (e.sender, e.port)
      let t := s.setPtpPort p (if same then x else { x with parent := some (e.sender, e.port), open' := none, sync := none, dreq := none, qual := 0 })
      (((t.wrN (Reg.RTU_P_PARENT_LO (16 + p)) e.sender).wrN (Reg.RTU_P_PARENT_HI (16 + p)) (e.sender / 2 ^ 32))).setPortState p 9
    | none => s
  else (s.setPtpPort p { x with parent := none, qual := 0 }).setPortState p d.1

/-- GM_CHANGE where the grandmaster announced has changed (Table 13.9). -/
def State.gmChange (s : State) (old : Nat) : State := if s.clockDs.gm = old then s else s.hist 12 (s.slavePort.getD 15)

/-- The decision for every enabled port, and what it means for the PTP candidate; the timing master's dataset goes to the twin (R333, Table 14.4). -/
def State.ptpBmca (s : State) : State :=
  if !s.running 5 || s.ptpRole == 0 then s
  else
    let gm := s.clockDs.gm
    let old := s.candQl 2
    let best := s.clockBest
    let t := (List.range 8).foldl (fun u p => if u.ptpOn p then u.portTo p best else u.setPortState p 3) s
    let u := ((t.qlChange 2 old).reselect 1).gmChange gm
    if u.isMaster then u.sendCtl (.ptpDs u.clockDs) else u

def execPtpBmca (s : State) : Host.Outcome State Fault Refusal := .next s.ptpBmca

/-- An Announce message (R333). -/
def State.ptpAnnounceRx (s : State) (p sender port : Nat) (ds : PtpDs) : State :=
  if !s.ptpOn p then s
  else
    let old := s.candQl 2
    let gm := s.clockDs.gm
    let x := s.ptpPort p
    let t := s.bump (Reg.RTU_P_RX_ANN (16 + p))
    let rest := x.foreign.filter (fun f => !(f.sender == sender && f.port == port))
    let prev := (x.foreign.find? (fun f => f.sender == sender && f.port == port)).map (·.last)
    let u := t.setPtpPort p { x with foreign := ⟨sender, port, ds, s.now, prev⟩ :: rest.take 7 }
    if x.parent = some (sender, port) then ((u.qlChange 2 old).reselect 1).gmChange gm else u

def execPtpAnnounceRx (p sender port : Nat) (ds : PtpDs) (s : State) : Host.Outcome State Fault Refusal :=
  .next (s.ptpAnnounceRx (p % 8) sender port ds)

/-- An announce receipt timeout on port p (R336). -/
def State.ptpTimeout (s : State) (p : Nat) : State :=
  if !s.ptpOn p then s
  else
    let gm := s.clockDs.gm
    let t := ((s.bump (Reg.RTU_P_ANN_TIMEOUT (16 + p))).setPtpPort p { s.ptpPort p with foreign := [] }).raise Src.RTU_PTP_FAULT
    ((t.portTo p t.clockBest).reselect 3).gmChange gm

def execPtpAnnounceTimeout (p : Nat) (s : State) : Host.Outcome State Fault Refusal := .next (s.ptpTimeout (p % 8))

/-! ### Messages of a master port (R331, R333, R334, R337) -/

/-- A Sync, with its Follow_Up on a two-step port. -/
def State.ptpSyncTx (s : State) (p : Nat) (stamp : Option Nat) : State :=
  if !s.ptpOn p || s.portSt p != 6 then s
  else
    let x := s.ptpPort p
    let t := (s.setPtpPort p { x with syncSeq := (x.syncSeq + 1) % 65536 }).bump (Reg.RTU_P_TX_SYNC (16 + p))
    if s.bit (Reg.RTU_P_CFG (16 + p)) 29 then t.send (.ptp s.now p (.sync x.syncSeq (stamp.getD (1000 * s.now))))
    else
      let u := t.send (.ptp s.now p (.sync x.syncSeq 0))
      match stamp with | some v => u.send (.ptp s.now p (.followUp x.syncSeq v)) | none => u

def execPtpSyncTx (p : Nat) (stamp : Option Nat) (s : State) : Host.Outcome State Fault Refusal := .next (s.ptpSyncTx (p % 8) stamp)

/-- An Announce with the clock's dataset and RTU_UTC. -/
def State.ptpAnnounceTx (s : State) (p : Nat) : State :=
  if !s.ptpOn p || s.portSt p != 6 then s
  else
    let x := s.ptpPort p
    ((s.setPtpPort p { x with annSeq := (x.annSeq + 1) % 65536 }).bump (Reg.RTU_P_TX_ANN (16 + p))).send
      (.ptp s.now p (.announce x.annSeq s.clockDs (s.rdN Reg.RTU_UTC)))

def execPtpAnnounceTx (p : Nat) (s : State) : Host.Outcome State Fault Refusal := .next (s.ptpAnnounceTx (p % 8))

/-- masterLockingStatus (R337). -/
def State.lockingStatus (s : State) : Nat :=
  match s.ref.dpll with | 2 => 4 | 0 => 1 | 1 => if s.ref.wasFree then 2 else 3 | _ => 3

/-- Data field of the metadata TLV: the words of RTU_SM_TLV with masterLockingStatus written into its ninth byte (R337, log entry 37). -/
def State.smTlv (s : State) : List Byte :=
  (((s.rdWords (Reg.RTU_SM_TLV 0) 12).flatMap (bytesLE 4)).take 42).set 8 (BitVec.ofNat 8 s.lockingStatus)

/-- A Management message of a master port of a grandmaster with SM_EN (R337). -/
def State.ptpMgmtTx (s : State) (p : Nat) : State :=
  if !s.ptpOn p || s.portSt p != 6 || !s.bit Reg.RTU_PTP_CFG 0 || !s.isGm then s
  else
    let x := s.ptpPort p
    (s.setPtpPort p { x with mgmtSeq := (x.mgmtSeq + 1) % 65536 }).send (.ptp s.now p (.management x.mgmtSeq s.smTlv))

def execPtpMgmtTx (p : Nat) (s : State) : Host.Outcome State Fault Refusal := .next (s.ptpMgmtTx (p % 8))

/-- A Delay_Req at a master port, which answers with Delay_Resp. -/
def State.ptpDelayReqRx (s : State) (p sender port seq stamp : Nat) : State :=
  if !s.ptpOn p || s.portSt p != 6 then s
  else (s.bump (Reg.RTU_P_RX_DREQ (16 + p))).send (.ptp s.now p (.delayResp seq stamp sender port))

def execPtpDelayReqRx (p sender port seq stamp : Nat) (s : State) : Host.Outcome State Fault Refusal :=
  .next (s.ptpDelayReqRx (p % 8) sender port seq stamp)

/-! ### Messages of a slave port (R335) -/

/-- A timestamp does not arrive. -/
def State.stampMiss (s : State) (p : Nat) : State := (s.bump (Reg.RTU_P_TS_MISS (16 + p))).raise Src.RTU_PTP_TS

/-- A Sync at a port; a slave port keeps its parent's. A one-step Sync carries its origin. -/
def State.ptpSyncRx (s : State) (p sender port seq : Nat) (origin : Option Nat) (corr : Int) (stamp : Option Nat) : State :=
  if !s.ptpOn p then s
  else
    let t := s.bump (Reg.RTU_P_RX_SYNC (16 + p))
    let x := s.ptpPort p
    match stamp with
    | none => t.stampMiss p
    | some t2 =>
      if s.portSt p = 9 ∧ x.parent = some (sender, port) then
        (match origin with
          | some t1 => t.setPtpPort p { x with sync := some (t1, t2, corr), open' := none }
          | none => t.setPtpPort p { x with open' := some (seq, t2, corr) })
      else t

def execPtpSyncRx (p sender port seq : Nat) (origin : Option Nat) (corr : Int) (stamp : Option Nat) (s : State) : Host.Outcome State Fault Refusal :=
  .next (s.ptpSyncRx (p % 8) sender port seq origin corr stamp)

/-- A Follow_Up supplies t1 of the parent's two-step Sync of the same sequence number. -/
def State.ptpFollowUp (s : State) (p sender port seq origin : Nat) (corr : Int) : State :=
  let x := s.ptpPort p
  match x.open' with
  | some o =>
    if s.ptpOn p && x.parent == some (sender, port) && o.1 == seq then
      s.setPtpPort p { x with sync := some (origin, o.2.1, o.2.2 + corr), open' := none }
    else s
  | none => s

def execPtpFollowUpRx (p sender port seq origin : Nat) (corr : Int) (s : State) : Host.Outcome State Fault Refusal :=
  .next (s.ptpFollowUp (p % 8) sender port seq origin corr)

/-- A Delay_Req of a slave port, with its transmit timestamp. -/
def State.ptpDelayReqTx (s : State) (p : Nat) (stamp : Option Nat) : State :=
  if !s.ptpOn p || s.portSt p != 9 then s
  else
    let x := s.ptpPort p
    let t := (s.setPtpPort p { x with dreqSeq := (x.dreqSeq + 1) % 65536, dreq := stamp.map (fun v => (x.dreqSeq, v)) }).send
      (.ptp s.now p (.delayReq x.dreqSeq))
    if stamp.isNone then t.stampMiss p else t

def execPtpDelayReqTx (p : Nat) (stamp : Option Nat) (s : State) : Host.Outcome State Fault Refusal :=
  .next (s.ptpDelayReqTx (p % 8) stamp)

/-- An exchange enters the window; a full window gives the offset of the exchange with the smallest mean path delay (R335). -/
def State.exchange (s : State) (delay : Nat) (offset : Int) : State :=
  let l := s.ref.window ++ [(delay, offset)]
  if l.length < s.fld Reg.RTU_PTP_FILT 7 0 then { s with ref := { s.ref with window := l } }
  else
    let b := l.foldl (fun m x => if x.1 < m.1 then x else m) (delay, offset)
    (({ s with ref := { s.ref with window := [] } }).wrN Reg.RTU_PTP_OFFSET (unsigned 32 b.2)).wrN Reg.RTU_PTP_DELAY b.1

/-- A Delay_Resp completes an exchange (R335). -/
def State.ptpDelayResp (s : State) (p sender port seq receipt : Nat) (corr : Int) : State :=
  if !s.ptpOn p then s
  else
    let x := s.ptpPort p
    let t := s.bump (Reg.RTU_P_RX_DRESP (16 + p))
    match x.sync, x.dreq with
    | some y, some d =>
      if s.portSt p = 9 ∧ x.parent = some (sender, port) ∧ d.1 = seq then
        let down : Int := (y.2.1 : Int) - y.1 - y.2.2
        let up : Int := (receipt : Int) - d.2 - corr
        let delay := ((down + up) / 2).toNat
        ((t.setPtpPort p { x with dreq := none }).wrN (Reg.RTU_P_DELAY (16 + p)) delay).exchange delay ((down - up) / 2)
      else t
    | _, _ => t

def execPtpDelayRespRx (p sender port seq receipt : Nat) (corr : Int) (s : State) : Host.Outcome State Fault Refusal :=
  .next (s.ptpDelayResp (p % 8) sender port seq receipt corr)

end Sys2Proof.Machine
end

