-- ==== Sys2Proof/Machine/Flip.lean ====
section
/-! DEFINITION. The life cycle of a shadow flip as every block uses it: flip groups, arming, committing, refusing, cancelling and flipping pages, and keeping and restoring shadows (R45, R46, R48, R77, R99, R230, R297, R475). -/

namespace Sys2Proof.Machine

/-- Pages of the CXF flip group (R77). -/
def cxfPages : List Nat := ((List.range 16).map (fun p => pageAddr 9 (p + 1))) ++ ((List.range 48).map (fun p => pageAddr 9 (p + 0x20)))

/-- Pages of the FST flip group (R230). -/
def fstPages : List Nat := pageAddr 11 0 :: (List.range 8).map (fun p => pageAddr 11 (p + 0x20))

/-- Pages of the AUD flip group (R297). -/
def audPages : List Nat := (List.range 68).map (fun p => pageAddr 14 (p + 1))

/-- Engine pages of the PXP; each flips on its own (R255). -/
def pxpPages : List Nat := (List.range 64).map enginePage

/-- The pages that flip with the page at p (R48): its flip group, or itself. -/
def flipGroup (p : Nat) : List Nat :=
  let k := pageNo p
  match blockOf p with
  | 9 => cxfPages
  | 11 => if k = 0 ∨ 0x20 ≤ k then fstPages else [p]
  | 14 => if 1 ≤ k then audPages else [p]
  | _ => [p]

/-- The page at p has something to flip: an MRS page, a MAC page, an engine page or a page of a flip group. -/
def canFlip (p : Nat) : Bool :=
  let k := pageNo p
  match blockOf p with
  | 8 => inR 1 128 k
  | 9 => inR 1 16 k || inR 0x20 0x4F k
  | 11 => k == 0 || inR 0x20 0x27 k
  | 12 => inR 1 64 k
  | 13 => k == 0
  | 14 => inR 1 68 k
  | _ => false

/-- Pages arm for epoch E: STATUS ARMED, EPOCH the target, CANCEL_LATE cleared (R46, Table 2.18). -/
def State.armPages (s : State) (l : List Nat) (E : Nat) : State :=
  let t := l.foldl (fun u p => u.wrN (hSHADOW p) (2 * 2 ^ 26 + E % 2 ^ 24)) s
  { t with armed := s.armed.filter (fun x => !l.contains x.1) ++ l.map (fun p => (p, E)) }

/-- Armed pages commit. -/
def State.commitPages (s : State) (l : List Nat) : State := l.foldl (fun u p => u.setShadow p 3) s

/-- Armed or committed pages leave for an outcome (Table 2.23), with STICKY.FLIP_REFUSED on REFUSED_CHECK. -/
def State.endPages (s : State) (l : List Nat) (st : Nat) : State :=
  let t := l.foldl (fun u p =>
    let v := u.setShadow p st
    if st = 6 then v.stick p 4 else v) s
  { t with armed := t.armed.filter (fun x => !l.contains x.1) }

/-- Addresses of active locations of a page whose active word or shadow copy differs from its reset value. -/
def State.shadowedOf (s : State) (p : Nat) : List Nat :=
  s.regs.filterMap (fun c =>
    if 2 ^ 32 ≤ c.1 ∨ pageOf c.1 ≠ p then none
    else if 0x8000 ≤ offOf c.1 then (if offOf c.1 < 0xF000 then some (c.1 - 0x8000) else none)
    else if shadowedAt (blockOf p) (pageNo p) (offOf c.1) then some c.1 else none)

/-- Active copies of a page take their shadow copies. -/
def State.takeShadow (s : State) (p : Nat) : State := (s.shadowedOf p).foldl (fun t a => t.wr a (s.rd (a + 0x8000))) s

/-- A page flips: active := shadow, FLIPPED, STICKY.FLIP (R46). -/
def State.flipPage (s : State) (p : Nat) : State := ((s.takeShadow p).setShadow p 4).stick p 3

/-- Pages flip as one event. -/
def State.flipPages (s : State) (l : List Nat) : State :=
  let t := l.foldl State.flipPage s
  { t with armed := t.armed.filter (fun x => !l.contains x.1) }

/-- The address is a shadow copy of one of the pages. -/
def inShadow (l : List Nat) (a : Nat) : Bool := decide (a < 2 ^ 32) && l.contains (pageOf a) && inR 0x8000 0xEFFF (offOf a)

/-- The shadow words of pages. -/
def State.shadowWords (s : State) (l : List Nat) : List (Nat × W) := s.regs.filter (fun c => inShadow l c.1)

/-- The shadows of pages return to words kept before (R99, R103). -/
def State.restoreShadow (s : State) (l : List Nat) (saved : List (Nat × W)) : State :=
  (saved.filter (fun c => l.contains (pageOf c.1))).foldl (fun t c => t.wr c.1 c.2) (s.dropRegs (inShadow l))

/-- A page of the list is armed or committed. -/
def State.anyHeld (s : State) (l : List Nat) : Bool := l.any s.shadowHeld

end Sys2Proof.Machine
end

