-- ==== Sys2Proof/Machine/Image.lean ====
section
/-! DEFINITION. Timeline images: layout, refusal reasons, the load, its arm, commit, cancel and flip (R91 to R104, R208, R261, R298). -/

namespace Sys2Proof.Machine

/-! ### Layout (R91 to R97) -/

/-- A little-endian field of n bytes in memory. -/
def State.le (s : State) (a n : Nat) : Nat := ofBytesLE (s.rdBytes a n)

/-- IMAGE_LEN of the image at A. -/
def State.imgLen (s : State) (A : Nat) : Nat := s.le (A + 8) 4

/-- CLAIM[p] of the header. -/
def State.imgClaim (s : State) (A p : Nat) : Nat := s.le (A + 0x30 + 4 * p) 4

/-- The section table: TYPE, address, LENGTH and CRC of each entry (R93). -/
def State.imgTable (s : State) (A : Nat) : List (Nat × Nat × Nat × Nat) :=
  (List.range (s.le (A + 0x11) 1)).map (fun i =>
    let e := A + 0x80 + 16 * i
    (s.le e 2, A + s.le (e + 4) 4, s.le (e + 8) 4, s.le (e + 12) 4))

/-- Address and LENGTH of the section of a type. -/
def State.section' (s : State) (A ty : Nat) : Option (Nat × Nat) := ((s.imgTable A).find? (fun x => x.1 == ty)).map (fun x => (x.2.1, x.2.2.1))

/-- The image carries a section of a type. -/
def State.hasSection (s : State) (A ty : Nat) : Bool := (s.section' A ty).isSome

/-- Two ranges, given by start and length, share a byte. -/
def rangesMeet (a n b m : Nat) : Bool := decide (0 < n) && decide (0 < m) && decide (a < b + m) && decide (b < a + n)

/-- Some pair of a list, taken in order, meets a test. -/
def anyPair {α : Type} (p : α → α → Bool) : List α → Bool
  | [] => false
  | x :: r => r.any (p x) || anyPair p r

/-- The section table holds R93 and R94. -/
def State.tableOk (s : State) (A : Nat) : Bool :=
  let l := s.imgTable A
  let n := l.length
  (List.range n).all (fun i => s.le (A + 0x82 + 16 * i) 2 == 0) &&
  l.all (fun x => inR 1 8 x.1 && (x.2.1 - A) % 64 == 0 && decide (A + 0x80 + 16 * n ≤ x.2.1) && decide (x.2.1 + x.2.2.1 ≤ A + s.imgLen A)) &&
  !hasDup (l.map (·.1)) && [1, 2, 3, 4].all (fun ty => l.any (fun x => x.1 == ty)) &&
  !anyPair (fun x y => rangesMeet x.2.1 x.2.2.1 y.2.1 y.2.2.1) l

/-- Blocks of CXF_LISTS from address a to e (R95): PLANE, COUNT, CLAIM and address; none where a block runs beyond its section or a reserved byte is not 0. -/
def State.listBlocks (s : State) : Nat → Nat → Nat → Option (List (Nat × Nat × Nat × Nat))
  | 0, _, _ => some []
  | n + 1, a, e =>
    if e ≤ a then some []
    else
      let count := s.le (a + 4) 4
      if e < a + 16 + 16 * count ∨ s.le (a + 1) 3 ≠ 0 ∨ s.le (a + 12) 4 ≠ 0 then none
      else (s.listBlocks n (a + 16 + 16 * count) e).map (fun r => (s.le a 1, count, s.le (a + 8) 4, a) :: r)

/-- The blocks of the image's CXF_LISTS. -/
def State.imgBlocks (s : State) (A : Nat) : Option (List (Nat × Nat × Nat × Nat)) :=
  (s.section' A 1).bind (fun x => s.listBlocks (x.2 / 16 + 1) x.1 (x.1 + x.2))

/-- The image's plane lists. -/
def State.imgLists (s : State) (A : Nat) : List (Nat × List Nat) :=
  ((s.imgBlocks A).getD []).map (fun b => (b.1, (List.range b.2.1).map (fun j => s.le (b.2.2.2 + 16 + 16 * j) 16)))

/-- The RUNs of plane lists. -/
def runsOf (l : List (Nat × List Nat)) : List Nat := l.flatMap (fun x => x.2.filter (fun d => dKind d == 1))

/-- Addresses of the n-byte entries of a section. -/
def State.entriesAt (s : State) (A ty n : Nat) : List Nat :=
  match s.section' A ty with
  | some x => (List.range (x.2 / n)).map (fun i => x.1 + n * i)
  | none => []

/-- The OUTPUTS entries (Table 4.5). -/
def State.imgOutputs (s : State) (A : Nat) : List OutputDef :=
  (s.entriesAt A 2 16).map (fun a => ⟨s.le a 2, s.le (a + 2) 2, s.le (a + 4) 1, s.le (a + 5) 1, s.le (a + 6) 2, s.le (a + 8) 4⟩)

/-- The ALLOWANCE entries (Table 4.6). -/
def State.imgAllow (s : State) (A : Nat) : List (Nat × Nat) := (s.entriesAt A 3 8).map (fun a => (s.le a 2, s.le (a + 4) 4))

/-- The POOLS entries (Table 4.6). -/
def State.imgPools (s : State) (A : Nat) : List PoolDef :=
  (s.entriesAt A 4 8).map (fun a => ⟨s.le a 2, s.le (a + 2) 1, s.le (a + 3) 1, s.le (a + 4) 2, s.le (a + 6) 2⟩)

/-- The definitions of the image at A. -/
def State.imgDef (s : State) (A : Nat) : ImageDef :=
  { id := s.le (A + 0x0C) 4, hcrc := s.le (A + 0x7C) 4, profile := s.le (A + 0x10) 1,
    outputs := s.imgOutputs A, allow := s.imgAllow A, pools := s.imgPools A }

/-- An OUTPUTS entry holds R96 and Table 4.5: frame boundaries are those of video, and LINK names a video output for BOUNDARY 4 (log entry 39). -/
def outputOk (all : List OutputDef) (o : OutputDef) : Bool :=
  destValid o.id && formatValid o.format &&
  (match essenceKind o.id with | some k => k == fmtKind o.format | none => true) &&
  decide (o.flags ≤ 1) &&
  (match o.boundary with
    | 0 => fmtKind o.format == 0 && o.link == 0xFFFF
    | 1 => fmtKind o.format == 0 && o.link == 0xFFFF
    | 2 => o.link == 0xFFFF
    | 3 => o.link == 0xFFFF
    | 4 => fmtKind o.format == 2 && all.any (fun v => v.id == o.link && fmtKind v.format == 0)
    | _ => false)

/-- CXF_LISTS holds R95. -/
def State.listsOk (s : State) (A : Nat) : Bool :=
  match s.imgBlocks A with
  | none => false
  | some l => l.all (fun b => decide (b.1 < 16) && b.2.2.1 == s.imgClaim A b.1) && !hasDup (l.map (·.1))

/-- OUTPUTS, ALLOWANCE and POOLS hold R96 and R97. -/
def State.defsOk (s : State) (A : Nat) : Bool :=
  let runs := runsOf (s.imgLists A)
  let outs := s.imgOutputs A
  let allow := s.imgAllow A
  let pools := s.imgPools A
  let sized := fun ty n => match s.section' A ty with | some x => x.2 % n == 0 | none => false
  let named := fun (p : PoolDef) => if p.dir = 0 then p.essence != 0xFFFF && runs.any (fun d => dSrc d == p.essence) else runs.any (fun d => dDst d == p.essence)
  sized 2 16 && sized 3 8 && sized 4 8 &&
  (s.entriesAt A 2 16).all (fun a => s.le (a + 12) 4 == 0) && (s.entriesAt A 3 8).all (fun a => s.le (a + 2) 2 == 0) &&
  outs.all (outputOk outs) && !hasDup (outs.map (·.id)) &&
  outs.all (fun o => runs.any (fun d => dDst d == o.id)) && runs.all (fun d => outs.any (fun o => o.id == dDst d)) &&
  allow.all (fun x => formatValid x.1 && decide (x.2 ≤ 125000)) && !hasDup (allow.map (·.1)) &&
  outs.all (fun o => allow.any (fun x => x.1 == o.format)) &&
  pools.all (fun p => decide (p.dir ≤ 1) && decide (p.die ≤ 1) && inR 1 321 p.slotTokens && named p) &&
  !hasDup (pools.map (fun p => 2 * p.essence + p.dir)) &&
  runs.all (fun d => (dSrc d == 0xFFFF || pools.any (fun p => p.dir == 0 && p.essence == dSrc d)) && pools.any (fun p => p.dir == 1 && p.essence == dDst d))

/-- FST_SLOTS has its layout (chapter 9). -/
def State.fstSectionOk (s : State) (A : Nat) : Bool :=
  match s.section' A 5 with
  | none => true
  | some x =>
    let n := s.le (x.1 + 2) 2
    s.le x.1 2 == 1 && decide (n ≤ 6144) && x.2 == 32 + 32 * n && s.le (x.1 + 4) 4 == 0 && s.le (x.1 + 24) 8 == 0 &&
    (List.range n).all (fun j => s.le (x.1 + 32 + 32 * j + 0x16) 2 == 0)

/-- Blocks of PXP_PROGRAMS from address a to e (R261): ENGINE and address; none where the layout breaks. -/
def State.programs (s : State) : Nat → Nat → Nat → Option (List (Nat × Nat))
  | 0, _, _ => some []
  | n + 1, a, e =>
    if e ≤ a then some []
    else
      let size := 16 + 32 * egLayers (s.le (a + 4) 4)
      if e < a + size ∨ 63 < s.le a 1 ∨ s.le (a + 1) 3 ≠ 0 ∨ s.le (a + 10) 2 ≠ 0 then none
      else (s.programs n (a + size) e).map (fun r => (s.le a 1, a) :: r)

/-- The program blocks of the image, none where R261 breaks. -/
def State.imgPrograms (s : State) (A : Nat) : Option (List (Nat × Nat)) :=
  match s.section' A 6 with
  | none => some []
  | some x => (s.programs (x.2 / 16 + 1) x.1 (x.1 + x.2)).bind (fun l => if hasDup (l.map (·.1)) then none else some l)

/-- Weight of a program block (R245): its enabled layers, twice at 100 to 120 frames a second; 0 with EN 0. -/
def State.programWeight (s : State) (a : Nat) : Nat :=
  let cfg := s.le (a + 4) 4
  if cfg.testBit 31 then
    ((List.range (egLayers cfg)).filter (fun l => (s.le (a + 16 + 32 * l) 32).testBit 255)).length *
      (if inR 10 12 (fmtRate (s.le (a + 8) 2)) then 2 else 1)
  else 0

/-- Patch blocks from address a to e (R208, R298): page key, OFFSET, LENGTH and address of the bytes; none where one runs beyond the section or a reserved byte is not 0. -/
def State.patches (s : State) : Nat → Nat → Nat → Option (List (Nat × Nat × Nat × Nat))
  | 0, _, _ => some []
  | n + 1, a, e =>
    if e ≤ a then some []
    else
      let len := s.le (a + 8) 4
      if e < a + 16 + len ∨ s.le (a + 1) 3 ≠ 0 ∨ s.le (a + 12) 4 ≠ 0 then none
      else (s.patches n (a + 16 + len) e).map (fun r => (s.le a 1, s.le (a + 4) 4, len, a + 16) :: r)

/-- The patch blocks of a section; none where the layout breaks or two overlap. -/
def State.imgPatches (s : State) (A ty : Nat) : Option (List (Nat × Nat × Nat × Nat)) :=
  match s.section' A ty with
  | none => some []
  | some x => (s.patches (x.2 / 16 + 1) x.1 (x.1 + x.2)).bind (fun l =>
      if anyPair (fun b c => b.1 == c.1 && rangesMeet b.2.1 b.2.2.1 c.2.1 c.2.2.1) l then none else some l)

/-- An FMAC_FILTERS block holds R208. -/
def macPatchOk (b : Nat × Nat × Nat × Nat) : Bool :=
  decide (b.1 ≤ 127) && inR 0x1000 0x5FFF b.2.1 && b.2.2.1 % 8 == 0 && decide (b.2.1 + b.2.2.1 ≤ 0x6000)

/-- An AUD_MAPS block holds R298: on a port page it writes the output configuration only, and the pages 0x20 to 0x24 also hold map tables. -/
def audPatchOk (b : Nat × Nat × Nat × Nat) : Bool :=
  inR 1 68 b.1 && inR 0x100 0x6FFF b.2.1 && b.2.2.1 % 4 == 0 && decide (b.2.1 + b.2.2.1 ≤ 0x7000) &&
  ((inR 0x20 0x24 b.1 && decide (0x1000 ≤ b.2.1)) || b.2.2.1 == 0 || (b.2.2.1 == 4 && b.2.1 == (if b.1 ≤ 64 then 0x110 else 0x104)))

/-- R93 to R97 and the layouts of the optional sections hold; a COUNT above 4,096 is no matter here (R95). -/
def State.layoutOk (s : State) (A : Nat) : Bool :=
  s.tableOk A && s.listsOk A && s.defsOk A && s.fstSectionOk A && (s.imgPrograms A).isSome &&
  (match s.imgPatches A 7 with | some l => l.all audPatchOk | none => false) &&
  (match s.imgPatches A 8 with | some l => l.all macPatchOk | none => false)

/-! ### Refusal reasons (Table 4.7) -/

/-- The range lies wholly within the SRAM or the frame-store window. -/
def inWindows (a n : Nat) : Bool := (decide (0x10000000 ≤ a) && decide (a + n ≤ 0x10400000)) || (decide (0x1000000000 ≤ a) && decide (a + n ≤ 0x2000000000))

/-- The GSE's reads of the range are answered: the protection map grants them and the block behind it is in service. -/
def State.imgReadable (s : State) (a n : Nat) : Bool :=
  (List.range ((a + n - 1) / 4096 + 1 - a / 4096)).all (fun i => s.regionAdmits gseReq ((a / 4096 + i) * 4096) .read) && (!isStore a || s.storeOpen)

/-- Condition 1: R91 does not hold for the address or IMAGE_LEN, or a read is refused. -/
def State.addressBad (s : State) (A : Nat) : Bool :=
  let n := s.imgLen A
  A % 64 != 0 || n == 0 || n % 64 != 0 || decide (0x1000000 < n) || !inWindows A n || !s.imgReadable A n

/-- Condition 2. -/
def State.headerBad (s : State) (A : Nat) : Bool :=
  s.le A 4 != 0x314C5456 || s.le (A + 4) 2 != 1 || s.le (A + 6) 2 != 0x80 || !inR 1 32 (s.le (A + 0x11) 1) ||
  s.le (A + 0x7C) 4 != crc32c (s.rdBytes A 0x7C) || s.le (A + 0x12) 2 != 0 || s.le (A + 0x26) 2 != 0 || s.le (A + 0x70) 12 != 0

/-- Condition 4. -/
def State.crcBad (s : State) (A : Nat) : Bool := (s.imgTable A).any (fun x => crc32c (s.rdBytes x.2.1 x.2.2.1) != x.2.2.2)

/-- Claim of plane p's list in the image (R73). -/
def listClaimOf (l : List (Nat × List Nat)) (p : Nat) : Nat := listClaim ((kget l p).getD [])

/-- Condition 5. -/
def State.totalsBad (s : State) (A : Nat) : Bool :=
  let d := s.imgDef A
  let ins := fun lo hi => (d.pools.filter (fun p => p.dir == 0 && inR lo hi p.essence)).length
  let outs := fun lo hi => (d.outputs.filter (fun o => inR lo hi o.id)).length
  let chans := ((d.outputs.filter (fun o => fmtKind o.format == 1)).map (fun o => fmtChannels o.format)).sum
  let budget := (pxpBudget d.profile).1 * (pxpBudget d.profile).2
  let h2 := fun o => s.le (A + o) 2
  let die := fun n => ((d.pools.filter (fun p => p.die == n)).map (fun p => p.slots * p.slotTokens * 64)).sum
  decide (4096 < h2 0x14) || decide (4096 < h2 0x16) || decide (32768 < s.le (A + 0x18) 4) || decide (32768 < s.le (A + 0x1C) 4) ||
  decide (8192 < h2 0x20) || decide (8192 < h2 0x22) || (decide (d.profile ≤ 3) && decide (budget < h2 0x24)) || decide (2 ^ 36 < s.le (A + 0x28) 8) ||
  h2 0x14 != ins 0 0x0FFF || h2 0x20 != ins 0x2000 0x3FFF || h2 0x16 != outs 0x8000 0x8FFF || h2 0x22 != outs 0xA000 0xBFFF ||
  s.le (A + 0x1C) 4 != chans ||
  planeNos.any (fun p => s.imgClaim A p != listClaimOf (s.imgLists A) p) ||
  (s.hasSection A 6 && h2 0x24 != (((s.imgPrograms A).getD []).map (fun x => s.programWeight x.2)).sum) ||
  (match s.section' A 5 with
    | some x => s.le (A + 0x28) 8 != ((List.range (s.le (x.1 + 2) 2)).map (fun j => s.le (x.1 + 40 + 32 * j) 4 * 4096)).sum
    | none => false) ||
  decide (48 * 2 ^ 20 < die 0) || decide (48 * 2 ^ 20 < die 1)

/-- The first of the reasons 1 to 9 that applies to the image at A against the profile that will be active; 0 where none does (R99). -/
def State.imgReason (s : State) (A profile : Nat) : Nat :=
  let l := s.imgLists A
  let read := l.map (fun x => (x.1, listCounted x.2))
  if s.addressBad A then 1
  else if s.headerBad A then 2
  else if !s.layoutOk A then 3
  else if s.crcBad A then 4
  else if s.totalsBad A then 5
  else if s.le (A + 0x10) 1 ≠ profile then 6
  else if planeNos.any (fun p => decide (planeBudget profile < listClaimOf l p)) then 7
  else if read.any (fun x => x.2.any (fun d => badDesc d || runKindBad (s.imgOutputs A) d)) then 8
  else if l.any (fun x => decide (4096 < x.2.length) || (!fabricPlane profile x.1 && x.2 != [])) then 9
  else 0

/-- MACs that the image's filters name. -/
def State.imgMacs (s : State) (A : Nat) : List Nat := (((s.imgPatches A 8).getD []).map (·.1)).eraseDups

/-- Pages outside the CXF that the image writes, with the groups they belong to (R100). -/
def State.imgPages (s : State) (A : Nat) : List Nat :=
  (if s.hasSection A 5 then fstPages else []) ++ (if s.hasSection A 6 then pxpPages else []) ++
  (if s.hasSection A 7 then audPages else []) ++ (s.imgMacs A).map (fun m => pageAddr 8 (m % 128 + 1))

/-- Condition 10: a block with a section in the image is neither in IDLE nor in RUN. -/
def State.blockStateBad (s : State) (A : Nat) : Bool :=
  let bad := fun c => !(c == sIDLE || c == sRUN)
  bad (s.cur 9) || (s.imgPages A).any (fun p => bad (s.curOf (blockOf p) (pageNo p)))

/-! ### Writing the shadows -/

/-- One byte of an image reaches the shadow at offset o of the page at p, in the fields that are shadowed. -/
def State.patchByte (s : State) (p o : Nat) (v : Byte) : State :=
  let a := p + o / 4 * 4
  match masksAt (blockOf p) (pageNo p) (offOf a) with
  | some r => if r.rws = 0 then s
      else s.wrN (a + 0x8000) (mergeMask (s.rdN (a + 0x8000)) (Machine.setFld (s.rd (a + 0x8000)) (8 * (o % 4) + 7) (8 * (o % 4)) v.toNat).toNat r.rws)
  | none => s

/-- Bytes reach the shadow from offset o on. -/
def State.patchBytes (s : State) (p : Nat) : Nat → List Byte → State
  | _, [] => s
  | o, b :: r => (s.patchByte p o b).patchBytes p (o + 1) r

/-- FST_SLOTS into the shadow: shares and slots; slots at or beyond COUNT are TYPE 0. -/
def State.stageFst (s : State) (A : Nat) : State :=
  match s.section' A 5 with
  | none => s
  | some x =>
    let t := s.dropRegs (fun a => inShadow (fstPages.drop 1) a)
    let u := (List.range 8).foldl (fun v i => v.wrN (Reg.FST_POOL_SHARE i + 0x8000) (s.le (x.1 + 8 + 2 * i) 2 % 2 ^ 15)) t
    (List.range (s.le (x.1 + 2) 2)).foldl (fun v j =>
      v.wrWords (fstSlotAddr j + 0x8000) ((List.range 8).map (fun w => s.le (x.1 + 32 + 32 * j + 4 * w) 4))) u

/-- PXP_PROGRAMS into the shadow; an engine without a block receives EN 0 (R261). -/
def State.stagePxp (s : State) (A : Nat) : State :=
  if s.hasSection A 6 then
    let t := (List.range 64).foldl (fun v e => v.setBit (Reg.PXP_E_CFG (e + 1) + 0x8000) 31 false) s
    ((s.imgPrograms A).getD []).foldl (fun v x =>
      let p := enginePage x.1
      ((v.patchBytes p 0x100 (s.rdBytes (x.2 + 4) 4)).patchBytes p 0x104 (s.rdBytes (x.2 + 8) 2)).patchBytes p 0x108 (s.rdBytes (x.2 + 12) 4)
        |>.patchBytes p 0x1000 (s.rdBytes (x.2 + 16) (32 * min 32 (egLayers (s.le (x.2 + 4) 4))))) t
  else s

/-- Patch blocks into the shadows of a block's pages; MAC m has page m + 1. -/
def State.stagePatches (s : State) (A ty : Nat) : State :=
  ((s.imgPatches A ty).getD []).foldl (fun v b =>
    v.patchBytes (if ty = 8 then pageAddr 8 (b.1 % 128 + 1) else pageAddr 14 b.1) b.2.1 (s.rdBytes b.2.2.2 b.2.2.1)) s

/-- Every section but the plane lists into its shadow. -/
def State.stageOthers (s : State) (A : Nat) : State := (((s.stageFst A).stagePxp A).stagePatches A 7).stagePatches A 8

/-- The plane lists into the CXF shadow; a plane without a block receives length 0 (R95). -/
def State.stageLists (s : State) (l : List (Nat × List Nat)) : State :=
  planeNos.foldl (fun t p =>
    let ds := (kget l p).getD []
    let u := t.wrN (Reg.CXF_PL_LIST_LEN (p + 1) + 0x8000) ds.length
    ((List.range ds.length).zip ds).foldl (fun v x =>
      v.wrWords (descAddr p x.1 + 0x8000) [x.2 % 2 ^ 32, x.2 / 2 ^ 32 % 2 ^ 32, x.2 / 2 ^ 64 % 2 ^ 32, x.2 / 2 ^ 96 % 2 ^ 32]) u) s

/-! ### The blocks' checks (R99, R101) -/

/-- The first engine whose new program fails checks 1 to 4 of Table 10.4, with code and layer. -/
def State.enginesBad (s : State) (slotShift profile : Nat) : Option (Nat × Nat × Nat) :=
  (List.range 64).findSome? (fun e => let v := s.pxpVerdict e 0x8000 slotShift profile; if v.1 = 0 then none else some (e, v.1, v.2))

/-- The first enabled engine of the shadow with an unmet fence. -/
def State.fencesUnmet (s : State) : Option Nat :=
  (List.range 64).find? (fun e => (s.engineCfg e 0x8000).testBit 31 && !(s.fenceReady e).1)

/-- The checks of the blocks whose pages the image writes, in the order of R101; the failing block records its cause. Fences count at a commit point only (R259). -/
def State.imgCheck (s : State) (pages : List Nat) (profile : Nat) (d : ImageDef) (fences : Bool) : State × Bool :=
  let has := fun b => pages.any (fun p => blockOf p == b)
  let lat := fun id => ((d.outputs.find? (fun o => o.id == id)).map (·.latency)).getD 0
  let mac := (pages.filter (fun p => blockOf p == 8)).find? (fun p => !(s.macCheck (pageNo p - 1)).2)
  match mac with
  | some p => s.macCheck (pageNo p - 1)
  | none =>
    if has 11 && !s.fstCheck.2 then s.fstCheck
    else
      match (if has 12 then s.enginesBad (if has 11 then 0x8000 else 0) profile else none) with
      | some x => (s.pxpRefuse x.1 x.2.1 x.2.2, false)
      | none =>
        match (if has 12 && fences then s.fencesUnmet else none) with
        | some e => (((s.wrN Reg.PXP_REFUSAL (5 * 2 ^ 28 + e * 2 ^ 16)).bump Reg.PXP_SKIP_CNT).raiseAll [Src.PXP_FENCE_TIMEOUT, Src.PXP_FLIP_REFUSED], false)
        | none =>
          let r := s.audVerdict 0x8000 lat
          if has 14 && r.1 != 0 then ((s.wrN Reg.AUD_REFUSAL (r.1 * 2 ^ 28 + r.2 % 4096)).raise Src.AUD_MAP_REFUSED, false)
          else (s, true)

/-! ### The load -/

/-- GSE_IMG_STATUS shows a state, a reason and a target. -/
def State.imgShow (s : State) (st reason : Nat) (E : Option Nat) : State :=
  s.wrN Reg.GSE_IMG_STATUS (st * 2 ^ 28 + reason * 2 ^ 24 + E.getD 0 % 2 ^ 24)

/-- A refused LOAD is counted and raised. -/
def State.imgCountRefusal (s : State) : State :=
  ((s.bump Reg.GSE_IMG_REFUSED).bump (Reg.GSE_REFUSE_CNT 0)).raise Src.GSE_IMG_REFUSED

/-- A profile change is pending (R102): requested and not yet flipped. -/
def State.profPending (s : State) : Bool := match s.power.prof with | some c => inR 1 4 c.state | none => false

/-- The load changes. -/
def State.setLoad (s : State) (l : Option ImageLoad) : State := { s with geyser := { s.geyser with load := l } }

/-- The CXF flip group is free again. -/
def State.freeGroup (s : State) : State := { s with geyser := { s.geyser with group := .free, groupCommitted := false } }

/-- A load ends other than by its flip: its pages read the outcome, every shadow is as before, and the group is free (R99, R103). -/
def State.imgDrop (s : State) (l : ImageLoad) (pageOutcome : Nat) : State :=
  let t := if 2 ≤ l.stage then (s.endPages l.pages pageOutcome).freeGroup else s
  let u := if l.pages.isEmpty then t else t.restoreShadow l.pages l.saved
  u.setLoad none

/-- The load in progress is refused with a reason of Table 4.7. -/
def State.imgRefuse (s : State) (l : ImageLoad) (reason : Nat) : State :=
  ((s.imgDrop l 6).imgShow 5 reason l.target).imgCountRefusal

/-- The load in progress ends CANCELLED (R103). -/
def State.imgCancelled (s : State) (l : ImageLoad) : State := (s.imgDrop l 7).imgShow 6 0 l.target

/-- CANCEL: before the commit point the load ends CANCELLED; after it the status stays COMMITTED with REASON LATE (R103). -/
def State.imgCancel (s : State) : State :=
  match s.geyser.load with
  | none => s
  | some l => if l.stage = 3 then s.imgShow 3 11 l.target else s.imgCancelled l

/-- A LOAD is refused with BUSY before any byte of the image is read (R102). -/
def State.loadBusy (s : State) (addr : Nat) (target : Option Nat) (ofPtm forced : Bool) : Bool :=
  (s.profPending && !ofPtm) || s.anyHeld (s.imgPages addr) ||
  (s.running 9 && !forced && (match target, s.takeFloor with | some E, some f => decide (E ≤ f) | _, _ => false))

/-- A LOAD is issued: it is refused with BUSY, or the copy starts (R98, R102). The answer says whether it was accepted. -/
def State.imgLoad (s : State) (addr : Nat) (target : Option Nat) (next : Bool) (newProfile : Option Nat) (forced : Bool) : State × Bool :=
  if s.geyser.load.isSome then (s.imgCountRefusal, false)
  else if s.loadBusy addr target newProfile.isSome forced then ((s.imgShow 5 12 target).imgCountRefusal, false)
  else
    let l : ImageLoad := { addr := addr, len := s.imgLen addr, started := s.now, target := target, next := next, newProfile := newProfile, forced := forced }
    (((s.setLoad (some l)).wrN Reg.GSE_IMG_PEND_ID (s.le (addr + 0x0C) 4)).imgShow 1 0 target, true)

/-- Address in GSE_IMG_ADDR. -/
def State.imgAddr (s : State) : Nat := s.rd64 Reg.GSE_IMG_ADDR_LO Reg.GSE_IMG_ADDR_HI

/-- The target that EPOCH names: resolved under R47, an odd one taken as the epoch after it (R98). -/
def State.evenTarget (s : State) (field : Nat) : Option Nat := (resolveEpoch s.epoch field).map (fun E => E + E % 2)

/-- A write to GSE_IMG_CMD (Table 4.18). -/
def State.imgCmd (s : State) (v : Nat) : State :=
  if v.testBit 29 then s.imgCancel
  else if v.testBit 31 then
    (s.imgLoad s.imgAddr (if v.testBit 30 then none else s.evenTarget v) (v.testBit 30) none false).1
  else s

/-- A flip at epoch E of a change between SWIFT and another profile lies on a whole multiple of 125 µs (R129); targets of images are even (R98). -/
def State.alignedTarget (s : State) (swift : Bool) (E : Nat) : Bool := E % 2 == 0 && (!swift || E * s.epochNs % 125000 == 0)

/-- Arm deadline of a target in ns: 2 epochs before it, or 8 ms with a voltage phase (R98, R100, R130). -/
def State.armDeadline (s : State) (vphase : Bool) (E : Nat) : Nat := if vphase then E * s.epochNs - 8000000 else (E - 2) * s.epochNs

/-- The earliest target whose arm deadline falls after now, after every pending take (R98, R102, R129). -/
def State.nextTarget (s : State) (vphase swift : Bool) : Nat :=
  let base := max (max (s.epoch + 1) (match s.takeFloor with | some f => f + 1 | none => 0))
    ((s.now + (if vphase then 8000000 else 2 * s.epochNs)) / s.epochNs)
  (((List.range 16).map (fun i => base + i)).find? (fun E => s.alignedTarget swift E && decide (s.now < s.armDeadline vphase E))).getD (base + 16)

/-- Profile that the image must declare: that of its profile change, else the active one. -/
def State.imgProfile (s : State) (l : ImageLoad) : Nat := l.newProfile.getD s.profile

/-- The load enters or leaves SWIFT. -/
def State.loadSwift (s : State) (l : ImageLoad) : Bool := (s.imgProfile l == 1) != (s.profile == 1)

/-- The active image and its identity are those of the load. -/
def State.imgActive (s : State) (l : ImageLoad) : State :=
  match l.image with
  | some d => (({ s with fabric := { s.fabric with image := some d } }).wrN Reg.GSE_IMG_ID d.id).wrN Reg.GSE_IMG_HCRC d.hcrc
  | none => s

/-- A load while the CXF is in IDLE: active and shadow copies are written together once every block's checks have passed (R101). -/
def State.imgIdle (s : State) (l : ImageLoad) (d : ImageDef) : State :=
  let pages := cxfPages ++ s.imgPages l.addr
  let saved := s.shadowWords pages
  let t := (s.stageOthers l.addr).stageLists (s.imgLists l.addr)
  let marked := pages.foldl (fun u p => u.setShadow p 2) t
  let r := marked.imgCheck (s.imgPages l.addr) (s.imgProfile l) d false
  let unmark := fun (u : State) => pages.foldl (fun v p => v.wr (hSHADOW p) (s.rd (hSHADOW p))) u
  if r.2 then
    let u := pages.foldl State.takeShadow t
    ((((u.imgActive { l with image := some d }).setLoad none).bump Reg.GSE_IMG_LOADS).imgShow 4 0 none)
  else (unmark (r.1.restoreShadow pages saved)).imgRefuse { l with pages := [] } 13

/-- GSE_IMG_DIFFER rises (R104). -/
def State.imgDiffer (s : State) : State := (s.bump Reg.GSE_IMG_DIFFER_CNT).raise Src.GSE_IMG_DIFFER

/-- The armed image meets what the twin has armed, if that is known (R104). -/
def State.imgMatch (s : State) : State :=
  match s.geyser.load, s.geyser.twinImage with
  | some l, some x =>
    match l.image with
    | some d =>
      if 2 ≤ l.stage && l.matched.isNone then
        let same := decide ((d.id, d.hcrc, l.target.getD 0) = x)
        let t := ({ s with geyser := { s.geyser with twinImage := none } }).setLoad (some { l with matched := some same })
        if same then t else t.imgDiffer
      else s
    | none => s
  | _, _ => s

/-- The CXF part of the load: its lists enter the shadow and the group arms; it waits while earlier takes or another flip hold the CXF (R102). -/
def State.imgStage (s : State) (l : ImageLoad) : State :=
  let E := l.target.getD 0
  let others := l.pages.filter (fun p => blockOf p != 9)
  if s.anyHeld others then s.imgRefuse l 12
  else if (match s.takeFirst with | some f => decide (f < E) | none => false) || s.geyser.group != .free then s.setLoad (some { l with stage := 1 })
  else if (E - 2) * s.epochNs < s.now then s.imgRefuse l 11
  else
    let l2 := { l with stage := 2, saved := s.shadowWords cxfPages ++ l.saved, pages := cxfPages ++ others }
    let t := ((s.stageLists l.lists).armPages l2.pages E).setLoad (some l2)
    let u := { t with geyser := { t.geyser with group := .image, groupEpoch := E, groupCommitted := false } }
    let v := (u.imgShow 2 0 (some E)).bump Reg.GSE_FLIPS
    match l.image with
    | some d => (if v.paired then v.sendCtl (.imageArm (E % 2 ^ 24) d.id d.hcrc) else v).imgMatch
    | none => v

/-- A load that waits for takes goes on when they have ended (R102). -/
def State.imgPoke (s : State) : State :=
  match s.geyser.load with
  | some l => if l.stage = 1 then s.imgStage l else s
  | none => s

/-- The copy and the checks of the load are complete (R98 to R102). -/
def State.imgCopyDone (s : State) : State :=
  match s.geyser.load with
  | none => s
  | some l0 =>
    if l0.stage ≠ 0 then s
    else
      let idle := s.cur 9 == sIDLE
      let vphase := match s.power.prof with | some c => l0.newProfile.isSome && !l0.forced && c.vphase | none => false
      let l := if !idle && l0.next then { l0 with target := some (s.nextTarget vphase (s.loadSwift l0)) } else l0
      let t := (s.setFld Reg.GSE_IMG_LOAD_US 23 0 ((s.now - l.started) / 1000)).setLoad (some l)
      let r := t.imgReason l.addr (t.imgProfile l)
      if r ≠ 0 then t.imgRefuse l r
      else if t.blockStateBad l.addr then t.imgRefuse l 10
      else
        let d := t.imgDef l.addr
        if idle then t.imgIdle l d
        else match l.target with
        | none => t.imgRefuse l 11
        | some E =>
          if (E - 2) * t.epochNs < t.now then t.imgRefuse l 11
          else
            let pages := t.imgPages l.addr
            if t.anyHeld pages then t.imgRefuse l 12
            else
              let l2 := { l with image := some d, lists := t.imgLists l.addr, saved := t.shadowWords pages, pages := pages }
              ((t.imgShow 1 0 (some E)).stageOthers l.addr).imgStage l2

/-- The commit point of the armed image (R99, R100, R104): every block's checks run, and the group freezes or the image is refused. -/
def State.imgCommit (s : State) : State :=
  match s.geyser.load with
  | none => s
  | some l =>
    match l.image with
    | none => s
    | some d =>
      if l.stage ≠ 2 then s
      else
        let c := s.cxfCheck (some d.profile) (s.imgProfile l) d.outputs
        if c ≠ 0 then (s.setFld Reg.CXF_PROFILE 31 28 c).imgRefuse l 13
        else
          let r := s.imgCheck l.pages (s.imgProfile l) d true
          if !r.2 then r.1.imgRefuse l 13
          else
            let t := ((r.1.commitPages l.pages).setLoad (some { l with stage := 3 })).imgShow 3 0 l.target
            let u := { t with geyser := { t.geyser with groupCommitted := true } }
            if u.paired && l.matched.isNone then u.imgDiffer else u

/-- What a flipped page means to its block, besides its tables: a layer engine's flip is taken, an audio map governs from this boundary. -/
def State.flipHooks (s : State) (l : List Nat) : State :=
  let t := (l.filter (fun p => blockOf p == 12)).foldl (fun u p => u.pxpFlip (pageNo p - 1)) s
  if l.any (fun p => blockOf p == 14) then t.audFlip else t

/-- The committed image flips at its boundary (R100). -/
def State.imgFlip (s : State) (l : ImageLoad) : State :=
  let t := ((((s.flipPages l.pages).flipHooks l.pages).imgActive l).setLoad none).freeGroup
  (t.bump Reg.GSE_IMG_LOADS).imgShow 4 0 l.target

end Sys2Proof.Machine
end

