-- ==== Sys2Proof/Machine/Take.lean ====
section
/-! DEFINITION. Takes and salvos: boundaries and flip epochs, acceptance, the agreement with the twin, arming, commit, flip, cancels and credits (R105 to R124). -/

namespace Sys2Proof.Machine

/-! ### Boundaries and flip epochs (R106 to R109) -/

/-- The definition whose boundary an output takes at: its own, or for a linked ancillary output that of the video output it follows (Table 4.8). -/
def boundaryDef (outs : List OutputDef) (o : OutputDef) : OutputDef :=
  if o.boundary = 4 then (outs.find? (fun v => v.id == o.link)).getD o else o

/-- Number of the first boundary of an output at or after T: of a frame for kinds 0 and 1, of a 125 µs block for kind 2, of an epoch for kind 3. -/
def firstBoundary (o : OutputDef) (epochNs T : Nat) : Nat :=
  match o.boundary with
  | 2 => ceilDiv T 125000
  | 3 => ceilDiv T epochNs
  | b =>
    let q := rateFrac (fmtRate o.format)
    let n := rasterTotal (fmtRaster o.format)
    let frame := 1000000000 * q.2
    ceilDiv (T * q.1 * n - (if b = 0 then 6 * frame else 0)) (n * frame)

/-- Last active line of a frame. -/
def lastLine (r : Nat) : Nat := if interlaced r then (rasterRange2 r).2 else (rasterRange1 r).2

/-- The odd epoch at or after e. -/
def oddFrom (e : Nat) : Nat := if e % 2 = 1 then e else e + 1

/-- Flip epoch F of boundary k of an output whose format has an assembly allowance (R107). -/
def flipOf (o : OutputDef) (allow epochNs k : Nat) : Nat :=
  let e := match o.boundary with
    | 2 => ((if fmtKind o.format = 1 then (audioNominal o.format k).time else k * 125000) + allow) / epochNs
    | 3 => k
    | _ =>
      let r := fmtRaster o.format
      if k = 0 then 0 else (lineTime o.format ((k - 1) * rasterTotal r + lastLine r - 1) + allow) / epochNs + 1
  oddFrom e + 1

/-- Boundaries that a member moves on from the first one at or after T until its stamp meets the arm deadline, the start of F - 2 (R109). -/
def movesFor (o : OutputDef) (allow epochNs T S : Nat) : Nat :=
  let k := firstBoundary o epochNs T
  let from' := max k (firstBoundary o epochNs S - 4)
  match (List.range 16).find? (fun i => decide (S < (flipOf o allow epochNs (from' + i) - 2) * epochNs)) with
  | some i => from' + i - k
  | none => from' + 16 - k

/-- The definition and allowance that time a member for a destination. -/
def State.timingDef (s : State) (dst : Nat) : Option (OutputDef × Nat) :=
  (s.outputDef dst).map (fun o => let b := boundaryDef s.outputs o; (b, s.allowance b.format))

/-- Flip epochs of the members of a command with requested time T and stamp S, and the number of boundaries that all of them moved on (R109, R112). -/
def State.flipEpochs (s : State) (dsts : List Nat) (T S : Nat) : List Nat × Nat :=
  let defs := dsts.map s.timingDef
  let n := (defs.map (fun d => match d with | some x => movesFor x.1 x.2 s.epochNs T S | none => 0)).foldl max 0
  (defs.map (fun d => match d with | some x => flipOf x.1 x.2 s.epochNs (firstBoundary x.1 s.epochNs T + n) | none => 0), n)

/-! ### Status words (Table 4.10, R122) -/

/-- Address of the status word of a tag. -/
def statusAddr (tag : Nat) : Nat := pageAddr 10 (0x20 + tag / 4096) + 0x1000 + 4 * (tag % 4096)

/-- STATE of a take or salvo from those of its members. -/
def takeState (t : Take) : Nat :=
  let st := t.members.map (·.state)
  match [1, 2, 3, 4, 9, 5, 6, 7].find? (fun c => st.contains c) with
  | some c => c
  | none => 8

/-- REASON of a take: that of its first refused member, or LATE for a refused cancel. -/
def takeReason (t : Take) : Nat :=
  if takeState t = 9 then ((t.members.find? (fun m => m.state == 9)).map (·.reason)).getD 0 else if t.lateCancel then 10 else 0

/-- The status word of a take. -/
def takeWord (t : Take) : Nat :=
  takeState t * 2 ^ 28 + takeReason t * 2 ^ 24 + b2n t.moved * 2 ^ 23 + b2n t.isLocal * 2 ^ 22 + b2n t.isSalvo * 2 ^ 21 +
    (t.members.map (·.flip)).foldl max 0 % 2 ^ 21

/-- The take has not ended. -/
def liveTake (t : Take) : Bool := liveState (takeState t)

/-- The take of a tag. -/
def State.takeOf (s : State) (tag : Nat) : Option Take := s.geyser.takes.find? (fun t => t.tag == tag)

/-- A tag names a status in WAIT_TWIN, QUEUED, ARMED or COMMITTED. -/
def State.tagLive (s : State) (tag : Nat) : Bool := match s.takeOf tag with | some t => liveTake t | none => false

/-- The takes change. -/
def State.setTakes (s : State) (l : List Take) : State := { s with geyser := { s.geyser with takes := l } }

/-- The take of a tag changes. -/
def State.setTake (s : State) (t : Take) : State := s.setTakes (mapIf (fun x => x.tag == t.tag) (fun _ => t) s.geyser.takes)

/-- Status words and GSE_QUEUE follow the takes; GSE_QUEUE_WM sees the members pending; a waiting image goes on. -/
def State.takeSync (s : State) : State :=
  let t := s.geyser.takes.foldl (fun u x => u.wrN (statusAddr x.tag) (takeWord x)) s
  let n := t.pendingMembers.length
  ((t.wrN Reg.GSE_QUEUE n).watermark Reg.GSE_QUEUE_WM n (s.fld Reg.GSE_QUEUE_MARK 14 0) 512).imgPoke

/-- Counter of the members that ended in a state. -/
def endCounter (st : Nat) : Nat :=
  match st with
  | 5 => Reg.GSE_TAKES_DONE | 6 => Reg.GSE_TAKES_NOOP | 7 => Reg.GSE_TAKES_CANCELLED | 8 => Reg.GSE_TAKES_SUPERSEDED | _ => Reg.GSE_TAKES_REFUSED

/-! ### The CXF shadow (R110, R119) -/

/-- SRC of the shadow of every run descriptor whose DST is the output, where f gives it from plane and index. -/
def State.writeSrc (s : State) (dst : Nat) (f : Nat → Nat → Nat) : State :=
  planeNos.foldl (fun t p =>
    (List.range (t.shadowLen p)).foldl (fun u j =>
      let d := u.descShadow p j
      if dKind d = 1 ∧ dDst d = dst then u.setFld (descAddr p j + 0x8000 + 12) 27 12 (f p j) else u) t) s

/-- The take's SRC enters the shadow. -/
def State.shadowSrc (s : State) (dst src : Nat) : State := s.writeSrc dst (fun _ _ => src)

/-- The active SRC returns to the shadow. -/
def State.shadowRestore (s : State) (dst : Nat) : State := s.writeSrc dst (fun p j => dSrc (s.desc p j))

/-- The armed shadow of the group is open for takes of flip epoch F. -/
def State.groupFor (s : State) (F : Nat) : Bool := s.geyser.group == .takes && s.geyser.groupEpoch == F && !s.geyser.groupCommitted

/-- Run-ahead cells that a member staged are discarded (R118). -/
def State.discardStaged (s : State) (m : Member) : State := if m.prefetch = 2 then s.bumpBy Reg.GSE_PREFETCH_DISCARD 4 else s

/-- A member ends by the internal path (R113, R116, R119): its SRC leaves the armed shadow, its staged cells are discarded, and it counts. -/
def State.endMember (s : State) (m : Member) (st reason : Nat) : State × Member :=
  let t := if m.written && s.groupFor m.flip then s.shadowRestore m.dst else s
  ((t.discardStaged m).bump (endCounter st), { m with state := st, reason := reason, written := false, prefetch := 0 })

/-- Members of a list that a test admits end; the others stay. -/
def State.endMembers (s : State) (p : Member → Bool) (st reason : Nat) : List Member → State × List Member
  | [] => (s, [])
  | m :: r =>
    let x := if p m then s.endMember m st reason else (s, m)
    let y := x.1.endMembers p st reason r
    (y.1, x.2 :: y.2)

/-- Members of every take that a test admits end. -/
def State.endWhere (s : State) (p : Take → Member → Bool) (st reason : Nat) : State :=
  s.geyser.takes.foldl (fun u t =>
    let r := u.endMembers (p t) st reason t.members
    r.1.setTake { t with members := r.2 }) s

/-- GSE_TWIN_LATE rises. -/
def State.twinLate (s : State) : State := (s.bump Reg.GSE_TWIN_LATE_CNT).raise Src.GSE_TWIN_LATE

/-! ### Arming (R110, R115, R118) -/

/-- A SRC may feed an output: valid under R63, of the output's kind, with an ingress pool in the active image (Table 4.9, code 2). -/
def State.srcOk (s : State) (src : Nat) (o : OutputDef) : Bool :=
  src == 0xFFFF ||
  ((essenceRole src == .input || essenceRole src == .internalSource) &&
    (match essenceKind src with | some k => k == fmtKind o.format | none => true) && (s.poolOf src 0).isSome)

/-- The run-ahead of a member is issued where its source is an FST read port (R118). -/
def State.runAhead (s : State) (src : Nat) : Bool := s.bit Reg.GSE_CFG 1 && inR 0x4000 0x43FF src

/-- A member is armed for its flip epoch: checked against the active image, refused BUSY while the group is held for another boundary, and otherwise written to the shadow, which arms at its first member (R102, R110). -/
def State.armMember (s : State) (m : Member) : State × Member :=
  match s.outputDef m.dst with
  | none => s.endMember m 9 1
  | some o =>
    if !s.srcOk m.src o then s.endMember m 9 2
    else if s.geyser.group != .free && !s.groupFor m.flip then s.endMember m 9 7
    else
      let t := if s.geyser.group == .free then
          let u := (s.armPages cxfPages m.flip).bump Reg.GSE_FLIPS
          { u with geyser := { u.geyser with group := .takes, groupEpoch := m.flip, groupCommitted := false } }
        else s
      (t.shadowSrc m.dst m.src, { m with state := if m.state = 2 then 3 else m.state, written := true, prefetch := if s.runAhead m.src then 1 else 0 })

/-- Members of a list that wait for flip epoch F are armed. -/
def State.armMembers (s : State) (F : Nat) : List Member → State × List Member
  | [] => (s, [])
  | m :: r =>
    let x := if m.flip = F ∧ (m.state = 1 ∨ m.state = 2) ∧ m.written = false then s.armMember m else (s, m)
    let y := x.1.armMembers F r
    (y.1, x.2 :: y.2)

/-- Every member that waits for flip epoch F is armed. -/
def State.armFlip (s : State) (F : Nat) : State :=
  s.geyser.takes.foldl (fun u t =>
    let r := u.armMembers F t.members
    r.1.setTake { t with members := r.2 }) s

/-- Start of F - 2: takes of flip epoch F are armed. -/
def State.takeArm (s : State) : State := (s.armFlip (s.epoch + 2)).takeSync

/-- The four reads of a run-ahead for the read port of an essence: the counters of its slot's stack count them, and the stack moves their bytes (R118, R239). -/
def State.runAheadRead (s : State) (src : Nat) : State :=
  match s.activeSlots.find? (fun y => slOut y.2 == src) with
  | none => s
  | some y =>
    ((s.bumpBy (Reg.FST_S_RD_CNT (slStack y.2 % 4 + 1)) 4).bumpBy (Reg.FST_S_PF_RD_CNT (slStack y.2 % 4 + 1)) 4).stackMove
      (slStack y.2 % 4) (256 * (1 + fmtTokens (slFormat y.2)))

/-- The run-ahead for the read port of an essence completes: four cells stand in its staging buffer (R118). -/
def State.prefetchDone (s : State) (src : Nat) : State :=
  let waits := fun (m : Member) => m.src == src && m.prefetch == 1 && liveState m.state && m.state != 4
  match s.geyser.takes.find? (fun t => t.members.any waits) with
  | none => s
  | some t =>
    match t.members.findIdx? waits with
    | none => s
    | some i =>
      match t.members[i]? with
      | none => s
      | some m => ((s.setTake { t with members := setNth t.members i { m with prefetch := 2 } }).bumpBy Reg.GSE_PREFETCH_CELLS 4).runAheadRead src

def execPrefetchDone (src : Nat) (s : State) : Host.Outcome State Fault Refusal := .next (s.prefetchDone src)

/-! ### Acceptance (R105, R111 to R113, R121) -/

/-- Order of takes for one output and flip epoch (R113): by stamp, Twin A first; the later acceptance among equals. -/
def takeBefore (a b : Take) : Bool :=
  decide (a.stamp < b.stamp) || (a.stamp == b.stamp && decide (a.tag / 8192 ≤ b.tag / 8192))

/-- The conditions of Table 4.9 on a TAKE or SALVO from here or, with remote, from the twin, in the table's order: the code, 0 for acceptance, with flip epochs and moves. -/
def State.takeCheck (s : State) (remote salvo : Bool) (tag count : Nat) (pairs : List (Nat × Nat)) (T S : Nat) : Nat × List Nat × Nat :=
  let dsts := pairs.map (·.2)
  let fs := s.flipEpochs dsts T S
  let code :=
    if !s.running 10 || !s.running 9 then 11
    else if !remote && s.bit Reg.GSE_CFG 2 then 12
    else if !remote && s.partnerless && !s.bit Reg.GSE_CFG 0 then 14
    else if salvo && (count == 0 || decide (4096 < count) || hasDup dsts) then 3
    else if dsts.any (fun d => (s.outputDef d).isNone) then 1
    else if pairs.any (fun x => match s.outputDef x.2 with | some o => !s.srcOk x.1 o | none => false) then 2
    else if fs.1.any (fun F => decide (s.epoch + 2 ^ 23 < F)) then 4
    else if (match s.loadTarget with | some E => fs.1.any (fun F => decide (F ≤ E)) | none => false) then 7
    else if s.tagLive tag || decide (16384 < s.pendingMembers.length + count) then 6
    else if !remote && decide (s.rdN Reg.GSE_CREDIT < count) then 5
    else 0
  (code, fs.1, fs.2)

/-- A refused command leaves its reason under its tag, unless the tag still names a live status (R111). -/
def State.takeRefused (s : State) (tag code : Nat) (salvo : Bool) : State :=
  if s.tagLive tag then s
  else (s.setTakes (s.geyser.takes.filter (fun t => t.tag != tag))).wrN (statusAddr tag) (9 * 2 ^ 28 + code * 2 ^ 24 + b2n salvo * 2 ^ 21)

/-- A new member meets the others for its output and flip epoch (R113): the losers become SUPERSEDED. Answers whether the new one stands. -/
def State.supersede (s : State) (t : Take) (m : Member) : State × Bool :=
  let rival := fun (x : Take) (y : Member) => x.tag != t.tag && y.dst == m.dst && y.flip == m.flip && inR 1 3 y.state
  if s.geyser.takes.any (fun x => x.members.any (rival x) && !takeBefore x t) then (s, false)
  else (s.endWhere rival 8 0, true)

/-- Members of a new take enter in turn: each supersedes or is superseded; one whose commit point has passed ends REFUSED with LATE (R115). -/
def State.enterMembers (s : State) (t : Take) : List Member → State × List Member
  | [] => (s, [])
  | m :: r =>
    let x := s.supersede t m
    let y := if !x.2 then x.1.endMember m 8 0
      else if m.flip ≤ s.epoch + 1 then x.1.endMember m 9 10 else (x.1, m)
    let z := y.1.enterMembers t r
    (z.1, y.2 :: z.2)

/-- An accepted take or salvo is held: members of an armed or passed flip are armed at once by the internal path (R115). -/
def State.takeEnter (s : State) (t : Take) (moves : Nat) : State :=
  let s0 := s.setTakes (s.geyser.takes.filter (fun x => x.tag != t.tag))
  let r := s0.enterMembers t t.members
  let s1 := r.1.setTakes (r.1.geyser.takes ++ [{ t with members := r.2 }])
  let s2 := if moves = 0 then s1 else s1.bumpBy Reg.GSE_TAKES_MOVED t.members.length
  let s3 := if t.isSalvo then s2.bump Reg.GSE_SALVOS else s2
  let due := ((r.2.filter (fun m => liveState m.state && decide (m.flip ≤ s.epoch + 2))).map (·.flip)).eraseDups
  ((due.filter (fun F => s.groupFor F)).foldl State.armFlip s3).takeSync

/-- Records that carry a command to the twin: at most 506 members in each, the last marked (R348, R350). -/
def takeRecs (tag op S T : Nat) : Nat → List (Nat × Nat) → List CtlRec
  | 0, _ => []
  | n + 1, l =>
    let rest := l.drop 506
    if rest.isEmpty then [.take tag op S T l true] else .take tag op S T (l.take 506) false :: takeRecs tag op S T n rest

/-- A TAKE or SALVO enters a port with stamp S: the code of Table 4.9 and whether it moved. -/
def State.takeSubmit (s : State) (tag : Nat) (salvo : Bool) (count : Nat) (pairs : List (Nat × Nat)) (T : Nat) : State × Nat × Bool :=
  let S := s.now
  let r := s.takeCheck false salvo tag count pairs T S
  if r.1 ≠ 0 then (s.takeRefused tag r.1 salvo, r.1, false)
  else
    let loc := s.partnerless
    let members : List Member := (pairs.zip r.2.1).map (fun x => { src := x.1.1, dst := x.1.2, state := if loc then 2 else 1, flip := x.2 })
    let t : Take := { tag := tag, stamp := S, time := T, isSalvo := salvo, isLocal := loc, moved := r.2.2 != 0, sentAt := (if loc then none else some s.now), members := members }
    let u := (s.setFld Reg.GSE_CREDIT 13 0 (s.rdN Reg.GSE_CREDIT - count)).takeEnter t r.2.2
    ((if loc then u else (takeRecs tag (b2n salvo) S T (pairs.length + 1) pairs).foldl State.sendCtl u), 0, r.2.2 != 0)

/-- The code of Table 4.9 for a cancel of a tag; own is the tag of the CANCEL itself, none for one from the twin. -/
def State.cancelCheck (s : State) (target : Nat) (own : Option Nat) : Nat :=
  if !s.running 10 || !s.running 9 then 11
  else if own.isSome && s.bit Reg.GSE_CFG 2 then 12
  else if own.isSome && s.partnerless && !s.bit Reg.GSE_CFG 0 then 14
  else if !s.tagLive target then 13
  else if (match own with | some g => s.tagLive g | none => false) then 6
  else if (match s.takeOf target with | some t => t.members.any (fun m => inR 4 6 m.state) | none => false) then 10
  else 0

/-- A cancel of a take or salvo: clean before its commit points, or refused (R112, R119). -/
def State.takeCancel (s : State) (target : Nat) (own : Option Nat) : State × Nat :=
  let code := s.cancelCheck target own
  if code = 10 then
    ((match s.takeOf target with | some t => (s.setTake { t with lateCancel := true }).takeSync | none => s), 10)
  else if code ≠ 0 then (s, code)
  else
    match s.takeOf target with
    | none => (s, 13)
    | some t =>
      let r := s.endMembers (fun m => liveState m.state) 7 0 t.members
      let forward := own.isSome && !t.isLocal
      let u := (r.1.setTake { t with members := r.2, cancelOut := forward }).takeSync
      (if forward then u.sendCtl (.take target 2 s.now 0 [] true) else u, 0)

/-- A CANCEL enters a port: its tag reads DONE at once, or REFUSED (R122). -/
def State.cancelSubmit (s : State) (tag target : Nat) : State × Nat :=
  let r := s.takeCancel target (some tag)
  if r.2 = 0 then ((r.1.setTakes (r.1.geyser.takes.filter (fun t => t.tag != tag))).wrN (statusAddr tag) (5 * 2 ^ 28), 0)
  else (r.1.takeRefused tag r.2 false, r.2)

/-! ### The ports (Tables 4.20 to 4.22, R124) -/

/-- Member i of port n's salvo list. -/
def State.salvoMember (s : State) (n i : Nat) : Nat × Nat :=
  let w := s.rdN (pageAddr 10 (n + 1) + 0x4000 + 4 * i)
  (w / 65536, w % 65536)

/-- A command of port n (0 to 7) receives its tag; the port's result, history and counters follow. -/
def State.portResult (s : State) (n tag code : Nat) (moved : Bool) : State :=
  let k := n + 1
  let w := (if code = 0 then 1 else 2) * 2 ^ 28 + code * 2 ^ 24 + b2n moved * 2 ^ 23 + tag
  let t := (s.wrWords (Reg.GSE_P_HIST k 0) (w :: s.rdWords (Reg.GSE_P_HIST k 0) 15)).wrN (Reg.GSE_P_RESULT k) w
  if code = 0 then t
  else
    let u := (t.bump (Reg.GSE_P_REFUSED k)).bump (Reg.GSE_REFUSE_CNT code)
    u.raiseIf (code == 6) Src.GSE_QUEUE_FULL

/-- A write to GSE_P_CMD of port n (Table 4.21); other OP values are ignored. -/
def State.portCmd (s : State) (n v : Nat) : State :=
  let k := n + 1
  let op := v / 2 ^ 28 % 16
  let arg := v % 2 ^ 14
  let tag := s.nextTag n
  if !inR 1 3 op then s
  else
    let s0 := ({ s with geyser := { s.geyser with serials := setNth s.geyser.serials n ((nthD s.geyser.serials n 0 + 1) % 1024) } }).bump (Reg.GSE_P_ISSUED k)
    let T := if v.testBit 27 then s.now else s.rd64 (Reg.GSE_P_TIME_LO k) (Reg.GSE_P_TIME_HI k)
    if op = 3 then
      let r := s0.cancelSubmit tag arg
      r.1.portResult n tag r.2 false
    else
      let pairs := if op = 1 then [(s.rdN (Reg.GSE_P_ARG k) / 65536, s.rdN (Reg.GSE_P_ARG k) % 65536)]
        else (List.range (min arg 4096)).map (s.salvoMember n)
      let r := s0.takeSubmit tag (op == 2) (if op = 1 then 1 else arg) pairs T
      r.1.portResult n tag r.2.1 r.2.2

/-- GSE_CREDIT gains one credit, up to 8,192 (R121). -/
def execCreditTick (s : State) : Host.Outcome State Fault Refusal :=
  .next (s.setFld Reg.GSE_CREDIT 13 0 (min 8192 (s.rdN Reg.GSE_CREDIT + 1)))

/-! ### Commit and flip (R110, R114, R116) -/

/-- Takes of flip epoch F still without an agreement are removed, with GSE_TWIN_LATE once for each take or salvo (R116). -/
def State.dropUnagreed (s : State) (F : Nat) : State :=
  let waits := fun (m : Member) => m.flip == F && m.state == 1
  let n := (s.geyser.takes.filter (fun t => t.members.any waits)).length
  (List.range n).foldl (fun u _ => u.twinLate) (s.endWhere (fun _ m => waits m) 9 8)

/-- At the commit point the staged cells pass to the read port, and a run-ahead that has not completed raises GSE_PREFETCH_MISS (R118). -/
def State.commitStaged (s : State) (m : Member) : State :=
  if m.prefetch = 2 then
    if s.sourceOf m.dst = m.src then s
    else { s with store := { s.store with staged := s.store.staged.filter (fun x => x.1 != m.src) ++ [(m.src, m.flip - 1, 4)] } }
  else s.raiseIf (m.prefetch == 1) Src.GSE_PREFETCH_MISS

/-- The commit point of takes of flip epoch F (R110): the checks of R78 run, and the shadow freezes or every take it carried ends REFUSED with CHECK, with the active SRC back in the shadow. -/
def State.takeCommitAt (s : State) (F : Nat) : State :=
  let t := s.dropUnagreed F
  if t.groupFor F then
    let c := t.cxfCheck none t.profile t.outputs
    let mine := fun (_ : Take) (m : Member) => m.flip == F && m.state == 3
    if c ≠ 0 then
      let u := (t.setFld Reg.CXF_PROFILE 31 28 c).endWhere mine 9 15
      ((u.endPages cxfPages 6).freeGroup).takeSync
    else
      let l := t.geyser.takes.flatMap (fun x => x.members.filter (mine x))
      let u := (l.foldl State.commitStaged t).commitPages cxfPages
      let v := u.setTakes (u.geyser.takes.map (fun x => { x with members := mapIf (mine x) (fun m => { m with state := 4, prefetch := 0 }) x.members }))
      ({ v with geyser := { v.geyser with groupCommitted := true } }).takeSync
  else t.takeSync

/-- A committed member flips: NOOP where its SRC was in force in every run of its output, else DONE with a TAKE mark owed (R110, R114). -/
def State.flipMember (s : State) (before : State) (m : Member) : State × Member :=
  let l := before.runsTo m.dst
  if !l.isEmpty && l.all (fun d => dSrc d == m.src) then (s.bump Reg.GSE_TAKES_NOOP, { m with state := 6 })
  else
    let t := { s with fabric := { s.fabric with takeMarks := s.fabric.takeMarks ++ [(m.dst, m.flip)] } }
    (t.bump Reg.GSE_TAKES_DONE, { m with state := 5 })

/-- The committed members of flip epoch F among a list flip; the third answer counts the outputs changed. -/
def State.flipMembers (s before : State) (F : Nat) : List Member → State × List Member × Nat
  | [] => (s, [], 0)
  | m :: r =>
    let mine := m.flip == F && m.state == 4
    let x := if mine then s.flipMember before m else (s, m)
    let y := x.1.flipMembers before F r
    (y.1, x.2 :: y.2.1, y.2.2 + b2n (mine && x.2.state == 5))

/-- The flip of takes at the start of epoch F. -/
def State.takeFlip (s : State) (F : Nat) : State :=
  let carried := s.geyser.takes.any (fun t => t.members.any (fun m => m.flip == F && m.state == 4))
  let r := s.geyser.takes.foldl (fun (a : State × Nat) t =>
    let x := a.1.flipMembers s F t.members
    (x.1.setTake { t with members := x.2.1 }, a.2 + x.2.2)) (s, 0)
  let t := (r.1.flipPages cxfPages).freeGroup
  let u := if carried then ((t.wrN Reg.GSE_LAST_FLIP_LO F).wrN Reg.GSE_LAST_FLIP_HI (F / 2 ^ 32)).setFld Reg.GSE_FLIP_OUTPUTS 12 0 r.2 else t
  u.takeSync

/-- The commit point of what the CXF flip group holds. -/
def State.groupCommit (s : State) : State :=
  if s.geyser.groupCommitted then s
  else match s.geyser.group with
  | .free => s
  | .takes => s.takeCommitAt s.geyser.groupEpoch
  | .image => s.imgCommit

/-- The CXF flip group at the boundary that begins epoch e: a group armed for it commits, if its commit point was not given before, and flips. -/
def State.groupFlip (s : State) (e : Nat) : State :=
  if s.geyser.group != .free && s.geyser.groupEpoch == e then
    let t := s.groupCommit
    match t.geyser.group with
    | .takes => t.takeFlip e
    | .image => (match t.geyser.load with | some l => (t.imgFlip l).takeSync | none => t)
    | .free => t
  else s

/-- An image that the twin has armed for a boundary whose commit point has passed without a like image here (R104). -/
def State.twinImagePassed (s : State) : State :=
  match s.geyser.twinImage with
  | some x => if x.2.2 ≤ s.epoch + 1 then
      let t := { s with geyser := { s.geyser with twinImage := none } }
      if s.paired then t.imgDiffer else t
    else s
  | none => s

/-- Takes up to the target of a forced change that are not COMMITTED end REFUSED with BUSY (R143). -/
def State.refuseTakesTo (s : State) (E : Nat) : State := (s.endWhere (fun _ m => decide (m.flip ≤ E) && inR 1 3 m.state) 9 7).takeSync

/-- A step of the timescale ends every take not yet ended as CANCELLED (R475). -/
def State.cancelTakes (s : State) : State := (s.endWhere (fun _ m => liveState m.state) 7 0).takeSync

end Sys2Proof.Machine
end

