-- ==== Sys2Proof/Machine/Volt.lean ====
section
/-! DEFINITION. The set point of VDD_CORE, the Fumarole loop, the rails, PMBus and the power average (R126, R136 to R139, R149 to R151, R453). -/

namespace Sys2Proof.Machine

/-! ### The set point (R126, R139, R150) -/

/-- Exponent n, where VOUT_MODE gives LINEAR16 with exponent -n (PMBus 1.3, log entry 42). -/
def voutShift (mode : Nat) : Nat := (32 - mode % 32) % 32

/-- VOUT_MODE is LINEAR16 with an exponent of -9 or less (R150). -/
def voutOk (mode : Nat) : Bool := mode / 32 % 8 == 0 && decide (9 ≤ voutShift mode) && decide (voutShift mode ≤ 16)

/-- VOUT_COMMAND for a set point: round(V ÷ 2^exponent) (R150). -/
def voutCommand (mode steps : Nat) : Nat := ((6500 + 25 * steps) * 2 ^ voutShift mode + 5000) / 10000

/-- A PMBus write to the regulator of rail k with the settings in force (Table 5.14). -/
def State.pmbusWrite (s : State) (k cmd value : Nat) : State :=
  match kget s.power.rails k with
  | some x => s.send (.pmbus s.now x.1 x.2.1 x.2.2 cmd value)
  | none => s

/-- PTM_LOOP_HIST takes a step as its newest entry (Table 5.9). -/
def State.stepHist (s : State) (kind steps : Nat) : State :=
  s.wrWords (Reg.PTM_LOOP_HIST 0) ((kind * 2 ^ 30 + steps * 2 ^ 23 + s.epoch % 2 ^ 23) :: s.rdWords (Reg.PTM_LOOP_HIST 0) 31)

/-- The PTM may move the set point: the rail entry is enabled, the loop is not FROZEN and no thermal shutdown has run (R127, R147, Table 5.5). -/
def State.vFree (s : State) : Bool := s.railOn 1 && !s.frozen && !s.power.tripped

/-- One VOUT_COMMAND takes the set point to n steps; kinds are those of PTM_LOOP_HIST: 0 up, 1 down, 2 emergency, 3 ramp. -/
def State.vMove (s : State) (kind n : Nat) : State :=
  let was := s.steps
  if !s.vFree || n == was then s
  else
    let t := ((s.setFld Reg.PTM_VCORE 6 0 n).pmbusWrite 1 0x21 (voutCommand s.board.voutMode n)).stepHist kind n
    let u := (t.setFld Reg.PTM_VCORE_RANGE 15 8 (max (t.fld Reg.PTM_VCORE_RANGE 15 8) n)).setFld Reg.PTM_VCORE_RANGE 7 0 (min (t.fld Reg.PTM_VCORE_RANGE 7 0) n)
    let v := { u with power := { u.power with stepTick := some u.power.tick, raiseTick := if was < n then some u.power.tick else u.power.raiseTick } }
    match kind with
    | 1 => v.bump Reg.PTM_STEPS_DOWN
    | 2 => v
    | _ => v.bump Reg.PTM_STEPS_UP

/-- A raise by n steps, kept at or below hi; one that the window stops raises PTM_RAIL_LIMIT (R139). -/
def State.vUp (s : State) (kind n hi : Nat) : State :=
  if s.vFree then
    let goal := min (s.steps + n) (max s.steps hi)
    (s.vMove kind goal).raiseIf (decide (goal < s.steps + n)) Src.PTM_RAIL_LIMIT
  else s

/-- A lowering by one step, kept at or above lo. -/
def State.vDown (s : State) (lo : Nat) : State := s.vMove 1 (max (s.steps - 1) (min s.steps lo))

/-- Top of the window in force; a change whose voltage phase has begun also admits the new profile's window (R130). -/
def State.vTop (s : State) : Nat :=
  let hi := (s.vWindow s.profile).2
  match s.power.prof with
  | some c => if inR 2 4 c.state && c.vphase then max hi (s.vWindow c.profile).2 else hi
  | none => hi

/-- A write to PTM_VCORE_LIM: a set point that the narrowed window leaves out moves into it at once (R126, log entry 41). -/
def State.vLimit (s : State) : State :=
  let w := s.vWindow s.profile
  if w.2 < s.steps then s.vMove 1 w.2 else if s.steps < w.1 then s.vMove 0 w.1 else s

/-- A write to PTM_VCORE_RANGE copies STEPS into both halves. -/
def State.rangeReset (s : State) : State := s.wrN Reg.PTM_VCORE_RANGE (s.steps * 256 + s.steps)

/-! ### The loop at the end of an epoch (R136 to R139, Table 5.5) -/

/-- PTM_SLACK_NOW and the count of epochs without a measurement (R136). -/
def State.slackNow (s : State) (m : Option (Nat × Nat)) : State :=
  let p := { s.power with tick := s.power.tick + 1 }
  match m with
  | some x =>
    let t := { s with power := { p with noMeasure := 0, stale := false } }
    t.wrN Reg.PTM_SLACK_NOW (2 ^ 15 + x.1 * 2 ^ 11 + min x.2 2047)
  | none =>
    let t := { s with power := { p with noMeasure := p.noMeasure + 1 } }
    (t.setBit Reg.PTM_SLACK_NOW 15 false).bump Reg.PTM_STALE_CNT

/-- The span of R137 becomes n. -/
def State.setSpan (s : State) (n : Nat) : State := { s with power := { s.power with span := n } }

/-- An emergency step is due: EMERG_EN is 1, the loop is not FROZEN and no such step fell within the last 8 epochs (R138). -/
def State.emergDue (s : State) : Bool :=
  s.bit Reg.PTM_CFG 1 && s.vFree && (match s.power.emergTick with | some t => decide (t + 8 < s.power.tick) | none => true)

/-- The emergency step: EMERG steps in a single VOUT_COMMAND (R138). -/
def State.emergStep (s : State) : State :=
  let t := (s.vUp 2 (s.fld Reg.PTM_LOOP_CFG 23 16) s.vTop).setSpan 0
  { t with power := { t.power with emergTick := some t.power.tick, emergAt := some t.now } }

/-- Raise or count towards a lowering, from S in tenths of a per cent (R137). -/
def State.loopSteer (s : State) (S : Nat) : State :=
  let target := s.fld Reg.PTM_LOOP_CFG 7 0
  let band := s.fld Reg.PTM_LOOP_CFG 15 8
  if !s.bit Reg.PTM_CFG 0 then s.setSpan 0
  else if S < target then
    let clear := match s.power.stepTick with | some t => decide (t + s.fld Reg.PTM_LOOP_RATE 31 24 < s.power.tick) | none => true
    if clear then (s.vUp 0 1 s.vTop).setSpan 0 else s.setSpan 0
  else if target + band ≤ S then s.setSpan (s.power.span + s.epochNs)
  else s.setSpan 0

/-- The loop at the end of an epoch, with the fabric's measurements of that epoch. -/
def State.loopEpoch (s : State) : State :=
  let run := s.running 9
  let m := (if run then s.worstProj else none).map (fun x => (x.1, x.2 * 1000 / s.epochNs))
  let low := run && s.slackIsLow
  let t := s.slackNow m
  let u := if low then t.bump Reg.PTM_EMERG_CNT else t
  if low && u.emergDue then u.emergStep
  else match m with
    | some x => u.loopSteer x.2
    | none => u.setSpan 0

/-- After 8 epochs in a row without a measurement (R136). -/
def State.slackStale (s : State) : State :=
  if 8 ≤ s.power.noMeasure ∧ s.power.stale = false then
    ({ s with power := { s.power with stale := true } }).raise Src.PTM_SLACK_STALE
  else s

def execSlackStale (s : State) : Host.Outcome State Fault Refusal := .next s.slackStale

/-- A downward step is suppressed in RAMPING and ARMED, and for 1 s after an emergency step (R138, Table 5.5). -/
def State.downHeld (s : State) : Bool :=
  (match s.power.prof with | some c => c.state == 2 || c.state == 3 | none => false) ||
    (match s.power.emergAt with | some t => decide (s.now < t + 1000000000) | none => false)

/-- The span of R137 is complete: one step down, and it starts again. -/
def State.loopDown (s : State) : State :=
  if s.bit Reg.PTM_CFG 0 = true ∧ s.fld Reg.PTM_LOOP_RATE 23 12 * 1000000 ≤ s.power.span ∧ s.downHeld = false ∧ s.vFree = true then
    (s.vDown (s.vWindow s.profile).1).setSpan 0
  else s

def execLoopDownStep (s : State) : Host.Outcome State Fault Refusal := .next s.loopDown

/-! ### Rails and PMBus (R149, R150, R453) -/

/-- The settings in force of rail k. -/
def State.setRail (s : State) (k : Nat) (x : Option (Nat × Nat × Nat)) : State :=
  { s with power := { s.power with rails := match x with | some v => kput s.power.rails k v | none => sdel k s.power.rails } }

/-- A transaction to rail k has succeeded: one to VDD_CORE ends FROZEN (R150). -/
def State.txnOk (s : State) (k : Nat) : State := if k = 1 then s.setBit Reg.PTM_LOOP_STATUS 1 false else s

/-- A transaction to rail k has failed after its retries (R150). -/
def State.txnFailed (s : State) (k : Nat) : State :=
  let t := ((s.bump (Reg.PTM_R_ERR_CNT k)).bump Reg.PTM_PMBUS_ERR_CNT).raise Src.PTM_PMBUS_ERR
  if k = 1 then t.setBit Reg.PTM_LOOP_STATUS 1 true else t

/-- A write of v to PTM_R_CFG of rail k: EN going to 1 applies the entry; that of VDD_CORE is rejected unless VOUT_MODE holds (R150, Table 5.14). -/
def State.railWrite (s : State) (k v : Nat) : State :=
  let was := s.railOn k
  let t := s.wrN (Reg.PTM_R_CFG k) (v &&& 0xC07FFF00)
  if v.testBit 31 then
    if was then t
    else if k = 1 ∧ voutOk s.board.voutMode = false then (t.setBit (Reg.PTM_R_CFG k) 31 false).raise Src.PTM_PMBUS_ERR
    else (t.setRail k (some (b2n (v.testBit 30), v / 2 ^ 16 % 128, v / 256 % 256))).txnOk k
  else t.setRail k none

/-- Rail pages are 1 to 8. -/
def railNo (k : Nat) : Nat := (k + 7) % 8 + 1

def execRailEnable (m : Requester) (k v mode : Nat) (s : State) : Host.Outcome State Fault Refusal :=
  let j := railNo k
  let t := if j = 1 then { s with board := { s.board with voutMode := mode % 256 } } else s
  .next (t.writeAccess m (Reg.PTM_R_CFG j) v (fun u => u.railWrite j v))

/-- A transaction to rail k met n failing attempts in a row, each a NACK or, with pec, a PEC mismatch: a fourth fails it (R150). -/
def State.pmbusFail (s : State) (k n : Nat) (pec : Bool) : State :=
  if !s.railOn k || n == 0 || (pec && !s.bit Reg.PTM_PMBUS_CFG 2) then s
  else if n < 4 then s.txnOk k else s.txnFailed k

def execPmbusTxnFail (k attempts : Nat) (pec : Bool) (s : State) : Host.Outcome State Fault Refusal := .next (s.pmbusFail (railNo k) attempts pec)

/-- A target held the clock low for more than 35 ms on each of n attempts (R453). -/
def State.clkTimeout (s : State) (k n : Nat) : State :=
  let master := match kget s.power.rails k with | some x => x.1 | none => 0
  if s.railOn k then ((List.range (min n 4)).foldl (fun t _ => t.send (.pmbusRecover s.now master)) s).pmbusFail k n false else s

def execPmbusClkTimeout (k attempts : Nat) (s : State) : Host.Outcome State Fault Refusal := .next (s.clkTimeout (railNo k) attempts)

/-- The reading of an enabled rail against its limits, in units of 0.1 mV (R149). -/
def State.railLimits (s : State) (k vout : Nat) : State :=
  let c := s.railCentre k
  let off := max vout c - min vout c
  let room := c * s.fld (Reg.PTM_R_LIM k) 7 0
  let outside := decide (room < off * 1000)
  let near := !outside && decide (room - off * 1000 < 30 * c)
  let wasOut := s.bit (Reg.PTM_R_WM k) 0
  let wasNear := s.bit (Reg.PTM_R_MARGIN k) 16
  let t := (s.wrN (Reg.PTM_R_MARGIN k) (b2n near * 65536 + min ((room - off * 1000) / 1000) 65535)).watermarkIf (Reg.PTM_R_WM k) outside
  (t.raiseIf (outside && !wasOut) Src.PTM_SUPPLY_OOR).raiseIf (near && !wasNear) Src.PTM_SUPPLY_MARGIN

/-- A poll of an enabled rail: its readings, with READ_VOUT × READ_IOUT in place of a missing READ_POUT (R149, R151). -/
def State.railPoll (s : State) (k vout iout : Nat) (pout : Option Nat) (temp : Int) (status : Nat) : State :=
  if s.railOn k then
    let w := pout.getD (vout * iout / 1000000)
    let old := (kget s.power.sums k).getD (0, 0)
    let t := { s with power := { s.power with sums := kput s.power.sums k (old.1 + w, old.2 + 1) } }
    let u := ((t.setFld (Reg.PTM_R_VOUT k) 15 0 (min vout 65535)).setFld (Reg.PTM_R_IOUT k) 19 0 (min iout (2 ^ 20 - 1))).setFld (Reg.PTM_R_POUT k) 15 0 (min w 65535)
    let v := (u.setFld (Reg.PTM_R_TEMP k) 15 0 (unsigned 16 temp)).setFld (Reg.PTM_R_STATUS k) 15 0 status
    (v.txnOk k).railLimits k vout
  else s

def execRailPoll (k vout iout : Nat) (pout : Option Nat) (temp : Int) (status : Nat) (s : State) : Host.Outcome State Fault Refusal :=
  .next (s.railPoll (railNo k) vout iout pout temp status)

/-- SMBALERT_N of a master is low: STATUS_WORD of every enabled rail on it is read, rail 1 first in the words given (R453). -/
def State.smbAlert (s : State) (master : Nat) (words : List Nat) : State :=
  (List.range 8).foldl (fun t i =>
    let k := i + 1
    match kget t.power.rails k with
    | some x => if x.1 = master ∧ t.railOn k = true then (t.setFld (Reg.PTM_R_STATUS k) 15 0 (nthD words i 0)).txnOk k else t
    | none => t) s

def execSmbalert (master : Nat) (words : List Nat) (s : State) : Host.Outcome State Fault Refusal := .next (s.smbAlert (master % 2) words)

/-- Power of the enabled rails over the last 100 ms in tenths of a watt: the mean of each rail's readings, or its last reading where none fell in them (R151). -/
def State.meanPower (s : State) : Nat :=
  (((List.range 8).filter (fun i => s.railOn (i + 1))).map (fun i =>
    match kget s.power.sums (i + 1) with
    | some x => if x.2 = 0 then s.fld (Reg.PTM_R_POUT (i + 1)) 15 0 else x.1 / x.2
    | none => s.fld (Reg.PTM_R_POUT (i + 1)) 15 0)).sum

/-- The power average: PTM_POWER, its peak and watermark, and PTM_POWER_HIGH at the tenth average in a row above the cap (R151). -/
def State.powerAverage (s : State) : State :=
  let w := min s.meanPower 65535
  let cap := powerCap s.profile
  let n := if cap < w then s.power.above + 1 else 0
  let t := { s with power := { s.power with sums := [], above := n } }
  ((((t.setFld Reg.PTM_POWER 15 0 w).keepMax Reg.PTM_POWER_PEAK w).watermark Reg.PTM_POWER_WM w cap (cap / 50))).raiseIf (n == 10) Src.PTM_POWER_HIGH

def execPowerAverage (s : State) : Host.Outcome State Fault Refusal := .next s.powerAverage

end Sys2Proof.Machine
end

