-- ==== Sys2Proof/Machine/Prof.lean ====
section
/-! DEFINITION. Profile changes, their agreement with the twin, the voltage phase, the flip, SETTLING and forced COOL (R127 to R135, R140, R143 to R146), and the Geyser commands, whose effect on a load a change follows. -/

namespace Sys2Proof.Machine

/-! ### The change and its status (Table 5.12) -/

/-- PTM_PROF_STATUS shows a change. -/
def State.profShow (s : State) (c : ProfChange) : State :=
  s.wrN Reg.PTM_PROF_STATUS (c.state * 2 ^ 28 + c.reason * 2 ^ 24 + c.profile * 2 ^ 22 + b2n c.vphase * 2 ^ 21 + c.target.getD 0 % 2 ^ 21)

/-- The change becomes c, and its status shows it. -/
def State.setProf (s : State) (c : ProfChange) : State := ({ s with power := { s.power with prof := some c } }).profShow c

/-- The change has begun and has not flipped or ended. -/
def State.profOpen (s : State) : Option ProfChange := s.power.prof.filter (fun c => inR 1 4 c.state)

/-- A PROF record goes to the twin: OP 0 request, 1 READY, 2 CANCEL, 3 forced (R131, R145). -/
def State.profSend (s : State) (op : Nat) (c : ProfChange) : State :=
  s.sendCtl (.prof op c.profile (c.target.getD 0 % 2 ^ 24) c.imageId c.hdrCrc)

/-- The twin's request and READY are used up when a change ends. -/
def State.profForget (s : State) : State :=
  ({ s with power := { s.power with twinReq := none, twinReady := false } }).wrN Reg.PTM_PROF_TWIN 0

/-- The image of the change is cancelled while the GSE still holds it. -/
def State.profDropImage (s : State) : State :=
  match s.geyser.load with
  | some l => if l.newProfile.isSome then s.imgCancel else s
  | none => s

/-- The change is refused with a code of Table 5.3 (R133). -/
def State.profRefuse (s : State) (c : ProfChange) (code : Nat) : State :=
  let t := ((s.setProf { c with state := 7, reason := code }).bump Reg.PTM_PROF_REFUSED).raise Src.PTM_PROF_REFUSED
  ((t.raiseIf (code == 10) Src.PTM_PROF_TWIN).profDropImage).profForget

/-- A forced change finds no image it can use: the profile stays (R144). -/
def State.forceLost (s : State) (c : ProfChange) : State :=
  (((s.setProf { c with state := 7, reason := 9 }).setBit Reg.PTM_THERM_STATUS 2 false).raise Src.PTM_NO_FORCE_IMG).profForget

/-- The quads that PTM_COOL_QUADS keeps. -/
def State.coolQuad (s : State) (q : Nat) : Bool := s.bit (Reg.PTM_COOL_QUADS (q / 32)) (q % 32)

/-- SLC quads in RUN outside PTM_COOL_QUADS, or more than 64 quads kept (Table 5.3, code 6). -/
def State.lanesBad (s : State) : Bool :=
  decide (64 < ((List.range 128).filter s.coolQuad).length) || (List.range 128).any (fun q => s.curOf 6 (q + 1) == sRUN && !s.coolQuad q)

/-! ### The voltage phase (R130, R140) -/

/-- A rate in 10^6 tokens/s meets the budget of a profile with TARGET to spare. -/
def State.rateMeets (s : State) (profile rate : Nat) : Bool :=
  decide (planeBudget profile * 1000000 ≤ rate * (1000 - s.fld Reg.PTM_LOOP_CFG 7 0) * epochLen profile)

/-- Rate that the plane speed table predicts for the planes of a profile at voltage index v and the present temperature: the lowest measured entry (log entry 43). -/
def State.predicted (s : State) (profile v : Nat) : Nat :=
  let l := ((planeNos.filter (fabricPlane profile)).map (fun p => s.fld (speedAddr v s.gridPoint.2 p) 15 0)).filter (fun r => r != 0)
  match l with
  | [] => 0
  | x :: r => r.foldl min x

/-- The step that the ramp goes to: the higher of the window floor and the lowest voltage predicted to meet the rate, within the window. -/
def State.rampGoal (s : State) (profile : Nat) : Nat :=
  let w := s.vWindow profile
  let v := match (List.range 13).find? (fun v => s.rateMeets profile (s.predicted profile v)) with | some v => 10 * v | none => 0
  min (max w.1 v) w.2

/-- READY: the change is ARMED, and the twin is told (Table 5.4). -/
def State.profReady (s : State) (c : ProfChange) : State :=
  let d := { c with state := 3, ready := true }
  let t := s.setProf d
  if c.isLocal then t else t.profSend 1 d

/-- CHECKING goes on once the image is armed and the twin has matched (Table 5.4). -/
def State.profAdvance (s : State) : State :=
  match s.power.prof with
  | none => s
  | some c =>
    match c.target with
    | none => s
    | some E =>
      if c.state ≠ 1 then s
      else if c.forced then (if c.armed then s.setProf { c with state := 3, ready := true } else s)
      else
        let mine := (c.profile, E % 2 ^ 24, c.imageId, c.hdrCrc)
        if !c.isLocal && s.power.twinReq.any (fun r => r != mine) then s.profRefuse c 10
        else if c.armed && (c.isLocal || s.power.twinReq == some mine) then
          if s.armDeadline c.vphase E < s.now then s.profRefuse c 8
          else if c.vphase then
            let goal := s.rampGoal c.profile
            s.setProf { c with state := 2, goal := goal, rampEnd := if goal ≤ s.steps then some s.now else none }
          else s.profReady c
        else s

/-- The arm deadline of a change that is still CHECKING (R130, Table 5.3 codes 8 and 11). -/
def State.profDeadline (s : State) : State :=
  match s.power.prof with
  | some c =>
    match c.target with
    | some E =>
      if c.state = 1 ∧ c.forced = false ∧ s.armDeadline c.vphase E ≤ s.now then
        s.profRefuse c (if c.armed && s.power.twinReq.isNone then 11 else 8)
      else s
    | none => s
  | none => s

/-- During RAMPING: one step every RAMP_US until the goal (R140). -/
def State.rampStep (s : State) : State :=
  match s.power.prof with
  | some c =>
    if c.state = 2 ∧ c.rampEnd = none then
      let t := s.vUp 3 1 (s.vWindow c.profile).2
      if c.goal ≤ t.steps then t.setProf { c with rampEnd := some t.now } else t
    else s
  | none => s

def execRampStep (s : State) : Host.Outcome State Fault Refusal := .next s.rampStep

/-- At the end of an epoch that began after the ramp: the projection is met, or one more step (R140). -/
def State.rampEpoch (s : State) (started : Nat) : State :=
  match s.power.prof, (if s.running 9 then s.worstRate else none) with
  | some c, some r =>
    if c.state = 2 ∧ c.rampEnd.any (fun t => decide (t ≤ started)) = true then
      if s.rateMeets c.profile r then s.profReady c else s.vUp 3 1 (s.vWindow c.profile).2
    else s
  | _, _ => s

/-! ### The flip and what follows it (R128, R134, R135) -/

/-- Epoch numbers of cells under way keep their distance to the boundary at which the epoch length changes (R11, log entry 44). -/
def State.mapEpochs (s : State) (f : Nat → Nat) : State :=
  { s with
    fabric := { s.fabric with
      ingress := s.fabric.ingress.map (fun x => { x with epoch := f x.epoch }),
      egress := s.fabric.egress.map (fun x => { x with release := f x.release }),
      planes := s.fabric.planes.map (fun x => { x with carry := x.carry.map (fun c => (c.1, f c.2)) }),
      takeMarks := s.fabric.takeMarks.map (fun x => (x.1, f x.2)),
      lost := s.fabric.lost.map (fun x => (x.1, f x.2.1, x.2.2)),
      delivered := s.fabric.delivered.map (fun x => (f x.1, x.2)) },
    store := { s.store with
      reads := s.store.reads.map (fun x => { x with epoch := f x.epoch }),
      staged := s.store.staged.map (fun x => (x.1, f x.2.1, x.2.2)) } }

/-- The active profile changes: budget, planes, PXP limits, power cap and epoch length follow it as one event (R11, R128). -/
def State.setProfile (s : State) (p : Nat) : State :=
  let was := s.now / epochLen s.profile
  let is := s.now / epochLen p
  let t := if epochLen p = s.epochNs then s else s.mapEpochs (fun e => is + e - was)
  ({ t with profile := p % 4 }).planeLent

/-- A quad outside PTM_COOL_QUADS is sent to ISOLATED (R143). -/
def State.isolateQuad (s : State) (q : Nat) : State :=
  let c := s.curOf 6 (q + 1)
  if c == sRUN || c == sIDLE then ((if c == sRUN then s.quadStop q else s).startDrain (pageAddr 6 (q + 1)) false) else s

/-- The target boundary of a committed change, or the load of its image while the CXF is in IDLE (R101, R134). -/
def State.profFlip (s : State) (c : ProfChange) : State :=
  let t := ((s.setProfile c.profile).bump Reg.PTM_PROF_CHANGES).setFld Reg.PTM_PROF_LAST_US 23 0 ((s.now - c.since) / 1000)
  let u := if c.forced then
      ((List.range 128).filter (fun q => !t.coolQuad q)).foldl State.isolateQuad (t.bump Reg.PTM_FORCED_CNT)
    else t.setBit Reg.PTM_THERM_STATUS 2 false
  let above := decide ((u.vWindow c.profile).2 < u.steps)
  (u.setProf { c with state := if above then 5 else 6 }).profForget

/-- A change follows the load of its image: NEXT has a target, the image is armed, refused, cancelled or loaded (Table 5.4). -/
def State.profSync (s : State) : State :=
  match s.profOpen with
  | none => s
  | some c =>
    match s.geyser.load.filter (fun l => l.newProfile.isSome) with
    | some l =>
      let found := c.target.isNone && l.target.isSome
      let d := if found then { c with target := l.target } else c
      let t := if found then (let u := s.setProf d; if d.isLocal || d.forced then u else u.profSend 0 d) else s
      if decide (2 ≤ l.stage) && !c.armed then (t.setProf { d with armed := true }).profAdvance
      else if found then t.profAdvance else t
    | none =>
      let st := s.fld Reg.GSE_IMG_STATUS 31 28
      if st = 4 then s.profFlip c
      else if c.forced then s.forceLost c
      else if st = 6 then (s.setProf { c with state := 8 }).profForget
      else s.profRefuse c 9

/-- In SETTLING: one step down every RAMP_US until the set point lies inside the window; a raise of the same epoch goes first (R135, Table 5.5). -/
def State.settleStep (s : State) : State :=
  match s.power.prof with
  | some c =>
    if c.state ≠ 5 then s
    else
      let hi := (s.vWindow s.profile).2
      let t := if s.steps ≤ hi ∨ s.power.raiseTick = some s.power.tick then s else s.vMove 1 (s.steps - 1)
      if t.steps ≤ hi then t.setProf { c with state := 6 } else t
  | none => s

def execSettleStep (s : State) : Host.Outcome State Fault Refusal := .next s.settleStep

/-! ### The request (R128, R129, R132, R133) -/

/-- The target that EPOCH names for a change to a profile: resolved under R47, even as that of its image, and moved to a whole multiple of 125 µs where the change enters or leaves SWIFT (R98, R129). -/
def State.profTarget (s : State) (profile field : Nat) : Option Nat :=
  (s.evenTarget field).bind (fun E =>
    ((List.range 8).map (fun i => E + i)).find? (fun e => s.alignedTarget ((profile == 1) != (s.profile == 1)) e))

/-- The first of the codes 1 to 7 of Table 5.3 that applies to a request; 0 where none does. -/
def State.profCode (s : State) (profile : Nat) (target : Option Nat) (next : Bool) : Nat :=
  if s.power.prof.any (fun c => inR 1 5 c.state) || s.power.forceNext.isSome || s.geyser.load.isSome then 1
  else if profile = s.profile then 2
  else if s.partnerless && !s.bit Reg.PTM_CFG 3 then 3
  else if s.bit Reg.PTM_THERM_STATUS 2 && !s.bit Reg.PTM_THERM_STATUS 3 then 4
  else if !s.railOn 1 || !s.bit Reg.PTM_CFG 0 then 5
  else if profile == 3 && s.lanesBad then 6
  else if !next && target.isNone then 7 else 0

/-- A change to a profile with the image at an address. -/
def State.newChange (s : State) (profile : Nat) (target : Option Nat) (addr : Nat) : ProfChange :=
  { profile := profile, target := target, addr := addr, imageId := s.le (addr + 0x0C) 4, hdrCrc := s.le (addr + 0x7C) 4,
    isLocal := s.partnerless, vphase := s.profile == 3 || decide (s.steps < (s.vWindow profile).1), since := s.now }

/-- REQ in PTM_PROF_CMD. -/
def State.profRequest (s : State) (profile field : Nat) (next : Bool) : State :=
  let target := if next then none else s.profTarget profile field
  let code := s.profCode profile target next
  let c := s.newChange profile target (s.rd64 Reg.PTM_PROF_IMG_LO Reg.PTM_PROF_IMG_HI)
  if code = 1 ∧ (s.power.prof.any (fun x => inR 1 5 x.state)) = true then (s.bump Reg.PTM_PROF_REFUSED).raise Src.PTM_PROF_REFUSED
  else if code ≠ 0 then
    (((s.setProf { c with state := 7, reason := code }).bump Reg.PTM_PROF_REFUSED).raise Src.PTM_PROF_REFUSED).profForget
  else
    let r := (s.setProf c).imgLoad c.addr target next (some profile) false
    if r.2 then
      let t := if next || c.isLocal then r.1 else r.1.profSend 0 c
      (t.profAdvance).profDeadline
    else r.1.profRefuse c 9

/-- CANCEL, own or the twin's, before the commit point (R131, Table 5.4). -/
def State.profCancel (s : State) (own : Bool) : State :=
  match s.power.prof with
  | some c =>
    if inR 1 3 c.state && !c.forced then
      let t := ((s.setProf { c with state := 8 }).profDropImage).profForget
      if own && !c.isLocal then t.profSend 2 c else t
    else s
  | none => s

/-- A write to PTM_PROF_CMD (Table 5.11). -/
def State.profCmd (s : State) (v : Nat) : State :=
  if v.testBit 29 then s.profCancel true
  else if v.testBit 31 then s.profRequest (v / 2 ^ 26 % 4) (v % 2 ^ 24) (v.testBit 30)
  else s

def execProfReq (m : Requester) (profile epoch : Nat) (s : State) : Host.Outcome State Fault Refusal :=
  let v := 2 ^ 31 + profile % 4 * 2 ^ 26 + epoch % 2 ^ 24
  .next (s.writeAccess m Reg.PTM_PROF_CMD v (fun t => t.profCmd v))

def execProfReqNext (m : Requester) (profile : Nat) (s : State) : Host.Outcome State Fault Refusal :=
  let v := 2 ^ 31 + 2 ^ 30 + profile % 4 * 2 ^ 26
  .next (s.writeAccess m Reg.PTM_PROF_CMD v (fun t => t.profCmd v))

def execProfCancel (m : Requester) (s : State) : Host.Outcome State Fault Refusal :=
  .next (s.writeAccess m Reg.PTM_PROF_CMD (2 ^ 29) (fun t => t.profCmd (2 ^ 29)))

/-- The commit point, 1 epoch before the target (R130, R131, Table 5.3 codes 11 and 12): the image group freezes with the change. -/
def State.profCommit (s : State) : State :=
  match s.power.prof with
  | some c =>
    if c.state = 1 ∧ c.forced = false then s.profRefuse c 8
    else if c.state = 2 ∨ c.state = 3 then
      if !c.forced && (s.frozen || !c.ready) then s.profRefuse c 12
      else if !c.forced && !c.isLocal && !s.power.twinReady then s.profRefuse c 11
      else ((s.setProf { c with state := 4 }).groupCommit).profSync
    else s
  | none => s

def execProfCommit (s : State) : Host.Outcome State Fault Refusal := .next s.profCommit

/-! ### Forced COOL (R143 to R145) -/

/-- Target of a forced change with an image of n bytes. -/
def State.forceTarget (s : State) (n minE : Nat) (follow : Bool) : Nat :=
  let done := s.now + 40000 + (if n ≤ 0x1000000 then n / 2 else 0)
  let base := max (max (s.epoch + 1) minE) (done / s.epochNs + 2)
  (((List.range 16).map (fun i => base + i)).find? (fun e =>
    e * s.epochNs % 125000 == 0 && decide (done < (e - 2) * s.epochNs) && (follow || decide (s.now + 4 * s.epochNs ≤ e * s.epochNs)))).getD (base + 16)

/-- PTM_FORCED_COOL rises and FORCED sets. -/
def State.forcedFlag (s : State) : State := (s.setBit Reg.PTM_THERM_STATUS 2 true).raise Src.PTM_FORCED_COOL

/-- A forced change starts, following the twin where it names the twin's target. -/
def State.forceStart (s : State) (twin : Option Nat) : State :=
  let addr := s.rd64 Reg.PTM_FORCE_IMG_LO Reg.PTM_FORCE_IMG_HI
  let E := s.forceTarget (s.imgLen addr) (twin.getD 0) twin.isSome
  let c := { s.newChange 3 (some E) addr with forced := true, isLocal := true, vphase := false }
  let t := ((s.forcedFlag).refuseTakesTo E).setProf c
  let r := t.imgLoad addr (some E) false (some 3) true
  if r.2 then (if twin.isSome then r.1 else r.1.profSend 3 c) else r.1.forceLost c

/-- A junction at or above FORCE, or the twin's notice, forces COOL (R143, R145, Table 5.4). -/
def State.profForce (s : State) (twin : Option Nat) : State :=
  let open' := s.profOpen
  if open'.any (·.forced) then s
  else if open'.any (fun c => c.state == 4) || s.geyser.load.any (fun l => l.stage == 3) then
    { s with power := { s.power with forceNext := some twin } }
  else if s.profile = 3 ∧ open' = none then s.forcedFlag
  else
    match open' with
    | some c =>
      let t := if c.isLocal then s else s.profSend 2 c
      (t.profRefuse c 4).forceStart twin
    | none => (if s.geyser.load.isSome then s.imgCancel else s).forceStart twin

/-- A forced change that waited for a committed flip starts after it (R143). -/
def State.forceRetry (s : State) : State :=
  match s.power.forceNext with
  | some twin => if s.profOpen.isNone && s.geyser.load.isNone then ({ s with power := { s.power with forceNext := none } }).profForce twin else s
  | none => s

/-! ### Records from the twin (R131, R145) -/

/-- A request from the twin. -/
def State.profReqRx (s : State) (profile epoch imageId hdrCrc : Nat) : State :=
  if s.running 15 then
    let t := { s with power := { s.power with twinReq := some (profile % 4, epoch % 2 ^ 24, imageId % 2 ^ 32, hdrCrc % 2 ^ 32) } }
    (t.wrN Reg.PTM_PROF_TWIN (b2n s.power.twinReady * 2 ^ 31 + 2 ^ 30 + profile % 4 * 2 ^ 28 + epoch % 2 ^ 24)).profAdvance
  else s

def execProfReqRx (profile epoch imageId hdrCrc : Nat) (s : State) : Host.Outcome State Fault Refusal :=
  .next (s.profReqRx profile epoch imageId hdrCrc)

/-- READY from the twin. -/
def State.profReadyRx (s : State) : State :=
  if s.running 15 then ({ s with power := { s.power with twinReady := true } }).setBit Reg.PTM_PROF_TWIN 31 true else s

def execProfReadyRx (s : State) : Host.Outcome State Fault Refusal := .next s.profReadyRx

/-- CANCEL from the twin: its request is withdrawn, and the change here ends if its commit point has not passed. -/
def State.profCancelRx (s : State) : State :=
  if s.running 15 then
    if s.profOpen.any (fun c => c.state == 4) then s else (s.profCancel false).profForget
  else s

def execProfCancelRx (s : State) : Host.Outcome State Fault Refusal := .next s.profCancelRx

/-- The twin's notice of a forced COOL, followed under FOLLOW_FORCE (R145). -/
def State.profForceRx (s : State) (epoch : Nat) : State :=
  if s.running 15 && s.bit Reg.PTM_CFG 2 then s.profForce (some ((resolveEpoch s.epoch (epoch % 2 ^ 24)).getD 0)) else s

def execProfForceRx (epoch : Nat) (s : State) : Host.Outcome State Fault Refusal := .next (s.profForceRx epoch)

/-! ### What the CXF asks for before RUN (R127) -/

/-- The fabric may enter RUN: the VDD_CORE entry is enabled, the PTM runs, and the loop is on in the profiles that rest on it. -/
def State.powerReady (s : State) : Bool := s.railOn 1 && s.running 4 && (s.profile == 3 || s.bit Reg.PTM_CFG 0)

/-! ### Commands of the GSE -/

def execImgLoad (m : Requester) (epoch : Nat) (s : State) : Host.Outcome State Fault Refusal :=
  let v := 2 ^ 31 + epoch % 2 ^ 24
  .next (s.writeAccess m Reg.GSE_IMG_CMD v (fun t => (t.imgCmd v).profSync))

def execImgLoadNext (m : Requester) (s : State) : Host.Outcome State Fault Refusal :=
  .next (s.writeAccess m Reg.GSE_IMG_CMD 0xC0000000 (fun t => (t.imgCmd 0xC0000000).profSync))

def execImgCancel (m : Requester) (s : State) : Host.Outcome State Fault Refusal :=
  .next (s.writeAccess m Reg.GSE_IMG_CMD (2 ^ 29) (fun t => (t.imgCmd (2 ^ 29)).profSync))

def execImgCopyDone (s : State) : Host.Outcome State Fault Refusal := .next s.imgCopyDone.profSync

def execTakeArm (s : State) : Host.Outcome State Fault Refusal := .next s.takeArm.profSync

def execTakeCmd (m : Requester) (n : Nat) (next : Bool) (s : State) : Host.Outcome State Fault Refusal :=
  let v := 2 ^ 28 + b2n next * 2 ^ 27
  .next (s.writeAccess m (Reg.GSE_P_CMD (n % 8 + 1)) v (fun t => (t.portCmd (n % 8) v).profSync))

def execSalvoCmd (m : Requester) (n count : Nat) (next : Bool) (s : State) : Host.Outcome State Fault Refusal :=
  let v := 2 * 2 ^ 28 + b2n next * 2 ^ 27 + count % 2 ^ 14
  .next (s.writeAccess m (Reg.GSE_P_CMD (n % 8 + 1)) v (fun t => (t.portCmd (n % 8) v).profSync))

def execTakeCancelCmd (m : Requester) (n tag : Nat) (s : State) : Host.Outcome State Fault Refusal :=
  let v := 3 * 2 ^ 28 + tag % 2 ^ 14
  .next (s.writeAccess m (Reg.GSE_P_CMD (n % 8 + 1)) v (fun t => (t.portCmd (n % 8) v).profSync))

/-- Start of F - 1. -/
def execTakeCommit (s : State) : Host.Outcome State Fault Refusal := .next (s.takeCommitAt (s.epoch + 1)).profSync

end Sys2Proof.Machine
end

