-- ==== Sys2Proof/Machine/Cal.lean ====
section
/-! DEFINITION. The calibration record: slots in the boot flash, LOAD and SAVE (R153 to R156, R176, R330), and the slots of the same form that hold a selector (R416). -/

namespace Sys2Proof.Machine

/-- The commit marker of a slot. -/
def cmitMark : Nat := 0x54494D43

/-- The slot at flash offset o is valid for a MAGIC (R156). -/
def State.slotValid (s : State) (magic o : Nat) : Bool :=
  let len := s.flashLE (o + 0x0C) 4
  s.flashLE o 4 == magic && s.flashLE (o + 4) 2 == 1 && inR 64 0x3FFFC len &&
  s.flashLE (o + 0x3C) 4 == crc32c (s.flash o 0x3C) && s.flashLE (o + 0x38) 4 == crc32c (s.flash (o + 64) (len - 64)) &&
  s.flashLE (o + 0x10) 8 == s.rd64 Reg.KSU_UID_LO Reg.KSU_UID_HI && s.flashLE (o + 0x3FFFC) 4 == cmitMark

/-- Which of two slots is in use, given the generations of the valid ones, and whether a tie chose slot A (R156). -/
def pickSlot (a b : Option Nat) : Option (Nat × Nat × Bool) :=
  match a, b with
  | none, none => none
  | some x, none => some (0, x, false)
  | none, some y => some (1, y, false)
  | some x, some y =>
    let d := (x + 2 ^ 32 - y) % 2 ^ 32
    if d = 0 ∨ d = 2 ^ 31 then some (0, x, true) else if d < 2 ^ 31 then some (0, x, false) else some (1, y, false)

/-- The slot in use among two at flash offsets, with its GENERATION. -/
def State.slotInUse (s : State) (magic a b : Nat) : Option (Nat × Nat × Bool) :=
  let gen := fun o => if s.slotValid magic o then some (s.flashLE (o + 8) 4) else none
  pickSlot (gen a) (gen b)

/-- MAGIC of a calibration record. -/
def calMagic : Nat := 0x4C414358

/-- Flash offset of calibration slot n, 256 KiB aligned. -/
def State.calSlot (s : State) (n : Nat) : Nat := s.rdN (if n = 0 then Reg.PTM_CAL_SLOT_A else Reg.PTM_CAL_SLOT_B) / 2 ^ 18 * 2 ^ 18

/-- Words from address a on take n-byte fields of the flash from offset o on. -/
def State.fillWords (s : State) (a o n count : Nat) : State :=
  s.wrWords a ((List.range count).map (fun i => s.flashLE (o + n * i) n))

/-- A section whose body of a length lies at flash offset o reaches its block (R154, R176, R330); a version that the block does not accept is skipped (R156). -/
def State.calSection (s : State) (ty o len : Nat) : State :=
  match ty with
  | 1 => if s.flashLE o 2 == 1 && s.flashLE (o + 2) 2 == 512 && decide (4104 ≤ len) then s.fillWords (seedAddr 0) (o + 8) 4 1024 else s
  | 2 => if 6656 ≤ len then s.fillWords (speedAddr 0 0 0) o 2 3328 else s
  | 3 =>
    if s.flashLE o 2 == 1 && s.flashLE (o + 2) 2 == 16 && s.flashLE (o + 4) 2 == 250 && decide (574 ≤ len) then
      (s.fillWords (pageAddr 5 0x21 + 0x1000) (o + 8) 4 16).fillWords (pageAddr 5 0x21 + 0x1100) (o + 72) 2 251
    else s
  | _ => s

/-- n sections from flash offset o to e; one whose CRC does not hold is skipped. -/
def State.calSections (s : State) : Nat → Nat → Nat → State
  | 0, _, _ => s
  | n + 1, o, e =>
    let len := s.flashLE (o + 4) 4
    if e < o + 16 + len then s
    else
      let t := if s.flashLE (o + 8) 4 = crc32c (s.flash (o + 16) len) then s.calSection (s.flashLE o 2) (o + 16) len else s
      t.calSections n (o + 16 + len) e

/-- STATE and RESULT of PTM_CAL_STATUS (Table 5.13). -/
def State.calShow (s : State) (st result : Nat) : State := (s.setFld Reg.PTM_CAL_STATUS 31 28 st).setFld Reg.PTM_CAL_STATUS 27 24 result

/-- The flash is busy for a LOAD or SAVE (R155). -/
def State.calBusy (s : State) : Bool := s.power.cal.isSome || s.board.flashBusy

/-- A LOAD or SAVE refused with BUSY; an operation in progress keeps its STATE. -/
def State.calRefuse (s : State) : State := if s.power.cal.isSome then s.setFld Reg.PTM_CAL_STATUS 27 24 3 else s.calShow 4 3

/-- LOAD: both slots are validated and the newer record reaches the blocks (R156). -/
def State.calLoad (s : State) : State :=
  if s.calBusy then s.calRefuse
  else
    let a := s.calSlot 0
    let b := s.calSlot 1
    let r := s.slotInUse calMagic a b
    let t := (s.setBit Reg.PTM_CAL_STATUS 1 (s.slotValid calMagic a)).setBit Reg.PTM_CAL_STATUS 2 (s.slotValid calMagic b)
    let u := ({ t with power := { t.power with cal := some (.load r.isSome) } }).calShow 1 0
    match r with
    | none => (u.setBit Reg.PTM_CAL_STATUS 3 false).raise Src.PTM_CAL_NONE
    | some x =>
      let o := u.calSlot x.1
      let v := ((u.setBit Reg.PTM_CAL_STATUS 3 x.2.2).setBit Reg.PTM_CAL_STATUS 0 (x.1 == 1)).wrN Reg.PTM_CAL_GEN x.2.1
      ({ v with power := { v.power with calTime := some (v.flashLE (o + 0x18) 8) } }).calSections (v.flashLE (o + 6) 2) (o + 64) (o + v.flashLE (o + 0x0C) 4)

/-- The whole flash range of a slot reads erased. -/
def State.eraseFlash (s : State) (o n : Nat) : State := { s with mem := s.mem.filter (fun c => !(decide (0x20000000 + o ≤ c.1) && decide (c.1 < 0x20000000 + o + n))) }

/-- Bytes programmed into the flash. -/
def State.programFlash (s : State) (o : Nat) (l : List Byte) : State := s.wrBytes (0x20000000 + o) l

/-- A section with its 16-byte head (R153). -/
def calSectionBytes (ty : Nat) (body : List Byte) : List Byte :=
  bytesLE 2 ty ++ bytesLE 2 0 ++ bytesLE 4 body.length ++ bytesLE 4 (crc32c body) ++ bytesLE 4 0 ++ body

/-- The three sections of a SAVE. -/
def State.calBody (s : State) : List Byte :=
  let seeds := (List.range 512).flatMap (fun l => let w := s.seedWords l; bytesLE 4 w.1 ++ bytesLE 4 w.2)
  let words := fun a n (size : Nat) => (s.rdWords a n).flatMap (fun w => bytesLE size w)
  calSectionBytes 1 (bytesLE 2 1 ++ bytesLE 2 512 ++ bytesLE 4 0 ++ seeds) ++
  calSectionBytes 2 (words (speedAddr 0 0 0) 3328 2) ++
  calSectionBytes 3 (bytesLE 2 1 ++ bytesLE 2 16 ++ bytesLE 2 250 ++ bytesLE 2 0 ++
    words (pageAddr 5 0x21 + 0x1000) 16 4 ++ words (pageAddr 5 0x21 + 0x1100) 251 2)

/-- A slot's header and what follows it (Table 5.8): a selector slot holds its set number in byte 0x20. -/
def slotBytes (magic sections gen uid time set : Nat) (body : List Byte) : List Byte :=
  let head := bytesLE 4 magic ++ bytesLE 2 1 ++ bytesLE 2 sections ++ bytesLE 4 gen ++ bytesLE 4 (64 + body.length) ++ bytesLE 8 uid ++
    bytesLE 8 time ++ bytesLE 24 set ++ bytesLE 4 (crc32c body)
  head ++ bytesLE 4 (crc32c head) ++ body

/-- A whole slot is written, its marker last (R155). -/
def State.writeSlot (s : State) (o magic sections gen set : Nat) (body : List Byte) : State :=
  (((s.eraseFlash o 0x40000).programFlash o (slotBytes magic sections gen (s.rd64 Reg.KSU_UID_LO Reg.KSU_UID_HI) (s.now / 1000000000) set body))).programFlash
    (o + 0x3FFFC) (bytesLE 4 cmitMark)

/-- SAVE: the slot not in use is erased, and the new record's generation follows that in use (R155). -/
def State.calSave (s : State) : State :=
  if s.calBusy then s.calRefuse
  else
    let r := s.slotInUse calMagic (s.calSlot 0) (s.calSlot 1)
    let slot := match r with | some x => 1 - x.1 | none => 0
    let gen := match r with | some x => (x.2.1 + 1) % 2 ^ 32 | none => 1
    let t := ({ s with power := { s.power with cal := some (.save slot gen) }, board := { s.board with flashBusy := true } }).calShow 2 0
    t.eraseFlash (s.calSlot slot) 0x40000

/-- A write to PTM_CAL_CMD; other OP values are ignored. -/
def State.calCmd (s : State) (v : Nat) : State :=
  match v / 2 ^ 28 % 16 with
  | 1 => s.calLoad
  | 2 => s.calSave
  | _ => s

def execCalLoad (m : Requester) (s : State) : Host.Outcome State Fault Refusal :=
  .next (s.writeAccess m Reg.PTM_CAL_CMD (2 ^ 28) (fun t => t.calCmd (2 ^ 28)))

def execCalSave (m : Requester) (s : State) : Host.Outcome State Fault Refusal :=
  .next (s.writeAccess m Reg.PTM_CAL_CMD (2 * 2 ^ 28) (fun t => t.calCmd (2 * 2 ^ 28)))

/-- The operation completes (R155, R156). A SAVE that fails leaves its slot with the bytes given, and never with a marker (log entry 45). -/
def State.calDone (s : State) (ok : Bool) (left : List Byte) : State :=
  let t := { s with power := { s.power with cal := none } }
  match s.power.cal with
  | none => s
  | some (.load found) => if found then t.calShow 3 0 else t.calShow 4 1
  | some (.save slot gen) =>
    let u := { t with board := { t.board with flashBusy := false } }
    let o := u.calSlot slot
    if ok then
      let v := ((u.writeSlot o calMagic 3 gen 0 u.calBody).setBit Reg.PTM_CAL_STATUS 0 (slot == 1)).wrN Reg.PTM_CAL_GEN gen
      ({ v with power := { v.power with calTime := some (v.now / 1000000000) } }).calShow 3 0
    else (((u.eraseFlash o 0x40000).programFlash o (left.take 0x3FFFC)).calShow 4 2).raise Src.PTM_CAL_WRITE_ERR

def execCalOpDone (ok : Bool) (left : List (BitVec 8)) (s : State) : Host.Outcome State Fault Refusal := .next (s.calDone ok left)

end Sys2Proof.Machine
end

