-- ==== Sys2Proof/Machine/Shadow.lean ====
section
/-! DEFINITION. The shadow flip as firmware drives it: SHADOW_CTRL, arm deadlines, commit points and their checks, and the flip (R45 to R48, R77, R206, R230, R255, R256, R269, R297, R475). -/

namespace Sys2Proof.Machine

/-- The page at p belongs to the armed image. -/
def State.imgHolds (s : State) (p : Nat) : Bool := s.geyser.load.any (fun l => decide (2 ≤ l.stage) && l.pages.contains p)

/-- The GSE holds the page at p: by the armed image, or by the CXF group armed for takes. -/
def State.gseHolds (s : State) (p : Nat) : Bool := s.imgHolds p || (s.geyser.group == .takes && cxfPages.contains p)

/-- Firmware may not touch the CXF's shadows or their control while the CXF is in RUN (R77). -/
def State.cxfGuard (s : State) (p : Nat) : Bool := blockOf p == 9 && canFlip p && s.running 9

/-- The target of an arm of page p for epoch E: an engine page takes its next frame flip epoch (R255). -/
def State.armTarget (s : State) (p E : Nat) : Nat := if blockOf p = 12 then s.engineTarget (pageNo p - 1) E else E

/-- E meets the arm deadline of page p, before which the arm must fall, and the window of R47: for the CXF the start of the second epoch before E, else that of the epoch before it (R77, R206, R230, R256, R269, R297). -/
def State.armMeets (s : State) (p E : Nat) : Bool :=
  decide (s.now < (E - (if blockOf p = 9 then 2 else 1)) * s.epochNs) && decide (E ≤ s.epoch + 2 ^ 23)

/-- The epoch that an ARM of page p takes: that of its EPOCH field, or with NEXT the earliest that meets the deadline. -/
def State.armChoice (s : State) (p field : Nat) (next : Bool) : Option Nat :=
  if next then ((List.range 4).map (fun i => s.armTarget p (s.epoch + 1 + i))).find? (s.armMeets p)
  else ((resolveEpoch s.epoch field).map (s.armTarget p)).filter (s.armMeets p)

/-- ARM of page p with its group (R46, R47). -/
def State.shadowArm (s : State) (p field : Nat) (next : Bool) : State :=
  let l := flipGroup p
  match s.armChoice p field next with
  | some E => s.armPages l E
  | none => l.foldl (fun u q => u.wrN (hSHADOW q) (5 * 2 ^ 26 + field % 2 ^ 24)) s

/-- An armed or committed flip of pages ends CANCELLED. -/
def State.cancelPages (s : State) (l : List Nat) : State :=
  (l.filter (fun q => blockOf q == 12)).foldl (fun u q => u.flipOver (pageNo q - 1)) (s.endPages l 7)

/-- CANCEL on page p (R46, R103). -/
def State.shadowCancel (s : State) (m : Requester) (p : Nat) : State :=
  if s.shadowStatus p = 2 then
    if s.imgHolds p then s.imgCancel.profSync
    else if s.gseHolds p then (((s.endWhere (fun _ x => x.written && inR 1 3 x.state) 7 0).endPages cxfPages 7).freeGroup).takeSync.profSync
    else s.cancelPages (flipGroup p)
  else if s.shadowStatus p = 3 then
    let t := (flipGroup p).foldl (fun u q => if u.shadowStatus q = 3 then u.setBit (hSHADOW q) 25 true else u) s
    t.refuseState m (hSHADOW p)
  else s

/-- A write of v to SHADOW_CTRL of the page at p (Tables 2.18, 2.23). -/
def State.shadowCtrl (s : State) (m : Requester) (p v : Nat) : State :=
  if s.cxfGuard p then s.refuseState m (hSHADOW p)
  else if v.testBit 29 then s.shadowCancel m p
  else if s.shadowHeld p then s.refuseState m (hSHADOW p)
  else if v.testBit 31 && canFlip p then s.shadowArm p (v % 2 ^ 24) (v.testBit 30)
  else s.setFld (hSHADOW p) 23 0 (v % 2 ^ 24)

/-- A write to a shadow offset (R45, R46, R77). -/
def State.shadowWrite (s : State) (m : Requester) (a v : Nat) : State :=
  if s.cxfGuard (pageOf a) then s.refuseState m a else s.writeShadow m a v

def execShadowArm (m : Requester) (b k epoch : Nat) (s : State) : Host.Outcome State Fault Refusal :=
  let p := pageAddr (b % 16) (k % 256)
  let v := 2 ^ 31 + epoch % 2 ^ 24
  .next (s.writeAccess m (hSHADOW p) v (fun t => t.shadowCtrl m p v))

def execShadowArmNext (m : Requester) (b k : Nat) (s : State) : Host.Outcome State Fault Refusal :=
  let p := pageAddr (b % 16) (k % 256)
  .next (s.writeAccess m (hSHADOW p) 0xC0000000 (fun t => t.shadowCtrl m p 0xC0000000))

def execShadowCancel (m : Requester) (b k : Nat) (s : State) : Host.Outcome State Fault Refusal :=
  let p := pageAddr (b % 16) (k % 256)
  .next (s.writeAccess m (hSHADOW p) 0x20000000 (fun t => t.shadowCtrl m p 0x20000000))

/-! ### Commit points -/

/-- The check of a block on the shadow of page p: it passes or the block records its reason. -/
def State.blockCheck (s : State) (p : Nat) : State × Bool :=
  match blockOf p with
  | 8 => s.macCheck (pageNo p - 1)
  | 9 => let c := s.cxfCheck none s.profile s.outputs; if c = 0 then (s, true) else (s.setFld Reg.CXF_PROFILE 31 28 c, false)
  | 11 => s.fstCheck
  | 13 => s.mrsCheck
  | 14 => s.audCheck
  | _ => (s, true)

/-- The commit point of the flip that page p is armed for (R46): checks run, and the group is COMMITTED or REFUSED_CHECK; an engine whose fences are unmet is deferred (R260). -/
def State.pageCommit (s : State) (p : Nat) : State :=
  if s.shadowStatus p ≠ 2 then s
  else if s.gseHolds p then (if s.geyser.load.any (fun l => l.newProfile.isSome && l.stage == 2) then s.profCommit else s.groupCommit.profSync)
  else if blockOf p = 12 then
    let e := pageNo p - 1
    let r := s.pxpCommit e ((s.targetOfPage p).getD 0)
    if r.2 = 0 then r.1.commitPages [p] else if r.2 = 1 then r.1.endPages [p] 6 else r.1
  else
    let r := s.blockCheck p
    if r.2 then r.1.commitPages (flipGroup p) else r.1.endPages (flipGroup p) 6

def execShadowCommit (b k : Nat) (s : State) : Host.Outcome State Fault Refusal := .next (s.pageCommit (pageAddr (b % 16) (k % 256)))

/-! ### Flips (R13, R46) -/

/-- Pages armed on their own for an epoch up to e. -/
def State.duePages (s : State) (e : Nat) : List Nat := (s.armed.filter (fun x => decide (x.2 ≤ e) && !s.gseHolds x.1)).map (·.1)

/-- The flips of epoch e outside the CXF group: pages still ARMED reach their commit point first, and all that are COMMITTED flip as one event. -/
def State.pageFlips (s : State) (e : Nat) : State :=
  let t := (s.duePages e).foldl State.pageCommit s
  let l := (t.duePages e).filter (fun p => t.shadowStatus p == 3)
  if l.isEmpty then t else (t.flipPages l).flipHooks l

/-- Every flip of epoch e, the CXF group's and a profile change's with it (R13, R48, R128). -/
def State.allFlips (s : State) (e : Nat) : State :=
  let due := s.geyser.group != .free && s.geyser.groupEpoch == e
  let t := if due && s.geyser.load.any (fun l => l.newProfile.isSome && l.stage == 2) then s.profCommit else s
  ((t.pageFlips e).groupFlip e).profSync

/-! ### A step of the timescale (R475) -/

/-- Every flip, image load, profile change and take not yet ended is CANCELLED (R475). -/
def State.cancelAll (s : State) : State :=
  let t := match s.geyser.load with | some l => s.imgCancelled l | none => s
  let u := t.cancelTakes
  let v := match u.power.prof with
    | some c => if inR 1 4 c.state then (u.setProf { c with state := 8 }).profForget else u
    | none => u
  let w := (v.cancelPages (v.armed.map (·.1))).freeGroup
  w.armed.foldl (fun x q => x.setBit (hSHADOW q.1) 25 false) { w with power := { w.power with forceNext := none } }

end Sys2Proof.Machine
end

