-- ==== Sys2Proof/Machine/Clock.lean ====
section
/-! DEFINITION. The end of qualification and the step of the timescale (R302, R312, R317, R320, R475). -/

namespace Sys2Proof.Machine

/-- An instant kept as far from now as it was. -/
def moved (d : Int) (t : Nat) : Nat := ((t : Int) + d).toNat

/-- Instants that engines keep are measured on the timescale: they move with its step, so that what is under way keeps its length. -/
def State.shiftInstants (s : State) (d : Int) : State :=
  let m := moved d
  { s with
    fcr := { s.fcr with created := m s.fcr.created, winEnd := s.fcr.winEnd.map m, resetDue := s.fcr.resetDue.map m, lastTrigger := s.fcr.lastTrigger.map m },
    ctl := { s.ctl with wdtStart := m s.ctl.wdtStart, porAt := m s.ctl.porAt },
    bus := { s.bus with queue := s.bus.queue.map (fun x => { x with entered := m x.entered }) },
    geyser := { s.geyser with takes := s.geyser.takes.map (fun x => { x with sentAt := x.sentAt.map m }) },
    store := { s.store with down := s.store.down.map (fun x => (x.1, m x.2)), lastUse := s.store.lastUse.map m },
    twin := { s.twin with partnerLock := s.twin.partnerLock.map m, lockAt := s.twin.lockAt.map m, holdFrom := s.twin.holdFrom.map m },
    mon := { s.mon with start := s.mon.start.map m },
    power := { s.power with emergAt := s.power.emergAt.map m, changed := s.power.changed.map m,
                            prof := s.power.prof.map (fun c => { c with since := m c.since }) },
    ref := { s.ref with yAt := m s.ref.yAt, clampFrom := s.ref.clampFrom.map m, holdAt := m s.ref.holdAt,
                        wtr := s.ref.wtr.map (fun w => (w.1, w.2.1, m w.2.2)), track := s.ref.track.map (fun x => (m x.1, m x.2.1, x.2.2)) } }

/-- A step that carries the time past an armed match time disarms the match (R437). -/
def State.matchPassed (s : State) (t : Nat) : State :=
  let keep1 := decide (t < s.rd64 Reg.FCR_SNAP_TIME_LO Reg.FCR_SNAP_TIME_HI)
  let keep2 := decide (t < s.rd64 Reg.FCR_SNAP_TIME2_LO Reg.FCR_SNAP_TIME2_HI)
  { s with fcr := { s.fcr with timeArmed := s.fcr.timeArmed && keep1, time2Armed := s.fcr.time2Armed && keep2,
                               deferred := if keep2 then s.fcr.deferred else none } }

/-- The timescale is stepped to t ns (R302, R475). -/
def State.stepTime (s : State) (t : Nat) : State :=
  let u := (s.cancelAll.refSync).matchPassed t
  let v := u.shiftInstants ((t : Int) - u.now)
  (({ v with now := t }).hist 10 (v.ref.sel.getD 0))

/-- The timescale may step: the CXF is in OFF, ISOLATED or IDLE (R302). -/
def State.mayStep (s : State) : Bool := s.cur 9 == sOFF || s.cur 9 == sISOLATED || s.cur 9 == sIDLE

/-- Time of the selected candidate. -/
def State.refTime (s : State) : Option Nat := if s.ref.sel.isSome then some ((s.now : Int) + s.ref.phase / 1000).toNat else none

/-- A write to RTU_TIME_CMD (R302). -/
def State.timeCmd (s : State) (m : Requester) (v : Nat) : State :=
  if !v.testBit 31 && !v.testBit 30 then s
  else if !s.mayStep then s.refuseState m Reg.RTU_TIME_CMD
  else if v.testBit 31 then
    s.stepTime ((s.fld Reg.RTU_TIME_SET_SEC_HI 15 0 * 2 ^ 32 + s.rdN Reg.RTU_TIME_SET_SEC_LO) * 1000000000 + s.fld Reg.RTU_TIME_SET_NS 29 0)
  else match s.refTime with
    | some t =>
      let u := s.stepTime t
      { u with ref := { u.ref with phase := u.ref.phase % 1000 } }
    | none => s

def execTimeStep (m : Requester) (s : State) : Host.Outcome State Fault Refusal :=
  .next (s.writeAccess m Reg.RTU_TIME_CMD (2 ^ 31) (fun t => t.timeCmd m (2 ^ 31)))

def execTimeStepRef (m : Requester) (s : State) : Host.Outcome State Fault Refusal :=
  .next (s.writeAccess m Reg.RTU_TIME_CMD (2 ^ 30) (fun t => t.timeCmd m (2 ^ 30)))

/-- The checks of Table 13.3 held for candidate c throughout: its frequency deviation in 10^-12, pulses in place, completed exchanges and unbroken service; and its offset in ps is within MAX_OFF_US unless a step applies. -/
def State.qualOk (s : State) (c : Nat) (phase freq : Int) (pulses : Bool) (exchanges : Nat) (unbroken : Bool) : Bool :=
  let w := Reg.RTU_C_QUAL (c + 1)
  let x := s.cand c
  let stepped := s.bit Reg.RTU_CFG 0 && s.mayStep
  (if c ≤ 1 then decide (freq.natAbs ≤ s.fld w 19 16 * 1000000) && pulses && (x.timeValid || s.pboKeep)
   else if c = 2 then decide (8 ≤ exchanges) && unbroken else unbroken) &&
  (stepped || decide (phase.natAbs ≤ s.fld w 15 0 * 1000000))

/-- Qualification of a candidate ends after QUAL_MS: it is acquired with its offset P in the build-out, or after a step that takes P, or it is disqualified (R302, R312, R320). -/
def State.qualComplete (s0 : State) (phase freq : Int) (pulses : Bool) (exchanges : Nat) (unbroken : Bool) : State :=
  if !s0.running 5 then s0
  else
    let s := s0.refSync
    match s.ref.qual with
    | none => s
    | some c =>
      if s.qualOk c phase freq pulses exchanges unbroken then
        let step := s.bit Reg.RTU_CFG 0 && s.mayStep
        let t := if step then s.stepTime ((s.now : Int) + phase / 1000).toNat else s
        let left := if step then phase % 1000 else phase
        let u := t.setCand c { t.cand c with lost := false }
        let v := { u with ref := { u.ref with sel := some c, qual := none, wtr := none, phase := left, pbo := if step then 0 else left,
                                              drawing := !step && left != 0 && !u.pboKeep } }
        if v.ref.dpll = 4 then v else v.dpllTo 1
      else s.qualFail c

def execQualComplete (phase freq : Int) (pulses : Bool) (exchanges : Nat) (unbroken : Bool) (s : State) : Host.Outcome State Fault Refusal :=
  .next (s.qualComplete phase freq pulses exchanges unbroken)

end Sys2Proof.Machine
end

