-- ==== Sys2Proof/Machine/Record.lean ====
section
/-! DEFINITION. The records of the twin link and the blocks of a slot message: their layout (Tables 14.3, 14.4) and how a receiver reads them (R348, R350). -/

namespace Sys2Proof.Machine

/-! ### Records (Table 14.4) -/

/-- The header of a record: KIND, LEN and the kind's fields in bits 47:0. -/
def recHead (kind len fields : Nat) : Nat := kind * 2 ^ 56 + len % 256 * 2 ^ 48 + fields % 2 ^ 48

/-- Two 32-bit body fields in one word. -/
def twoWords (a b : Nat) : Nat := a % 2 ^ 32 * 2 ^ 32 + b % 2 ^ 32

/-- Members of a take, two in a word as GSE_P_ARG lays them out: SRC above DST. -/
def memberWords : List (Nat × Nat) → List Nat
  | [] => []
  | [m] => [twoWords (m.1 % 65536 * 65536 + m.2 % 65536) 0]
  | m :: n :: r => twoWords (m.1 % 65536 * 65536 + m.2 % 65536) (n.1 % 65536 * 65536 + n.2 % 65536) :: memberWords r

/-- The words of a record: its header and its body (Table 14.4, R350). -/
def recWords (r : CtlRec) : List Nat :=
  match r with
  | .status st ri p d q v i h =>
    [recHead 0x01 1 (b2n st * 2 ^ 47 + b2n ri * 2 ^ 46 + p % 4 * 2 ^ 44 + d % 8 * 2 ^ 41 + q % 16 * 2 ^ 37 + b2n v * 2 ^ 36), twoWords i h]
  | .time tm d q raw => [recHead 0x02 0 (b2n tm * 2 ^ 47 + d % 8 * 2 ^ 44 + q % 16 * 2 ^ 40 + unsigned 32 raw)]
  | .ptpDs d =>
    [recHead 0x03 3 0, d.gm % 2 ^ 64,
      d.clockClass % 256 * 2 ^ 56 + d.accuracy % 256 * 2 ^ 48 + d.variance % 65536 * 2 ^ 32 + d.priority1 % 256 * 2 ^ 24 +
        d.priority2 % 256 * 2 ^ 16 + d.steps % 65536,
      d.timeSource % 256 * 2 ^ 56 + d.utcOffset % 65536 * 2 ^ 40]
  | .take tag op S T l last =>
    let m := memberWords l
    recHead 0x10 (2 + m.length) (tag % 2 ^ 14 * 2 ^ 34 + op % 4 * 2 ^ 32 + l.length % 8192 * 2 ^ 19 + b2n last * 2 ^ 18) :: S % 2 ^ 64 :: T % 2 ^ 64 :: m
  | .agree tag refuse reason => [recHead 0x11 0 (tag % 2 ^ 14 * 2 ^ 34 + b2n refuse * 2 ^ 33 + reason % 16 * 2 ^ 29)]
  | .imageArm e i h => [recHead 0x12 1 (e % 2 ^ 24), twoWords i h]
  | .prof op p e i h => [recHead 0x20 1 (op % 4 * 2 ^ 46 + p % 4 * 2 ^ 44 + e % 2 ^ 24), twoWords i h]
  | .sync slot k stamp => [recHead 0x30 1 (slot % 8192 * 2 ^ 35 + k % 2 ^ 24 * 2 ^ 11), stamp % 2 ^ 64]
  | .audSlip port n stamp => [recHead 0x31 2 (port % 128 * 2 ^ 41), n % 2 ^ 64, stamp % 2 ^ 64]
  | .fence e ready ep => [recHead 0x32 0 (e % 64 * 2 ^ 42 + b2n ready * 2 ^ 41 + ep % 2 ^ 24)]
  | .hash e first l => recHead 0x40 l.length (e % 2 ^ 24 * 2 ^ 24 + first % 65536 * 2 ^ 8) :: l.map (· % 2 ^ 64)
  | .role op roles e => [recHead 0x50 0 (op % 4 * 2 ^ 46 + roles % 4 * 2 ^ 44 + e % 2 ^ 24)]
  | .lane a e => [recHead 0x51 0 (a % 65536 * 2 ^ 32 + e % 2 ^ 24)]
  | .snap t => [recHead 0x52 1 0, t % 2 ^ 64]

/-- COUNT members from body words. -/
def wordMembers : Nat → List Nat → List (Nat × Nat)
  | 0, _ => []
  | _, [] => []
  | 1, w :: _ => [(w / 2 ^ 48 % 65536, w / 2 ^ 32 % 65536)]
  | n + 2, w :: r => (w / 2 ^ 48 % 65536, w / 2 ^ 32 % 65536) :: (w / 65536 % 65536, w % 65536) :: wordMembers n r

/-- The record that a header and its body words spell; none for a kind that Table 14.4 does not give. -/
def readRec (h : Nat) (b : List Nat) : Option CtlRec :=
  let w := fun i => nthD b i 0
  let f := fun hi lo => h / 2 ^ lo % 2 ^ (hi + 1 - lo)
  let hi32 := w 0 / 2 ^ 32 % 2 ^ 32
  let lo32 := w 0 % 2 ^ 32
  match h / 2 ^ 56 % 256 with
  | 0x01 => some (.status (h.testBit 47) (h.testBit 46) (f 45 44) (f 43 41) (f 40 37) (h.testBit 36) hi32 lo32)
  | 0x02 => some (.time (h.testBit 47) (f 46 44) (f 43 40) (signed 32 (f 31 0)))
  | 0x03 => some (.ptpDs { gm := w 0, clockClass := w 1 / 2 ^ 56 % 256, accuracy := w 1 / 2 ^ 48 % 256, variance := w 1 / 2 ^ 32 % 65536,
                           priority1 := w 1 / 2 ^ 24 % 256, priority2 := w 1 / 2 ^ 16 % 256, steps := w 1 % 65536,
                           timeSource := w 2 / 2 ^ 56 % 256, utcOffset := w 2 / 2 ^ 40 % 65536 })
  | 0x10 => some (.take (f 47 34) (f 33 32) (w 0) (w 1) (wordMembers (f 31 19) (b.drop 2)) (h.testBit 18))
  | 0x11 => some (.agree (f 47 34) (h.testBit 33) (f 32 29))
  | 0x12 => some (.imageArm (f 23 0) hi32 lo32)
  | 0x20 => some (.prof (f 47 46) (f 45 44) (f 23 0) hi32 lo32)
  | 0x30 => some (.sync (f 47 35) (f 34 11) (w 0))
  | 0x31 => some (.audSlip (f 47 41) (w 0) (w 1))
  | 0x32 => some (.fence (f 47 42) (h.testBit 41) (f 23 0))
  | 0x40 => some (.hash (f 47 24) (f 23 8) b)
  | 0x50 => some (.role (f 47 46) (f 45 44) (f 23 0))
  | 0x51 => some (.lane (f 47 32) (f 23 0))
  | 0x52 => some (.snap (w 0))
  | _ => none

/-- The records of a message's record blocks, in order (R350); the first number bounds how many are read. -/
def readRecs : Nat → List Nat → List CtlRec
  | 0, _ => []
  | _, [] => []
  | n + 1, h :: r =>
    let len := h / 2 ^ 48 % 256
    match readRec h (r.take len) with
    | some x => x :: readRecs n (r.drop len)
    | none => readRecs n (r.drop len)

/-! ### Slot messages (R348, Table 14.3) -/

/-- What the SLOT block and the data block of a slot message carry beside its records. -/
structure SlotHead where
  seq : Nat
  ack : Nat
  nack : Bool
  health : Nat
  roles : Nat
  pstate : Nat
  twin : Bool
  lane : Nat
  isHash : Bool
  lanesOk : Nat
  slot : Nat
  epoch : Nat
  deriving DecidableEq, Repr

/-- The blocks of a slot message: SLOT, the data block, the record blocks and END with the CRC-32C of all before it. -/
def slotBlocks (m : SlotHead) (l : List CtlRec) : List (Bool × Nat) :=
  let body := l.flatMap recWords
  let head := m.seq % 65536 * 2 ^ 48 + m.ack % 65536 * 2 ^ 32 + b2n m.nack * 2 ^ 31 + m.health % 4 * 2 ^ 29 + m.roles % 4 * 2 ^ 27 +
    m.pstate % 4 * 2 ^ 25 + b2n m.twin * 2 ^ 24 + m.lane % 16 * 2 ^ 20 + b2n m.isHash * 2 ^ 18 + body.length % 512 * 2 ^ 9 + 0x2D
  let data := m.lanesOk % 65536 * 2 ^ 48 + m.slot % 2 ^ 24 * 2 ^ 24 + m.epoch % 2 ^ 24
  (true, head) :: (false, data) :: body.map (fun w => (false, w)) ++ [(true, blocksCrc (head :: data :: body) * 2 ^ 16 + 0xD2)]

/-- A received slot message as its header and records; none where its form or its CRC fails. -/
def readSlot (l : List (Bool × Nat)) : Option (SlotHead × List CtlRec) :=
  match l with
  | (true, h) :: (false, d) :: r =>
    let n := h / 2 ^ 9 % 512
    let body := (r.take n).map (·.2)
    match r.drop n with
    | [(true, e)] =>
      if h % 256 = 0x2D ∧ e % 256 = 0xD2 ∧ n ≤ 317 ∧ (r.take n).all (fun x => !x.1) ∧ e / 2 ^ 16 % 2 ^ 32 = blocksCrc (h :: d :: body) then
        some ({ seq := h / 2 ^ 48 % 65536, ack := h / 2 ^ 32 % 65536, nack := h.testBit 31, health := h / 2 ^ 29 % 4, roles := h / 2 ^ 27 % 4,
                pstate := h / 2 ^ 25 % 4, twin := h.testBit 24, lane := h / 2 ^ 20 % 16, isHash := h.testBit 18, lanesOk := d / 2 ^ 48 % 65536,
                slot := d / 2 ^ 24 % 2 ^ 24, epoch := d % 2 ^ 24 }, readRecs n body)
      else none
    | _ => none
  | _ => none

/-- Blocks that a record takes in a message. -/
def recLen (r : CtlRec) : Nat := (recWords r).length

/-- The records at the front of a queue that fit n blocks, and the rest. -/
def fitRecs : Nat → List CtlRec → List CtlRec × List CtlRec
  | _, [] => ([], [])
  | n, r :: q =>
    if recLen r ≤ n then
      let x := fitRecs (n - recLen r) q
      (r :: x.1, x.2)
    else ([], r :: q)

end Sys2Proof.Machine
end

