-- ==== Sys2Proof/Machine/Twin.lean ====
section
/-! DEFINITION. The twin unit: heartbeat, pair states, lanes and slot messages, roles, the revert hold-off, divergence hashes and shared snapshots (R340 to R361). -/

namespace Sys2Proof.Machine

/-- The twin unit's fields change. -/
def State.setTwin (s : State) (x : TwinState) : State := { s with twin := x }

/-- A record goes to the partner under every pair state but NO_PARTNER (Table 14.2, R350). -/
def State.tell (s : State) (r : CtlRec) : State :=
  if s.pairState = 0 then s else s.setTwin { s.twin with waiting := s.twin.waiting ++ [r] }

/-! ### Roles (R353 to R356) -/

/-- The roles held: 2 timing master, 1 control primary. -/
def State.roles (s : State) : Nat := if s.running 15 then s.fld Reg.TWN_ROLE 31 30 else 0

/-- The roles that the partner claims. -/
def State.partnerRoles (s : State) : Nat := s.fld Reg.TWN_ROLE 29 28

/-- The partner's HEALTH. -/
def State.partnerHealth (s : State) : Nat := s.fld Reg.TWN_PARTNER 31 30

/-- The roles held change for a reason of TWN_ROLE.REASON; the timing unit selects anew (R355). -/
def State.setRoles (s : State) (new reason : Nat) : State :=
  if new = s.roles then s else ((s.setFld Reg.TWN_ROLE 31 30 new).setFld Reg.TWN_ROLE 27 24 reason).reselect 7

/-- The boundary 4 epochs ahead at the least. -/
def State.giveTarget (s : State) : Nat := ceilDiv s.now s.epochNs + 4

/-- GIVE of every role held, if the partner is OK and no GIVE is out (R354 to R356). -/
def State.giveRoles (s : State) (revert : Bool) : State :=
  if s.paired && s.roles != 0 && s.partnerHealth == 0 && s.twin.give.isNone then
    let E := s.giveTarget
    (s.setTwin { s.twin with give := some { roles := s.roles, target := E, revert := revert } }).tell (.role 0 s.roles (E % 2 ^ 24))
  else s

/-- Twin A is ready, as Twin B sees it (R356). -/
def State.partnerReady (s : State) : Bool :=
  s.paired && s.partnerHealth == 0 && s.bit Reg.TWN_PARTNER 25 && s.imageMatch && s.lockAged s.twin.partnerLock

/-- The hold-off on Twin B: it starts when Twin A becomes ready and stops when a condition fails (R356). -/
def State.holdSync (s : State) : State :=
  if s.isTwinB && s.roles != 0 && s.partnerReady then
    if s.twin.holdFrom.isSome then s else s.setTwin { s.twin with holdFrom := some s.now }
  else s.setTwin { s.twin with holdFrom := none }

/-- The hold-off ends: Twin B gives its roles to a ready Twin A unless REVERT_INH is set on either twin (R356). -/
def State.revert (s : State) : State :=
  let t := s.holdSync
  if t.twin.holdFrom.isSome && !t.bit Reg.TWN_CFG 3 && !t.twin.inhibit then t.giveRoles true else t

def execHoldoffExpire (s : State) : Host.Outcome State Fault Refusal := .next s.revert

/-- A write to TWN_CTRL (Table 14.8). -/
def State.twinCtrl (s : State) (v : Nat) : State :=
  let t := if v.testBit 31 then s.setBit Reg.TWN_STATUS 25 true else s
  let u := if v.testBit 30 then t.setBit Reg.TWN_STATUS 25 false else t
  let w := if v.testBit 29 then u.giveRoles false else u
  if v.testBit 28 then w.revert else w

def execSelftestOk (m : Requester) (s : State) : Host.Outcome State Fault Refusal :=
  .next (s.writeAccess m Reg.TWN_CTRL (2 ^ 31) (fun t => t.twinCtrl (2 ^ 31)))
def execSelftestClr (m : Requester) (s : State) : Host.Outcome State Fault Refusal :=
  .next (s.writeAccess m Reg.TWN_CTRL (2 ^ 30) (fun t => t.twinCtrl (2 ^ 30)))
def execRelease (m : Requester) (s : State) : Host.Outcome State Fault Refusal :=
  .next (s.writeAccess m Reg.TWN_CTRL (2 ^ 29) (fun t => t.twinCtrl (2 ^ 29)))
def execRevertNow (m : Requester) (s : State) : Host.Outcome State Fault Refusal :=
  .next (s.writeAccess m Reg.TWN_CTRL (2 ^ 28) (fun t => t.twinCtrl (2 ^ 28)))

/-- GIVE from the partner: TAKE is the reply, and the role is taken at the target unless CANCEL comes first. Twin A takes it for a revert when it is ready and neither twin inhibits (log entry 46). -/
def State.roleGiveRx (s : State) (roles epoch : Nat) : State :=
  s.atEpoch (resolveEpoch s.epoch epoch) (fun E =>
    if s.paired then
      let back := !s.isTwinB && s.selfReady && !s.bit Reg.TWN_CFG 3 && !s.twin.inhibit && s.partnerHealth == 0
      (s.setTwin { s.twin with pend := some { roles := roles % 4, target := E, revert := back } }).tell (.role 1 (roles % 4) (E % 2 ^ 24))
    else s)

/-- TAKE from the partner: in time until 1 epoch before the target (R355). -/
def State.roleTakeRx (s : State) (epoch : Nat) : State :=
  match s.twin.give with
  | some g =>
    if g.target % 2 ^ 24 = epoch % 2 ^ 24 ∧ s.now ≤ (g.target - 1) * s.epochNs then s.setTwin { s.twin with give := some { g with agreed := true } } else s
  | none => s

/-- CANCEL from the partner. -/
def State.roleCancelRx (s : State) (epoch : Nat) : State :=
  match s.twin.pend with
  | some p => if p.target % 2 ^ 24 = epoch % 2 ^ 24 then s.setTwin { s.twin with pend := none } else s
  | none => s

def execRoleGiveRx (roles epoch : Nat) (s : State) : Host.Outcome State Fault Refusal := .next (s.roleGiveRx roles (epoch % 2 ^ 24))
def execRoleTakeRx (epoch : Nat) (s : State) : Host.Outcome State Fault Refusal := .next (s.roleTakeRx epoch)
def execRoleCancelRx (epoch : Nat) (s : State) : Host.Outcome State Fault Refusal := .next (s.roleCancelRx epoch)

/-- Roles due under R354 are taken: with the partner lost, alone, and by Twin A whose heartbeat is lost with no partner. -/
def State.roleDue (s : State) : State :=
  let t := if s.twin.due = 0 then s
    else
      let u := s.setRoles 3 s.twin.due
      let v := u.setTwin { u.twin with due := 0 }
      if s.twin.due = 3 then v.bump Reg.TWN_FAILOVER_CNT else v
  if t.pairState = 0 ∧ t.bit Reg.TWN_STATUS 28 = false ∧ t.isTwinB = false then t.setRoles 3 1 else t

/-- A role claimed by both twins stays with Twin A (R355). -/
def State.roleDoubled (s : State) : State :=
  let both := s.roles &&& s.partnerRoles
  if s.paired && both != 0 then
    let t := s.raise Src.TWN_ROLE_CONFLICT
    if t.isTwinB then t.setRoles (t.roles - both) 6 else t
  else s

/-- A role that claims show to be empty for 2 epochs is taken by Twin A if its HEALTH is OK, else by Twin B (R355). -/
def State.roleEmpty (s : State) (claims : Nat) : State :=
  let tm := if s.paired && !claims.testBit 1 then s.twin.emptyTm + 1 else 0
  let cp := if s.paired && !claims.testBit 0 then s.twin.emptyCp + 1 else 0
  let mine := if s.isTwinB then s.partnerHealth != 0 else s.health == 0
  let gain := (if 2 ≤ tm then 2 else 0) + (if 2 ≤ cp then 1 else 0)
  let t := s.setTwin { s.twin with emptyTm := tm % 2, emptyCp := cp % 2 }
  if gain != 0 && mine then t.setRoles (t.roles ||| gain) 7 else t

/-- The reason of a move, and its count (R356). -/
def State.roleMoved (s : State) (new : Nat) (revert : Bool) : State :=
  let t := s.setRoles new (if revert then 5 else 4)
  if revert then t.bump Reg.TWN_REVERT_CNT else t

/-- The holder at the target of its GIVE, or 1 epoch before it without TAKE (R355). -/
def State.roleGiven (s : State) : State :=
  match s.twin.give with
  | some g =>
    let t := s.setTwin { s.twin with give := none }
    if g.target ≤ s.epoch then (if g.agreed then t.roleMoved (t.roles - (t.roles &&& g.roles)) g.revert else t)
    else if g.target = s.epoch + 1 ∧ g.agreed = false then t.tell (.role 2 g.roles (g.target % 2 ^ 24))
    else s
  | none => s

/-- The receiver of a GIVE at its target (R355). -/
def State.roleTaken (s : State) : State :=
  match s.twin.pend with
  | some p => if p.target ≤ s.epoch then (s.setTwin { s.twin with pend := none }).roleMoved (s.roles ||| p.roles) p.revert else s
  | none => s

/-- Roles at an epoch boundary; a DEGRADED device gives its own to an OK partner (R354, R355). -/
def State.roleStep (s : State) : State :=
  let t := s.roleDue
  let u := (t.roleDoubled).roleEmpty (t.roles ||| t.partnerRoles)
  let v := u.roleGiven.roleTaken
  if v.health = 1 then v.giveRoles false else v

/-! ### Pair states (Table 14.2) -/

/-- Receive state of pair k (Table 14.11): 0 OFF, 1 SLEEP, 2 ACQUIRE, 3 ALIGN, 4 LOCK. -/
def State.pairRx (s : State) (k : Nat) : Nat := s.fld (Reg.TWN_L_STATUS (k + 1)) 31 29
def State.setPairRx (s : State) (k v : Nat) : State := s.setFld (Reg.TWN_L_STATUS (k + 1)) 31 29 v

/-- Pair k is marked failed. -/
def State.pairFailed (s : State) (k : Nat) : Bool := s.bit (Reg.TWN_L_STATUS (k + 1)) 25

/-- The lanes that TWN_LANES names are in use again: active ones acquire unless they are in LOCK, spare ones sleep, and no lane is marked failed (R345). -/
def State.lanesStart (s : State) : State :=
  let act := s.fld Reg.TWN_LANES 15 0
  let spare := s.fld Reg.TWN_LANES 31 16
  let t := (List.range 16).foldl (fun u k =>
    let rx := if act.testBit k then (if u.pairRx k = 4 then 4 else 2) else if spare.testBit k then 1 else 0
    (((u.setPairRx k rx).setBit (Reg.TWN_L_STATUS (k + 1)) 25 false).setFld (Reg.TWN_L_STATUS (k + 1)) 7 0 0)) s
  t.setTwin { t.twin with active := act, change := none, heard := [] }

/-- The pair state becomes n: EPOCHS and the counts of epochs start anew. -/
def State.setPair (s : State) (n : Nat) : State :=
  let t := (s.setFld Reg.TWN_STATUS 31 30 n).setFld Reg.TWN_STATUS 15 0 0
  t.setTwin { t.twin with good := 0, miss := 0 }

/-- TWIN is lost to the timing unit, if it followed it. -/
def State.twinGone (s : State) : State := (s.refLost 3).reselect 7

/-- NO_PARTNER: what was agreed or waits to be sent is dropped, and the lanes start anew so that pairing can begin again (log entry 47). -/
def State.noPartner (s : State) : State :=
  let t := (s.setPair 0).setFld Reg.TWN_ROLE 29 28 0
  let u := t.setTwin { t.twin with waiting := [], hashOut := [], lastRx := none, nackOut := false, got := false, measured := false, image := none,
                                   partnerLock := none, inhibit := false, give := none, pend := none, holdFrom := none, emptyTm := 0, emptyCp := 0 }
  u.lanesStart.twinGone

/-- The partner is lost: this device takes the roles at the next boundary (R354). -/
def State.partnerLost (s : State) : State :=
  let t := (s.raise Src.TWN_PARTNER_LOST).noPartner
  t.setTwin { t.twin with due := 3 }

/-- SPLIT: roles are frozen (R357). -/
def State.enterSplit (s : State) : State :=
  let t := ((s.setPair 3).bump Reg.TWN_SPLIT_CNT).raise Src.TWN_SPLIT
  (t.setTwin { t.twin with give := none, pend := none, hashOut := [], measured := false, holdFrom := none }).twinGone

/-- An edge on TWIN_HB_IN (R342). -/
def execHbEdge (s : State) : Host.Outcome State Fault Refusal := .next (s.setBit Reg.TWN_STATUS 28 true)

/-- The heartbeat is lost (R342, Table 14.2). -/
def State.hbLoss (s : State) : State :=
  let t := s.setBit Reg.TWN_STATUS 28 false
  if t.pairState = 2 ∨ t.pairState = 3 then t.partnerLost else t

def execHbLoss (s : State) : Host.Outcome State Fault Refusal := .next s.hbLoss

/-- ALONE has passed in NO_PARTNER: with the heartbeat present the pair is SPLIT; with it lost Twin B takes both roles at the next boundary (Table 14.2, R354). -/
def State.aloneExpire (s : State) : State :=
  if s.running 15 && s.pairState == 0 then
    if s.bit Reg.TWN_STATUS 28 then (if s.isTwinB then s else s.setRoles 3 1).enterSplit
    else if s.isTwinB && s.twin.due == 0 then s.setTwin { s.twin with due := 2 }
    else s
  else s

def execAloneExpire (s : State) : Host.Outcome State Fault Refusal := .next s.aloneExpire

/-- 3 epochs have passed without a partner frame (Table 14.2). -/
def State.partnerTimeout (s : State) : State :=
  if s.twin.miss < 3 then s
  else match s.pairState with
    | 1 => s.noPartner
    | 2 => if s.bit Reg.TWN_STATUS 28 then s.enterSplit else s.partnerLost
    | _ => s

def execPartnerTimeout (s : State) : Host.Outcome State Fault Refusal := .next s.partnerTimeout

/-- Partner frames have come in 8 consecutive epochs and the delay is measured: the pair is PAIRED; hashes are compared from the present release epoch on (R357). -/
def State.pairEstablish (s : State) : State :=
  if (s.pairState == 1 || s.pairState == 3) && decide (8 ≤ s.twin.good) && s.twin.measured then
    let t := s.setPair 2
    (t.setTwin { t.twin with cmpFrom := s.epoch, emptyTm := 0, emptyCp := 0, compared := [] }).reselect 7
  else s

def execPairEstablish (s : State) : Host.Outcome State Fault Refusal := .next s.pairEstablish

/-- The TWN enters RUN: it holds no role, and its lanes start (R344, R354). -/
def State.twinStart (s : State) : State :=
  let t := ((s.setPair 0).setFld Reg.TWN_ROLE 31 28 0)
  (t.setTwin { hbOut := s.twin.hbOut }).lanesStart

/-- The TWN leaves RUN: it holds no role, reads NO_PARTNER and drives no lane (R344). -/
def State.twinStop (s : State) : State :=
  let t := ((s.setPair 0).setFld Reg.TWN_ROLE 31 28 0)
  let u := (List.range 16).foldl (fun u k => u.setPairRx k 0) t
  (u.setTwin { hbOut := s.twin.hbOut }).twinGone

/-! ### Lanes (R345, R170) -/

/-- An active lane fails: 4 slots without a valid message, or its receiver out of LOCK. A LANE record names the lowest spare for it and a target 3 ms ahead, and the spare wakes. -/
def State.laneFail (s : State) (k : Nat) : State :=
  let a := Reg.TWN_L_STATUS (k + 1)
  if s.pairState != 0 && s.laneActive k && !s.pairFailed k && (decide (4 ≤ s.fld a 7 0) || s.pairRx k != 4) then
    let t := (s.setBit a 25 true).raise Src.TWN_LANE_FAIL
    let base := match t.twin.change with | some c => c.1 | none => t.twin.active
    let spare := (List.range 16).find? (fun j => (t.fld Reg.TWN_LANES 31 16).testBit j && !base.testBit j && !t.pairFailed j)
    let mask := (if base.testBit k then base - 2 ^ k else base) + (match spare with | some j => 2 ^ j | none => 0)
    let E := ceilDiv (s.now + 3000000) s.epochNs
    let u := (t.setTwin { t.twin with change := some (mask, E) }).tell (.lane mask (E % 2 ^ 24))
    match spare with | some j => (if u.pairRx j = 1 then u.setPairRx j 2 else u) | none => u
  else s

def execLaneFail (k : Nat) (s : State) : Host.Outcome State Fault Refusal := .next (s.laneFail (k % 16))

/-- A LANE record from the partner: the lanes it names wake. -/
def State.laneRx (s : State) (mask epoch : Nat) : State :=
  s.atEpoch (resolveEpoch s.epoch epoch) (fun E =>
    let t := s.setTwin { s.twin with change := some (mask % 65536, E) }
    (List.range 16).foldl (fun u k => if mask.testBit k && u.pairRx k == 1 then u.setPairRx k 2 else u) t)

def execLaneRx (active epoch : Nat) (s : State) : Host.Outcome State Fault Refusal := .next (if s.pairState = 0 then s else s.laneRx active (epoch % 2 ^ 24))

/-- The target boundary of a lane change: a woken lane in LOCK is active, one that is not is marked failed (R345). -/
def State.spareActivate (s : State) : State :=
  match s.twin.change with
  | some c =>
    if c.2 ≤ s.epoch then
      let woken := (List.range 16).filter (fun k => c.1.testBit k && !s.twin.active.testBit k)
      let dead := woken.filter (fun k => s.pairRx k != 4)
      let off := (List.range 16).filter (fun k => s.twin.active.testBit k && !c.1.testBit k)
      let t := dead.foldl (fun u k => (u.setBit (Reg.TWN_L_STATUS (k + 1)) 25 true).raise Src.TWN_SPARE_FAIL) s
      let u := off.foldl (fun u k => u.setPairRx k 0) t
      u.setTwin { u.twin with active := maskOf 16 (fun k => c.1.testBit k && !dead.contains k), change := none }
    else s
  | none => s

def execSpareActivate (s : State) : Host.Outcome State Fault Refusal := .next s.spareActivate

/-- A twin-link receiver sees an invalid sync header in block b (R170). -/
def State.pairHeaderInvalid (s : State) (k b : Nat) : State :=
  let x := s.lane (512 + k)
  if s.running 15 && s.pairRx k == 4 then
    let w := (b :: x.bad).filter (fun y => decide (b < y + 64))
    if 16 ≤ w.length then (s.setPairRx k 2).setLane (512 + k) { x with bad := [], good := 0, recovering := true }
    else s.setLane (512 + k) { x with bad := w }
  else s

/-- A twin-link receiver enters LOCK after 64 consecutive valid headers. -/
def State.pairLock (s : State) (k : Nat) : State :=
  if s.running 15 && (s.pairRx k == 2 || s.pairRx k == 3) then
    (s.setPairRx k 4).setLane (512 + k) { s.lane (512 + k) with good := 64, bad := [], recovering := false }
  else s

/-- A twin-link receiver that has not relocked within 100 µs enters ALIGN. -/
def State.pairRecovery (s : State) (k : Nat) : State :=
  if (s.lane (512 + k)).recovering then (s.setPairRx k 3).setLane (512 + k) { s.lane (512 + k) with good := 0, recovering := false } else s

/-! ### Hashes (R351, R352) -/

/-- CRC-64 with the ECMA-182 polynomial, initial value all ones, over bytes from the most significant bit on. -/
def crc64 (c : Nat) (l : List Byte) : Nat := l.foldl (crcMsbByte 64 0x42F0E1EBA9EA3693) c

/-- What the hash covers of a cell: descriptor bits 511:64 with LATE taken as 0, and the payload. -/
def hashBytes (c : LineCell) : List Byte := bytesBE 56 (descriptorTop c true / 2 ^ 32) ++ c.payload

/-- H of an output and release epoch, over the cells released for it so far. -/
def State.hashOf (s : State) (dst r : Nat) : Nat :=
  ((s.fabric.delivered.filter (fun d => d.1 == r && d.2.outputId == dst)).map (fun d => hashBytes d.2)).foldl crc64 (2 ^ 64 - 1)

/-- Outputs hashed: those of the active OUTPUTS section that are no internal sinks, in ascending ID. -/
def State.hashed (s : State) : List Nat := ((s.outputs.map (·.id)).filter (fun d => essenceRole d == .output)).mergeSort (fun a b => decide (a ≤ b))

/-- A cell due to an output in release epoch r has not left yet (R85). -/
def State.lateDue (s : State) (dst r : Nat) : Bool :=
  s.fabric.egress.any (fun c => c.dst == dst && c.release == r && c.late && c.cell.isSome) ||
    s.fabric.planes.any (fun p => p.carry.any (fun c => dDst c.1 == dst && c.2 + 1 == r))

/-- One output differs in a release epoch (R352). -/
def State.diverge (s : State) (r d : Nat) : State :=
  let n := (kget s.twin.logged r).getD 0
  let t := (s.bump Reg.TWN_DIV_CNT).raise Src.TWN_DIVERGE
  let u := if n = 0 then t.bump Reg.TWN_DIV_EPOCHS else t
  let v := if n < 8 then u.wrWords (Reg.TWN_DIV_LOG 0) ((d % 65536 * 65536 + r % 65536) :: u.rdWords (Reg.TWN_DIV_LOG 0) 7) else u
  v.setTwin { v.twin with logged := kput v.twin.logged r (n + 1),
                          holdFrom := if v.twin.holdFrom.isSome then some s.now else none }

/-- The hash of one output and release epoch, if a list holds it. -/
def hashAt (l : List (Nat × Nat × Nat)) (r d : Nat) : Option Nat := (l.find? (fun x => x.1 == r && x.2.1 == d)).map (·.2.2)

/-- A received hash meets the own one as soon as both exist; an output that only the partner hashes differs once the own hashes of its epoch are complete (R352). -/
def State.compareHash (s : State) (r d : Nat) : State :=
  if !s.paired || decide (r < s.twin.cmpFrom) || s.twin.compared.contains (r, d) then s
  else
    match hashAt s.twin.theirs r d, hashAt s.twin.own r d with
    | none, _ => s
    | some _, none =>
      if decide (r + 2 ≤ s.epoch) || (decide (r < s.epoch) && !s.hashed.contains d) then
        let t := (s.setTwin { s.twin with compared := s.twin.compared ++ [(r, d)] }).bump Reg.TWN_CMP_CNT
        t.diverge r d
      else s
    | some x, some y =>
      let t := (s.setTwin { s.twin with compared := s.twin.compared ++ [(r, d)] }).bump Reg.TWN_CMP_CNT
      if x = y then t else t.diverge r d

/-- Runs of consecutive output IDs of a rising list, at most 255 long, as hash records of release epoch r. -/
def hashRecs (r : Nat) : List (Nat × Nat) → List CtlRec
  | [] => []
  | (d, h) :: rest =>
    match hashRecs r rest with
    | .hash e first l :: q => if first = d + 1 ∧ l.length < 255 then .hash e d (h :: l) :: q else .hash (r % 2 ^ 24) d [h] :: .hash e first l :: q
    | q => .hash (r % 2 ^ 24) d [h] :: q

/-- The end of epoch e: own hashes of the outputs whose cells due in e have all left, and of those of e - 1 that waited for LATE cells, go onto the hash lanes; hashes of e - 2 that never came are missed (R351, R352). -/
def State.hashEnd (s : State) : State :=
  let e := s.epoch
  if !s.running 15 then s
  else
    let now := s.hashed.filter (fun d => !s.lateDue d e)
    let old := if e = 0 then [] else s.hashed.filter (fun d => (hashAt s.twin.own (e - 1) d).isNone && s.twin.own.any (fun x => x.1 == e - 1))
    let a := now.map (fun d => (d, s.hashOf d e))
    let b := old.map (fun d => (d, s.hashOf d (e - 1)))
    let t := s.setTwin { s.twin with
      own := s.twin.own ++ a.map (fun x => (e, x.1, x.2)) ++ b.map (fun x => (e - 1, x.1, x.2)),
      hashOut := if s.paired then hashRecs (e - 1) b ++ hashRecs e a else [] }
    let u := t.twin.theirs.foldl (fun v x => v.compareHash x.1 x.2.1) t
    let miss := (u.twin.own.filter (fun x => x.1 + 2 == e && decide (u.twin.cmpFrom ≤ x.1) && !u.twin.compared.contains (x.1, x.2.1))).length
    let w := if u.paired && miss != 0 then (u.bumpBy Reg.TWN_HASH_MISS_CNT miss).raise Src.TWN_HASH_MISS else u
    w.setTwin { w.twin with own := w.twin.own.filter (fun x => decide (e < x.1 + 3)), theirs := w.twin.theirs.filter (fun x => decide (e < x.1 + 3)),
                            compared := w.twin.compared.filter (fun x => decide (e < x.1 + 3)), logged := w.twin.logged.filter (fun x => decide (e < x.1 + 3)) }

/-- Release epoch that 24 bits name: the latest such epoch up to the present one. -/
def pastEpoch (now field : Nat) : Nat := now - (now + 2 ^ 24 - field % 2 ^ 24) % 2 ^ 24

/-- A HASH record (R352). -/
def State.hashRx (s : State) (epoch first : Nat) (hashes : List Nat) : State :=
  let r := pastEpoch s.epoch epoch
  if !s.paired || decide (r + 2 < s.epoch) then s
  else
    let l := (List.range hashes.length).map (fun i => (r, first + i, nthD hashes i 0))
    let t := s.setTwin { s.twin with theirs := s.twin.theirs ++ l.filter (fun x => (hashAt s.twin.theirs x.1 x.2.1).isNone) }
    l.foldl (fun v x => v.compareHash x.1 x.2.1) t

def execHashRx (epoch first : Nat) (hashes : List Nat) (s : State) : Host.Outcome State Fault Refusal := .next (s.hashRx epoch first hashes)

/-! ### Records of the twin unit, the timing unit and the switch engine -/

/-- The partner's DPLL reads LOCKED since an instant. -/
def State.partnerDpll (s : State) (d : Nat) : State :=
  s.setTwin { s.twin with partnerLock := if d = 2 then (if s.twin.partnerLock.isSome then s.twin.partnerLock else some s.now) else none }

/-- A STATUS record (Table 14.4). -/
def State.statusRx (s : State) (selftest inhibit : Bool) (dpll : Nat) (valid : Bool) (imageId hdrCrc : Nat) : State :=
  if s.pairState = 0 then s
  else
    let t := (s.setBit Reg.TWN_PARTNER 25 selftest).partnerDpll dpll
    (t.setTwin { t.twin with inhibit := inhibit, image := if valid then some (imageId % 2 ^ 32, hdrCrc % 2 ^ 32) else none }).holdSync

def execStatusRx (selftest revertInh : Bool) (profile dpll ql : Nat) (imgValid : Bool) (imageId hdrCrc : Nat) (s : State) :
    Host.Outcome State Fault Refusal :=
  let _ := (profile, ql)
  .next (s.statusRx selftest revertInh dpll imgValid imageId hdrCrc)

/-- RTU_TWIN_OFFSET on a device that follows TWIN, with the check of R315. -/
def State.twinOffset (s : State) : State :=
  if s.running 5 && s.ref.sel == some 3 then
    let off := -s.ref.theta
    ((s.wrN Reg.RTU_TWIN_OFFSET (unsigned 32 off)).keepMax Reg.RTU_TWIN_OFFSET_MAX off.natAbs).raiseIf (decide (20000 < off.natAbs)) Src.RTU_TWIN_OFFSET
  else if s.isMaster then s.wrN Reg.RTU_TWIN_OFFSET 0 else s

/-- A TIME record gives the partner's mean raw in ps: D and the partner's timescale less this device's (R346). -/
def State.timeRx (s : State) (tm : Bool) (dpll ql : Nat) (raw : Int) : State :=
  if s.pairState = 0 then s
  else
    let old := s.candQl 3
    let t := (s.setBit Reg.TWN_ROLE 29 tm).partnerDpll dpll
    let u := match t.twin.meanRaw with
      | some here =>
        let v := t.wrN Reg.TWN_DELAY (unsigned 32 ((here + raw) / 2))
        { v with twin := { v.twin with measured := true }, ref := { v.ref with theta := (raw - here) / 2, partnerQl := ql % 16 } }
      | none => { t with ref := { t.ref with partnerQl := ql % 16 } }
    (((u.qlChange 3 old).reselect 1).twinOffset).holdSync

def execTimeRx (tm : Bool) (dpll ql : Nat) (meanRaw : Int) (s : State) : Host.Outcome State Fault Refusal := .next (s.timeRx tm dpll ql meanRaw)

/-- A PTP_DS record (R333). -/
def State.ptpDsRx (s : State) (ds : PtpDs) : State := if s.pairState = 0 then s else { s with ref := { s.ref with partnerDs := some ds } }

def execPtpDsRx (ds : PtpDs) (s : State) : Host.Outcome State Fault Refusal := .next (s.ptpDsRx ds)

/-- A TAKE, salvo or cancel of the twin, complete with its last record: it is checked here and answered (R115, R120). -/
def State.takeOfTwin (s : State) (tag op S T : Nat) (pairs : List (Nat × Nat)) : State :=
  if op = 2 then
    let r := s.takeCancel tag none
    r.1.tell (.agree tag (r.2 != 0) r.2)
  else
    let salvo := op == 1
    let r := s.takeCheck true salvo tag pairs.length pairs T S
    if r.1 ≠ 0 then (s.takeRefused tag r.1 salvo).tell (.agree tag true r.1)
    else
      let t : Take := { tag := tag, stamp := S, time := T, isSalvo := salvo, moved := r.2.2 != 0,
                        members := (pairs.zip r.2.1).map (fun x => { src := x.1.1, dst := x.1.2, state := 2, flip := x.2 }) }
      let u := s.takeEnter t r.2.2
      let late := match u.takeOf tag with | some x => x.members.all (fun m => m.state == 9 && m.reason == 10) | none => false
      u.tell (.agree tag late (b2n late * 10))

/-- A TAKE record: members of a salvo gather until the record that carries LAST (R350). -/
def State.takeRx (s : State) (tag op S T : Nat) (members : List (Nat × Nat)) (last : Bool) : State :=
  if s.pairState = 0 then s
  else
    let kept := (s.geyser.parts.filter (fun x => x.1 == tag)).map (·.2)
    let rest := s.geyser.parts.filter (fun x => x.1 != tag)
    if last then ({ s with geyser := { s.geyser with parts := rest } }.takeOfTwin tag op S T (kept ++ members)).profSync
    else { s with geyser := { s.geyser with parts := s.geyser.parts ++ members.map (fun m => (tag, m)) } }

def execTwinTakeRx (tag op stamp time : Nat) (members : List (Nat × Nat)) (last : Bool) (s : State) : Host.Outcome State Fault Refusal :=
  .next (s.takeRx (tag % 2 ^ 14) (op % 4) stamp time members last)

/-- An AGREE record for a take or cancel of this device (R115, R116, R120). -/
def State.agreeRx (s : State) (tag : Nat) (refuse : Bool) (reason : Nat) : State :=
  match s.takeOf tag with
  | none => s
  | some t =>
    match t.sentAt with
    | some at1 =>
      let s1 := s.keepMax Reg.GSE_TWIN_RTT_MAX (min 65535 (s.now - at1))
      if refuse then
        let r := s1.endMembers (fun m => inR 1 3 m.state) 9 9 t.members
        let u := r.1.setTake { t with members := r.2, sentAt := none }
        (if reason = 10 && t.members.any (fun m => inR 4 6 m.state) then u.twinLate else u).takeSync
      else
        (s1.setTake { t with sentAt := none,
                             members := mapIf (fun m => m.state == 1) (fun m => { m with state := if m.written then 3 else 2 }) t.members }).takeSync
    | none =>
      if t.cancelOut then
        let u := s.setTake { t with cancelOut := false }
        if refuse && reason == 10 then u.twinLate else u
      else s

def execAgreeRx (tag : Nat) (refuse : Bool) (reason : Nat) (s : State) : Host.Outcome State Fault Refusal :=
  .next (s.agreeRx (tag % 2 ^ 14) refuse (reason % 16)).profSync

/-- An IMAGE_ARM record (R104). -/
def State.imageArmRx (s : State) (epoch imageId hdrCrc : Nat) : State :=
  s.atEpoch (resolveEpoch s.epoch epoch) (fun E =>
    if s.pairState = 0 then s else ({ s with geyser := { s.geyser with twinImage := some (imageId % 2 ^ 32, hdrCrc % 2 ^ 32, E) } }).imgMatch)

def execImageArmRx (epoch imageId hdrCrc : Nat) (s : State) : Host.Outcome State Fault Refusal := .next (s.imageArmRx (epoch % 2 ^ 24) imageId hdrCrc)

def execAudSlipRx (port instant stamp : Nat) (s : State) : Host.Outcome State Fault Refusal := .next (s.audSlipRx port instant stamp)
def execFenceRx (engine : Nat) (ready : Bool) (epoch : Nat) (s : State) : Host.Outcome State Fault Refusal := .next (s.fenceRx engine ready epoch)

/-- A SNAP record: the partner's cut at T is taken here through the comparator, the earlier of two, or is missed (R358). -/
def State.snapRx (s : State) (T : Nat) : State :=
  if s.pairState = 0 then s
  else if T ≤ s.now then (s.bump Reg.TWN_SNAP_MISS_CNT).raise Src.TWN_SNAP_MISS
  else if !s.bit Reg.FCR_SNAP_CFG 4 || (s.fcr.time2Armed && decide (s.rd64 Reg.FCR_SNAP_TIME2_LO Reg.FCR_SNAP_TIME2_HI ≤ T)) then s
  else
    let t := (s.wrN Reg.FCR_SNAP_TIME2_LO T).wrN Reg.FCR_SNAP_TIME2_HI (T / 2 ^ 32)
    { t with fcr := { t.fcr with time2Armed := true } }

def execSnapRx (time : Nat) (s : State) : Host.Outcome State Fault Refusal := .next (s.snapRx time)

/-- A record of an accepted message takes effect (R350, Table 14.4). -/
def State.applyRec (s : State) (r : CtlRec) : State :=
  match r with
  | .status st ri _ d _ v i h => s.statusRx st ri d v i h
  | .time tm d q raw => s.timeRx tm d q raw
  | .ptpDs d => s.ptpDsRx d
  | .take tag op S T l last => s.takeRx tag op S T l last
  | .agree tag refuse reason => (s.agreeRx tag refuse reason).profSync
  | .imageArm e i h => s.imageArmRx e i h
  | .prof op p e i h => match op with
    | 0 => s.profReqRx p e i h
    | 1 => s.profReadyRx
    | 2 => s.profCancelRx
    | _ => s.profForceRx e
  | .sync slot k stamp => s.syncRx slot k stamp
  | .audSlip port n stamp => s.audSlipRx port n stamp
  | .fence e ready ep => s.fenceRx e ready ep
  | .hash e first l => s.hashRx e first l
  | .role op roles e => match op with
    | 0 => s.roleGiveRx roles e
    | 1 => s.roleTakeRx e
    | _ => s.roleCancelRx e
  | .lane a e => s.laneRx a e
  | .snap t => s.snapRx t

/-! ### Slot messages (R346 to R349) -/

/-- TWN_CTL_WM sees the unacknowledged messages (R349). -/
def State.ctlMark (s : State) : State := s.watermark Reg.TWN_CTL_WM s.twin.unacked.length 48 8

/-- Header fields of this device's messages on a lane. -/
def State.slotHead (s : State) (k seq : Nat) (isHash : Bool) : SlotHead :=
  { seq := seq, ack := s.twin.lastRx.getD 0, nack := s.twin.nackOut, health := s.health, roles := s.roles, pstate := s.pairState,
    twin := s.isTwinB, lane := k, isHash := isHash, lanesOk := s.lanesOk, slot := s.now / 1000, epoch := s.epoch }

/-- A message starts on lane pair k (lane 512 + k). -/
def State.sendSlot (s : State) (k seq : Nat) (isHash : Bool) (l : List CtlRec) : State :=
  s.send (.blocks s.now (512 + k) (slotBlocks (s.slotHead k seq isHash) l))

/-- The oldest unacknowledged message is due to be sent again (R349). -/
def State.resendDue (s : State) : Bool :=
  !s.twin.unacked.isEmpty && (s.twin.nackIn || decide (s.twin.ackSlot + 4 ≤ s.now / 1000))

/-- The control lane's message of this slot; a resend has the slot to itself, and a message beyond 64 unacknowledged waits. -/
def State.sendControl (s : State) (k : Nat) : State :=
  let n := s.now / 1000
  if s.twin.ctlSlot = some n ∨ s.resendDue = true ∨ 64 ≤ s.twin.unacked.length then s
  else
    let x := fitRecs 317 s.twin.waiting
    let q := s.twin.nextSeq
    let t := s.sendSlot k q false x.1
    (t.setTwin { t.twin with waiting := x.2, unacked := t.twin.unacked ++ [(q, x.1)], nextSeq := (q + 1) % 65536, ctlSlot := some n,
                             ackSlot := if t.twin.unacked.isEmpty then n else t.twin.ackSlot }).ctlMark

/-- A hash lane's message of this slot. -/
def State.sendHash (s : State) (k : Nat) : State :=
  let x := fitRecs 317 s.twin.hashOut
  let t := s.sendSlot k 0 true x.1
  t.setTwin { t.twin with hashOut := x.2 }

/-- A slot begins: the lanes that brought no valid message in the last one count it, and every active lane starts one message (R345, R346, R349). -/
def State.slotTx (s : State) : State :=
  if !s.running 15 then s
  else
    let lanes := (List.range 16).filter s.laneActive
    let t := lanes.foldl (fun u k =>
      let a := Reg.TWN_L_STATUS (k + 1)
      u.setFld a 7 0 (if s.twin.heard.contains k then 0 else min 255 (u.fld a 7 0 + 1))) s
    let u := t.setTwin { t.twin with heard := [] }
    let c := u.ctlLane
    lanes.foldl (fun v k => if c = some k then v.sendControl k else v.sendHash k) u

def execSlotTx (s : State) : Host.Outcome State Fault Refusal := .next s.slotTx

/-- The oldest unacknowledged control message goes again, on the present control lane with its SEQ (R349). -/
def State.ctlResend (s : State) : State :=
  match s.ctlLane, s.twin.unacked with
  | some k, m :: _ =>
    if s.resendDue then
      let t := (s.sendSlot k m.1 false m.2).bump Reg.TWN_RESEND_CNT
      t.setTwin { t.twin with nackIn := false, ackSlot := s.now / 1000, ctlSlot := some (s.now / 1000) }
    else s
  | _, _ => s

def execCtlResend (s : State) : Host.Outcome State Fault Refusal := .next s.ctlResend

/-- Serial-number arithmetic over 16 bits: a is newer than b. -/
def newer16 (a b : Nat) : Bool := let d := (a + 65536 - b % 65536) % 65536; decide (0 < d) && decide (d < 32768)

/-- ACK and NACK of a control message (R349). -/
def State.ackIn (s : State) (ack : Nat) (nack : Bool) : State :=
  let left := s.twin.unacked.filter (fun m => newer16 m.1 ack)
  (s.setTwin { s.twin with unacked := left, nackIn := nack || s.twin.nackIn,
                           ackSlot := if left.length < s.twin.unacked.length then s.now / 1000 else s.twin.ackSlot }).ctlMark

/-- A message is discarded; on the control lane it is asked for again (R347, R349). -/
def State.slotDiscard (s : State) (k : Nat) (control : Bool) : State :=
  let t := (s.bump Reg.TWN_SLOT_DISCARD_CNT).bump (Reg.TWN_L_DISCARD (k + 1))
  if control then t.setTwin { t.twin with nackOut := true } else t

/-- A partner frame: what its header says of the partner, and the start of pairing (Table 14.2, Table 14.3). -/
def State.partnerFrame (s : State) (k : Nat) (m : SlotHead) : State :=
  let t := s.setTwin { s.twin with got := true, heard := if s.twin.heard.contains k then s.twin.heard else s.twin.heard ++ [k] }
  let u := (t.setFld Reg.TWN_LANE_STATUS 31 16 m.lanesOk).wrN Reg.TWN_PARTNER
    (m.health * 2 ^ 30 + m.roles * 2 ^ 28 + m.pstate * 2 ^ 26 + b2n (t.bit Reg.TWN_PARTNER 25) * 2 ^ 25 + m.epoch)
  let v := if u.pairState = 0 then
      let x := u.setPair 1
      let i := x.fabric.image
      x.tell (.status (x.bit Reg.TWN_STATUS 25) (x.bit Reg.TWN_CFG 3) x.profile x.ref.dpll ((x.ref.sel.map x.candQl).getD 0) i.isSome
        ((i.map (·.id)).getD 0) ((i.map (·.hcrc)).getD 0))
    else u
  let w := if v.partnerRoles = m.roles then v else (v.setFld Reg.TWN_ROLE 29 28 m.roles).reselect 7
  if w.paired && m.health == 2 then w.partnerLost else w.holdSync

/-- A control message by its SEQ (R349): applied, acknowledged again, or discarded with NACK. -/
def State.controlRx (s : State) (k : Nat) (m : SlotHead) (l : List CtlRec) : State :=
  let s1 := s.ackIn m.ack m.nack
  let next := match s1.twin.lastRx with | some x => m.seq == (x + 1) % 65536 | none => true
  if next then
    let t := (s1.bump (Reg.TWN_L_SLOTS (k + 1))).setTwin { s1.twin with lastRx := some m.seq, nackOut := false }
    l.foldl State.applyRec t
  else if newer16 m.seq (s1.twin.lastRx.getD 0) then s1.slotDiscard k true
  else (s1.bump (Reg.TWN_L_SLOTS (k + 1))).bump Reg.TWN_DUP_CNT

/-- The slot whose low 24 bits are given that lies nearest to an instant in ns. -/
def nearSlot (now low : Nat) : Int :=
  let n : Int := ((now / 1000 : Nat) : Int)
  n + signed 24 (unsigned 24 ((low : Int) - n))

/-- A slot message arrives on lane pair k at a timestamp in ps (R304, R346, R347). -/
def State.slotRx (s : State) (k stamp : Nat) (blocks : List (Bool × Nat)) : State :=
  if !s.laneActive k || s.pairRx k != 4 then s
  else match readSlot blocks with
    | none => s.slotDiscard k (s.ctlLane == some k)
    | some (m, l) =>
      if m.twin = s.isTwinB then s.raise Src.TWN_STRAP
      else
        let raw : Int := (stamp : Int) - nearSlot s.now m.slot * 1000000
        let a := raw - signed 32 (s.rdN Reg.TWN_DELAY)
        let t := (s.wrN (Reg.TWN_L_ARRIVAL (k + 1)) (unsigned 32 a)).keepMax (Reg.TWN_L_ARRIVAL_MAX (k + 1)) (min a.natAbs (2 ^ 32 - 1))
        let u := t.setTwin { t.twin with rawSum := t.twin.rawSum + raw, rawCount := t.twin.rawCount + 1 }
        if 200000 < a.natAbs then (u.slotDiscard k (!m.isHash)).raise Src.TWN_SLOT_LATE
        else
          let v := if 20000 < a.natAbs then ((u.bump Reg.TWN_GUARD_CNT).bump (Reg.TWN_L_GUARD (k + 1))).raise Src.TWN_SLOT_GUARD else u
          let w := v.partnerFrame k m
          if w.pairState = 0 then w
          else if m.isHash then l.foldl State.applyRec (w.bump (Reg.TWN_L_SLOTS (k + 1)))
          else w.controlRx k m l

def execSlotMsgRx (lane stamp : Nat) (blocks : List (Bool × Nat)) (s : State) : Host.Outcome State Fault Refusal :=
  .next (s.slotRx (lane % 16) stamp blocks)

/-! ### The epoch boundary -/

/-- The twin unit at the boundary that begins the present epoch: frames of the ended epoch, the mean raw, roles, the heartbeat, and the TIME and STATUS records (R342, R344, R346, R350, R353 to R356). -/
def State.twinBoundary (s : State) : State :=
  if !s.running 15 then s
  else
    let x := s.twin
    let lock := if s.ref.dpll == 2 && s.ref.sel == some 3 then (if x.lockAt.isSome then x.lockAt else some s.now) else none
    let s1 := s.setTwin { x with
      meanRaw := if x.rawCount = 0 then x.meanRaw else some (x.rawSum / (x.rawCount : Int)), rawSum := 0, rawCount := 0,
      got := false, good := if x.got then x.good + 1 else 0, miss := if x.got then 0 else x.miss + 1, lockAt := lock }
    let s2 := s1.bumpSat Reg.TWN_STATUS 15 0 1
    let s3 := s2.roleStep
    let s4 := if s3.health = 2 then s3 else (s3.setTwin { s3.twin with hbOut := !s3.twin.hbOut }).send (.heartbeat s3.now (!s3.twin.hbOut))
    let ql := (s4.ref.sel.map s4.candQl).getD 0
    let s5 := s4.tell (.time (s4.roles.testBit 1) s4.ref.dpll ql (s4.twin.meanRaw.getD 0))
    let i := s5.fabric.image
    let s6 := if s5.epoch % 8 = 0 then
        s5.tell (.status (s5.bit Reg.TWN_STATUS 25) (s5.bit Reg.TWN_CFG 3) s5.profile s5.ref.dpll ql i.isSome ((i.map (·.id)).getD 0) ((i.map (·.hcrc)).getD 0))
      else s5
    s6.twinOffset.holdSync

end Sys2Proof.Machine
end

