-- ==== Sys2Proof/Machine/Update.lean ====
section
/-! DEFINITION. Firmware update over the chain: the chain ports, the session, its checks, staging and activation (R407 to R424). -/

namespace Sys2Proof.Machine

/-! ### Chain ports (R407 to R410) -/

/-- The page of chain port p. -/
def chainPage (p : Nat) : Nat := 17 + p

def State.setChain (s : State) (p : Nat) (x : ChainPort) : State := { s with upd := { s.upd with ports := setNth s.upd.ports p x } }

/-- Counter c of a chain page counts one (Table 17.8). -/
def State.chainCount (s : State) (p c : Nat) : State := s.bump (hid (Reg.TWN_CH_CNT (chainPage p)) c)

/-- RX of a chain port: 0 OFF, 1 ACQUIRE, 2 LOCK. -/
def State.chainRx (s : State) (p : Nat) : Nat := s.fld (Reg.TWN_CH_STATUS (chainPage p)) 31 29
def State.setChainRx (s : State) (p v : Nat) : State := s.setFld (Reg.TWN_CH_STATUS (chainPage p)) 31 29 v

/-- A chain port is on: the TWN runs and EN is 1. -/
def State.chainOn (s : State) (p : Nat) : Bool := s.running 15 && s.bit (Reg.TWN_CH_CFG (chainPage p)) 31

/-- The receivers follow EN and the TWN's state: an enabled one acquires, another is off. -/
def State.chainSync (s : State) : State :=
  [0, 1].foldl (fun t p => if t.chainOn p then (if t.chainRx p = 0 then t.setChainRx p 1 else t) else t.setChainRx p 0) s

/-- Blocks leave on chain port p (lane 528 + p). -/
def State.chainSend (s : State) (p : Nat) (l : List (Bool × Nat)) : State := s.send (.blocks s.now (528 + p) l)

/-- The CHUNK block's payload (Table 17.1). -/
def chunkHead (seq session index hops kind : Nat) : Nat :=
  seq % 65536 * 2 ^ 48 + session % 65536 * 2 ^ 32 + index % 4096 * 2 ^ 20 + hops % 16 * 2 ^ 16 + kind % 4 * 2 ^ 14 + 0x3C

/-- A chunk on the wire: CHUNK, data blocks and CEND with the CRC-32C of all before it (R408). -/
def chunkBlocks (c : ChunkOut) : List (Bool × Nat) :=
  (true, c.head) :: c.data.map (fun w => (false, w)) ++ [(true, blocksCrc (c.head :: c.data) * 2 ^ 16 + 0xC3)]

/-- 512 data words of 4,096 bytes, zeros after the end (R408). -/
def chunkWords (l : List Byte) : List Nat := (List.range 512).map (fun i => ofBytesLE ((l.drop (8 * i)).take 8))

/-- A chunk is sent under the port's own SEQ. -/
def State.chunkOut (s : State) (p session index hops kind : Nat) (data : List Nat) : State :=
  let x := s.chainPort p
  let c : ChunkOut := { seq := x.txSeq, head := chunkHead x.txSeq session index hops kind, data := data }
  ((s.setChain p { x with txSeq := (x.txSeq + 1) % 65536, unacked := x.unacked ++ [c] }).chainCount p 1).chainSend p (chunkBlocks c)

/-- What waits at a port is sent while fewer than 8 chunks are unacknowledged (R409). -/
def State.chunkPump : Nat → State → Nat → State
  | 0, s, _ => s
  | n + 1, s, p =>
    let x := s.chainPort p
    match x.queue with
    | [] => s
    | c :: r =>
      if 8 ≤ x.unacked.length then s
      else if c.abort then State.chunkPump n ((s.setChain p { x with queue := r }).chunkOut p c.session 0 c.hops 1 []) p
      else if c.len ≤ 4096 * c.next then State.chunkPump n (s.setChain p { x with queue := r }) p
      else
        let l := s.rdBytes (c.base + 4096 * c.next) (min 4096 (c.len - 4096 * c.next))
        let q := if c.len ≤ 4096 * (c.next + 1) then r else { c with next := c.next + 1 } :: r
        State.chunkPump n ((s.setChain p { x with queue := q }).chunkOut p c.session c.next c.hops 0 (chunkWords l)) p

/-- The answer to a chunk (R408): STATUS 0 ACK, 1 NACK, 2 WAIT, 3 REFUSED. -/
def State.chainAnswer (s : State) (p session status reason : Nat) : State :=
  let t := if status = 1 then s.chainCount p 5 else if status = 2 then s.chainCount p 6 else s
  t.chainSend p [(true, (t.chainPort p).rxSeq.getD 0 * 2 ^ 48 + session % 65536 * 2 ^ 32 + status * 2 ^ 30 + reason * 2 ^ 26 + 0x69)]

/-- A chain-port receiver that has been out of lock for 1 ms raises TWN_CHAIN_LINK (R407). -/
def execChainLockLoss (port : Nat) (s : State) : Host.Outcome State Fault Refusal :=
  .next (s.raiseIf (s.chainOn (port % 2) && s.chainRx (port % 2) != 2) Src.TWN_CHAIN_LINK)

/-- A chain-port receiver sees an invalid sync header in block b. -/
def State.chainHeaderInvalid (s : State) (p b : Nat) : State :=
  let x := s.lane (528 + p)
  if s.chainOn p && s.chainRx p == 2 then
    let w := (b :: x.bad).filter (fun y => decide (b < y + 64))
    if 16 ≤ w.length then (s.setChainRx p 1).setLane (528 + p) { x with bad := [], good := 0 } else s.setLane (528 + p) { x with bad := w }
  else s

/-- 64 consecutive valid headers put a chain-port receiver in LOCK. -/
def State.chainLock (s : State) (p : Nat) : State :=
  if s.chainOn p && s.chainRx p == 1 then (s.setChainRx p 2).setLane (528 + p) { s.lane (528 + p) with good := 64, bad := [] } else s

/-! ### Receivers of every kind (R170, R407): lanes 0 to 511, twin-link pairs 512 to 527, chain ports 528 and 529 -/

def execSyncHeaderInvalid (lane block : Nat) (s : State) : Host.Outcome State Fault Refusal :=
  .next (if lane < 512 then s.headerInvalid lane block else if lane < 528 then s.pairHeaderInvalid (lane - 512) block
    else s.chainHeaderInvalid (lane % 2) block)

def execLaneLock (lane : Nat) (s : State) : Host.Outcome State Fault Refusal :=
  .next (if lane < 512 then s.laneLock lane else if lane < 528 then s.pairLock (lane - 512) else s.chainLock (lane % 2))

def execLockRecoveryTimeout (lane : Nat) (s : State) : Host.Outcome State Fault Refusal :=
  .next (if lane < 512 then s.recoveryTimeout lane else if lane < 528 then s.pairRecovery (lane - 512) else s)

/-! ### The image (R411 to R414) -/

/-- Staging area of the page of chain port p. -/
def State.stagingBase (s : State) (p : Nat) : Nat :=
  s.rdN (Reg.TWN_CH_UPD_ADDR_LO (chainPage p)) / 4096 * 4096 + s.fld (Reg.TWN_CH_UPD_ADDR_HI (chainPage p)) 7 0 * 2 ^ 32

/-- The staging area lies in the frame-store window, the FST is open, and the regions admit the TWN to read and write it (R418, R394; log entry 49). -/
def State.stagingOk (s : State) (p : Nat) : Bool :=
  let a := s.stagingBase p
  isStore a && decide (a + 0x1000000 ≤ 0x2000000000) && s.storeOpen &&
    (List.range 4096).all (fun i => s.regionAdmits twnReq (a + 4096 * i) .write && s.regionAdmits twnReq (a + 4096 * i) .read)

/-- A little-endian field of a list of bytes. -/
def leAt (h : List Byte) (o n : Nat) : Nat := ofBytesLE ((h.drop o).take n)

/-- IMAGE_LEN of a header. -/
def headLen (h : List Byte) : Nat := leAt h 0x0C 4

/-- HOLDS of a header. -/
def headHolds (h : List Byte) : Bool := (leAt h 0x0B 1).testBit 0

/-- The key and signature checks of a header: BAD_HEADER where one fails; BLANK skips them (R412). -/
def State.headSigned (s : State) (h : List Byte) : Bool :=
  let f := s.keys.fuses
  let pub := (h.drop 0x10).take 96
  f.lc == 0 ||
    (match liveHash f (leAt h 5 1) with
     | none => false
     | some k => Config.sha384 pub == k && decide (f.svn ≤ leAt h 7 1) &&
        Config.ecdsaVerify (ofBytesBE (pub.take 48), ofBytesBE (pub.drop 48)) (Config.sha384 (h.take 0xA0))
          (ofBytesBE ((h.drop 0xA0).take 48), ofBytesBE ((h.drop 0xD0).take 48)))

/-- Codes 3 to 6 of Table 17.3 for an image that holds microcode or not; 0 where none applies. -/
def State.updGuards (s : State) (holds : Bool) : Nat :=
  if s.bit (Reg.TWN_CH_LOCK 17) 31 || s.bit (Reg.TWN_CH_LOCK 18) 31 then 3
  else if holds && s.running 9 && s.outputs.any (fun o => o.flags.testBit 0) then 4
  else if (List.range 8).any (fun k => s.railOn (k + 1) && s.bit (Reg.PTM_R_MARGIN (k + 1)) 16) then 5
  else if 840 < signed 16 (s.fld Reg.PTM_THERM_STATUS 31 16) then 6
  else 0

/-- The code of Table 17.3 for a 256-byte header, 0 where it passes (R412). -/
def State.headCheck (s : State) (h : List Byte) : Nat :=
  if leAt h 0 4 != 0x44505558 || leAt h 4 1 != 1 || !inR 1 16 (leAt h 6 1) || !inR 4096 16777216 (headLen h) || decide (1 < leAt h 5 1) ||
    !s.headSigned h then 1
  else if leAt h 8 2 != 0x1000 || !(leAt h 0x0A 1).testBit 0 then 2
  else s.updGuards (headHolds h)

/-- A manifest entry at a device address (Table 17.4). -/
def State.partAt (s : State) (a : Nat) : UpdPart :=
  { type' := s.le a 1, target := s.le (a + 1) 1, fmt := s.le (a + 2) 2, offset := s.le (a + 4) 4, length := s.le (a + 8) 4,
    version := s.le (a + 12) 4, hash := ofBytesBE (s.rdBytes (a + 16) 48) }

/-- The manifest of the image at a device address (R413). -/
def State.manifest (s : State) (a : Nat) : List UpdPart := (List.range (s.le (a + 6) 1)).map (fun i => s.partAt (a + 0x100 + 64 * i))

/-- A manifest holds a part type. -/
def hasPart (l : List UpdPart) (t : Nat) : Bool := l.any (fun p => p.type' == t)

/-- The verification of R414 on the image at a device address. -/
def State.imageVerifies (s : State) (a : Nat) : Bool :=
  let len := s.le (a + 0x0C) 4
  let l := s.manifest a
  let n := fun t => (l.filter (fun p => p.type' == t)).length
  Config.sha384 (s.rdBytes (a + 0x100) (len - 0x100)) == ofBytesBE (s.rdBytes (a + 0x70) 48) &&
  l.all (fun p => Config.sha384 (s.rdBytes (a + p.offset) p.length) == p.hash) &&
  n 2 == 1 && [1, 3, 4, 5].all (fun t => decide (n t ≤ 1)) &&
  !anyPair (fun (p q : UpdPart) => p.type' == 6 && q.type' == 6 && p.target == q.target) l &&
  !anyPair (fun (p q : UpdPart) => rangesMeet p.offset p.length q.offset q.length) l &&
  l.all (fun p => !rangesMeet p.offset p.length 0 (0x100 + 64 * l.length) && decide (p.offset + p.length ≤ len)) &&
  (s.le (a + 0x0B) 1).testBit 0 == (hasPart l 4 || hasPart l 5) &&
  l.all (fun p => p.type' != 1 || bankCheck s.keys.fuses (fun o k => s.rdBytes (a + p.offset + o) k) == 0)

/-! ### Flash layout (R415 to R417) -/

/-- Device address of set n. -/
def setBase (n : Nat) : Nat := 0x20000000 + 0x1000000 * (n + 1)

/-- MAGIC of a selector slot. -/
def selMagic : Nat := 0x4C455358

/-- Flash offset of selector slot n. -/
def selSlot (n : Nat) : Nat := 0x800000 + 0x40000 * n

/-- The number of the active set; 0 where no selector slot is valid (R416). -/
def State.activeSet (s : State) : Nat :=
  match s.slotInUse selMagic (selSlot 0) (selSlot 1) with
  | some x => s.flashLE (selSlot x.1 + 0x20) 1 % 2
  | none => 0

/-- Part types in a set: those of its manifest and those copied into it. -/
def State.setParts (s : State) (n : Nat) : List UpdPart :=
  (if s.le (setBase n) 4 = 0x44505558 then s.manifest (setBase n) else []) ++ (s.upd.extra.filter (fun x => x.1 == n)).map (·.2)

/-- Parts of another set that a list lacks, placed one after the other from an offset, on multiples of 64 (log entry 48). -/
def placeParts : Nat → List UpdPart → List UpdPart
  | _, [] => []
  | o, p :: r => { p with offset := o } :: placeParts (ceilDiv (o + p.length) 64 * 64) r

/-- Flash from an offset on holds bytes that nobody can tell: a staging that ended otherwise than STAGED leaves them so (R417). -/
def State.flashUnknown (s : State) (o n : Nat) : State :=
  let t := (s.eraseFlash o n).programFlash o ((List.range n).map (fun i => BitVec.ofNat 8 (Config.freeValue (s.freeCount + i))))
  { t with freeCount := t.freeCount + n }

/-! ### The session (R418) -/

/-- STATUS register of the session's page. -/
def State.updReg (s : State) : Nat := Reg.TWN_CH_UPD_STATUS (chainPage (s.upd.port.getD 0))

/-- STATE of the session changes. -/
def State.setUpd (s : State) (st : Nat) : State := s.setFld s.updReg 31 28 st

/-- The image in the staging area of the session. -/
def State.stagedImage (s : State) : Nat := s.stagingBase (s.upd.port.getD 0)

/-- A session begins on the page of chain port p. -/
def State.updBegin (s : State) (p session hops : Nat) (host : Bool) : State :=
  let t := (((s.wrN (Reg.TWN_CH_UPD_STATUS (chainPage p)) (2 ^ 28 + b2n host * 2 ^ 19)).wrN (Reg.TWN_CH_UPD_RESULT (chainPage p)) 0).setFld
    (Reg.TWN_CH_STATUS (chainPage p)) 15 0 session)
  { t with upd := { t.upd with port := some p, session := session % 65536, hops := hops } }

/-- The session ends REFUSED with a code of Table 17.3 (R412). -/
def State.updRefuse (s : State) (code : Nat) : State :=
  (((s.setUpd 9).setFld s.updReg 27 24 code).chainCount (s.upd.port.getD 0) 7).raise Src.TWN_CHAIN_REFUSED

/-- The session ends FAILED with an OUTCOME. -/
def State.updFail (s : State) (outcome : Nat) : State := ((s.setUpd 10).setFld s.updReg 23 20 outcome).chainCount (s.upd.port.getD 0) 7

/-- Staging ends without STAGED: the flash is free again and the secondary bank is unknown where STAGE2 was due (R417). -/
def State.stagingLeft (s : State) : State :=
  let t := { s with board := { s.board with flashBusy := false } }
  if hasPart (s.manifest s.stagedImage) 1 then t.flashUnknown 0x400000 0x400000 else t

/-- The session ends ABORTED with an OUTCOME. -/
def State.updAbort (s : State) (outcome : Nat) : State :=
  let t := if s.updState = 4 then s.stagingLeft else s
  (t.setUpd 11).setFld t.updReg 23 20 outcome

/-- The session may still be aborted: CHECKING to STAGED. -/
def State.updEarly (s : State) : Bool := inR 1 5 s.updState

/-- A header read for the session: it is refused, or the session receives. -/
def State.updJudge (s : State) (h : List Byte) : State :=
  let code := s.headCheck h
  if code ≠ 0 then s.updRefuse code
  else { (s.setUpd 2) with upd := { s.upd with total := ceilDiv (headLen h) 4096 } }

/-- Chunk i of the session is stored in the staging area; after the last the payload is verified. -/
def State.updStore (s : State) (i : Nat) (l : List Byte) : State :=
  let a := s.stagedImage + 4096 * i
  let t := ((s.wrBytes a l).granulesGood (a - storeBase) l.length).bumpSat s.updReg 12 0 1
  if i + 1 = s.upd.total then t.setUpd 3 else t

/-- A host session whose image has left by the chain port, or had not to, is verified. -/
def State.updSent (s : State) : State :=
  if s.updState == 2 && s.bit s.updReg 19 && !s.upd.ports.any (fun x => x.queue.any (fun c => c.session == s.upd.session && !c.abort)) then s.setUpd 3 else s

/-- A port sends what waits. -/
def State.chainPump (s : State) (p : Nat) : State := (State.chunkPump 16 s p).updSent

/-! ### Chunks received (R409, R410, R412) -/

/-- What becomes of the next chunk in sequence: 0 acknowledged, 1 it begins a session here, 2 it is stored, 3 refused, 4 to wait, 5 not applied. -/
def State.chunkFate (s : State) (p session index : Nat) (fwd : Bool) : Nat :=
  let mine := s.upd.port == some p && s.upd.session == session
  if fwd && decide (8 ≤ (s.chainPort (1 - p)).unacked.length) then 4
  else if !s.bit (Reg.TWN_CH_CFG (chainPage p)) 29 then 0
  else if s.updOpen then
    if mine && s.updState == 2 && index == s.fld s.updReg 12 0 then 2
    else if index == 0 && !mine then 4
    else if fwd then 0 else 5
  else if index == 0 then 1
  else if mine && (s.updState == 9 || s.updState == 10) && !fwd then 3
  else if fwd then 0 else 5

/-- The chunk counts as applied, and is forwarded where R410 says so. -/
def State.chunkApply (s : State) (p seq session index hops kind : Nat) (fwd : Bool) (data : List Nat) : State :=
  let t := (s.setChain p { s.chainPort p with rxSeq := some seq }).chainCount p 0
  if fwd then t.chunkOut (1 - p) session index (hops - 1) kind data else t

/-- Chunk 0 opens a session on the page it arrived at. -/
def State.chunkFirst (s : State) (p session hops : Nat) (l : List Byte) : State :=
  let t := s.updBegin p session hops false
  if !t.stagingOk p then t.updFail 6
  else
    let u := t.updJudge (l.take 256)
    if u.updState = 2 then u.updStore 0 l else u

/-- A chunk arrives on chain port p (R409): the CHUNK payload, the data words and the CEND payload. -/
def State.chunkRx (s : State) (p head : Nat) (data : List Nat) (cend : Nat) : State :=
  let seq := head / 2 ^ 48 % 65536
  let session := head / 2 ^ 32 % 65536
  let index := head / 2 ^ 20 % 4096
  let hops := head / 2 ^ 16 % 16
  let kind := head / 2 ^ 14 % 4
  let fwd := s.bit (Reg.TWN_CH_CFG (chainPage p)) 30 && decide (1 ≤ hops)
  let bytes := data.flatMap (bytesLE 8)
  let formed := cend % 256 == 0xC3 && cend / 2 ^ 16 % 2 ^ 32 == blocksCrc (head :: data) && data.length == (if kind = 0 then 512 else 0) && decide (kind < 2)
  let last := (s.chainPort p).rxSeq
  if !s.chainOn p || s.chainRx p != 2 || head % 256 != 0x3C then s
  else if !formed then (s.chainCount p 4).chainAnswer p session 1 0
  else if (match last with | some x => !newer16 seq x | none => false) then (s.chainCount p 2).chainAnswer p session 0 0
  else if (match last with | some x => seq != (x + 1) % 65536 | none => false) then s.chainAnswer p session 1 0
  else if kind = 1 then
    let t := s.chunkApply p seq session index hops 1 fwd []
    let u := if t.updEarly && t.upd.port == some p && t.upd.session == session then t.updAbort 5 else t
    u.chainAnswer p session 0 0
  else
    match s.chunkFate p session index fwd with
    | 4 => s.chainAnswer p session 2 0
    | 5 => s.chainAnswer p session 1 0
    | fate =>
      let t := s.chunkApply p seq session index hops 0 fwd data
      if fate = 1 then
        let u := t.chunkFirst p session hops bytes
        if (u.updState == 9 || u.updState == 10) && !fwd then u.chainAnswer p session 3 (u.fld u.updReg 27 24) else u.chainAnswer p session 0 0
      else if fate = 2 then (t.updStore index bytes).chainAnswer p session 0 0
      else if fate = 3 then t.chainAnswer p session 3 (t.fld t.updReg 27 24)
      else t.chainAnswer p session 0 0

def execChunkRx (port head : Nat) (data : List Nat) (cend : Nat) (s : State) : Host.Outcome State Fault Refusal :=
  .next (s.chunkRx (port % 2) head data cend)

def execChunkAbortRx (port seq session hops cend : Nat) (s : State) : Host.Outcome State Fault Refusal :=
  .next (s.chunkRx (port % 2) (chunkHead seq session 0 hops 1) [] cend)

/-! ### Chunks sent (R409) -/

/-- An ACK block arrives on chain port p. -/
def State.chunkAck (s : State) (p payload : Nat) : State :=
  let x := s.chainPort p
  let ack := payload / 2 ^ 48 % 65536
  let session := payload / 2 ^ 32 % 65536
  let left := x.unacked.filter (fun c => newer16 c.seq ack)
  let moved := decide (left.length < x.unacked.length)
  if !s.chainOn p || payload % 256 != 0x69 then s
  else match payload / 2 ^ 30 % 4 with
    | 3 =>
      let mine := fun (h : Nat) => h / 2 ^ 32 % 65536 == session
      (((s.setChain p { x with unacked := left.filter (fun c => !mine c.head), queue := x.queue.filter (fun c => c.session != session),
                               resends := 0, nacked := false, waiting := false }).raise Src.TWN_CHAIN_REFUSED).chainPump p)
    | st =>
      (s.setChain p { x with unacked := left, resends := if moved then 0 else x.resends, nacked := st == 1, waiting := st == 2 }).chainPump p

def execChunkAckRx (port payload : Nat) (s : State) : Host.Outcome State Fault Refusal := .next (s.chunkAck (port % 2) payload)

/-- The sender gives the session up: 32 resends of one chunk in a row have brought no answer (R409). -/
def State.chainAbandon (s : State) (p session : Nat) : State :=
  let x := s.chainPort p
  let t := s.setChain p { x with unacked := x.unacked.filter (fun c => c.head / 2 ^ 32 % 65536 != session), queue := x.queue.filter (fun c => c.session != session),
                                 resends := 0, nacked := false, waiting := false }
  let u := if t.updEarly && t.upd.session == session then t.updAbort 3 else t
  (u.raise Src.TWN_CHAIN_LINK).chainPump p

/-- The oldest unacknowledged chunk goes again after a NACK or 200 µs; a WAIT stops this (R409). -/
def State.chunkResend (s : State) (p : Nat) : State :=
  let x := s.chainPort p
  match x.unacked with
  | [] => s
  | c :: _ =>
    if x.waiting || !s.chainOn p then s
    else if 32 ≤ x.resends then s.chainAbandon p (c.head / 2 ^ 32 % 65536)
    else ((s.setChain p { x with resends := x.resends + 1, nacked := false }).chainCount p 3).chainSend p (chunkBlocks c)

def execChunkResend (port : Nat) (s : State) : Host.Outcome State Fault Refusal := .next (s.chunkResend (port % 2))

/-- After a WAIT the oldest chunk is repeated every 10 ms (R409). -/
def State.chunkRepeat (s : State) (p : Nat) : State :=
  match (s.chainPort p).unacked with
  | [] => s
  | c :: _ => if (s.chainPort p).waiting && s.chainOn p then s.chainSend p (chunkBlocks c) else s

def execChunkWaitRepeat (port : Nat) (s : State) : Host.Outcome State Fault Refusal := .next (s.chunkRepeat (port % 2))

/-! ### Commands (R410, R418, R419) -/

/-- Something for port p to send joins its queue. -/
def State.chainQueue (s : State) (p : Nat) (c : ChunkSource) : State :=
  let x := s.chainPort p
  (s.setChain p { x with queue := x.queue ++ [c] }).chainPump p

/-- LOAD on the page of chain port p: the image in the staging area is judged where ACCEPT says so, and sent onward with HOPS less 1. Its SESSION is the sender's own choice, and so a free value (R408, R410). -/
def State.updLoad (s : State) (p hops : Nat) : State :=
  if s.updOpen then s.chainCount p 6
  else
    let session := s.freeVal % 65536
    let t := s.drawn
    if !t.stagingOk p then (t.updBegin p session hops true).updFail 6
    else
      let a := t.stagingBase p
      let h := t.rdBytes a 256
      let u := if t.bit (Reg.TWN_CH_CFG (chainPage p)) 29 then
          let v := (t.updBegin p session hops true).updJudge h
          if v.updState = 2 then v.setFld v.updReg 12 0 v.upd.total else v
        else t
      if hops = 0 then u.updSent
      else u.chainQueue p { base := a, len := min (headLen h) 16777216, session := session, hops := hops - 1 }

/-- ABORT in place of what a session still had to send onward (R418). -/
def State.abortOnward (s : State) : State :=
  let p := s.upd.port.getD 0
  if s.upd.hops = 0 then s
  else if s.bit s.updReg 19 then
    let x := s.chainPort p
    (s.setChain p { x with queue := x.queue.filter (fun c => c.session != s.upd.session) }).chainQueue p
      { base := 0, len := 0, session := s.upd.session, hops := s.upd.hops - 1, abort := true }
  else if s.bit (Reg.TWN_CH_CFG (chainPage p)) 30 then
    s.chainQueue (1 - p) { base := 0, len := 0, session := s.upd.session, hops := s.upd.hops - 1, abort := true }
  else s

/-- The new image's parts that start with settings reset to defaults (R422): bit t - 1 for part type t whose SETTINGS_FMT exceeds that of the part it replaces. -/
def defaultsOf (new old : List UpdPart) : Nat :=
  maskOf 6 (fun t => new.any (fun p => p.type' == t + 1 && old.any (fun q => q.type' == t + 1 && decide (q.fmt < p.fmt))))

/-- ACTIVATE in STAGED (R419): the guards, the selector slot, the management pause, the restart of the cores, and the loading of code (R420, R421). -/
def State.updActivate (s : State) : State :=
  if s.updState ≠ 5 then s
  else
    let new := 1 - s.activeSet
    let code := s.updGuards ((s.le (setBase new + 0x0B) 1).testBit 0)
    if code ≠ 0 then (s.setBit s.updReg 18 true).setFld s.updReg 27 24 code
    else
      let l := s.manifest (setBase new)
      let dflt := defaultsOf l (s.setParts s.activeSet)
      let r := s.slotInUse selMagic (selSlot 0) (selSlot 1)
      let slot := match r with | some x => 1 - x.1 | none => 0
      let gen := match r with | some x => (x.2.1 + 1) % 2 ^ 32 | none => 1
      let t := (((s.setBit s.updReg 18 false).setFld s.updReg 27 24 0).setUpd 6).writeSlot (selSlot slot) selMagic 0 gen new []
      let u := (t.setFld (Reg.TWN_CH_UPD_RESULT (chainPage (t.upd.port.getD 0))) 13 8 dflt).setBit Reg.GSE_CFG 2 true
      let v := { u with upd := { u.upd with pause := some u.now, loading := [4, 5].filter (hasPart l) }, ref := { u.ref with held := u.ref.held || hasPart l 3 } }
      v.warmRestart 2

/-- The EP16 parts of the active set are sent on, each on the chain port of its TARGET (R423). -/
def State.sendEp16 (s : State) : State :=
  let a := setBase s.activeSet
  ((s.manifest a).filter (fun p => p.type' == 6)).foldl (fun t p =>
    (t.drawn).chainQueue (p.target % 2) { base := a + p.offset, len := min p.length 16777216, session := t.freeVal % 65536, hops := 15 }) s

/-- The management pause ends (R419): the primary bank is programmed where the manifest holds STAGE2, else the session is done. -/
def State.pauseEnd (s : State) : State :=
  match s.upd.pause with
  | none => s
  | some at1 =>
    let t := (({ s with upd := { s.upd with pause := none } }).setFld (Reg.TWN_CH_UPD_RESULT (chainPage (s.upd.port.getD 0))) 31 21 ((s.now - at1) / 1000000)).setBit
      Reg.GSE_CFG 2 false
    if hasPart (t.manifest (setBase t.activeSet)) 1 then (t.setUpd 7).eraseFlash 0 0x400000 else (t.setUpd 8).sendEp16

/-- A write to TWN_CH_UPD_CMD on the page of chain port p (Tables 17.6, 17.8); other OP values are ignored. -/
def State.updCmd (s : State) (m : Requester) (p v : Nat) : State :=
  match v / 2 ^ 28 % 16 with
  | 1 => s.updLoad p (v / 65536 % 16)
  | 2 => s.updActivate
  | 3 =>
    if s.updState = 6 ∨ s.updState = 7 then s.refuseState m (Reg.TWN_CH_UPD_CMD (chainPage p))
    else if s.updEarly then (s.abortOnward).updAbort 4 else s
  | 4 => if s.updState = 6 then s.pauseEnd else s
  | _ => s

/-- A command on the page of chain port p. -/
def State.updWrite (s : State) (m : Requester) (p v : Nat) : State :=
  s.writeAccess m (Reg.TWN_CH_UPD_CMD (chainPage (p % 2))) v (fun t => t.updCmd m (p % 2) v)

def execUpdLoad (m : Requester) (port hops : Nat) (s : State) : Host.Outcome State Fault Refusal := .next (s.updWrite m port (2 ^ 28 + hops % 16 * 65536))
def execUpdActivate (m : Requester) (port : Nat) (s : State) : Host.Outcome State Fault Refusal := .next (s.updWrite m port (2 * 2 ^ 28))
def execUpdAbort (m : Requester) (port : Nat) (s : State) : Host.Outcome State Fault Refusal := .next (s.updWrite m port (3 * 2 ^ 28))
def execUpdResume (m : Requester) (port : Nat) (s : State) : Host.Outcome State Fault Refusal := .next (s.updWrite m port (4 * 2 ^ 28))

/-! ### Verification, staging and the primary bank (R414, R417, R423) -/

/-- The payload has been verified (R414): staging begins with the inactive set erased, or the session fails. -/
def State.verifyDone (s : State) : State :=
  if s.updState ≠ 3 then s
  else if !s.imageVerifies s.stagedImage then (s.updFail 1).raise Src.TWN_CHAIN_REFUSED
  else
    let l := s.manifest s.stagedImage
    let t := (s.setUpd 4).setFld (Reg.TWN_CH_UPD_RESULT (chainPage (s.upd.port.getD 0))) 5 0 (maskOf 6 (fun t => hasPart l (t + 1)))
    let u := { t with board := { t.board with flashBusy := true } }.eraseFlash (setBase (1 - t.activeSet) - 0x20000000) 0x1000000
    if hasPart l 1 then u.eraseFlash 0x400000 0x400000 else u

def execUpdVerifyDone (s : State) : Host.Outcome State Fault Refusal := .next s.verifyDone

/-- Staging completes, or fails with a flash error (R417). -/
def State.stagingDone (s : State) (ok : Bool) : State :=
  if s.updState ≠ 4 then s
  else if !ok then (s.stagingLeft).updFail 2
  else
    let a := s.stagedImage
    let act := s.activeSet
    let new := 1 - act
    let len := s.le (a + 0x0C) 4
    let l := s.manifest a
    let kept := (s.setParts act).filter (fun p => !hasPart l p.type')
    let more := placeParts (ceilDiv len 64 * 64) kept
    let t := s.programFlash (setBase new - 0x20000000) (s.rdBytes a len)
    let u := (kept.zip more).foldl (fun (u : State) (x : UpdPart × UpdPart) => u.programFlash (setBase new - 0x20000000 + x.2.offset) (s.rdBytes (setBase act + x.1.offset) x.1.length)) t
    let v := match l.find? (fun p => p.type' == 1) with
      | some p => u.programFlash 0x400000 (s.rdBytes (a + p.offset) p.length)
      | none => u
    ({ v with upd := { v.upd with extra := v.upd.extra.filter (fun (x : Nat × UpdPart) => x.1 != new) ++ more.map (fun p => (new, p)) },
              board := { v.board with flashBusy := false } }).setUpd 5

def execUpdStagingDone (ok : Bool) (s : State) : Host.Outcome State Fault Refusal := .next (s.stagingDone ok)

/-- 1.5 s after it began the management pause ends by itself. -/
def execUpdPauseTimeout (s : State) : Host.Outcome State Fault Refusal := .next (if s.updState = 6 then s.pauseEnd else s)

/-- SFE or, with pxp, PXP microcode has loaded: the new UCODE reads in REV of every page of the block at once (R421). -/
def State.ucodeDone (s : State) (pxp : Bool) : State :=
  let ty := if pxp then 5 else 4
  if s.upd.loading.contains ty then
    let v := match (s.manifest (setBase s.activeSet)).find? (fun p => p.type' == ty) with | some p => p.version % 256 | none => 0
    let t := (pagesOf (if pxp then 12 else 7)).foldl (fun u k => u.setFld (hREV (pageAddr (if pxp then 12 else 7) k)) 7 0 v) s
    { t with upd := { t.upd with loading := t.upd.loading.filter (· != ty) } }
  else s

def execUcodeLoadDone (pxp : Bool) (s : State) : Host.Outcome State Fault Refusal := .next (s.ucodeDone pxp)

/-- The primary bank has been programmed from the secondary and read back; the EP16 parts go out (R423). -/
def State.primaryDone (s : State) : State :=
  if s.updState = 7 then ((s.programFlash 0 (s.flash 0x400000 0x400000)).setUpd 8).sendEp16 else s

def execUpdPrimaryDone (s : State) : Host.Outcome State Fault Refusal := .next s.primaryDone

end Sys2Proof.Machine
end

