-- ==== Sys2Proof/Machine/Blocks.lean ====
section
/-! DEFINITION. The states of the blocks: requests, transitions, what a block does on entering and leaving RUN, and the end of a drain (R38 to R41, R160, R196, R228, R265, R303, R430, R477). -/

namespace Sys2Proof.Machine

/-- The GSE leaves RUN: takes whose commit point has passed still flip, all others are refused, and an image that is not committed is cancelled (Table 1.4, R103). -/
def State.gseStop (s : State) : State :=
  let t := (s.endWhere (fun _ m => inR 1 3 m.state) 9 11).takeSync
  match t.geyser.load with
  | some l => (if l.stage < 3 then t.imgCancelled l else t).profSync
  | none => t

/-- What page k of block b does on leaving RUN, by a request or by a drain. -/
def State.leaveRun (s : State) (b k : Nat) : State :=
  if ownState b k then
    match b with
    | 6 => s.quadStop (k - 1)
    | 8 => s.macStop (k - 1)
    | _ => s
  else match b with
    | 5 => s.refStop
    | 10 => s.gseStop
    | 11 => { s with store := { s.store with slots := [], reads := [] } }
    | 12 => s.pxpStop
    | 13 => s.mrsStop
    | 14 => s.audStop
    | 15 => s.twinStop.chainSync
    | _ => s

/-- What page k of block b does on entering RUN; page 0 leaves the blocks that FCR_ESC_BLOCKS shows (R432). -/
def State.enterRun (s : State) (b k : Nat) : State :=
  if ownState b k then (if b = 6 then s.quadStart (k - 1) else s)
  else
    let t := s.setBit Reg.FCR_ESC_BLOCKS b false
    match b with
    | 5 => t.refStart
    | 15 => t.twinStart.chainSync
    | _ => t

/-- Pages that have entered DRAIN out of RUN between two states stop what they do in RUN. -/
def State.stopDrained (s before : State) : State :=
  (s.draining.filter (fun x => !before.draining.any (fun y => y.1 == x.1) && before.fld (hSTATE x.1) 3 0 == sRUN)).foldl
    (fun (t : State) (x : Nat × Bool) => t.leaveRun (blockOf x.1) (pageNo x.1)) s

/-- A control block: KSU and RTU; the others that can change state are data-path blocks (R38, Table 2.9). -/
def controlBlock (b : Nat) : Bool := b == 2 || b == 5

/-- A block that never leaves RUN: CPC, BMX, FCR and PTM (R152, R373, R434). -/
def fixedBlock (b : Nat) : Bool := b == 0 || b == 1 || b == 3 || b == 4

/-- The FCR record whose escalation put page p into FAULT has been acknowledged (R38, R430). -/
def State.faultAcked (s : State) (p : Nat) : Bool :=
  match s.fcr.escalations.find? (fun e => e.pages.contains p) with | some e => e.acked | none => true

/-- A chapter's own ground for answering REQ = RUN with STATE; the MRS records its code (R127, R167, R196, R265). -/
def State.runBarred (s : State) (b k : Nat) : State × Bool :=
  if ownState b k then
    match b with
    | 6 => (s, (List.range 4).any (fun n => s.slfOver (k - 1) n 97))
    | 8 => (s, s.macRateBad (k - 1))
    | _ => (s, false)
  else match b with
    | 9 => (s, !s.powerReady)
    | 13 => if s.mrsRefusal = 0 then (s, false) else (s.setFld Reg.MRS_REFUSAL 31 28 s.mrsRefusal, true)
    | _ => (s, false)

/-- A reset of the RTU sets the timescale to 0 s (R300). -/
def State.blockReset (s : State) (b k : Nat) : State :=
  let t := s.resetBlock b k
  if b = 5 then t.restartTime else t

/-- The page enters IDLE from ISOLATED: DISCARDS clears, the FST begins its zero fill, and the MRS finds whether a sink is there (R38, R228, R274). -/
def State.openCollar (s : State) (b p : Nat) : State :=
  let t := (s.setFld (hSTATE p) 31 16 0).setCur p sIDLE
  match b with
  | 11 => ({ t with store := { t.store with filling := true } }).setBit (hSTATE p) 8 true
  | 13 => { t with mon := { t.mon with connected := t.board.hpd } }
  | _ => t

/-- The page waits for the next epoch boundary to go to state c. -/
def State.awaitState (s : State) (p c : Nat) : State :=
  let t := s.setBit (hSTATE p) 8 true
  { t with awaiting := t.awaiting.filter (fun x => x.1 != p) ++ [(p, c)] }

/-- A permitted transition of page k of block b from state c on request r; none where Table 2.22 has no such row, or where the RTU is asked to stop while the CXF is in RUN, whatever its state (R41, R303). -/
def State.transition (s : State) (b k c r : Nat) : Option State :=
  let p := statePage b k
  if b == 5 && s.running 9 && r != sRUN then none
  else match c, r with
  | 0, 1 => some ((s.blockReset b k).setCur p sISOLATED)
  | 1, 0 => some ((s.resetBlock b k).setCur p sOFF)
  | 1, 3 => some (s.openCollar b p)
  | 3, 4 => if controlBlock b then some ((s.setCur p sRUN).enterRun b k) else some (s.awaitState p sRUN)
  | 4, 3 => if controlBlock b then some ((s.setCur p sIDLE).leaveRun b k) else some (s.awaitState p sIDLE)
  | 3, 1 => some (s.startDrain p false)
  | 4, 1 => some ((s.startDrain p false).leaveRun b k)
  | 5, 1 => if s.faultAcked p then some ((s.blockReset b k).setCur p sISOLATED) else none
  | _, _ => none

/-- A write to CTRL of page k of block b (Table 2.10, R38). -/
def State.ctrlWrite (s : State) (m : Requester) (b k v : Nat) : State :=
  let r := v % 16
  let a := hCTRL (pageAddr b k)
  if r = 15 then s
  else if fixedBlock b || (k != 0 && !ownState b k) || s.busy (statePage b k) then s.refuseState m a
  else
    let c := s.curOf b k
    let bar := if c = sIDLE ∧ r = sRUN then s.runBarred b k else (s, false)
    if bar.2 then bar.1.refuseState m a
    else match s.transition b k c r with
      | some t => t
      | none => s.refuseState m a

/-- A request for a state, as a write to the page's CTRL. -/
def State.request (s : State) (m : Requester) (b k r : Nat) : State :=
  s.writeAccess m (hCTRL (pageAddr (b % 16) (k % 256))) r (fun t => t.ctrlWrite m (b % 16) (k % 256) r)

def execReqOff (m : Requester) (b k : Nat) (s : State) : Host.Outcome State Fault Refusal := .next (s.request m b k sOFF)
def execReqIsolated (m : Requester) (b k : Nat) (s : State) : Host.Outcome State Fault Refusal := .next (s.request m b k sISOLATED)
def execReqIdle (m : Requester) (b k : Nat) (s : State) : Host.Outcome State Fault Refusal := .next (s.request m b k sIDLE)
def execReqRun (m : Requester) (b k : Nat) (s : State) : Host.Outcome State Fault Refusal := .next (s.request m b k sRUN)

/-! Epoch boundaries. -/

/-- The page has reached the state it waited for (R38): a quad waits on until its PLLs have locked (R160), and a CXF that goes to IDLE stays BUSY until its last carry is done (R477). -/
def State.awaitEnd (s : State) (x : Nat × Nat) : State :=
  let b := blockOf x.1
  let k := pageNo x.1
  let done := ({ s with awaiting := s.awaiting.filter (fun y => y.1 != x.1) }).setBit (hSTATE x.1) 8 false
  if x.2 = sRUN then
    if ownState b k && b == 6 && !s.quadLocked (k - 1) then s
    else (done.setCur x.1 sRUN).enterRun b k
  else
    let t := (done.setCur x.1 x.2).leaveRun b k
    if b = 9 ∧ (t.fabric.planes.any (fun y => !y.carry.isEmpty)) = true then t.setBit (hSTATE x.1) 8 true else t

/-- Data-path pages start and stop at the boundary. -/
def State.awaitAll (s : State) : State := s.awaiting.foldl State.awaitEnd s

/-! Drains. -/

/-- The drain of the page that governs page k of block b ends; the CXF abandons its unfinished runs (R38, R477). -/
def State.endDrain (s : State) (b k : Nat) : State :=
  let t := if b = 9 ∧ (kget s.draining (statePage b k)).isSome then s.abandonCarry else s
  let u := t.drainEnd b k
  if b = 11 ∧ (kget s.draining (statePage b k)).isSome then u.setInUse 3 0 else u

def execDrainEnd (b k : Nat) (s : State) : Host.Outcome State Fault Refusal := .next (s.endDrain (b % 16) (k % 256))

/-- The handling window of the open record ends (R430); blocks it sends into DRAIN stop. -/
def execFcrWindowEnd (s : State) : Host.Outcome State Fault Refusal := .next (s.windowEnd.stopDrained s)

/-- A write to FCR_ACK; one that comes at the window end finds it ended (R474). -/
def State.ackWrite (s : State) (v : Nat) : State := (s.fcrAck v).stopDrained s

def execFcrAck (m : Requester) (v : Nat) (s : State) : Host.Outcome State Fault Refusal :=
  .next (s.writeAccess m Reg.FCR_ACK v (fun t => t.ackWrite v))

end Sys2Proof.Machine
end

