-- ==== Sys2Proof/Machine/Therm.lean ====
section
/-! DEFINITION. The temperature sensors: the junction temperature, its thresholds, failed sensors and the shutdown (R142, R143, R147, R148). -/

namespace Sys2Proof.Machine

/-- Neighbours of a sensor: its line of Table 5.6. -/
def sensorLine (i : Nat) : List Nat :=
  if i < 8 then List.range 8 else if i < 16 then (List.range 8).map (· + 8) else if i < 24 then (List.range 8).map (· + 16) else (List.range 4).map (· + 24)

/-- Dies and chiplets of sensors 0 to 23 (R148). -/
def sensorDies : List (List Nat) := [List.range 8, (List.range 8).map (· + 8)] ++ (List.range 8).map (fun i => [16 + i])

/-- Last reading of sensor i in units of 0.125 °C. -/
def State.temp (s : State) (i : Nat) : Int := signed 16 (s.fld (Reg.PTM_TS_TEMP i) 15 0)

/-- Sensor i is marked failed. -/
def State.sensorFailed (s : State) (i : Nat) : Bool := s.bit Reg.PTM_TS_ERR i

/-- Sensor i takes a reading: the last one, the highest, and the instant it last changed. -/
def State.sensorRead (s : State) (first : Bool) (i : Nat) (v : Int) : State :=
  let t := s.wrN (Reg.PTM_TS_TEMP i) (unsigned 16 v)
  let u := if signed 16 (s.fld (Reg.PTM_TS_MAX i) 15 0) < v ∨ first = true then t.wrN (Reg.PTM_TS_MAX i) (unsigned 16 v) else t
  if s.temp i = v ∧ first = false then u
  else { u with power := { u.power with changed := setNth u.power.changed i s.now } }

/-- Sensor i fails: it reads outside -60 °C to 150 °C, or has not changed for 1 s in which a neighbour has (R148). -/
def State.sensorBad (s : State) (i : Nat) : Bool :=
  let at' := fun j => nthD s.power.changed j 0
  decide (s.temp i < -480) || decide (1200 < s.temp i) ||
    (decide (at' i + 1000000000 ≤ s.now) && (sensorLine i).any (fun j => j != i && decide (at' i < at' j)))

/-- Sensors that fail newly are marked, and PTM_SENSOR_FAIL rises (R148). -/
def State.sensorMarks (s : State) : State :=
  ((List.range 28).filter (fun i => s.sensorBad i && !s.sensorFailed i)).foldl
    (fun t i => (t.setBit Reg.PTM_TS_ERR i true).raise Src.PTM_SENSOR_FAIL) s

/-- A threshold of PTM_THERM_CFG in units of 0.125 °C. -/
def State.thermTh (s : State) (lo : Nat) : Int := (8 * s.fld Reg.PTM_THERM_CFG (lo + 7) lo : Nat)

/-- The hottest valid sensor of 0 to 23 with its reading; a die or chiplet without a valid sensor counts as one at FORCE (R142, R148). -/
def State.hottest (s : State) : Nat × Int :=
  let cand := ((List.range 24).filter (fun i => !s.sensorFailed i)).map (fun i => (i, s.temp i)) ++
    (sensorDies.filter (fun l => l.all s.sensorFailed)).map (fun l => (l.headD 0, s.thermTh 8))
  cand.foldl (fun (a : Nat × Int) b => if a.2 < b.2 then b else a) (cand.headD (0, 0))

/-- An HBM reading is at or above HBM_WARN. -/
def State.hbmWarm (s : State) : Bool := [24, 25, 26, 27].any (fun i => !s.sensorFailed i && decide (s.thermTh 24 ≤ s.temp i))

/-- The junction temperature and its thresholds are kept in PTM_TS_HOT, PTM_THERM_STATUS and PTM_TS_WM. -/
def State.thermShow (s : State) (i : Nat) (j : Int) : State :=
  let t := s.wrN Reg.PTM_TS_HOT (i * 65536 + unsigned 16 j)
  let f := s.fld Reg.PTM_THERM_STATUS 2 2
  let u := t.wrN Reg.PTM_THERM_STATUS (unsigned 16 j * 65536 + b2n (s.rdN Reg.PTM_TS_ERR != 0) * 16 + b2n (decide (j < s.thermTh 16)) * 8 + f * 4 +
    b2n (decide (s.thermTh 8 ≤ j)) * 2 + b2n (decide (s.thermTh 0 ≤ j)))
  u.watermark Reg.PTM_TS_WM (j + 4000).toNat (s.thermTh 0 + 4000).toNat 16

/-- Every page of the data-path blocks that has a state of its own. -/
def dataPages : List (Nat × Nat) :=
  [6, 7, 8, 9, 10, 11, 12, 13, 14, 15].map (fun b => (b, 0)) ++ [6, 7, 8].flatMap (fun b => (List.range 128).map (fun k => (b, k + 1)))

/-- A data-path page stops as its supply goes (R147, log entry 51). -/
def State.stopPage (s : State) (x : Nat × Nat) : State :=
  let p := pageAddr x.1 x.2
  if s.curOf x.1 x.2 = sOFF then s
  else
    let t := (s.dropRequest p).setCur p sOFF
    let u := if s.curOf x.1 x.2 = sRUN then t.leaveRun x.1 x.2 else t
    let v := if x.1 = 9 then u.abandonCarry else u
    ({ v with draining := v.draining.filter (fun y => y.1 != p) }).resetBlock x.1 x.2

/-- The shutdown of R147: FAULT_N asserts and the trip is latched, the data-path blocks stop, and the rails go off over PMBus in their order. -/
def State.thermTrip (s : State) (i : Nat) (j : Int) : State :=
  let t := (s.wrN Reg.PTM_THERM_TRIP (2 ^ 31 + i % 32 * 2 ^ 26 + unsigned 16 j)).setBit Reg.FCR_FAULT_STATUS 2 true
  let u := dataPages.foldl State.stopPage (t.raise Src.PTM_THERM_TRIP)
  let v := ([1, 2, 3, 6, 4, 5].filter u.railOn).foldl (fun w k => w.send (.railOff w.now k)) u
  { v with power := { v.power with tripped := true } }

/-- The 28 sensors are read (R142). -/
def State.sensorSample (s : State) (readings : List Int) : State :=
  let first := s.power.changed.isEmpty
  let r := fun i => clampInt (-32768) 32767 (nthD readings i (s.temp i))
  let s0 := if first then { s with power := { s.power with changed := List.replicate 28 s.now } } else s
  let t := ((List.range 28).foldl (fun u i => u.sensorRead first i (r i)) s0).sensorMarks
  let h := t.hottest
  let hbm := t.hbmWarm
  let warn := (decide (t.thermTh 0 ≤ h.2) && !s.bit Reg.PTM_THERM_STATUS 0) || (hbm && !s.power.hbmWarm)
  let force := decide (t.thermTh 8 ≤ h.2) && !s.bit Reg.PTM_THERM_STATUS 1
  let hot := decide (1000 ≤ h.2)
  let u := (t.thermShow h.1 h.2).raiseIf warn Src.PTM_TEMP_WARN
  let v := { u with power := { u.power with hot := hot, hbmWarm := hbm } }
  if s.power.tripped then v
  else if hot && s.power.hot then v.thermTrip h.1 h.2
  else if force then v.profForce none
  else v

def execSensorSample (readings : List Int) (s : State) : Host.Outcome State Fault Refusal := .next (s.sensorSample readings)

end Sys2Proof.Machine
end

