-- ==== Sys2Proof/Machine/Epoch.lean ====
section
/-! DEFINITION. The epoch boundary: what the ended epoch leaves, the flips, and what the new epoch starts (R10, R11, R13, R16, R38, R65, R79, R80, R136, R182, R239, R342, R351). -/

namespace Sys2Proof.Machine

/-- What the present epoch leaves at its end, with the lists, the formats and the profile of that epoch. -/
def State.epochEnd (s : State) : State :=
  let e := s.epoch
  let a := (s.assemblyEnd e).readsEnd e
  let b := planeNos.foldl (fun (t : State) p => t.planeEnd e p) a
  let c := if b.running 9 then b.slackWorst else b
  ((c.loopEpoch.rampEpoch s.epochStart).bandwidthEnd.hashEnd).releaseEnd e

/-- Planes start the list of the new epoch while the CXF is in RUN (R79). -/
def State.planesStart (s : State) : State := if s.running 9 then planeNos.foldl State.planeStart s else s

/-- The boundary that begins the present epoch: deadlines, flips, changes of state, then what the blocks start with the epoch. -/
def State.epochStarted (s : State) : State :=
  let a := s.profDeadline
  let b := ((a.allFlips a.epoch).twinImagePassed.forceRetry).awaitAll
  let c := b.sfeBoundary.planesStart.fstStart
  (if c.running 12 then c.pxpStart else c).twinBoundary

/-- The device timescale runs: the RTU has power (R300, R303). -/
def State.clockRuns (s : State) : Bool := s.cur 5 != sOFF

/-- The device timescale reaches the next epoch boundary (R10). -/
def State.epochBoundary (s : State) : State :=
  let t := s.epochEnd
  ({ t with now := (s.now / s.epochNs + 1) * s.epochNs }).epochStarted

def execEpochBoundary (s : State) : Host.Outcome State Fault Refusal := .next (if s.clockRuns then s.epochBoundary else s)

/-- One tick of TCLK: the timescale advances by 1 ns, over an epoch boundary where one is reached (Table 1.2; log entry 1). -/
def State.tick (s : State) : State :=
  if !s.clockRuns then s
  else if (s.now + 1) % s.epochNs = 0 then s.epochBoundary
  else { s with now := s.now + 1 }

end Sys2Proof.Machine
end

