-- ==== Sys2Proof/Machine/Route.lean ====
section
/-! DEFINITION. Where an access to register space goes: the register or table that a location belongs to, with the effect of a write or a read there (R29 to R31, R36, R43 to R46, R51 to R54, R304, R374, R445, R446 and the register tables). -/

namespace Sys2Proof.Machine

/-! ### MSI-X page 0x30 (R445, R446) -/

/-- A vector is re-armed: its message goes again if it is still asserted. -/
def State.eoi (s : State) (v : Nat) : State := if v < 512 && s.vectorAsserted v then s.notifyVector v else s

/-- A word of the MSI-X table; unmasking a vector sends the message that its PBA bit keeps. -/
def State.msixWrite (s : State) (a v : Nat) : State :=
  let n := (a - msixEntry 0) / 16
  let t := s.wrN a v
  if a % 16 = 12 ∧ s.bit a 0 = true ∧ v.testBit 0 = false ∧ s.bit (0x41303000 + 4 * (n / 32)) (n % 32) = true then
    (t.setBit (0x41303000 + 4 * (n / 32)) (n % 32) false).notifyVector n
  else t

/-- The vector of a page is notified where it is asserted now and was not before. -/
def State.notifyNew (t before : State) (p : Nat) : State :=
  match t.vectorOf p with
  | some n => if t.vectorAsserted n && !before.vectorAsserted n then t.notifyVector n else t
  | none => t

/-- A word of routing entries: those of two neighbouring pages of a block. -/
def State.routeEntry (s : State) (a v : Nat) : State :=
  let i := (a - 0x41304000) / 2
  let t := s.wrN a v
  (t.notifyNew s (pageAddr (i / 256) (i % 256))).notifyNew s (pageAddr ((i + 1) / 256) ((i + 1) % 256))

/-- A doorbell: its vector is asserted while it is not 0. -/
def State.dbWrite (s : State) (n v : Nat) : State :=
  let t := s.wrN (doorbell n) v
  if s.rdN (doorbell n) = 0 ∧ t.rdN (doorbell n) ≠ 0 then t.notifyVector (496 + n) else t

/-! ### Register writes by block; none where the common rule applies -/

/-- A write of v to a register of row r by the common rule, or to a watermark. -/
def State.plainWrite (s : State) (m : Requester) (a v hw : Nat) : State :=
  match masksAt (blockOf a) (pageNo a) (offOf a) with
  | some r => if isWatermark r then s.writeWatermark a v hw else s.writeRow m a v hw r
  | none => s

/-- The common rule, then f where the write was accepted. -/
def State.plainThen (s : State) (m : Requester) (a v hw : Nat) (f : State → State) : State :=
  let t := s.plainWrite m a v hw
  if t.answer.resp = .okay then f t else t

/-- CPC_H_CTRL of hart h. -/
def State.hartCtrl (s : State) (h v : Nat) : State :=
  let t := if v.testBit 31 then s.restartHart h else s
  if v.testBit 30 then t.nmiHart h else t

def State.writeCpc (s : State) (m : Requester) (a v : Nat) : Option State :=
  let k := pageNo a
  let o := offOf a
  if a = Reg.CPC_RESTART then some (if v.testBit 31 then s.warmRestart 2 else s)
  else if a = Reg.CPC_WDT_KICK then some s.kickWdt
  else if a = Reg.CPC_HART_RUN then some (s.hartRun m v)
  else if Reg.CPC_MBOX 0 ≤ a ∧ a < Reg.CPC_MBOX 4 then some (s.mboxWrite ((a - Reg.CPC_MBOX 0) / 4) v)
  else if inR 1 4 k = true ∧ o = 0x100 then some (s.hartCtrl (k - 1) v)
  else if k = 6 ∧ 0x304 ≤ o ∧ o % 16 = 4 ∧ o ≤ 0x384 then some (s.plicComplete ((o - 0x304) / 16) v)
  else none

def State.writeBmx (s : State) (m : Requester) (a v : Nat) : Option State :=
  let k := pageNo a
  let o := offOf a
  if a = Reg.BMX_PMAP_SEAL then some (s.seal m v)
  else if tableAt 1 k o = some .wb then some (s.writeMap m a v)
  else if k = 0x30 ∧ inR 0x1000 0x2FFF o = true then some (s.msixWrite a v)
  else if k = 0x30 ∧ inR 0x4000 0x5FFF o = true then some (s.routeEntry a v)
  else if k = 0x30 ∧ inR 0x6000 0x603F o = true then some (s.dbWrite ((o - 0x6000) / 4) v)
  else if k = 0x30 ∧ o = 0x6040 then some (s.eoi v)
  else none

/-- KSU_SLOT_CMD; other OP values are ignored. -/
def State.slotCmd (s : State) (m : Requester) (v : Nat) : State :=
  match v / 2 ^ 28 with
  | 1 => s.slotWrite m (v % 64)
  | 2 => s.slotClear m (v % 64)
  | 3 => s.slotLock m (v % 64)
  | _ => s

/-- KSU_LC_CMD, a WB register; other OP values are ignored. -/
def State.lcCmd (s : State) (m : Requester) (v : Nat) : State :=
  match v / 2 ^ 28 with
  | 1 => s.fuseCommand m .advance
  | 2 => s.fuseCommand m .svnInc
  | 3 => s.fuseCommand m .revoke0
  | 4 => s.fuseCommand m .revoke1
  | _ => s.writeWB m Reg.KSU_LC_CMD (fun t => t)

def State.writeKsu (s : State) (m : Requester) (a v : Nat) : Option State :=
  let k := pageNo a
  if a = Reg.KSU_SLOT_CMD then some (s.slotCmd m v)
  else if a = Reg.KSU_LC_CMD then some (s.lcCmd m v)
  else if Reg.KSU_KEY_DATA 0 ≤ a ∧ a < Reg.KSU_KEY_DATA 16 then some (s.wrN (stageAddr ((a - Reg.KSU_KEY_DATA 0) / 4)) v)
  else if inR 1 4 k = true ∧ a = Reg.KSU_C_CMD k then
    some (if inR 1 9 (v / 2 ^ 28) then s.engineCommand m (k - 1) (v / 2 ^ 28) (if v / 2 ^ 28 ≤ 2 then v / 2 ^ 26 % 4 else 0) else s)
  else none

def State.writeFcr (s : State) (m : Requester) (a v hw : Nat) : Option State :=
  if a = Reg.FCR_ACK then some (s.ackWrite v)
  else if a = Reg.FCR_CTRL then some (s.fcrCtrl v)
  else if a = Reg.FCR_RING_CFG then some (s.ringCfg v)
  else if a = Reg.FCR_RING_CONS then some (s.plainThen m a v hw State.ringMark)
  else if a = Reg.FCR_SNAP_CMD then some (s.snapCmd v)
  else if pageNo a = 0x20 ∧ inR 0x1000 0x13DF (offOf a) = true then some (s.sevWrite m a v)
  else none

def State.writePtm (s : State) (m : Requester) (a v hw : Nat) : Option State :=
  let k := pageNo a
  if a = Reg.PTM_PROF_CMD then some (s.profCmd v)
  else if a = Reg.PTM_CAL_CMD then some (s.calCmd v)
  else if a = Reg.PTM_VCORE_LIM then some (s.plainThen m a v hw State.vLimit)
  else if a = Reg.PTM_VCORE_RANGE then some s.rangeReset
  else if inR 1 8 k = true ∧ a = Reg.PTM_R_CFG k then some (s.railWrite k v)
  else if Reg.PTM_TS_MAX 0 ≤ a ∧ a < Reg.PTM_TS_MAX 28 then some (s.wrN a (s.rdN (a - 0x80)))
  else none

def State.writeRtu (s : State) (m : Requester) (a v : Nat) : State :=
  let k := pageNo a
  if a = Reg.RTU_PHASE_ADJ then s.phaseAdj v
  else if a = Reg.RTU_DPLL_CFG then s.dpllCfg m v
  else if a = Reg.RTU_SEL_CFG then s.selCfg m v
  else if a = Reg.RTU_ACLK then s.aclkWrite m v
  else if a = Reg.RTU_TIME_CMD then s.timeCmd m v
  else if a = Reg.RTU_TIC_CFG then s.ticCfg m v
  else if a = Reg.RTU_H_FREQ_RANGE then s.wrN a (unsigned 16 (s.yNow / 10000) * 65537)
  else if inR 5 12 k = true ∧ a = Reg.RTU_O_OFFSET k then s.toutOffset (k - 5) v
  else if inR 5 12 k = true ∧ a = Reg.RTU_O_CTRL k then s.toutRealign (k - 5) v
  else
    let t := s.refSync.plainWrite m a v 0
    if t.answer.resp = .okay ∧ ((inR 1 4 k = true ∧ a = Reg.RTU_C_CFG k) ∨ a = Reg.RTU_CFG ∨ a = Reg.RTU_PTP_QLMAP) then t.reselect 1 else t

def State.writeSlc (s : State) (a v : Nat) : Option State :=
  let k := pageNo a
  if inR 1 128 k = true ∧ a = Reg.SLC_Q_SLEEP k then some (s.sleepWrite (k - 1) v)
  else if inR 1 128 k = true ∧ a = Reg.SLC_Q_ALIGN k then some (s.alignWrite (k - 1) v)
  else if inR 1 128 k = true ∧ a = Reg.SLC_Q_EYE_CMD k then some (s.eyeWrite (k - 1) v)
  else none

def State.writeSfe (s : State) (m : Requester) (a v : Nat) : Option State :=
  let o := offOf a
  if inR 1 128 (pageNo a) = true ∧ inR 0x1000 0x13FF o = true then
    some (s.ctxWrite m (pageNo a - 1) ((o - 0x1000) / 512) ((o - 0x1000) % 512 / 16) (o % 16 / 4) v)
  else none

def State.writeMac (s : State) (a v : Nat) : Option State :=
  let k := pageNo a
  if inR 1 128 k = true ∧ a = Reg.FMAC_M_PTP_ADJ k then some (s.ptpAdjWrite (k - 1) v)
  else if inR 1 128 k = true ∧ a = Reg.FMAC_M_SEC_STATUS k then some (s.txAnWrite (k - 1) v)
  else none

def State.writeGse (s : State) (a v : Nat) : Option State :=
  let k := pageNo a
  if a = Reg.GSE_IMG_CMD then some (s.imgCmd v).profSync
  else if inR 1 8 k = true ∧ a = Reg.GSE_P_CMD k then some (s.portCmd (k - 1) v).profSync
  else none

def State.writeMrs (s : State) (a v : Nat) : Option State :=
  if a = Reg.MRS_LINK_CMD then some (s.linkTrain v)
  else if a = Reg.MRS_FRAME_READY then some (s.mrsHostReady v)
  else if a = Reg.MRS_AUX_CMD then some (s.auxCommand v)
  else none

def State.writeTwn (s : State) (m : Requester) (a v hw : Nat) : Option State :=
  let k := pageNo a
  if a = Reg.TWN_CTRL then some (s.twinCtrl v)
  else if inR 17 18 k = true ∧ a = Reg.TWN_CH_CFG k then some (s.plainThen m a v hw State.chainSync)
  else if inR 17 18 k = true ∧ a = Reg.TWN_CH_UPD_CMD k then some (s.updCmd m (k - 17) v)
  else none

/-- The effect a register or table word has of its own when it is written. -/
def State.ownWrite (s : State) (m : Requester) (a v hw : Nat) : Option State :=
  match blockOf a with
  | 0 => s.writeCpc m a v
  | 1 => s.writeBmx m a v
  | 2 => s.writeKsu m a v
  | 3 => s.writeFcr m a v hw
  | 4 => s.writePtm m a v hw
  | 5 => some (s.writeRtu m a v)
  | 6 => s.writeSlc a v
  | 7 => s.writeSfe m a v
  | 8 => s.writeMac a v
  | 9 => if inR 1 16 (pageNo a) = true ∧ a = Reg.CXF_PL_SLACK_MIN (pageNo a) then some (if v.testBit 31 then s.wrN a 0x1FFFF else s) else none
  | 10 => s.writeGse a v
  | 12 => if pageNo a = 0x50 ∧ inR 0x1000 0x13FF (offOf a) = true then some (s.fenceWrite ((offOf a - 0x1000) / 4) v) else none
  | 13 => s.writeMrs a v
  | 15 => s.writeTwn m a v hw
  | _ => none

/-! ### Pairs (R29) -/

/-- The compare of hart h has changed. -/
def State.pairAfter (s : State) (lo : Nat) : State :=
  if blockOf lo = 0 ∧ pageNo lo = 7 ∧ inR 0x110 0x134 (offOf lo) = true then s.mtimecmpSet ((offOf lo - 0x110) / 8) else s

/-- A pair takes both halves as one event, or the write is refused whole. -/
def State.pairSet (s : State) (m : Requester) (lo hi vlo vhi : Nat) : State :=
  let t := s.plainWrite m lo vlo 0
  let u := s.plainWrite m hi vhi 0
  if offOf lo < 0x100 then s
  else if t.answer.resp ≠ .okay then t
  else if u.answer.resp ≠ .okay then u
  else
    let w := t.plainWrite m hi vhi 0
    ({ w with held := w.held.filter (fun c => c.1 != lo) }).pairAfter lo

/-- The pair at lo has writable bits. -/
def pairWritable (lo : Nat) : Bool :=
  match masksAt (blockOf lo) (pageNo lo) (offOf lo) with | some r => r.rw ||| r.rwi ||| r.rws != 0 | none => false

/-- A write of a _LO half is held and changes nothing else. -/
def State.pairHold (s : State) (m : Requester) (lo v : Nat) : State :=
  match masksAt (blockOf lo) (pageNo lo) (offOf lo) with
  | some r => if s.isLocked lo r.lock then s.refuseLocked m lo else { s with held := kput s.held lo (w32 v) }
  | none => s

/-! ### A write reaches its page -/

/-- A write to the header of the page at p. -/
def State.headerWrite (s : State) (m : Requester) (a v hw : Nat) : State :=
  let p := pageOf a
  match offOf a with
  | 0x10 => s.ctrlWrite m (blockOf p) (pageNo p) v
  | 0x18 => s.clearSticky p v hw
  | 0x1C => s.writeIrqEn p v
  | 0x24 => s.writeForce p v
  | 0x28 => s.writeLock p v
  | 0x30 => s.shadowCtrl m p v
  | _ => s

/-- A write of the word v to a location of register space; hw: W1C bits that hardware sets in the same instant (R36). -/
def State.routeWrite (s : State) (m : Requester) (a v hw : Nat) : State :=
  let o := offOf a
  if o < 0x100 then s.headerWrite m a v hw
  else if 0xF000 ≤ o then s
  else if 0x8000 ≤ o then s.shadowWrite m a v
  else match s.ownWrite m a v hw with
    | some t => if blockOf a = 5 then (match loOf a, hiOf a with
        | some lo, _ => if pairWritable lo then s.refSync.pairSet m lo a (((kget s.held lo).getD (s.rd lo)).toNat) v else t
        | none, some _ => if pairWritable a then s.pairHold m a v else t
        | none, none => t) else t
    | none =>
      match loOf a, hiOf a with
      | some lo, _ => s.pairSet m lo a (((kget s.held lo).getD (s.rd lo)).toNat) v
      | none, some _ => if pairWritable a then s.pairHold m a v else s
      | none, none => s.plainWrite m a v hw

/-! ### A read reaches its page -/

/-- Reading RTU_TIME_NS latches both halves of the seconds until both have been read (R304). -/
def State.readTime (s : State) (a : Nat) : State :=
  let t := s.withData (s.view a).toNat
  let hi := Reg.RTU_TIME_SEC_HI
  let lo := Reg.RTU_TIME_SEC_LO
  let drop := fun (l : List (Nat × W)) => l.filter (fun c => c.1 != hi && c.1 != lo && c.1 != hid hi 0 && c.1 != hid lo 0)
  if a = Reg.RTU_TIME_NS then
    { t with latched := kput (kput (drop s.latched) lo (w32 (s.now / 1000000000 % 2 ^ 32))) hi (w32 (s.now / 1000000000 / 2 ^ 32 % 65536)) }
  else
    let other := if a = hi then lo else hi
    if (kget s.latched a).isNone then t
    else if (kget s.latched (hid other 0)).isSome then { t with latched := drop s.latched }
    else { t with latched := kput s.latched (hid a 0) 1#32 }

/-- What reading a location changes besides the pairs: captures are re-armed, counts since the last read begin again, claims are made. -/
def State.ownRead (s : State) (a : Nat) : Option State :=
  let k := pageNo a
  let o := offOf a
  if blockOf a = 0 ∧ k = 6 ∧ 0x304 ≤ o ∧ o % 16 = 4 ∧ o ≤ 0x384 then some (s.plicClaim ((o - 0x304) / 16))
  else if a = Reg.CPC_B_BUSERR_INFO ∨ (blockOf a = 0 ∧ inR 1 4 k = true ∧ a = Reg.CPC_H_BUSERR_INFO k) then
    some ((s.withData (s.view a).toNat).wrN (hid a 0) 0)
  else if a = Reg.BMX_ERR_INFO then some ((s.withData (s.view a).toNat).setFld a 15 8 0)
  else if a = Reg.RTU_TIME_NS ∨ a = Reg.RTU_TIME_SEC_HI ∨ a = Reg.RTU_TIME_SEC_LO then some (s.readTime a)
  else none

/-- A read of a location of register space: the answer carries its word. Reading _LO latches _HI until _HI is read or _LO is read again (R29). -/
def State.routeRead (s : State) (a : Nat) : State :=
  match s.ownRead a with
  | some t => t
  | none =>
    match hiOf a with
    | some hi => { (s.withData (s.view a).toNat) with latched := kput s.latched hi (s.view hi) }
    | none =>
      match loOf a, kget s.latched a with
      | some _, some w => { (s.withData w.toNat) with latched := s.latched.filter (fun c => c.1 != a) }
      | _, _ => s.withData (s.view a).toNat

/-- A 64-bit access to a pair, atomic (R29). -/
def State.routePair (s : State) (m : Requester) (lo : Nat) (write : Bool) (v : Nat) : State :=
  if write then (if blockOf lo = 5 then s.refSync else s).pairSet m lo (lo + 4) (v % 2 ^ 32) (v / 2 ^ 32 % 2 ^ 32)
  else s.withData ((s.view lo).toNat + (s.view (lo + 4)).toNat * 2 ^ 32)

/-! ### Memory (R25, R226, R238, R241, R365, R383) -/

/-- The 64-byte granule of an address. -/
def granule (a : Nat) : Nat := a / 64

/-- A master other than its hart writes bytes of a granule: the hart's reservation there is lost (R383). -/
def State.breakResv (s : State) (m a len : Nat) : State :=
  let hit := fun (r : Nat × Nat) => r.1 + 1 != m && decide (granule a ≤ r.2) && decide (r.2 ≤ granule (a + len - 1))
  let n := (s.bus.resv.filter hit).length
  let t := { s with bus := { s.bus with resv := s.bus.resv.filter (fun r => !hit r) } }
  if n = 0 then t else t.bumpBy Reg.BMX_RESV_BREAK_CNT n

/-- Stack of a frame-store address (R226). -/
def stackOf (a : Nat) : Nat := (a - storeBase) / 0x400000000 % 4

/-- A transaction of pool class 3 at its stack: transactions of at most 256 bytes count, and bytes move. -/
def State.hostTouch (s : State) (a len : Nat) (write : Bool) : State :=
  let st := stackOf a
  let n := ceilDiv len 256
  ((s.bumpBy (Reg.FST_S_HOST_CNT (st + 1)) n).bumpBy (if write then Reg.FST_S_WR_CNT (st + 1) else Reg.FST_S_RD_CNT (st + 1)) n).stackMove st len

/-- Bytes are written to memory, the number data in little-endian order. -/
def State.memWrite (s : State) (m : Requester) (a len data : Nat) : State :=
  let t := s.wrBytes a (bytesLE len data)
  if isStore a then (t.granulesGood (a - storeBase) len).hostTouch a len true
  else if isSram a then t.breakResv m.num a len else t

/-- A byte as a bus read finds it: the boot ROM's content is the configuration's, and a granule of the frame store whose ECC cannot correct it reads 0 (R241). -/
def State.busByte (s : State) (a : Nat) : Byte :=
  if a < 0x20000 then Config.romByte a
  else if isStore a && s.store.badGranules.contains ((a - storeBase) / 64 * 64) then 0#8
  else s.rdByte a

/-- Bytes are read from memory with an ECC outcome. An uncorrectable SRAM word completes with POISON and data that nothing fixes (R365). -/
def State.memRead (s : State) (a len : Nat) (e : Ecc) : State :=
  let data := fun (t : State) => ofBytesLE ((List.range len).map (fun i => t.busByte (a + i)))
  if isSram a then
    let t := s.sramEcc (a - 0x10000000) e
    if e = .uncorrectable then
      let u := t.withData (t.freeVal % 2 ^ (8 * len))
      { u.drawn with answer := { u.answer with poison := true } }
    else t.withData (data t)
  else if isStore a then
    let off := a - storeBase
    let t := match e with
      | .clean => s
      | .corrected => s.eccFixed (stackOf a) off
      | .uncorrectable => s.eccBad (stackOf a) off
    (t.withData (data t)).hostTouch a len false
  else s.withData (data s)

/-! ### Exclusive and atomic accesses (R383) -/

/-- LR: a read that sets its hart's single reservation. -/
def State.lrPerform (s : State) (m : Requester) (a len : Nat) (e : Ecc) : State :=
  let t := (s.memRead a len e).dropResv (m.num - 1)
  if inR 1 4 m.num then { t with bus := { t.bus with resv := t.bus.resv ++ [(m.num - 1, granule a)] } } else t

/-- SC: it writes, and answers 0, while its hart's reservation on the granule holds; otherwise it answers 1 and counts. The reservation is gone afterwards. -/
def State.scPerform (s : State) (m : Requester) (a len data : Nat) : State :=
  let holds := inR 1 4 m.num && s.bus.resv.contains (m.num - 1, granule a)
  let t := if inR 1 4 m.num then s.dropResv (m.num - 1) else s
  if holds then (t.memWrite m a len data).withData 0
  else
    let u := (t.bump Reg.BMX_SC_FAIL_CNT).withData 1
    if inR 1 4 m.num then u.bump (Reg.CPC_H_SC_FAIL_CNT m.num) else u

/-- The value an AMO stores, on operands of len bytes (RISC-V A extension, which R383 names). -/
def amoResult (op : AmoOp) (len old v : Nat) : Nat :=
  let n := 8 * len
  let x := old % 2 ^ n
  let y := v % 2 ^ n
  match op with
  | .swap => y
  | .add => (x + y) % 2 ^ n
  | .xor => x ^^^ y
  | .and => x &&& y
  | .or => x ||| y
  | .min => if signed n x ≤ signed n y then x else y
  | .max => if signed n x ≤ signed n y then y else x
  | .minu => min x y
  | .maxu => max x y

/-- AMO: it reads, and stores the result, at the bank in one event. -/
def State.amoPerform (s : State) (m : Requester) (op : AmoOp) (a len data : Nat) (e : Ecc) : State :=
  let t := s.memRead a len e
  let u := t.memWrite m a len (amoResult op len t.answer.data data)
  u

/-- A granted transaction has its effect at its target (R374, R419). -/
def State.perform (s : State) (m : Requester) (kind : TxnKind) (a len data : Nat) (e : Ecc) : State :=
  if isRegAddr a then
    let w := kindWrites kind
    if s.pauseBars m a kind then s.refuseState m a
    else if len = 8 then s.routePair m a w data
    else if w then s.routeWrite m a (data % 2 ^ 32) 0
    else s.routeRead a
  else match kind with
    | .read => s.memRead a len e
    | .fetch => s.memRead a len e
    | .write => s.memWrite m a len data
    | .lr => s.lrPerform m a len e
    | .sc => s.scPerform m a len data
    | .amo op => s.amoPerform m op a len data e

/-! ### The commands -/

/-- A write of a word to register space as one transaction. -/
def State.regWrite (s : State) (m : Requester) (a v hw : Nat) : State :=
  s.accessWord m a .write v (fun t => if isRegAddr a then t.routeWrite m a (v % 2 ^ 32) hw else t.memWrite m a 4 v)

def execRegWrite (m : Requester) (addr v : Nat) (s : State) : Host.Outcome State Fault Refusal := .next (s.regWrite m addr v 0)
def execPairLoWrite (m : Requester) (addr v : Nat) (s : State) : Host.Outcome State Fault Refusal := .next (s.regWrite m addr v 0)
def execPairHiWrite (m : Requester) (addr v : Nat) (s : State) : Host.Outcome State Fault Refusal := .next (s.regWrite m addr v 0)
def execPairLoRead (m : Requester) (addr : Nat) (s : State) : Host.Outcome State Fault Refusal :=
  .next (s.readAccess m addr (fun t => if isRegAddr addr then t.routeRead addr else t.memRead addr 4 .clean))
def execStickyClear (m : Requester) (addr v hw : Nat) (s : State) : Host.Outcome State Fault Refusal := .next (s.regWrite m addr v hw)
def execForceWrite (m : Requester) (b k v : Nat) (s : State) : Host.Outcome State Fault Refusal :=
  .next (s.regWrite m (hFORCE (pageAddr (b % 16) (k % 256))) v 0)
def execLockWrite (m : Requester) (b k v : Nat) (s : State) : Host.Outcome State Fault Refusal :=
  .next (s.regWrite m (hLOCK (pageAddr (b % 16) (k % 256))) v 0)
def execWmClrCount (m : Requester) (addr : Nat) (s : State) : Host.Outcome State Fault Refusal := .next (s.regWrite m addr 0x8000 0)
def execShadowWrite (m : Requester) (addr v : Nat) (s : State) : Host.Outcome State Fault Refusal := .next (s.regWrite m addr v 0)

/-- A write of a vector number to EOI. -/
def execMsixEoi (m : Requester) (v : Nat) (s : State) : Host.Outcome State Fault Refusal := .next (s.regWrite m 0x41306040 v 0)

/-- The mask bit of a vector's table entry is cleared. -/
def execMsixUnmask (m : Requester) (n : Nat) (s : State) : Host.Outcome State Fault Refusal := .next (s.regWrite m (msixEntry (n % 512) + 12) 0 0)

def execHostDbWrite (m : Requester) (n v : Nat) (s : State) : Host.Outcome State Fault Refusal := .next (s.regWrite m (doorbell (n % 16)) v 0)

end Sys2Proof.Machine
end

