-- ==== Sys2Proof/Machine/Bus.lean ====
section
/-! DEFINITION. The bus matrix: queues, grants by effective QoS, split bursts, RETRY, LATE, reservations and atomic accesses (R364, R374 to R383). -/

namespace Sys2Proof.Machine

/-- One access granted as it arrives: refused on its way, or performed and counted. -/
def State.accessNow (s : State) (m : Requester) (kind : TxnKind) (a len data : Nat) (e : Ecc) : State :=
  if s.inHold then s
  else
    match s.gate m a len kind with
    | some r => s.deny m a len kind data r.1 r.2
    | none =>
      let t := ((({ s with answer := {} }).grantNow m a).perform m kind a len data e).settle m a kind
      if t.answer.poison then t.coreFault m a 7 0 kind else t

/-- A fetch that no core makes (R364): the application cores from register space, the frame store and, while FETCH_QSPI is 0, the QSPI window; the boot core from the last only. -/
def State.noFetch (s : State) (m : Requester) (a : Nat) (kind : TxnKind) : Bool :=
  kind == .fetch && ((inR 1 4 m.num && s.fetchBarred a) || (m.num == 0 && isFlash a && !s.bit Reg.CPC_CFG 1))

/-- The queue of target t against its fixed mark of 24, with 4 of hysteresis (Table 15.11). -/
def State.queueMark (s : State) (t : Nat) : State := s.watermark (Reg.BMX_T_Q_WM (0x11 + t)) (s.depth t) 24 4

/-- Bytes of a burst that one sub-burst carries. -/
def subBurst : Nat := 1024

/-- A transaction that has passed its checks enters its target's queue, a long burst with its first sub-burst (R378). -/
def State.enqueue (s : State) (m : Requester) (kind : TxnKind) (a len data : Nat) : State :=
  let x : Txn := { target := targetNo a, who := m, kind := kind, addr := a, len := min len subBurst, data := data, entered := s.now, late := false,
                   restLen := len - min len subBurst }
  let t := if isStore a then s.poolTake 3 (ceilDiv len 256) else s
  ({ t with bus := { t.bus with queue := t.bus.queue ++ [x] } }).queueMark x.target

/-- A master issues a transaction: it is queued at its target or answered at once. A fetch that R364 bars traps in its core and makes none. -/
def State.submit (s : State) (m : Requester) (kind : TxnKind) (a len data : Nat) : State :=
  if s.inHold then s
  else if s.noFetch m a kind then (if m.num = 0 then s else s.dropResv (m.num - 1))
  else
    match s.gate m a len kind with
    | some r => s.deny m a len kind data r.1 r.2
    | none => s.enqueue m kind a len data

def execBmxTransaction (m : Requester) (kind : TxnKind) (addr len data : Nat) (s : State) : Host.Outcome State Fault Refusal :=
  .next (s.submit m kind addr len data)

/-! Grants (R376, R380). -/

/-- Effective QoS of a queued transaction: 15 stays 15, any other ages by one for each µs, up to 14. -/
def State.effQos (s : State) (x : Txn) : Nat :=
  let q := s.fld (Reg.BMX_M_CFG (x.who.num + 1)) 27 24
  if q = 15 then 15 else min 14 (q + (s.now - x.entered) / 1000)

/-- One transaction goes before another: the higher effective QoS, the earlier entry, the lower master number. -/
def State.goesBefore (s : State) (x y : Txn) : Bool :=
  decide (s.effQos y < s.effQos x) ||
    (s.effQos x == s.effQos y && (decide (x.entered < y.entered) || (x.entered == y.entered && decide (x.who.num < y.who.num))))

/-- The transaction that target t grants next. -/
def State.grantPick (s : State) (t : Nat) : Option Txn :=
  (s.bus.queue.filter (fun x => x.target == t)).foldl
    (fun o x => match o with | none => some x | some y => some (if s.goesBefore x y then x else y)) none

/-- A transaction completes: counted once, with LATE, and a core takes a refusal or POISON as an access fault, unless its response is discarded (R371, R380 to R382). -/
def State.complete (s : State) (x : Txn) (late : Bool) : State :=
  let n := x.who.num + 1
  if s.answer.resp = .okay then
    let t := (s.bump (Reg.BMX_M_SERVED n))
    let u := if late then (((t.bump (Reg.BMX_M_LATE n)).bump Reg.BMX_LATE_CNT).raise Src.BMX_LATE) else t
    let v := { u with answer := { u.answer with late := late } }
    if x.orphan then { v with answer := {} } else if v.answer.poison then v.coreFault x.who x.addr 7 0 x.kind else v
  else
    let t := s.bump (Reg.BMX_M_REFUSED n)
    if x.orphan then { t with answer := {} } else t.coreFault x.who x.addr (respCode t.answer.resp) 0 x.kind

/-- Target t grants the transaction x, which leaves the queue and has its effect; a split burst keeps its rest for the next sub-burst. -/
def State.grantTxn (s : State) (t : Nat) (x : Txn) (e : Ecc) : State :=
  let wait := s.now - x.entered
  let late := x.late || decide (s.fld (Reg.BMX_M_CFG (x.who.num + 1)) 23 16 * 1000 < wait)
  let s0 := ({ s with answer := {}, bus := { s.bus with queue := s.bus.queue.erase x } }).queueMark t
  let s1 := ((s0.grantNow x.who x.addr).keepMax Reg.BMX_WAIT_MAX wait).keepMax (Reg.BMX_M_WAIT_MAX (x.who.num + 1)) wait
  let w := kindWrites x.kind
  let s2 := s1.perform x.who x.kind x.addr x.len (if w then x.data / 2 ^ (8 * x.done) else x.data) e
  let s3 := if isStore x.addr then s2.poolGive 3 (ceilDiv x.len 256) else s2
  let got := if w then x.data else x.data + s3.answer.data * 2 ^ (8 * x.done)
  let s4 := if w || x.done = 0 then s3 else { s3 with answer := { s3.answer with data := got } }
  if x.restLen = 0 then s4.complete x late
  else
    { s4 with bus := { s4.bus with between := s4.bus.between ++
      [{ x with addr := x.addr + x.len, data := if w then x.data else (if x.done = 0 then s4.answer.data else got), late := late, done := x.done + x.len }] } }

/-- A target grants the queued transaction of the highest effective QoS. -/
def State.grant (s : State) (t : Nat) (e : Ecc) : State :=
  match s.grantPick t with
  | some x => if s.inHold then s else s.grantTxn t x e
  | none => s

def execBmxGrant (t : Nat) (e : Ecc) (s : State) : Host.Outcome State Fault Refusal := .next (s.grant t e)

/-- The next sub-burst of a master's split burst enters its queue, or waits on while that is full (R378). -/
def State.subburstNext (s : State) (m : Nat) : State :=
  match s.bus.between.find? (fun x => x.who.num == m) with
  | none => s
  | some x =>
    let t := targetNo x.addr
    if 32 ≤ s.depth t then s
    else
      let y : Txn := { x with target := t, len := min x.restLen subBurst, restLen := x.restLen - min x.restLen subBurst, entered := s.now }
      ({ s with bus := { s.bus with between := s.bus.between.erase x, queue := s.bus.queue ++ [y] } }).queueMark t

def execBmxSubburstNext (m : Nat) (s : State) : Host.Outcome State Fault Refusal := .next (s.subburstNext m)

/-! RETRY (R379). -/

/-- The n-th repeat of an access was answered RETRY again: it is kept for another, or after RETRY_MAX repeats the response reaches the core as an access fault. -/
def State.retryAgain (s : State) (x : Txn) (n reason : Nat) : State :=
  let t := s.deny x.who x.addr x.len x.kind x.data .retry reason
  let rest := t.bus.retrying.filter (fun r => r.1 != x.who.num)
  if s.fld (Reg.BMX_M_CFG (x.who.num + 1)) 15 12 ≤ n then
    ({ t with bus := { t.bus with retrying := rest } }).coreFault x.who x.addr 6 reason x.kind
  else { t with bus := { t.bus with retrying := rest ++ [(x.who.num, x, n)] } }

/-- A core repeats the access that was answered RETRY, 1 µs after. -/
def State.coreRetry (s : State) (m : Nat) : State :=
  match s.bus.retrying.find? (fun r => r.1 == m) with
  | none => s
  | some (_, x, n) =>
    let t := { s with bus := { s.bus with retrying := s.bus.retrying.filter (fun r => r.1 != m) } }
    match t.gate x.who x.addr x.len x.kind with
    | some (.retry, reason) => t.retryAgain x (n + 1) reason
    | some r => t.deny x.who x.addr x.len x.kind x.data r.1 r.2
    | none => t.enqueue x.who x.kind x.addr x.len x.data

/-! Exclusive accesses (R383). -/

def execLrReserve (m : Requester) (addr len : Nat) (s : State) : Host.Outcome State Fault Refusal :=
  .next (s.accessNow m .lr addr len 0 .clean)
def execScAttempt (m : Requester) (addr len data : Nat) (s : State) : Host.Outcome State Fault Refusal :=
  .next (s.accessNow m .sc addr len data .clean)
def execAmoExec (m : Requester) (op : AmoOp) (addr len data : Nat) (s : State) : Host.Outcome State Fault Refusal :=
  .next (s.accessNow m (.amo op) addr len data .clean)

/-- LIFE_US has passed since the hart's LR. -/
def execResvExpire (h : Nat) (s : State) : Host.Outcome State Fault Refusal := .next (s.dropResv (h % 4))

end Sys2Proof.Machine
end

