-- ==== Sys2Proof/Machine/Host.lean ====
section
/-! DEFINITION. The host's two paths: the PCI Express endpoint and the management SPI (R441 to R444, R448 to R451). -/

namespace Sys2Proof.Machine

/-! ### PCI Express (R443, R444) -/

/-- The host as a requester. -/
def hostReq : Requester := ⟨5, .machine⟩

/-- The word at an offset of the vendor-specific extended capability (Table 19.2). -/
def State.vsecWord (s : State) (o : Nat) : W :=
  if o = 8 then w32 (s.fld Reg.CPC_B_STAGE 7 0 * 2 ^ 24 + s.fld Reg.CPC_B_STAGE 15 8 * 2 ^ 16 + b2n s.isSealed)
  else if o = 12 then w32 (s.fld Reg.KSU_LC 1 0 + b2n s.board.twinId * 256)
  else 0#32

/-- Length of the transaction that the endpoint makes of the beginning of a request (R374): whole 64-byte beats up to the next 4 KiB boundary, else the largest aligned power of two. -/
def pieceLen (a len : Nat) : Nat :=
  if a % 64 = 0 ∧ 64 ≤ len then min (len / 64 * 64) (4096 - a % 4096)
  else ([32, 16, 8, 4, 2].find? (fun p => a % p == 0 && decide (p ≤ len))).getD 1

/-- The transactions of a request, as addresses and lengths (with fuel its length). -/
def hostPieces : Nat → Nat → Nat → List (Nat × Nat)
  | 0, _, _ => []
  | n + 1, a, len => if len = 0 then [] else (a, pieceLen a len) :: hostPieces n (a + pieceLen a len) (len - pieceLen a len)

/-- A request through BAR0 is one access; one through BAR2 is divided. -/
def requestPieces (a len : Nat) : List (Nat × Nat) := if isRegAddr a then [(a, len)] else hostPieces len a len

/-- A read completes: 0 Successful Completion, 1 Unsupported Request, 2 Completer Abort. A write is posted. -/
def State.pcieEnd (s : State) (write : Bool) (status data : Nat) : State := if write then s else s.send (.completion status data)

/-- The endpoint keeps a request that was answered RETRY for the next of its repeats (R443). -/
def State.hostKeep (s : State) (write : Bool) (a len data done n : Nat) : State :=
  { s with bus := { s.bus with retrying := s.bus.retrying.filter (fun r => r.1 != 5) ++
    [(5, { target := targetNo a, who := hostReq, kind := if write then .write else .read, addr := a, len := len, data := data, entered := s.now,
           late := false, restLen := 0, done := done }, n)] } }

/-- The transactions of a request in turn: data is what a write still has to write, or what a read has gathered over done bytes; n repeats have been made. A refusal ends the request, but an ABSENT read gives 0. -/
def State.hostRun (s : State) (write : Bool) (n : Nat) : List (Nat × Nat) → Nat → Nat → State
  | [], data, _ => s.pcieEnd write 0 data
  | (a, p) :: r, data, done =>
    let kind : TxnKind := if write then .write else .read
    match s.gate hostReq a p kind with
    | some (.retry, reason) =>
      let t := s.deny hostReq a p kind data .retry reason
      if 50 ≤ n then t.pcieEnd write 2 0 else t.hostKeep write a (p + (r.map (·.2)).sum) data done n
    | some (.decode, reason) => (s.deny hostReq a p kind data .decode reason).pcieEnd write 1 0
    | some (.absent, reason) =>
      let t := s.deny hostReq a p kind data .absent reason
      if write then t else t.hostRun write n r data (done + p)
    | some (x, reason) => (s.deny hostReq a p kind data x reason).pcieEnd write 2 0
    | none =>
      let t := s.accessNow hostReq kind a p data .clean
      if write then (if t.answer.resp = .okay then t.hostRun write n r (data / 2 ^ (8 * p)) (done + p) else t)
      else t.hostRun write n r (data + t.answer.data * 2 ^ (8 * done)) (done + p)

/-- A host access through BAR0 or BAR2 (R27, R443). -/
def State.pcieAccess (s : State) (bar2 write : Bool) (offset len data : Nat) : State :=
  let a := if bar2 then 0x1000000000 + offset % 2 ^ 36 else 0x40000000 + offset % 2 ^ 28
  if s.inHold || !s.board.pcieUp then s
  else s.hostRun write 0 (requestPieces a len) (if write then data else 0) 0

def execPcieAccess (bar2 write : Bool) (offset len data : Nat) (s : State) : Host.Outcome State Fault Refusal :=
  .next (s.pcieAccess bar2 write offset len data)

/-- The endpoint repeats a request that was answered RETRY. -/
def State.hostRetry (s : State) : State :=
  match s.bus.retrying.find? (fun r => r.1 == 5) with
  | none => s
  | some (_, x, n) =>
    ({ s with bus := { s.bus with retrying := s.bus.retrying.filter (fun r => r.1 != 5) } }).hostRun (kindWrites x.kind) (n + 1)
      (requestPieces x.addr x.len) x.data x.done

/-- 1 µs after a RETRY a core, or for master 5 the endpoint, repeats the access (R379, R443). -/
def execCoreRetry (m : Nat) (s : State) : Host.Outcome State Fault Refusal := .next (if m = 5 then s.hostRetry else s.coreRetry m)

/-- The endpoint is reset: its repeats end, and completions of what has passed to the BMX are discarded (R444). -/
def State.endpointReset (s : State) : State := s.orphanTxns (fun n => n == 5)

/-- PERST_N: the endpoint is reset and its link goes down; nothing else sees it. -/
def execPerst (s : State) : Host.Outcome State Fault Refusal :=
  let t := s.endpointReset
  .next { t with board := { t.board with pcieUp := false, pcieWidth := 0, pcieRate := 0 } }

/-- Function Level Reset: the endpoint alone is reset. -/
def execFlr (s : State) : Host.Outcome State Fault Refusal := .next s.endpointReset

/-- The link trains up, or is lost; with PCIE_DIS it never trains (R441, R444, Table 19.6). -/
def State.linkChange (s : State) (up : Bool) (width rate : Nat) : State :=
  if up && !s.board.pcieDis then { s with board := { s.board with pcieUp := true, pcieWidth := width, pcieRate := rate } }
  else
    let t := s.endpointReset
    { t with board := { t.board with pcieUp := false, pcieWidth := 0, pcieRate := 0 } }

def execPcieLinkChange (up : Bool) (width rate : Nat) (s : State) : Host.Outcome State Fault Refusal := .next (s.linkChange up width rate)

/-! ### The management SPI (R448 to R451) -/

/-- The management SPI as a requester. -/
def mspiReq : Requester := ⟨6, .machine⟩

/-- RESP of Table 19.4. -/
def mspiCode (r : Resp) : Nat :=
  match r with | .okay => 0 | .locked => 1 | .state => 2 | .absent => 3 | .decode => 4 | .secure => 5 | .retry => 6

/-- The 96-bit response that stands for the next word (Table 19.4). -/
def State.mspiFrame (s : State) : Nat :=
  let b := s.board
  b.mspiSeq.getD 0 % 65536 * 2 ^ 80 + b.mspiResp % 16 * 2 ^ 76 + b2n b.mspiLate * 2 ^ 75 + b2n b.mspiDup * 2 ^ 74 + b2n b.mspiSurplus * 2 ^ 73 +
    b2n b.mspiDiscarded * 2 ^ 72 + b.mspiData % 2 ^ 32 * 256

/-- A word begins: the device returns the response that stands. -/
def State.mspiShift (s : State) : State := { s with board := { s.board with mspiMiso := s.mspiFrame } }

/-- A select release with n edges, 0 < n < 96: the word is discarded (R451). -/
def State.mspiShort (s : State) (n : Nat) : State :=
  let t := { s with board := { s.board with mspiDiscarded := true } }
  if n % 8 = 0 then t.bump Reg.BMX_MSPI_SHORT_CNT
  else ((t.bump Reg.BMX_MSPI_FRAME_CNT).stick (pageAddr 1 0) 9).raise Src.BMX_MSPI_FRAME

/-- Surplus edges of a word that is taken are counted (R451). -/
def State.mspiSurplus (s : State) (n : Nat) : State := if 96 < n then s.bump Reg.BMX_MSPI_SURPLUS_CNT else s

/-- A READ or WRITE word is taken (R450): a duplicate is acknowledged again, one that comes while the previous word executes is discarded as BUSY, and any other is applied as one transaction. -/
def State.mspiApply (s : State) (seq edges : Nat) (busy : Bool) (f : State → State) : State :=
  let t := s.mspiSurplus edges
  let b := { t.board with mspiDiscarded := false, mspiSurplus := decide (96 < edges) }
  if s.board.mspiSeq = some (seq % 65536) then
    { (t.bump Reg.BMX_MSPI_DUP_CNT) with board := { b with mspiDup := true } }
  else if busy then { t with board := { b with mspiResp := 7, mspiData := 0, mspiLate := false, mspiDup := false } }
  else
    let u := f t
    let v := (u.bump Reg.BMX_MSPI_WORDS).wrN Reg.BMX_MSPI_SEQ (seq % 65536)
    { v with board := { v.board with
        mspiDiscarded := false, mspiSurplus := decide (96 < edges), mspiDup := false, mspiSeq := some (seq % 65536),
        mspiResp := mspiCode u.answer.resp, mspiLate := u.answer.late, mspiData := if u.answer.resp = .okay then u.answer.data % 2 ^ 32 else 0 } }

/-- A word with n edges: nothing, a discard, or the effect f of a word that is taken (R451). -/
def State.mspiWord (s : State) (n : Nat) (f : State → State) : State :=
  if s.inHold || n = 0 then s else if n < 96 then s.mspiShift.mspiShort n else f s.mspiShift

/-- Address of WADDR (R448). -/
def mspiAddr (waddr : Nat) : Nat := 0x40000000 + 4 * (waddr % 2 ^ 26)

def execMspiRead (seq waddr edges : Nat) (busy : Bool) (s : State) : Host.Outcome State Fault Refusal :=
  .next (s.mspiWord edges (fun t => t.mspiApply seq edges busy (fun u => u.accessNow mspiReq .read (mspiAddr waddr) 4 0 .clean)))

def execMspiWrite (seq waddr data edges : Nat) (busy : Bool) (s : State) : Host.Outcome State Fault Refusal :=
  .next (s.mspiWord edges (fun t => t.mspiApply seq edges busy (fun u => u.accessNow mspiReq .write (mspiAddr waddr) 4 (data % 2 ^ 32) .clean)))

/-- A NOP word: it only returns the response to the last word that was not one (R449). -/
def execMspiNop (edges : Nat) (s : State) : Host.Outcome State Fault Refusal :=
  .next (s.mspiWord edges (fun t =>
    let u := t.mspiSurplus edges
    { u with board := { u.board with mspiDiscarded := false } }))

/-- A select release before 96 edges; one with 96 or more is no discard and is taken as a NOP. -/
def execMspiWordDiscard (edges : Nat) (s : State) : Host.Outcome State Fault Refusal :=
  .next (s.mspiWord edges (fun t => { t with board := { t.board with mspiDiscarded := false } }))

end Sys2Proof.Machine
end

