-- ==== Sys2Proof/Machine/Dispatch.lean ====
section
/-! DEFINITION. The dispatch of the commands: one arm per row of spec/opcode_table.json. -/

namespace Sys2Proof.Machine

/-- The effect of a command on everything but the queue. -/
def exec (i : Instr) (s : State) : Host.Outcome State Fault Refusal :=
  match i with
  | .powerOnReset => Sys2Proof.Machine.execPowerOnReset s
  | .coldReset lowNs => Sys2Proof.Machine.execColdReset lowNs s
  | .glitchTrip die step level => Sys2Proof.Machine.execGlitchTrip die step level s
  | .bootRom flashOk => Sys2Proof.Machine.execBootRom flashOk s
  | .pmapSeal m v => Sys2Proof.Machine.execPmapSeal m v s
  | .pmapWrite m n v => Sys2Proof.Machine.execPmapWrite m n v s
  | .hartRunWrite m v => Sys2Proof.Machine.execHartRunWrite m v s
  | .reqOff m b k => Sys2Proof.Machine.execReqOff m b k s
  | .reqIsolated m b k => Sys2Proof.Machine.execReqIsolated m b k s
  | .reqIdle m b k => Sys2Proof.Machine.execReqIdle m b k s
  | .reqRun m b k => Sys2Proof.Machine.execReqRun m b k s
  | .drainEnd b k => Sys2Proof.Machine.execDrainEnd b k s
  | .regWrite m addr v => Sys2Proof.Machine.execRegWrite m addr v s
  | .pairLoWrite m addr v => Sys2Proof.Machine.execPairLoWrite m addr v s
  | .pairHiWrite m addr v => Sys2Proof.Machine.execPairHiWrite m addr v s
  | .pairLoRead m addr => Sys2Proof.Machine.execPairLoRead m addr s
  | .stickyClear m addr v hw => Sys2Proof.Machine.execStickyClear m addr v hw s
  | .forceWrite m b k v => Sys2Proof.Machine.execForceWrite m b k v s
  | .lockWrite m b k v => Sys2Proof.Machine.execLockWrite m b k v s
  | .wmClrCount m addr => Sys2Proof.Machine.execWmClrCount m addr s
  | .shadowWrite m addr v => Sys2Proof.Machine.execShadowWrite m addr v s
  | .shadowArm m b k epoch => Sys2Proof.Machine.execShadowArm m b k epoch s
  | .shadowArmNext m b k => Sys2Proof.Machine.execShadowArmNext m b k s
  | .shadowCancel m b k => Sys2Proof.Machine.execShadowCancel m b k s
  | .shadowCommit b k => Sys2Proof.Machine.execShadowCommit b k s
  | .epochBoundary => Sys2Proof.Machine.execEpochBoundary s
  | .slackStale => Sys2Proof.Machine.execSlackStale s
  | .loopDownStep => Sys2Proof.Machine.execLoopDownStep s
  | .runDescExec p damaged => Sys2Proof.Machine.execRunDescExec p damaged s
  | .gapExec p mismatches => Sys2Proof.Machine.execGapExec p mismatches s
  | .planeListDone p elapsed => Sys2Proof.Machine.execPlaneListDone p elapsed s
  | .carryDone p => Sys2Proof.Machine.execCarryDone p s
  | .cellAssemble die c complete => Sys2Proof.Machine.execCellAssemble die c complete s
  | .cellRelease dst idx => Sys2Proof.Machine.execCellRelease dst idx s
  | .lateCellRelease dst => Sys2Proof.Machine.execLateCellRelease dst s
  | .imgLoad m epoch => Sys2Proof.Machine.execImgLoad m epoch s
  | .imgLoadNext m => Sys2Proof.Machine.execImgLoadNext m s
  | .imgCancel m => Sys2Proof.Machine.execImgCancel m s
  | .imgCopyDone => Sys2Proof.Machine.execImgCopyDone s
  | .takeCmd m n next => Sys2Proof.Machine.execTakeCmd m n next s
  | .salvoCmd m n count next => Sys2Proof.Machine.execSalvoCmd m n count next s
  | .takeCancelCmd m n tag => Sys2Proof.Machine.execTakeCancelCmd m n tag s
  | .takeArm => Sys2Proof.Machine.execTakeArm s
  | .takeCommit => Sys2Proof.Machine.execTakeCommit s
  | .prefetchDone src => Sys2Proof.Machine.execPrefetchDone src s
  | .creditTick => Sys2Proof.Machine.execCreditTick s
  | .profReq m profile epoch => Sys2Proof.Machine.execProfReq m profile epoch s
  | .profReqNext m profile => Sys2Proof.Machine.execProfReqNext m profile s
  | .profCancel m => Sys2Proof.Machine.execProfCancel m s
  | .rampStep => Sys2Proof.Machine.execRampStep s
  | .profCommit => Sys2Proof.Machine.execProfCommit s
  | .settleStep => Sys2Proof.Machine.execSettleStep s
  | .sensorSample readings => Sys2Proof.Machine.execSensorSample readings s
  | .railPoll k vout iout pout temp status => Sys2Proof.Machine.execRailPoll k vout iout pout temp status s
  | .railEnable m k v mode => Sys2Proof.Machine.execRailEnable m k v mode s
  | .pmbusTxnFail k attempts pec => Sys2Proof.Machine.execPmbusTxnFail k attempts pec s
  | .pmbusClkTimeout k attempts => Sys2Proof.Machine.execPmbusClkTimeout k attempts s
  | .smbalert master words => Sys2Proof.Machine.execSmbalert master words s
  | .powerAverage => Sys2Proof.Machine.execPowerAverage s
  | .calLoad m => Sys2Proof.Machine.execCalLoad m s
  | .calSave m => Sys2Proof.Machine.execCalSave m s
  | .calOpDone ok left => Sys2Proof.Machine.execCalOpDone ok left s
  | .pllLock q tx => Sys2Proof.Machine.execPllLock q tx s
  | .pllLockTimeout q => Sys2Proof.Machine.execPllLockTimeout q s
  | .pllUnlock q tx => Sys2Proof.Machine.execPllUnlock q tx s
  | .syncHeaderInvalid lane block => Sys2Proof.Machine.execSyncHeaderInvalid lane block s
  | .laneLock lane => Sys2Proof.Machine.execLaneLock lane s
  | .lockRecoveryTimeout lane => Sys2Proof.Machine.execLockRecoveryTimeout lane s
  | .alignSlip m q v => Sys2Proof.Machine.execAlignSlip m q v s
  | .slfBurstRx lane header body => Sys2Proof.Machine.execSlfBurstRx lane header body s
  | .slfMarkerRx lane payload => Sys2Proof.Machine.execSlfMarkerRx lane payload s
  | .slfSleepRx lane => Sys2Proof.Machine.execSlfSleepRx lane s
  | .rxWake lane ppm => Sys2Proof.Machine.execRxWake lane ppm s
  | .rxRetrainDone lane => Sys2Proof.Machine.execRxRetrainDone lane s
  | .slfBurstTx lane stream => Sys2Proof.Machine.execSlfBurstTx lane stream s
  | .slfMarkerTx lane => Sys2Proof.Machine.execSlfMarkerTx lane s
  | .txSleepSet m q v => Sys2Proof.Machine.execTxSleepSet m q v s
  | .txSleepClear m q v => Sys2Proof.Machine.execTxSleepClear m q v s
  | .eyeScanStart m q v => Sys2Proof.Machine.execEyeScanStart m q v s
  | .eyeScanDone q errors => Sys2Proof.Machine.execEyeScanDone q errors s
  | .adaptStep lane setting up eyeW eyeH => Sys2Proof.Machine.execAdaptStep lane setting up eyeW eyeH s
  | .sfeCtxWrite m q dir idx w v => Sys2Proof.Machine.execSfeCtxWrite m q dir idx w v s
  | .sfeLineRx lane stream line => Sys2Proof.Machine.execSfeLineRx lane stream line s
  | .sfeInputLossTimeout q idx => Sys2Proof.Machine.execSfeInputLossTimeout q idx s
  | .sfeLineTx lane stream n line => Sys2Proof.Machine.execSfeLineTx lane stream n line s
  | .frameRx q port frame pcsErr fixed lost => Sys2Proof.Machine.execFrameRx q port frame pcsErr fixed lost s
  | .flowCellClose q idx => Sys2Proof.Machine.execFlowCellClose q idx s
  | .mergeLegTimeout q idx => Sys2Proof.Machine.execMergeLegTimeout q idx s
  | .mediaPktTx q idx n => Sys2Proof.Machine.execMediaPktTx q idx n s
  | .hostFrameTx q port => Sys2Proof.Machine.execHostFrameTx q port s
  | .portLinkChange q port block am fec lf rf => Sys2Proof.Machine.execPortLinkChange q port block am fec lf rf s
  | .secTxAnWrite m q v => Sys2Proof.Machine.execSecTxAnWrite m q v s
  | .fstZeroFillDone hundredths => Sys2Proof.Machine.execFstZeroFillDone hundredths s
  | .fstReadDone idx ns tok ecc => Sys2Proof.Machine.execFstReadDone idx ns tok ecc s
  | .stackPowerDown st => Sys2Proof.Machine.execStackPowerDown st s
  | .stackWake st ns => Sys2Proof.Machine.execStackWake st ns s
  | .scrubRead st ecc => Sys2Proof.Machine.execScrubRead st ecc s
  | .pxpFrameStart e k => Sys2Proof.Machine.execPxpFrameStart e k s
  | .pxpLineComposite e line => Sys2Proof.Machine.execPxpLineComposite e line s
  | .fenceWrite m n v => Sys2Proof.Machine.execFenceWrite m n v s
  | .fencePoint e => Sys2Proof.Machine.execFencePoint e s
  | .mrsFrameStart => Sys2Proof.Machine.execMrsFrameStart s
  | .mrsMaxUsExpire => Sys2Proof.Machine.execMrsMaxUsExpire s
  | .mrsFrameReadyWrite m v => Sys2Proof.Machine.execMrsFrameReadyWrite m v s
  | .mrsUnderrun => Sys2Proof.Machine.execMrsUnderrun s
  | .auxNativeWrite m addr len => Sys2Proof.Machine.execAuxNativeWrite m addr len s
  | .auxNativeRead m addr len => Sys2Proof.Machine.execAuxNativeRead m addr len s
  | .auxI2cWrite m mot addr len => Sys2Proof.Machine.execAuxI2cWrite m mot addr len s
  | .auxI2cRead m mot addr len => Sys2Proof.Machine.execAuxI2cRead m mot addr len s
  | .auxReply kind data => Sys2Proof.Machine.execAuxReply kind data s
  | .auxDeferRetry => Sys2Proof.Machine.execAuxDeferRetry s
  | .auxTimeout => Sys2Proof.Machine.execAuxTimeout s
  | .hpdIrq => Sys2Proof.Machine.execHpdIrq s
  | .hpdUnplug => Sys2Proof.Machine.execHpdUnplug s
  | .hpdPlug => Sys2Proof.Machine.execHpdPlug s
  | .linkTrain m v => Sys2Proof.Machine.execLinkTrain m v s
  | .linkTrainDone result swing preemph lanes dpcd => Sys2Proof.Machine.execLinkTrainDone result swing preemph lanes dpcd s
  | .aesFrameRx p w0 w1 par0 par1 bad ppm => Sys2Proof.Machine.execAesFrameRx p w0 w1 par0 par1 bad ppm s
  | .aesLossTimeout p => Sys2Proof.Machine.execAesLossTimeout p s
  | .audSampleInstant rate n => Sys2Proof.Machine.execAudSampleInstant rate n s
  | .audSourceCell g b => Sys2Proof.Machine.execAudSourceCell g b s
  | .aesFrameTx p n => Sys2Proof.Machine.execAesFrameTx p n s
  | .wsFrameRx w n left right bclks ppm => Sys2Proof.Machine.execWsFrameRx w n left right bclks ppm s
  | .wsFrameTx w n => Sys2Proof.Machine.execWsFrameTx w n s
  | .qmMsgRx n bytes => Sys2Proof.Machine.execQmMsgRx n bytes s
  | .qmMissing n => Sys2Proof.Machine.execQmMissing n s
  | .refClkLoss n => Sys2Proof.Machine.execRefClkLoss n s
  | .refFpMiss n => Sys2Proof.Machine.execRefFpMiss n s
  | .dpllUpdate phase freq => Sys2Proof.Machine.execDpllUpdate phase freq s
  | .dpllLock => Sys2Proof.Machine.execDpllLock s
  | .wtrExpire => Sys2Proof.Machine.execWtrExpire s
  | .qualComplete phase freq pulses exchanges unbroken => Sys2Proof.Machine.execQualComplete phase freq pulses exchanges unbroken s
  | .disqualExpire c => Sys2Proof.Machine.execDisqualExpire c s
  | .pboDrawDone => Sys2Proof.Machine.execPboDrawDone s
  | .holdoverSpecExpire => Sys2Proof.Machine.execHoldoverSpecExpire s
  | .slewClampLimit => Sys2Proof.Machine.execSlewClampLimit s
  | .loClkFault present ppb => Sys2Proof.Machine.execLoClkFault present ppb s
  | .timeStep m => Sys2Proof.Machine.execTimeStep m s
  | .timeStepRef m => Sys2Proof.Machine.execTimeStepRef m s
  | .phaseAdjWrite m v => Sys2Proof.Machine.execPhaseAdjWrite m v s
  | .dpllModeWrite m v => Sys2Proof.Machine.execDpllModeWrite m v s
  | .selForceWrite m v => Sys2Proof.Machine.execSelForceWrite m v s
  | .aclkFamilyWrite m v => Sys2Proof.Machine.execAclkFamilyWrite m v s
  | .toutEdge k => Sys2Proof.Machine.execToutEdge k s
  | .toutOffsetWrite m k v => Sys2Proof.Machine.execToutOffsetWrite m k v s
  | .toutRealign m k => Sys2Proof.Machine.execToutRealign m k s
  | .refFpPulse n stamp => Sys2Proof.Machine.execRefFpPulse n stamp s
  | .ticArm m v => Sys2Proof.Machine.execTicArm m v s
  | .ticCapture source tick bin => Sys2Proof.Machine.execTicCapture source tick bin s
  | .ticTimeout => Sys2Proof.Machine.execTicTimeout s
  | .ticCalUpdate counts => Sys2Proof.Machine.execTicCalUpdate counts s
  | .ptpSyncTx p stamp => Sys2Proof.Machine.execPtpSyncTx p stamp s
  | .ptpAnnounceTx p => Sys2Proof.Machine.execPtpAnnounceTx p s
  | .ptpDelayReqTx p stamp => Sys2Proof.Machine.execPtpDelayReqTx p stamp s
  | .ptpMgmtTx p => Sys2Proof.Machine.execPtpMgmtTx p s
  | .ptpSyncRx p sender port seq origin corr stamp => Sys2Proof.Machine.execPtpSyncRx p sender port seq origin corr stamp s
  | .ptpFollowUpRx p sender port seq origin corr => Sys2Proof.Machine.execPtpFollowUpRx p sender port seq origin corr s
  | .ptpDelayReqRx p sender port seq stamp => Sys2Proof.Machine.execPtpDelayReqRx p sender port seq stamp s
  | .ptpDelayRespRx p sender port seq receipt corr => Sys2Proof.Machine.execPtpDelayRespRx p sender port seq receipt corr s
  | .ptpAnnounceRx p sender port ds => Sys2Proof.Machine.execPtpAnnounceRx p sender port ds s
  | .ptpBmca => Sys2Proof.Machine.execPtpBmca s
  | .ptpAnnounceTimeout p => Sys2Proof.Machine.execPtpAnnounceTimeout p s
  | .hbEdge => Sys2Proof.Machine.execHbEdge s
  | .hbLoss => Sys2Proof.Machine.execHbLoss s
  | .aloneExpire => Sys2Proof.Machine.execAloneExpire s
  | .slotTx => Sys2Proof.Machine.execSlotTx s
  | .slotMsgRx lane stamp blocks => Sys2Proof.Machine.execSlotMsgRx lane stamp blocks s
  | .partnerTimeout => Sys2Proof.Machine.execPartnerTimeout s
  | .pairEstablish => Sys2Proof.Machine.execPairEstablish s
  | .ctlResend => Sys2Proof.Machine.execCtlResend s
  | .laneFail k => Sys2Proof.Machine.execLaneFail k s
  | .spareActivate => Sys2Proof.Machine.execSpareActivate s
  | .statusRx selftest revertInh profile dpll ql imgValid imageId hdrCrc => Sys2Proof.Machine.execStatusRx selftest revertInh profile dpll ql imgValid imageId hdrCrc s
  | .timeRx tm dpll ql meanRaw => Sys2Proof.Machine.execTimeRx tm dpll ql meanRaw s
  | .ptpDsRx ds => Sys2Proof.Machine.execPtpDsRx ds s
  | .twinTakeRx tag op stamp time members last => Sys2Proof.Machine.execTwinTakeRx tag op stamp time members last s
  | .agreeRx tag refuse reason => Sys2Proof.Machine.execAgreeRx tag refuse reason s
  | .imageArmRx epoch imageId hdrCrc => Sys2Proof.Machine.execImageArmRx epoch imageId hdrCrc s
  | .profReqRx profile epoch imageId hdrCrc => Sys2Proof.Machine.execProfReqRx profile epoch imageId hdrCrc s
  | .profReadyRx => Sys2Proof.Machine.execProfReadyRx s
  | .profCancelRx => Sys2Proof.Machine.execProfCancelRx s
  | .profForceRx epoch => Sys2Proof.Machine.execProfForceRx epoch s
  | .syncRx slot k stamp => Sys2Proof.Machine.execSyncRx slot k stamp s
  | .audSlipRx port instant stamp => Sys2Proof.Machine.execAudSlipRx port instant stamp s
  | .fenceRx engine ready epoch => Sys2Proof.Machine.execFenceRx engine ready epoch s
  | .hashRx epoch first hashes => Sys2Proof.Machine.execHashRx epoch first hashes s
  | .roleGiveRx roles epoch => Sys2Proof.Machine.execRoleGiveRx roles epoch s
  | .roleTakeRx epoch => Sys2Proof.Machine.execRoleTakeRx epoch s
  | .roleCancelRx epoch => Sys2Proof.Machine.execRoleCancelRx epoch s
  | .laneRx active epoch => Sys2Proof.Machine.execLaneRx active epoch s
  | .snapRx time => Sys2Proof.Machine.execSnapRx time s
  | .holdoffExpire => Sys2Proof.Machine.execHoldoffExpire s
  | .selftestOk m => Sys2Proof.Machine.execSelftestOk m s
  | .selftestClr m => Sys2Proof.Machine.execSelftestClr m s
  | .release m => Sys2Proof.Machine.execRelease m s
  | .revertNow m => Sys2Proof.Machine.execRevertNow m s
  | .cpcRestartAll m => Sys2Proof.Machine.execCpcRestartAll m s
  | .hartRestart m h => Sys2Proof.Machine.execHartRestart m h s
  | .hartNmi m h => Sys2Proof.Machine.execHartNmi m h s
  | .wdtKick m v => Sys2Proof.Machine.execWdtKick m v s
  | .wdtExpire => Sys2Proof.Machine.execWdtExpire s
  | .plicClaim m c => Sys2Proof.Machine.execPlicClaim m c s
  | .plicComplete m c n => Sys2Proof.Machine.execPlicComplete m c n s
  | .mtimecmpMatch h => Sys2Proof.Machine.execMtimecmpMatch h s
  | .mboxWrite m n v => Sys2Proof.Machine.execMboxWrite m n v s
  | .sramScrub e => Sys2Proof.Machine.execSramScrub e s
  | .bmxTransaction m kind addr len data => Sys2Proof.Machine.execBmxTransaction m kind addr len data s
  | .bmxGrant t e => Sys2Proof.Machine.execBmxGrant t e s
  | .bmxSubburstNext m => Sys2Proof.Machine.execBmxSubburstNext m s
  | .coreRetry m => Sys2Proof.Machine.execCoreRetry m s
  | .lrReserve m addr len => Sys2Proof.Machine.execLrReserve m addr len s
  | .scAttempt m addr len data => Sys2Proof.Machine.execScAttempt m addr len data s
  | .amoExec m op addr len data => Sys2Proof.Machine.execAmoExec m op addr len data s
  | .resvExpire h => Sys2Proof.Machine.execResvExpire h s
  | .lcAdvance m => Sys2Proof.Machine.execLcAdvance m s
  | .svnInc m => Sys2Proof.Machine.execSvnInc m s
  | .revoke0 m => Sys2Proof.Machine.execRevoke0 m s
  | .revoke1 m => Sys2Proof.Machine.execRevoke1 m s
  | .fuseProgDone => Sys2Proof.Machine.execFuseProgDone s
  | .slotWrite m slot => Sys2Proof.Machine.execSlotWrite m slot s
  | .slotClear m slot => Sys2Proof.Machine.execSlotClear m slot s
  | .slotLock m slot => Sys2Proof.Machine.execSlotLock m slot s
  | .ksuSha384 m c phase => Sys2Proof.Machine.execKsuSha384 m c phase s
  | .ksuHmac m c phase => Sys2Proof.Machine.execKsuHmac m c phase s
  | .ksuKdf m c => Sys2Proof.Machine.execKsuKdf m c s
  | .ksuGcmEncrypt m c => Sys2Proof.Machine.execKsuGcmEncrypt m c s
  | .ksuGcmDecrypt m c => Sys2Proof.Machine.execKsuGcmDecrypt m c s
  | .ksuEcdsaSign m c => Sys2Proof.Machine.execKsuEcdsaSign m c s
  | .ksuEcdsaVerify m c => Sys2Proof.Machine.execKsuEcdsaVerify m c s
  | .ksuEcdh m c => Sys2Proof.Machine.execKsuEcdh m c s
  | .ksuGenerate m c => Sys2Proof.Machine.execKsuGenerate m c s
  | .ksuOpDone us tagBad => Sys2Proof.Machine.execKsuOpDone us tagBad s
  | .trngHealthFail => Sys2Proof.Machine.execTrngHealthFail s
  | .chainLockLoss port => Sys2Proof.Machine.execChainLockLoss port s
  | .chunkRx port head data cend => Sys2Proof.Machine.execChunkRx port head data cend s
  | .chunkAbortRx port seq session hops cend => Sys2Proof.Machine.execChunkAbortRx port seq session hops cend s
  | .chunkAckRx port payload => Sys2Proof.Machine.execChunkAckRx port payload s
  | .chunkResend port => Sys2Proof.Machine.execChunkResend port s
  | .chunkWaitRepeat port => Sys2Proof.Machine.execChunkWaitRepeat port s
  | .updLoad m port hops => Sys2Proof.Machine.execUpdLoad m port hops s
  | .updActivate m port => Sys2Proof.Machine.execUpdActivate m port s
  | .updAbort m port => Sys2Proof.Machine.execUpdAbort m port s
  | .updResume m port => Sys2Proof.Machine.execUpdResume m port s
  | .updVerifyDone => Sys2Proof.Machine.execUpdVerifyDone s
  | .updStagingDone ok => Sys2Proof.Machine.execUpdStagingDone ok s
  | .updPauseTimeout => Sys2Proof.Machine.execUpdPauseTimeout s
  | .ucodeLoadDone pxp => Sys2Proof.Machine.execUcodeLoadDone pxp s
  | .updPrimaryDone => Sys2Proof.Machine.execUpdPrimaryDone s
  | .faultRaise src detail addr => Sys2Proof.Machine.execFaultRaise src detail addr s
  | .fcrWindowEnd => Sys2Proof.Machine.execFcrWindowEnd s
  | .deviceWarmReset => Sys2Proof.Machine.execDeviceWarmReset s
  | .fcrLateRecords => Sys2Proof.Machine.execFcrLateRecords s
  | .fcrAck m v => Sys2Proof.Machine.execFcrAck m v s
  | .faultAssert m => Sys2Proof.Machine.execFaultAssert m s
  | .faultRelease m => Sys2Proof.Machine.execFaultRelease m s
  | .sevWrite m n v => Sys2Proof.Machine.execSevWrite m n v s
  | .ringEnable m v => Sys2Proof.Machine.execRingEnable m v s
  | .snapSwTrigger m => Sys2Proof.Machine.execSnapSwTrigger m s
  | .snapArmTime m => Sys2Proof.Machine.execSnapArmTime m s
  | .snapDisarmTime m => Sys2Proof.Machine.execSnapDisarmTime m s
  | .snapTimeMatch second => Sys2Proof.Machine.execSnapTimeMatch second s
  | .snapInPulse ns => Sys2Proof.Machine.execSnapInPulse ns s
  | .pcieSnapMsg vendor word => Sys2Proof.Machine.execPcieSnapMsg vendor word s
  | .snapLatch b lat => Sys2Proof.Machine.execSnapLatch b lat s
  | .pcieAccess bar2 write offset len data => Sys2Proof.Machine.execPcieAccess bar2 write offset len data s
  | .perst => Sys2Proof.Machine.execPerst s
  | .flr => Sys2Proof.Machine.execFlr s
  | .msixEoi m v => Sys2Proof.Machine.execMsixEoi m v s
  | .msixUnmask m n => Sys2Proof.Machine.execMsixUnmask m n s
  | .hostDbWrite m n v => Sys2Proof.Machine.execHostDbWrite m n v s
  | .mspiRead seq waddr edges busy => Sys2Proof.Machine.execMspiRead seq waddr edges busy s
  | .mspiWrite seq waddr data edges busy => Sys2Proof.Machine.execMspiWrite seq waddr data edges busy s
  | .mspiNop edges => Sys2Proof.Machine.execMspiNop edges s
  | .mspiWordDiscard edges => Sys2Proof.Machine.execMspiWordDiscard edges s
  | .jtagExtest => Sys2Proof.Machine.execJtagExtest s
  | .jtagTestLogicReset => Sys2Proof.Machine.execJtagTestLogicReset s
  | .jtagDebug => Sys2Proof.Machine.execJtagDebug s
  | .jtagFuseProg advance root hash0 uid => Sys2Proof.Machine.execJtagFuseProg advance root hash0 uid s
  | .faultNExternalLow low => Sys2Proof.Machine.execFaultNExternalLow low s
  | .pcieLinkChange up width rate => Sys2Proof.Machine.execPcieLinkChange up width rate s
  | .aclkSwitchDone => Sys2Proof.Machine.execAclkSwitchDone s
  | .rtuLoopLoadDone => Sys2Proof.Machine.execRtuLoopLoadDone s

end Sys2Proof.Machine
end

