-- ==== Sys2Proof/Safety.lean ====
section
/-! DEFINITION. What counts as a safe state and a safe run, in the terms the statements use. -/

namespace Sys2Proof.Machine

/-- The boot core's TCM holds the one canonical form; an offset that is not listed reads 0. -/
def Tcm.wf (m : List Host.Cell) : Bool := scanon (fun _ => 0#8) m

/-- The one-way fuses of g stand where those of f stand or further on, inside the range of their states (R386, R387). -/
def Fuses.From (f g : Fuses) : Prop :=
  f.lc ≤ g.lc ∧ g.lc ≤ 3 ∧ f.svn ≤ g.svn ∧ g.svn ≤ 64 ∧ (f.revoked0 = true → g.revoked0 = true) ∧ (f.revoked1 = true → g.revoked1 = true)

/-- What a state is held against: a queue of waiting commands, fuses that have been programmed, and the times the timescale may read. -/
structure Base where
  queue : List Instr
  fuses : Fuses
  clock : Nat → Prop

/-- A queue, a register space, the byte memories, a profile and programmed fuses: the queue is the base's, each store is in its one canonical form so that equal contents are equal data, the profile is one of R4, no fuse of the base has been taken back, and the timescale reads a time the base admits. -/
def TidyParts (Q : Base) (p : List Instr) (r : List (Nat × W)) (m t : List Host.Cell) (prof : Nat) (f : Fuses) (n : Nat) : Prop :=
  p = Q.queue ∧ Registers.wf r = true ∧ Memory.wf m = true ∧ Tcm.wf t = true ∧ prof < 4 ∧ Q.fuses.From f ∧ Q.clock n

/-- A state is tidy against a base. -/
def State.Tidy (Q : Base) (s : State) : Prop := TidyParts Q s.pending s.regs s.mem s.tcm s.profile s.keys.programmed s.now

/-- What a state is by itself: its own base, at any time. -/
def State.base (s : State) : Base := ⟨s.pending, s.keys.programmed, fun _ => True⟩

/-- A state is legal: its stores are in canonical form, its profile is one of the four of R4, and its programmed lifecycle and security version are among those of R386. -/
def State.Legal (s : State) : Prop :=
  Registers.wf s.regs = true ∧ Memory.wf s.mem = true ∧ Tcm.wf s.tcm = true ∧ s.profile < 4 ∧
    s.keys.programmed.lc ≤ 3 ∧ s.keys.programmed.svn ≤ 64

/-- An access of a word at a location by a master of Table 15.3 passes on its way (R34): no reset is held, no response of Table 2.5 other than OKAY applies before its page considers it, and the management pause does not bar it. -/
def State.Passes (s : State) (m : Requester) (a : Nat) (kind : TxnKind) : Prop :=
  m.num < 12 ∧ s.inHold = false ∧ s.gate m a 4 kind = none ∧ s.pauseBars m a kind = false

/-- The state in which an access that passes reaches its page: the answer is cleared and its target has granted it. -/
def State.arrived (s : State) (m : Requester) (a : Nat) : State := ({ s with answer := {} }).grantNow m a

/-- What a reset of the whole device leaves (R399, R455, Table 2.9): every register at its reset value but KSU_GLITCH_LOG, which holds log; no key; the fuses as programmed; the timescale at 0 in SPAN; of the memories the flash alone, with the bytes it had. -/
def State.ColdFrom (s t : State) (log : W) : Prop :=
  (∀ a, t.rd a = if a = Reg.KSU_GLITCH_LOG then log else resetVal a) ∧ t.keys.keys = [] ∧ t.keys.fuses = s.keys.programmed ∧
    t.keys.programmed = s.keys.programmed ∧ t.now = 0 ∧ t.profile = 0 ∧ t.tcm = [] ∧
    ∀ a, t.rdByte a = if isFlash a then s.rdByte a else memDefault a

/-- No snapshot trigger was accepted within the last 8 µs (R438). -/
def State.cutFree (s : State) : Prop := ∀ x, s.fcr.lastTrigger = some x → x + 8000 ≤ s.now

/-- A cut has begun: it carries the sequence number after the last one and the present time, and SNAP_OUT goes low (R437, R439, R455). -/
def State.CutBegun (s t : State) : Prop :=
  t.fcr.cut = some ((s.fld Reg.FCR_SNAP_STATUS 15 0 + 1) % 65536, s.now) ∧ t.fcr.latched = [] ∧ .snapOut s.now ∈ t.out ∧
    t.fld Reg.FCR_SNAP_STATUS 15 0 = (s.fld Reg.FCR_SNAP_STATUS 15 0 + 1) % 65536

/-- A write of v to the location at a goes by the common rule: it lies outside the header, the mirrors and the shadow copies, is no half of a pair, and has no effect of its own. -/
def PlainAt (a v : Nat) : Prop :=
  0x100 ≤ offOf a ∧ offOf a < 0x8000 ∧ blockOf a ≠ 5 ∧ loOf a = none ∧ hiOf a = none ∧ ∀ (u : State) (m : Requester), u.ownWrite m a (v % 2 ^ 32) 0 = none

/-- lo and hi are the halves of a register pair that has no effect of its own, outside the header. -/
def PairAt (lo hi v : Nat) : Prop :=
  0x100 ≤ offOf lo ∧ offOf lo < 0x8000 ∧ 0x100 ≤ offOf hi ∧ offOf hi < 0x8000 ∧ hi ≠ lo ∧ blockOf lo ≠ 5 ∧ blockOf hi = blockOf lo ∧
    hiOf lo = some hi ∧ loOf hi = some lo ∧ loOf lo = none ∧
    (∀ (u : State) (m : Requester) (x : Nat), u.ownWrite m lo x 0 = none ∧ u.ownWrite m hi (v % 2 ^ 32) 0 = none)

/-- The register of row r at a accepts a write of v: it is not locked, and in RUN the write would change no static or shadowed field (R44, R51). -/
def State.Accepts (s : State) (a v : Nat) (r : RegRow) : Prop :=
  masksAt (blockOf a) (pageNo a) (offOf a) = some r ∧ isWatermark r = false ∧ s.isLocked a r.lock = false ∧
    (s.curOf (blockOf a) (pageNo a) = sRUN → ((s.rdN a ^^^ v) &&& (r.rwi ||| r.rws)) = 0)

/-- What the register of row r at a holds after an accepted write of v: the writable fields take v, those of write-1-to-clear clear where v has 1 and stay set where hardware sets them in the same instant (hw), and every field is kept within its range. -/
def State.written (s : State) (a v hw : Nat) (r : RegRow) : W :=
  normalWord a (w32 (mergeMask (mergeMask (s.rdN a) v (if s.curOf (blockOf a) (pageNo a) = sRUN then r.rw else r.rw ||| (r.rwi ||| r.rws))) 0 (v &&& r.w1c)
    ||| (hw &&& r.w1c)))

/-- A command that may move the timescale otherwise than by its running: a reset of the device or of the RTU, the epoch boundary itself, a step of the time (R302, R475), and the commands that carry an access to an address of their own choice, since a write to RTU_TIME_CMD or to the RTU's CTRL may be among them. -/
def movesTime : Instr → Bool
  | .powerOnReset | .coldReset _ | .glitchTrip _ _ _ | .jtagExtest | .deviceWarmReset | .epochBoundary => true
  | .timeStep _ | .timeStepRef _ | .qualComplete _ _ _ _ _ => true
  | .reqIsolated _ b _ => b % 16 == 5
  | .regWrite _ _ _ | .pairLoWrite _ _ _ | .pairHiWrite _ _ _ | .stickyClear _ _ _ _ | .forceWrite _ _ _ _ | .lockWrite _ _ _ _
  | .wmClrCount _ _ | .shadowWrite _ _ _ | .msixEoi _ _ | .msixUnmask _ _ | .hostDbWrite _ _ _ => true
  | .bmxGrant _ _ | .lrReserve _ _ _ | .scAttempt _ _ _ _ | .amoExec _ _ _ _ _ | .coreRetry _ | .pcieAccess _ _ _ _ _
  | .mspiRead _ _ _ _ | .mspiWrite _ _ _ _ _ => true
  | _ => false

/-- A requester may ask page k of block b for a state: its write to the page's CTRL passes, the page has a state of its own that may change, and no transition is in progress (R38). -/
def State.Asks (s : State) (m : Requester) (b k : Nat) : Prop :=
  b < 16 ∧ k < 256 ∧ fixedBlock b = false ∧ (k = 0 ∨ ownState b k = true) ∧ s.busy (statePage b k) = false ∧ s.Passes m (hCTRL (pageAddr b k)) .write

/-- a is the shadow copy of a register of row r that has shadowed fields (R45); the BMX has none. -/
def ShadowAt (a : Nat) (r : RegRow) : Prop :=
  isRegAddr a = true ∧ blockOf a ≠ 1 ∧ 0x8000 ≤ offOf a ∧ offOf a < 0xF000 ∧ masksAt (blockOf a) (pageNo a) (offOf (a - 0x8000)) = some r ∧ r.rws ≠ 0

/-- A requester may arm page k of block b: its write to SHADOW_CTRL passes, the page flips, it is neither armed nor committed, and it is no page of the CXF group while the CXF runs (R46, R77). -/
def State.MayArm (s : State) (m : Requester) (b k : Nat) : Prop :=
  b < 16 ∧ k < 256 ∧ s.Passes m (hSHADOW (pageAddr b k)) .write ∧ canFlip (pageAddr b k) = true ∧ s.cxfGuard (pageAddr b k) = false ∧
    s.shadowHeld (pageAddr b k) = false

/-- The state in which the image of a load has been copied: the time it took is kept, and the load is as given (R98). -/
def State.copied (s : State) (l : ImageLoad) : State := (s.setFld Reg.GSE_IMG_LOAD_US 23 0 ((s.now - l.started) / 1000)).setLoad (some l)

/-- The state in which port n of the GSE has issued a command: its serial has moved on and the command is counted (R105). -/
def State.issued (s : State) (n : Nat) : State :=
  ({ s with geyser := { s.geyser with serials := setNth s.geyser.serials n ((nthD s.geyser.serials n 0 + 1) % 1024) } }).bump (Reg.GSE_P_ISSUED (n + 1))

/-- Datagram n of transmit flow entry e of index i of MAC q, by its kind; none while its data is incomplete (R215, R218). -/
def State.datagram (s : State) (q i e n : Nat) : Option (List Byte) :=
  match tfKind e with
  | 0 => (s.rowPacket e n).map (·.1)
  | 3 => some (s.ancPacket q i e n).1
  | 4 => s.sixPacket q e n
  | _ => (s.audioPacket e n).map (·.1)

/-- Counter c of MAC q for port, queue or flow i. -/
def State.macCnt (s : State) (q c i : Nat) : Nat := s.rdN (hid (Reg.FMAC_M_CNT (q + 1)) (c * 256 + i))

/-- The source has been raised: its bit of its page's STICKY is set (Table 2.12, R425). -/
def State.raised (s : State) (src : Nat) : Bool := s.bit (hSTICKY (pageAddr (srcBlock src) (srcPage src))) (16 + srcBit src)

/-- The state in which the sensors have taken a sample of readings, with the sensors that fail in it marked (R142, R148). -/
def State.sampled (s : State) (readings : List Int) : State :=
  ((List.range 28).foldl (fun u i => u.sensorRead s.power.changed.isEmpty i (clampInt (-32768) 32767 (nthD readings i (s.temp i))))
    (if s.power.changed.isEmpty then { s with power := { s.power with changed := List.replicate 28 s.now } } else s)).sensorMarks

/-- The fields of a record fit the widths that Table 14.4 gives them, and its body fits LEN. -/
def recFits (r : CtlRec) : Prop :=
  match r with
  | .status _ _ p d q _ i h => p < 4 ∧ d < 8 ∧ q < 16 ∧ i < 2 ^ 32 ∧ h < 2 ^ 32
  | .time _ d q raw => d < 8 ∧ q < 16 ∧ -2 ^ 31 ≤ raw ∧ raw < 2 ^ 31
  | .ptpDs d => d.gm < 2 ^ 64 ∧ d.clockClass < 256 ∧ d.accuracy < 256 ∧ d.variance < 65536 ∧ d.priority1 < 256 ∧ d.priority2 < 256 ∧ d.steps < 65536 ∧
      d.timeSource < 256 ∧ d.utcOffset < 65536
  | .take tag op S T l _ => tag < 2 ^ 14 ∧ op < 4 ∧ S < 2 ^ 64 ∧ T < 2 ^ 64 ∧ l.length ≤ 506 ∧ ∀ m ∈ l, m.1 < 65536 ∧ m.2 < 65536
  | .agree tag _ reason => tag < 2 ^ 14 ∧ reason < 16
  | .imageArm e i h => e < 2 ^ 24 ∧ i < 2 ^ 32 ∧ h < 2 ^ 32
  | .prof op p e i h => op < 4 ∧ p < 4 ∧ e < 2 ^ 24 ∧ i < 2 ^ 32 ∧ h < 2 ^ 32
  | .sync slot k stamp => slot < 8192 ∧ k < 2 ^ 24 ∧ stamp < 2 ^ 64
  | .audSlip port n stamp => port < 128 ∧ n < 2 ^ 64 ∧ stamp < 2 ^ 64
  | .fence e _ ep => e < 64 ∧ ep < 2 ^ 24
  | .hash e first l => e < 2 ^ 24 ∧ first < 65536 ∧ l.length < 256 ∧ ∀ h ∈ l, h < 2 ^ 64
  | .role op roles e => op < 4 ∧ roles < 4 ∧ e < 2 ^ 24
  | .lane a e => a < 65536 ∧ e < 2 ^ 24
  | .snap t => t < 2 ^ 64

/-- The header fields of a slot message fit the widths that Table 14.3 gives them. -/
def SlotHead.Fits (m : SlotHead) : Prop :=
  m.seq < 65536 ∧ m.ack < 65536 ∧ m.health < 4 ∧ m.roles < 4 ∧ m.pstate < 4 ∧ m.lane < 16 ∧ m.lanesOk < 65536 ∧ m.slot < 2 ^ 24 ∧ m.epoch < 2 ^ 24

/-- What a command of the control, security, power and twin families leaves alone: every part of the state but those named. A raise may change registers, the record ring in memory, what leaves the device, the FCR's engine and the twin's outbox (RaiseCompletes says of these what it may change). -/
def controlKeeps (c : Instr) (s t : State) : Prop :=
  match c with
  | .jtagTestLogicReset | .jtagDebug =>
    { t with board := s.board } = s
  | .resvExpire _ | .flr =>
    { t with bus := s.bus } = s
  | .jtagFuseProg _ _ _ _ =>
    { t with keys := s.keys } = s
  | .chunkWaitRepeat _ =>
    { t with out := s.out } = s
  | .creditTick | .smbalert _ _ | .hbEdge =>
    { t with regs := s.regs } = s
  | .roleGiveRx _ _ | .roleTakeRx _ | .roleCancelRx _ | .holdoffExpire =>
    { t with twin := s.twin } = s
  | .perst | .pcieLinkChange _ _ _ =>
    { t with bus := s.bus, board := s.board } = s
  | .mtimecmpMatch _ =>
    { t with regs := s.regs, ctl := s.ctl } = s
  | .prefetchDone _ =>
    { t with regs := s.regs, geyser := s.geyser, store := s.store } = s
  | .fuseProgDone =>
    { t with regs := s.regs, keys := s.keys } = s
  | .profReadyRx =>
    { t with regs := s.regs, power := s.power } = s
  | .statusRx _ _ _ _ _ _ _ _ | .laneRx _ _ =>
    { t with regs := s.regs, twin := s.twin } = s
  | .ucodeLoadDone _ =>
    { t with regs := s.regs, upd := s.upd } = s
  | .bmxSubburstNext _ =>
    { t with regs := s.regs, out := s.out, bus := s.bus } = s
  | .slotTx | .ctlResend =>
    { t with regs := s.regs, out := s.out, twin := s.twin } = s
  | .snapLatch _ _ =>
    { t with regs := s.regs, out := s.out, ctl := s.ctl, fcr := s.fcr } = s
  | .updStagingDone _ =>
    { t with regs := s.regs, mem := s.mem, freeCount := s.freeCount, board := s.board, upd := s.upd } = s
  | .pmbusTxnFail _ _ _ | .pmbusClkTimeout _ _ | .laneFail _ | .spareActivate | .hashRx _ _ _ | .snapRx _ | .chainLockLoss _ | .faultRaise _ _ _ | .fcrLateRecords | .snapTimeMatch _ | .snapInPulse _ | .pcieSnapMsg _ _ =>
    { t with regs := s.regs, mem := s.mem, out := s.out, fcr := s.fcr, twin := s.twin } = s
  | .updPauseTimeout | .updPrimaryDone =>
    { t with regs := s.regs, mem := s.mem, out := s.out, freeCount := s.freeCount, upd := s.upd } = s
  | .sramScrub _ =>
    { t with regs := s.regs, mem := s.mem, out := s.out, ctl := s.ctl, fcr := s.fcr, twin := s.twin } = s
  | .hpdIrq | .updVerifyDone | .mspiNop _ | .mspiWordDiscard _ | .faultNExternalLow _ =>
    { t with regs := s.regs, mem := s.mem, out := s.out, fcr := s.fcr, board := s.board, twin := s.twin } = s
  | .imageArmRx _ _ _ =>
    { t with regs := s.regs, mem := s.mem, out := s.out, fcr := s.fcr, geyser := s.geyser, twin := s.twin } = s
  | .slackStale | .railPoll _ _ _ _ _ _ | .powerAverage =>
    { t with regs := s.regs, mem := s.mem, out := s.out, fcr := s.fcr, twin := s.twin, power := s.power } = s
  | .chunkAckRx _ _ =>
    { t with regs := s.regs, mem := s.mem, out := s.out, fcr := s.fcr, twin := s.twin, upd := s.upd } = s
  | .trngHealthFail =>
    { t with regs := s.regs, mem := s.mem, out := s.out, keys := s.keys, fcr := s.fcr, twin := s.twin } = s
  | .profCancelRx =>
    { t with regs := s.regs, out := s.out, armed := s.armed, geyser := s.geyser, twin := s.twin, power := s.power } = s
  | .pmapSeal _ _ | .pmapWrite _ _ _ | .selftestOk _ | .selftestClr _ | .release _ | .revertNow _ | .faultAssert _ | .faultRelease _ | .sevWrite _ _ _ | .ringEnable _ _ | .snapSwTrigger _ | .snapArmTime _ | .snapDisarmTime _ =>
    { t with regs := s.regs, mem := s.mem, answer := s.answer, out := s.out, bus := s.bus, fcr := s.fcr, twin := s.twin } = s
  | .wdtExpire =>
    { t with regs := s.regs, mem := s.mem, out := s.out, bus := s.bus, ctl := s.ctl, fcr := s.fcr, twin := s.twin } = s
  | .calOpDone _ _ =>
    { t with regs := s.regs, mem := s.mem, out := s.out, fcr := s.fcr, board := s.board, twin := s.twin, power := s.power } = s
  | .ksuOpDone _ _ =>
    { t with regs := s.regs, mem := s.mem, out := s.out, freeCount := s.freeCount, keys := s.keys, fcr := s.fcr, twin := s.twin } = s
  | .cpcRestartAll _ | .hartRestart _ _ | .hartNmi _ _ | .wdtKick _ _ | .plicClaim _ _ | .plicComplete _ _ _ | .mboxWrite _ _ _ =>
    { t with regs := s.regs, mem := s.mem, answer := s.answer, out := s.out, bus := s.bus, ctl := s.ctl, fcr := s.fcr, twin := s.twin } = s
  | .lcAdvance _ | .svnInc _ | .revoke0 _ | .revoke1 _ | .slotWrite _ _ | .slotClear _ _ | .slotLock _ _ | .ksuSha384 _ _ _ | .ksuHmac _ _ _ | .ksuKdf _ _ | .ksuGcmEncrypt _ _ | .ksuGcmDecrypt _ _ | .ksuEcdsaSign _ _ | .ksuEcdsaVerify _ _ | .ksuEcdh _ _ | .ksuGenerate _ _ =>
    { t with regs := s.regs, mem := s.mem, answer := s.answer, out := s.out, bus := s.bus, keys := s.keys, fcr := s.fcr, twin := s.twin } = s
  | .profReqRx _ _ _ _ | .profForceRx _ =>
    { t with regs := s.regs, mem := s.mem, out := s.out, armed := s.armed, fcr := s.fcr, geyser := s.geyser, twin := s.twin, power := s.power } = s
  | .chunkResend _ =>
    { t with regs := s.regs, mem := s.mem, out := s.out, freeCount := s.freeCount, fcr := s.fcr, board := s.board, twin := s.twin, upd := s.upd } = s
  | .bootRom _ =>
    { t with regs := s.regs, mem := s.mem, tcm := s.tcm, out := s.out, freeCount := s.freeCount, keys := s.keys, fcr := s.fcr, twin := s.twin } = s
  | .hartRunWrite _ _ =>
    { t with regs := s.regs, mem := s.mem, answer := s.answer, out := s.out, bus := s.bus, ctl := s.ctl, keys := s.keys, fcr := s.fcr, twin := s.twin } = s
  | .railEnable _ _ _ _ | .calLoad _ | .calSave _ =>
    { t with regs := s.regs, mem := s.mem, answer := s.answer, out := s.out, bus := s.bus, fcr := s.fcr, board := s.board, twin := s.twin, power := s.power } = s
  | .profReq _ _ _ | .profReqNext _ _ | .profCancel _ =>
    { t with regs := s.regs, mem := s.mem, answer := s.answer, out := s.out, armed := s.armed, bus := s.bus, fcr := s.fcr, geyser := s.geyser, twin := s.twin, power := s.power } = s
  | _ => True

/-- What a command of the fabric, media, storage, audio and timing families leaves alone: every part of the state but those named. -/
def mediaKeeps (c : Instr) (s t : State) : Prop :=
  match c with
  | .audSlipRx _ _ _ =>
    { t with aud := s.aud } = s
  | .pxpFrameStart _ _ | .fenceRx _ _ _ =>
    { t with engines := s.engines } = s
  | .ptpFollowUpRx _ _ _ _ _ _ | .ptpDsRx _ | .rtuLoopLoadDone =>
    { t with ref := s.ref } = s
  | .eyeScanDone _ _ | .aclkSwitchDone =>
    { t with regs := s.regs } = s
  | .syncRx _ _ _ =>
    { t with store := s.store } = s
  | .slfBurstTx _ _ | .slfMarkerTx _ =>
    { t with out := s.out, lanes := s.lanes } = s
  | .ptpMgmtTx _ =>
    { t with out := s.out, ref := s.ref } = s
  | .laneLock _ | .lockRecoveryTimeout _ | .rxRetrainDone _ =>
    { t with regs := s.regs, lanes := s.lanes } = s
  | .pllLock _ _ | .slfSleepRx _ | .ticCalUpdate _ | .ptpDelayReqRx _ _ _ _ _ =>
    { t with regs := s.regs, out := s.out } = s
  | .ticTimeout | .ptpDelayRespRx _ _ _ _ _ _ =>
    { t with regs := s.regs, ref := s.ref } = s
  | .stackPowerDown _ | .stackWake _ _ =>
    { t with regs := s.regs, store := s.store } = s
  | .fencePoint _ =>
    { t with twin := s.twin, engines := s.engines } = s
  | .fstZeroFillDone _ =>
    { t with regs := s.regs, mem := s.mem, store := s.store } = s
  | .aesFrameTx _ _ =>
    { t with regs := s.regs, out := s.out, aud := s.aud } = s
  | .carryDone _ | .cellRelease _ _ | .lateCellRelease _ =>
    { t with regs := s.regs, out := s.out, fabric := s.fabric } = s
  | .auxDeferRetry =>
    { t with regs := s.regs, out := s.out, mon := s.mon } = s
  | .pboDrawDone | .toutEdge _ | .ptpSyncTx _ _ | .ptpAnnounceTx _ =>
    { t with regs := s.regs, out := s.out, ref := s.ref } = s
  | .mergeLegTimeout _ _ | .portLinkChange _ _ _ _ _ _ _ | .linkTrainDone _ _ _ _ _ | .loClkFault _ _ =>
    { t with regs := s.regs, mem := s.mem, out := s.out, fcr := s.fcr, twin := s.twin } = s
  | .pllLockTimeout _ =>
    { t with regs := s.regs, mem := s.mem, out := s.out, awaiting := s.awaiting, fcr := s.fcr, twin := s.twin } = s
  | .runDescExec _ _ | .gapExec _ _ | .planeListDone _ _ | .cellAssemble _ _ _ =>
    { t with regs := s.regs, mem := s.mem, out := s.out, fcr := s.fcr, fabric := s.fabric, twin := s.twin } = s
  | .pllUnlock _ _ | .syncHeaderInvalid _ _ | .slfBurstRx _ _ _ | .slfMarkerRx _ _ | .rxWake _ _ | .adaptStep _ _ _ _ _ =>
    { t with regs := s.regs, mem := s.mem, out := s.out, fcr := s.fcr, lanes := s.lanes, twin := s.twin } = s
  | .sfeInputLossTimeout _ _ =>
    { t with regs := s.regs, mem := s.mem, out := s.out, fcr := s.fcr, sdi := s.sdi, twin := s.twin } = s
  | .hostFrameTx _ _ | .scrubRead _ _ =>
    { t with regs := s.regs, mem := s.mem, out := s.out, fcr := s.fcr, store := s.store, twin := s.twin } = s
  | .aesFrameRx _ _ _ _ _ _ _ | .aesLossTimeout _ | .audSampleInstant _ _ | .wsFrameRx _ _ _ _ _ _ | .wsFrameTx _ _ =>
    { t with regs := s.regs, mem := s.mem, out := s.out, fcr := s.fcr, twin := s.twin, aud := s.aud } = s
  | .auxReply _ _ | .auxTimeout =>
    { t with regs := s.regs, mem := s.mem, out := s.out, fcr := s.fcr, twin := s.twin, mon := s.mon } = s
  | .qmMsgRx _ _ | .qmMissing _ | .refClkLoss _ | .refFpMiss _ | .dpllUpdate _ _ | .dpllLock | .wtrExpire | .disqualExpire _ | .holdoverSpecExpire | .slewClampLimit | .refFpPulse _ _ | .ptpDelayReqTx _ _ | .ptpSyncRx _ _ _ _ _ _ _ | .ptpAnnounceRx _ _ _ _ | .ptpBmca | .ptpAnnounceTimeout _ | .hbLoss | .aloneExpire | .partnerTimeout | .pairEstablish | .timeRx _ _ _ _ =>
    { t with regs := s.regs, mem := s.mem, out := s.out, fcr := s.fcr, twin := s.twin, ref := s.ref } = s
  | .txSleepSet _ _ _ | .txSleepClear _ _ _ | .eyeScanStart _ _ _ | .sfeCtxWrite _ _ _ _ _ _ | .secTxAnWrite _ _ _ | .fenceWrite _ _ _ | .linkTrain _ _ | .aclkFamilyWrite _ _ =>
    { t with regs := s.regs, mem := s.mem, answer := s.answer, out := s.out, bus := s.bus, fcr := s.fcr, twin := s.twin } = s
  | .hpdUnplug | .hpdPlug =>
    { t with regs := s.regs, mem := s.mem, out := s.out, fcr := s.fcr, board := s.board, twin := s.twin, mon := s.mon } = s
  | .audSourceCell _ _ =>
    { t with regs := s.regs, mem := s.mem, out := s.out, fcr := s.fcr, fabric := s.fabric, twin := s.twin, aud := s.aud } = s
  | .mediaPktTx _ _ _ =>
    { t with regs := s.regs, mem := s.mem, out := s.out, fcr := s.fcr, lanes := s.lanes, mac := s.mac, twin := s.twin } = s
  | .mrsFrameStart | .mrsMaxUsExpire | .mrsUnderrun =>
    { t with regs := s.regs, mem := s.mem, out := s.out, fcr := s.fcr, store := s.store, twin := s.twin, mon := s.mon } = s
  | .alignSlip _ _ _ =>
    { t with regs := s.regs, mem := s.mem, answer := s.answer, out := s.out, bus := s.bus, fcr := s.fcr, lanes := s.lanes, twin := s.twin } = s
  | .bmxTransaction _ _ _ _ _ =>
    { t with regs := s.regs, mem := s.mem, answer := s.answer, out := s.out, bus := s.bus, fcr := s.fcr, store := s.store, twin := s.twin } = s
  | .mrsFrameReadyWrite _ _ | .auxNativeWrite _ _ _ | .auxNativeRead _ _ _ | .auxI2cWrite _ _ _ _ | .auxI2cRead _ _ _ _ =>
    { t with regs := s.regs, mem := s.mem, answer := s.answer, out := s.out, bus := s.bus, fcr := s.fcr, twin := s.twin, mon := s.mon } = s
  | .phaseAdjWrite _ _ | .dpllModeWrite _ _ | .selForceWrite _ _ | .toutOffsetWrite _ _ _ | .toutRealign _ _ | .ticArm _ _ =>
    { t with regs := s.regs, mem := s.mem, answer := s.answer, out := s.out, bus := s.bus, fcr := s.fcr, twin := s.twin, ref := s.ref } = s
  | .fstReadDone _ _ _ _ =>
    { t with regs := s.regs, mem := s.mem, out := s.out, fcr := s.fcr, fabric := s.fabric, store := s.store, twin := s.twin, mon := s.mon } = s
  | .pxpLineComposite _ _ =>
    { t with regs := s.regs, mem := s.mem, out := s.out, fcr := s.fcr, store := s.store, twin := s.twin, engines := s.engines, mon := s.mon } = s
  | .sfeLineRx _ _ _ =>
    { t with regs := s.regs, mem := s.mem, out := s.out, fcr := s.fcr, fabric := s.fabric, lanes := s.lanes, sdi := s.sdi, store := s.store, twin := s.twin } = s
  | .flowCellClose _ _ =>
    { t with regs := s.regs, mem := s.mem, out := s.out, fcr := s.fcr, fabric := s.fabric, sdi := s.sdi, mac := s.mac, store := s.store, twin := s.twin } = s
  | .chunkRx _ _ _ _ | .chunkAbortRx _ _ _ _ _ =>
    { t with regs := s.regs, mem := s.mem, out := s.out, freeCount := s.freeCount, fcr := s.fcr, board := s.board, store := s.store, twin := s.twin, upd := s.upd } = s
  | .drainEnd _ _ =>
    { t with regs := s.regs, mem := s.mem, answer := s.answer, out := s.out, draining := s.draining, bus := s.bus, fcr := s.fcr, fabric := s.fabric, store := s.store, twin := s.twin } = s
  | .frameRx _ _ _ _ _ _ =>
    { t with regs := s.regs, mem := s.mem, out := s.out, fcr := s.fcr, fabric := s.fabric, lanes := s.lanes, sdi := s.sdi, mac := s.mac, store := s.store, twin := s.twin } = s
  | _ => True

/-- A run of n steps is safe: no step of it ends in a fault or a refusal. -/
def State.SafeRun (n : Nat) (s : State) : Prop :=
  match n with
  | 0 => True
  | n + 1 => ∃ t, step s = .next t ∧ t.SafeRun n

end Sys2Proof.Machine
end

