-- ==== Sys2Proof/WellFormed.lean ====
section
/-! DEFINITION. When a command is well formed: its operands lie in the ranges that the spec's registers, ports, lanes, messages and words give them. An ill-formed command still has an outcome (exec takes indices modulo their range); nothing is claimed about the spec there. -/

namespace Sys2Proof

/-- n lies below b. -/
def lt (n b : Nat) : Bool := Nat.blt n b

/-- A requester is one of the twelve masters of Table 15.3; only the harts carry a mode below machine (R366). -/
def Requester.wf (m : Requester) : Bool := lt m.num 12 && (m.mode == .machine || (Nat.ble 1 m.num && Nat.ble m.num 4))

/-- The requester is a hart, the one source of exclusive and atomic accesses (R383). -/
def coreNum (m : Requester) : Bool := Nat.ble 1 m.num && Nat.ble m.num 4

/-- A word address in register space (R25, R29). -/
def regAddr (a : Nat) : Bool := Nat.ble 0x40000000 a && Nat.blt a 0x50000000 && a % 4 == 0

/-- Blocks of a serial lane carry 64 bits, control blocks 56 (R162). -/
def blocksOk (l : List (Bool × Nat)) : Bool := l.all (fun b => Nat.blt b.2 (2 ^ 64))

/-- A source ID names a fault source that its page has (R425, R426). -/
def knownSource (src : Nat) : Bool := lt src 65536 && lt (src % 32) (Machine.faultCount (src / 4096 % 16) (src / 32 % 128))

/-- The fields of a line cell fit the descriptor token (Table 3.2), and its payload fills whole tokens. -/
def LineCell.wf (c : LineCell) : Bool :=
  lt c.essence 16384 && lt c.format 65536 && lt c.frameCount (2 ^ 32) && lt c.line 65536 && lt c.seq (2 ^ 32) && lt c.ptpTime (2 ^ 64) &&
    lt c.outputId 16384 && lt c.pcrc (2 ^ 32) && lt c.dcrc (2 ^ 32) && c.payload.length % 64 == 0

/-- The fields of a PTP dataset fit their octets (IEEE 1588-2019 13.5.1). -/
def PtpDs.wf (d : PtpDs) : Bool :=
  lt d.gm (2 ^ 64) && lt d.clockClass 256 && lt d.accuracy 256 && lt d.variance 65536 && lt d.priority1 256 && lt d.priority2 256 &&
    lt d.steps 65536 && lt d.timeSource 256 && lt d.utcOffset 65536

/-- The words of an ancillary packet are 10-bit words (R71). -/
def AncPkt.wf (p : AncPkt) : Bool :=
  lt p.did 1024 && lt p.sdid 1024 && lt p.dc 1024 && lt p.cs 1024 && p.words.all (fun n => Nat.blt n 1024)

/-- A received line's samples have at most 12 bits and its audio groups are 1 to 8 (R184, R186). -/
def SdiLine.wf (l : SdiLine) : Bool :=
  l.anc.all AncPkt.wf && l.audio.all (fun a => Nat.ble 1 a.group && Nat.ble a.group 8) && l.video.all (fun n => Nat.blt n 4096)

/-- The command is well formed. -/
def Instr.wf (i : Instr) : Bool :=
  match i with
  | .powerOnReset => true
  | .coldReset _ => true
  | .glitchTrip die _ _ => lt die 4
  | .bootRom _ => true
  | .pmapSeal m v => m.wf && lt v (2 ^ 32)
  | .pmapWrite m n v => m.wf && lt n 640 && lt v (2 ^ 32)
  | .hartRunWrite m v => m.wf && lt v (2 ^ 32)
  | .reqOff m b k => m.wf && lt b 16 && lt k 256
  | .reqIsolated m b k => m.wf && lt b 16 && lt k 256
  | .reqIdle m b k => m.wf && lt b 16 && lt k 256
  | .reqRun m b k => m.wf && lt b 16 && lt k 256
  | .drainEnd b k => lt b 16 && lt k 256
  | .regWrite m addr v => m.wf && regAddr addr && lt v (2 ^ 32)
  | .pairLoWrite m addr v => m.wf && regAddr addr && lt v (2 ^ 32)
  | .pairHiWrite m addr v => m.wf && regAddr addr && lt v (2 ^ 32)
  | .pairLoRead m addr => m.wf && regAddr addr
  | .stickyClear m addr v hw => m.wf && regAddr addr && lt v (2 ^ 32) && lt hw (2 ^ 32)
  | .forceWrite m b k v => m.wf && lt b 16 && lt k 256 && lt v (2 ^ 32)
  | .lockWrite m b k v => m.wf && lt b 16 && lt k 256 && lt v (2 ^ 32)
  | .wmClrCount m addr => m.wf && regAddr addr
  | .shadowWrite m addr v => m.wf && regAddr addr && lt v (2 ^ 32)
  | .shadowArm m b k epoch => m.wf && lt b 16 && lt k 256 && lt epoch (2 ^ 24)
  | .shadowArmNext m b k => m.wf && lt b 16 && lt k 256
  | .shadowCancel m b k => m.wf && lt b 16 && lt k 256
  | .shadowCommit b k => lt b 16 && lt k 256
  | .epochBoundary => true
  | .slackStale => true
  | .loopDownStep => true
  | .runDescExec p _ => lt p 16
  | .gapExec p _ => lt p 16
  | .planeListDone p _ => lt p 16
  | .carryDone p => lt p 16
  | .cellAssemble die c _ => lt die 2 && c.wf
  | .cellRelease dst i => lt dst (2 ^ 14) && lt i (2 ^ 16)
  | .lateCellRelease dst => lt dst (2 ^ 14)
  | .imgLoad m epoch => m.wf && lt epoch (2 ^ 24)
  | .imgLoadNext m => m.wf
  | .imgCancel m => m.wf
  | .imgCopyDone => true
  | .takeCmd m n _ => m.wf && lt n 8
  | .salvoCmd m n count _ => m.wf && lt n 8 && lt count (2 ^ 14)
  | .takeCancelCmd m n tag => m.wf && lt n 8 && lt tag (2 ^ 14)
  | .takeArm => true
  | .takeCommit => true
  | .prefetchDone src => lt src (2 ^ 14)
  | .creditTick => true
  | .profReq m profile epoch => m.wf && lt profile 4 && lt epoch (2 ^ 24)
  | .profReqNext m profile => m.wf && lt profile 4
  | .profCancel m => m.wf
  | .rampStep => true
  | .profCommit => true
  | .settleStep => true
  | .sensorSample readings => readings.length == 28
  | .railPoll k vout iout _ _ status => lt 0 k && lt k 9 && lt vout 65536 && lt iout 65536 && lt status 65536
  | .railEnable m k v mode => m.wf && lt 0 k && lt k 9 && lt v (2 ^ 32) && lt mode 256
  | .pmbusTxnFail k _ _ => lt 0 k && lt k 9
  | .pmbusClkTimeout k _ => lt 0 k && lt k 9
  | .smbalert master words => lt master 2 && words.all (fun n => Nat.blt n 65536)
  | .powerAverage => true
  | .calLoad m => m.wf
  | .calSave m => m.wf
  | .calOpDone _ _ => true
  | .pllLock q _ => lt q 128
  | .pllLockTimeout q => lt q 128
  | .pllUnlock q _ => lt q 128
  | .syncHeaderInvalid lane _ => lt lane 530
  | .laneLock lane => lt lane 530
  | .lockRecoveryTimeout lane => lt lane 530
  | .alignSlip m q v => m.wf && lt q 128 && lt v (2 ^ 32)
  | .slfBurstRx lane header body => lt lane 512 && lt header (2 ^ 64) && blocksOk body
  | .slfMarkerRx lane payload => lt lane 512 && lt payload (2 ^ 56)
  | .slfSleepRx lane => lt lane 512
  | .rxWake lane _ => lt lane 512
  | .rxRetrainDone lane => lt lane 512
  | .slfBurstTx lane stream => lt lane 512 && lt stream 8
  | .slfMarkerTx lane => lt lane 512
  | .txSleepSet m q v => m.wf && lt q 128 && lt v (2 ^ 32)
  | .txSleepClear m q v => m.wf && lt q 128 && lt v (2 ^ 32)
  | .eyeScanStart m q v => m.wf && lt q 128 && lt v (2 ^ 32)
  | .eyeScanDone q _ => lt q 128
  | .adaptStep lane setting _ eyeW eyeH => lt lane 528 && lt setting 5 && lt eyeW 256 && lt eyeH 256
  | .sfeCtxWrite m q dir i w v => m.wf && lt q 128 && lt dir 2 && lt i 32 && lt w 4 && lt v (2 ^ 32)
  | .sfeLineRx lane stream line => lt lane 512 && lt stream 8 && line.wf
  | .sfeInputLossTimeout q i => lt q 128 && lt i 32
  | .sfeLineTx lane stream n line => lt lane 512 && lt stream 8 && lt n (2 ^ 16) && lt line (2 ^ 16)
  | .frameRx q port _ _ _ _ => lt q 128 && lt port 4
  | .flowCellClose q i => lt q 128 && lt i 256
  | .mergeLegTimeout q i => lt q 128 && lt i 256
  | .mediaPktTx q i _ => lt q 128 && lt i 256
  | .hostFrameTx q port => lt q 128 && lt port 4
  | .portLinkChange q port _ _ _ _ _ => lt q 128 && lt port 4
  | .secTxAnWrite m q v => m.wf && lt q 128 && lt v (2 ^ 32)
  | .fstZeroFillDone _ => true
  | .fstReadDone _ _ tok _ => lt tok (2 ^ 512)
  | .stackPowerDown st => lt st 4
  | .stackWake st _ => lt st 4
  | .scrubRead st _ => lt st 4
  | .pxpFrameStart e _ => lt e 64
  | .pxpLineComposite e line => lt e 64 && lt line (2 ^ 16)
  | .fenceWrite m n v => m.wf && lt n 256 && lt v (2 ^ 32)
  | .fencePoint e => lt e 64
  | .mrsFrameStart => true
  | .mrsMaxUsExpire => true
  | .mrsFrameReadyWrite m v => m.wf && lt v (2 ^ 32)
  | .mrsUnderrun => true
  | .auxNativeWrite m addr len => m.wf && lt addr (2 ^ 20) && lt len 16
  | .auxNativeRead m addr len => m.wf && lt addr (2 ^ 20) && lt len 16
  | .auxI2cWrite m _ addr len => m.wf && lt addr (2 ^ 20) && lt len 16
  | .auxI2cRead m _ addr len => m.wf && lt addr (2 ^ 20) && lt len 16
  | .auxReply kind data => lt kind 3 && Nat.ble data.length 16
  | .auxDeferRetry => true
  | .auxTimeout => true
  | .hpdIrq => true
  | .hpdUnplug => true
  | .hpdPlug => true
  | .linkTrain m v => m.wf && lt v (2 ^ 32)
  | .linkTrainDone result swing preemph lanes _ => lt 0 result && lt result 4 && lt swing 16 && lt preemph 16 && lt lanes 16
  | .aesFrameRx p w0 w1 _ _ _ _ => lt p 64 && lt w0 (2 ^ 32) && lt w1 (2 ^ 32)
  | .aesLossTimeout p => lt p 64
  | .audSampleInstant rate _ => lt rate 7
  | .audSourceCell g _ => lt g 512
  | .aesFrameTx p _ => lt p 64
  | .wsFrameRx w _ left right _ _ => lt w 4 && lt left (2 ^ 32) && lt right (2 ^ 32)
  | .wsFrameTx w _ => lt w 4
  | .qmMsgRx n _ => lt n 2
  | .qmMissing n => lt n 2
  | .refClkLoss n => lt n 2
  | .refFpMiss n => lt n 2
  | .dpllUpdate _ _ => true
  | .dpllLock => true
  | .wtrExpire => true
  | .qualComplete _ _ _ _ _ => true
  | .disqualExpire c => lt c 4
  | .pboDrawDone => true
  | .holdoverSpecExpire => true
  | .slewClampLimit => true
  | .loClkFault _ _ => true
  | .timeStep m => m.wf
  | .timeStepRef m => m.wf
  | .phaseAdjWrite m v => m.wf && lt v (2 ^ 32)
  | .dpllModeWrite m v => m.wf && lt v (2 ^ 32)
  | .selForceWrite m v => m.wf && lt v (2 ^ 32)
  | .aclkFamilyWrite m v => m.wf && lt v (2 ^ 32)
  | .toutEdge k => lt k 8
  | .toutOffsetWrite m k v => m.wf && lt k 8 && lt v (2 ^ 32)
  | .toutRealign m k => m.wf && lt k 8
  | .refFpPulse n _ => lt n 2
  | .ticArm m v => m.wf && lt v (2 ^ 32)
  | .ticCapture source _ bin => lt source 16 && lt bin 250
  | .ticTimeout => true
  | .ticCalUpdate counts => counts.length == 250
  | .ptpSyncTx p _ => lt p 8
  | .ptpAnnounceTx p => lt p 8
  | .ptpDelayReqTx p _ => lt p 8
  | .ptpMgmtTx p => lt p 8
  | .ptpSyncRx p sender port seq _ _ _ => lt p 8 && lt sender (2 ^ 64) && lt port 65536 && lt seq (2 ^ 16)
  | .ptpFollowUpRx p sender port seq _ _ => lt p 8 && lt sender (2 ^ 64) && lt port 65536 && lt seq (2 ^ 16)
  | .ptpDelayReqRx p sender port seq _ => lt p 8 && lt sender (2 ^ 64) && lt port 65536 && lt seq (2 ^ 16)
  | .ptpDelayRespRx p sender port seq _ _ => lt p 8 && lt sender (2 ^ 64) && lt port 65536 && lt seq (2 ^ 16)
  | .ptpAnnounceRx p sender port ds => lt p 8 && lt sender (2 ^ 64) && lt port 65536 && ds.wf
  | .ptpBmca => true
  | .ptpAnnounceTimeout p => lt p 8
  | .hbEdge => true
  | .hbLoss => true
  | .aloneExpire => true
  | .slotTx => true
  | .slotMsgRx lane _ blocks => lt lane 16 && blocksOk blocks
  | .partnerTimeout => true
  | .pairEstablish => true
  | .ctlResend => true
  | .laneFail k => lt k 16
  | .spareActivate => true
  | .statusRx _ _ profile dpll ql _ imageId hdrCrc => lt profile 4 && lt dpll 8 && lt ql 16 && lt imageId (2 ^ 32) && lt hdrCrc (2 ^ 32)
  | .timeRx _ dpll ql _ => lt dpll 8 && lt ql 16
  | .ptpDsRx ds => ds.wf
  | .twinTakeRx tag op stamp time members _ => lt tag (2 ^ 14) && lt op 4 && lt stamp (2 ^ 64) && lt time (2 ^ 64) && members.all (fun p => Nat.blt p.1 (2 ^ 14) && Nat.blt p.2 (2 ^ 14))
  | .agreeRx tag _ reason => lt tag (2 ^ 14) && lt reason 16
  | .imageArmRx epoch imageId hdrCrc => lt epoch (2 ^ 24) && lt imageId (2 ^ 32) && lt hdrCrc (2 ^ 32)
  | .profReqRx profile epoch imageId hdrCrc => lt profile 4 && lt epoch (2 ^ 24) && lt imageId (2 ^ 32) && lt hdrCrc (2 ^ 32)
  | .profReadyRx => true
  | .profCancelRx => true
  | .profForceRx epoch => lt epoch (2 ^ 24)
  | .syncRx slot k stamp => lt slot 8192 && lt k (2 ^ 24) && lt stamp (2 ^ 64)
  | .audSlipRx port instant stamp => lt port 128 && lt instant (2 ^ 64) && lt stamp (2 ^ 64)
  | .fenceRx engine _ epoch => lt engine 64 && lt epoch (2 ^ 24)
  | .hashRx epoch first hashes => lt epoch (2 ^ 24) && lt first (2 ^ 16) && hashes.all (fun n => Nat.blt n (2 ^ 64))
  | .roleGiveRx roles epoch => lt roles 4 && lt epoch (2 ^ 24)
  | .roleTakeRx epoch => lt epoch (2 ^ 24)
  | .roleCancelRx epoch => lt epoch (2 ^ 24)
  | .laneRx active epoch => lt active 65536 && lt epoch (2 ^ 24)
  | .snapRx time => lt time (2 ^ 64)
  | .holdoffExpire => true
  | .selftestOk m => m.wf
  | .selftestClr m => m.wf
  | .release m => m.wf
  | .revertNow m => m.wf
  | .cpcRestartAll m => m.wf
  | .hartRestart m h => m.wf && lt h 4
  | .hartNmi m h => m.wf && lt h 4
  | .wdtKick m v => m.wf && lt v (2 ^ 32)
  | .wdtExpire => true
  | .plicClaim m c => m.wf && lt c 9
  | .plicComplete m c n => m.wf && lt c 9 && lt n 32
  | .mtimecmpMatch h => lt h 5
  | .mboxWrite m n v => m.wf && lt n 4 && lt v (2 ^ 32)
  | .sramScrub _ => true
  | .bmxTransaction m _ addr len _ => m.wf && lt addr (2 ^ 40) && lt len 4097
  | .bmxGrant t _ => lt t 24
  | .bmxSubburstNext m => lt m 12
  | .coreRetry m => lt m 6
  | .lrReserve m addr len => m.wf && coreNum m && lt addr (2 ^ 40) && (len == 4 || len == 8)
  | .scAttempt m addr len data => m.wf && coreNum m && lt addr (2 ^ 40) && (len == 4 || len == 8) && lt data (2 ^ 64)
  | .amoExec m _ addr len data => m.wf && coreNum m && lt addr (2 ^ 40) && (len == 4 || len == 8) && lt data (2 ^ 64)
  | .resvExpire h => lt h 4
  | .lcAdvance m => m.wf
  | .svnInc m => m.wf
  | .revoke0 m => m.wf
  | .revoke1 m => m.wf
  | .fuseProgDone => true
  | .slotWrite m slot => m.wf && lt slot 64
  | .slotClear m slot => m.wf && lt slot 64
  | .slotLock m slot => m.wf && lt slot 64
  | .ksuSha384 m c phase => m.wf && lt c 4 && lt phase 4
  | .ksuHmac m c phase => m.wf && lt c 4 && lt phase 4
  | .ksuKdf m c => m.wf && lt c 4
  | .ksuGcmEncrypt m c => m.wf && lt c 4
  | .ksuGcmDecrypt m c => m.wf && lt c 4
  | .ksuEcdsaSign m c => m.wf && lt c 4
  | .ksuEcdsaVerify m c => m.wf && lt c 4
  | .ksuEcdh m c => m.wf && lt c 4
  | .ksuGenerate m c => m.wf && lt c 4
  | .ksuOpDone _ _ => true
  | .trngHealthFail => true
  | .chainLockLoss port => lt port 2
  | .chunkRx port head data cend => lt port 2 && lt head (2 ^ 56) && data.all (fun n => Nat.blt n (2 ^ 64)) && lt cend (2 ^ 56)
  | .chunkAbortRx port seq session hops cend => lt port 2 && lt seq (2 ^ 16) && lt session (2 ^ 16) && lt hops 16 && lt cend (2 ^ 56)
  | .chunkAckRx port payload => lt port 2 && lt payload (2 ^ 56)
  | .chunkResend port => lt port 2
  | .chunkWaitRepeat port => lt port 2
  | .updLoad m port hops => m.wf && lt port 2 && lt hops 16
  | .updActivate m port => m.wf && lt port 2
  | .updAbort m port => m.wf && lt port 2
  | .updResume m port => m.wf && lt port 2
  | .updVerifyDone => true
  | .updStagingDone _ => true
  | .updPauseTimeout => true
  | .ucodeLoadDone _ => true
  | .updPrimaryDone => true
  | .faultRaise src _ _ => knownSource src
  | .fcrWindowEnd => true
  | .deviceWarmReset => true
  | .fcrLateRecords => true
  | .fcrAck m v => m.wf && lt v (2 ^ 32)
  | .faultAssert m => m.wf
  | .faultRelease m => m.wf
  | .sevWrite m n v => m.wf && lt n 248 && lt v (2 ^ 32)
  | .ringEnable m v => m.wf && lt v (2 ^ 32)
  | .snapSwTrigger m => m.wf
  | .snapArmTime m => m.wf
  | .snapDisarmTime m => m.wf
  | .snapTimeMatch _ => true
  | .snapInPulse _ => true
  | .pcieSnapMsg vendor word => lt vendor 65536 && lt word (2 ^ 32)
  | .snapLatch b _ => lt b 16
  | .pcieAccess bar2 _ offset _ _ => lt offset (if bar2 then 2 ^ 36 else 2 ^ 28)
  | .perst => true
  | .flr => true
  | .msixEoi m v => m.wf && lt v (2 ^ 32)
  | .msixUnmask m n => m.wf && lt n 512
  | .hostDbWrite m n v => m.wf && lt n 16 && lt v (2 ^ 32)
  | .mspiRead seq waddr _ _ => lt seq 65536 && lt waddr (2 ^ 26)
  | .mspiWrite seq waddr data _ _ => lt seq 65536 && lt waddr (2 ^ 26) && lt data (2 ^ 32)
  | .mspiNop _ => true
  | .mspiWordDiscard _ => true
  | .jtagExtest => true
  | .jtagTestLogicReset => true
  | .jtagDebug => true
  | .jtagFuseProg _ root hash0 uid => lt root (2 ^ 256) && lt hash0 (2 ^ 384) && lt uid (2 ^ 64)
  | .faultNExternalLow _ => true
  | .pcieLinkChange _ _ _ => true
  | .aclkSwitchDone => true
  | .rtuLoopLoadDone => true

end Sys2Proof
end

