-- ==== Sys2Proof/Certificates/Slice0/Obligations.lean ====
section
/-! DEFINITION. The statements about the device: what a step does, what each command does where it completes, what it leaves alone, and the invariants of the whole machine. -/

open Sys2Proof Sys2Proof.Machine

/-- A step takes the command at the front of the queue and runs it with the queue's rest (the model's queue; the block's commands come first in, first out). -/
def Obligations.StepRunsFrontCommand : Prop :=
  ∀ (c : Instr) (r : List Instr) (s : State), s.pending = c :: r → step s = exec c { s with pending := r }

/-- On an empty queue one tick of TCLK passes: 1 ns of the timescale, over an epoch boundary where one is reached, and nothing while the RTU is OFF, when the epoch boundary does nothing either (DESIGN CHOICE, log entry 1). -/
def Obligations.IdleStepIsOneTick : Prop :=
  (∀ s : State, s.pending = [] →
    (s.clockRuns = false → step s = .next s) ∧
    (s.clockRuns = true → (s.now + 1) % s.epochNs ≠ 0 → step s = .next { s with now := s.now + 1 }) ∧
    (s.clockRuns = true → (s.now + 1) % s.epochNs = 0 → step s = exec .epochBoundary s)) ∧
  (∀ s : State, s.clockRuns = false → exec .epochBoundary s = .next s)

/-- No command of the device ends in a fault or a refusal: each has an effect or an answer of Table 2.5. -/
def Obligations.EveryCommandAnswers : Prop :=
  ∀ (c : Instr) (s : State), ∃ t, exec c s = .next t

/-- Every step from a legal state leads to a legal state: the register space and the memories keep their one canonical form, the profile stays one of R4, the programmed lifecycle and security version stay in their ranges. -/
def Obligations.StepKeepsLegal : Prop :=
  ∀ s t : State, s.Legal → step s = .next t → t.Legal

/-- The state after reset is legal. -/
def Obligations.ResetIsLegal : Prop :=
  State.reset.Legal

/-- No command touches the queue: what waits after it is what waited before it. -/
def Obligations.CommandsLeaveTheQueue : Prop :=
  ∀ (c : Instr) (s t : State), s.Legal → exec c s = .next t → t.pending = s.pending

/-- No command takes back a programmed fuse: the lifecycle never moves back (R386), the security version never falls, a revoked key hash stays revoked. -/
def Obligations.FusesNeverGoBack : Prop :=
  ∀ (c : Instr) (s t : State), s.Legal → exec c s = .next t → s.keys.programmed.From t.keys.programmed

/-- What the commands of the control, security, power and twin families leave alone: whenever one completes, every part of the state outside those that controlKeeps names for it is as before. -/
def Obligations.FramesOfControlCommands : Prop :=
  ∀ (c : Instr) (s t : State), exec c s = .next t → controlKeeps c s t

/-- What the commands of the fabric, media, storage, audio and timing families leave alone: whenever one completes, every part of the state outside those that mediaKeeps names for it is as before. -/
def Obligations.FramesOfMediaCommands : Prop :=
  ∀ (c : Instr) (s t : State), exec c s = .next t → mediaKeeps c s t

/-- A register that the reset leaves at its stated value: the states of Table 2.9, every register at the value its table gives (a value given per device is log entry 9), and no command waiting. -/
def Obligations.ResetState : Prop :=
  State.reset.pending = [] ∧ State.reset.now = 0 ∧ State.reset.profile = 0 ∧
  (∀ b, b < 16 → State.reset.cur b = if b = 2 ∨ b = 5 then sIDLE else if b < 6 then sRUN else sOFF) ∧
  (∀ a, State.reset.rd a = resetVal a)

/-- Only a reset, a step of the time, the epoch boundary and an access that may reach the RTU's registers move the timescale; every other command leaves it where it is (R12, R300, R302, R475). -/
def Obligations.TimescaleMovesOnly : Prop :=
  ∀ (c : Instr) (s t : State), s.Legal → movesTime c = false → exec c s = .next t → t.now = s.now

/-- The epoch (R10): it is 125 us long in SPAN, DENSE and COOL and 31.25 us in SWIFT; epoch n is in progress exactly from n times that length on, up to the start of epoch n + 1; its number is a 64-bit count, read as the pair CXF_EPOCH. The epoch boundary brings the timescale to the start of the next epoch, in the epoch length of the epoch that ends. -/
def Obligations.EpochBoundaryCompletes : Prop :=
  (∀ s : State, s.Legal → (s.profile = 0 ∨ s.profile = 2 ∨ s.profile = 3 → s.epochNs = 125000) ∧ (s.profile = 1 → s.epochNs = 31250)) ∧
  (∀ (n : Nat) (s : State), s.Legal → (s.epoch = n ↔ n * s.epochNs ≤ s.now ∧ s.now < (n + 1) * s.epochNs)) ∧
  (∀ s : State, (s.view Reg.CXF_EPOCH_LO).toNat + (s.view Reg.CXF_EPOCH_HI).toNat * 2 ^ 32 = s.epoch % 2 ^ 64) ∧
  (∀ s : State, s.Legal → s.clockRuns = true →
    ∃ t, exec .epochBoundary s = .next t ∧ t.now = (s.now / epochLen s.profile + 1) * epochLen s.profile ∧ s.now < t.now)

/-- Restarts and the watchdog: a warm restart takes every reservation, notes its cause and restarts the watchdog's count; a restart of one hart takes that hart's reservation; an NMI is delivered to a released hart; any write to CPC_WDT_KICK restarts the count (R371, R372). The key slots (R399): a cold reset, a power-on reset and a glitch response each zero every slot and set it EMPTY (its status word is 0 and it holds no key byte); a warm restart of the CPC, by CPC_RESTART or by the watchdog, leaves the slots as they were. -/
def Obligations.RestartsComplete : Prop :=
  (∀ (m : Requester) (s : State), s.Passes m Reg.CPC_RESTART .write →
    ∃ t, exec (.cpcRestartAll m) s = .next t ∧ t.bus.resv = [] ∧ t.ctl.wdtStart = s.now ∧ t.bit Reg.CPC_RESET_CAUSE 2 = true) ∧
  (∀ (m : Requester) (h : Nat) (s : State), h < 4 → s.released h = true → s.Passes m (Reg.CPC_H_CTRL (h + 1)) .write →
    ∃ t, exec (.hartRestart m h) s = .next t ∧ (∀ r ∈ t.bus.resv, r.1 ≠ h) ∧ t.bit Reg.CPC_STATUS h = true) ∧
  (∀ (m : Requester) (h : Nat) (s : State), h < 4 → s.released h = true → s.Passes m (Reg.CPC_H_CTRL (h + 1)) .write →
    ∃ t, exec (.hartNmi m h) s = .next t ∧ t.ctl.nmis = setNth s.ctl.nmis h (nthD s.ctl.nmis h 0 + 1) ∧ (∀ r ∈ t.bus.resv, r.1 ≠ h)) ∧
  (∀ (m : Requester) (v : Nat) (s : State), s.Passes m Reg.CPC_WDT_KICK .write →
    ∃ t, exec (.wdtKick m v) s = .next t ∧ t.ctl.wdtStart = s.now ∧ t.answer.resp = .okay) ∧
  (∀ s : State, s.bit Reg.CPC_WDT_CFG 31 = true →
    ∃ t, exec .wdtExpire s = .next t ∧ t.bus.resv = [] ∧ t.ctl.wdtStart = s.now ∧ t.bit Reg.CPC_RESET_CAUSE 3 = true) ∧
  (∀ (s : State) (slot : Nat), slot < 64 → ∃ t, exec .powerOnReset s = .next t ∧ t.slotWord slot = 0 ∧ t.slotKey slot = []) ∧
  (∀ (n : Nat) (s : State) (slot : Nat), 1000 ≤ n → slot < 64 → ∃ t, exec (.coldReset n) s = .next t ∧ t.slotWord slot = 0 ∧ t.slotKey slot = []) ∧
  (∀ (die : Nat) (step level : Bool) (s : State) (slot : Nat), die < 4 → slot < 64 →
    ∃ t, exec (.glitchTrip die step level) s = .next t ∧ t.slotWord slot = 0 ∧ t.slotKey slot = []) ∧
  (∀ (m : Requester) (s : State) (slot : Nat), s.Passes m Reg.CPC_RESTART .write → slot < 64 →
    ∃ t, exec (.cpcRestartAll m) s = .next t ∧ t.slotWord slot = s.slotWord slot ∧ t.slotKey slot = s.slotKey slot) ∧
  (∀ (s : State) (slot : Nat), slot < 64 →
    ∃ t, exec .wdtExpire s = .next t ∧ t.slotWord slot = s.slotWord slot ∧ t.slotKey slot = s.slotKey slot)

/-- Interrupts, timers and the SRAM scrubber: a claim answers the best ready source and marks it claimed, a completion opens its gateway, a compare that mtime has reached asserts the hart's timer, a mailbox holds what was written, and the scrubber goes on to the next word (R365, R368, R369). -/
def Obligations.InterruptsComplete : Prop :=
  (∀ (m : Requester) (c : Nat) (s : State), c < 9 → s.Passes m (Reg.CPC_PLIC_CLAIM c) .read →
    ∃ t, exec (.plicClaim m c) s = .next t ∧ t.answer.resp = .okay ∧
      t.answer.data = (s.arrived m (Reg.CPC_PLIC_CLAIM c)).plicBest c ∧
      t.ctl.plicClaimed = (if t.answer.data = 0 then s.ctl.plicClaimed else s.ctl.plicClaimed ||| 2 ^ t.answer.data)) ∧
  (∀ (m : Requester) (c n : Nat) (s : State), c < 9 → 0 < n → n < 32 → s.bit (Reg.CPC_PLIC_EN c) n = true → s.ctl.plicClaimed.testBit n = true →
    s.Passes m (Reg.CPC_PLIC_CLAIM c) .write →
    ∃ t, exec (.plicComplete m c n) s = .next t ∧ t.ctl.plicClaimed = s.ctl.plicClaimed - 2 ^ n) ∧
  (∀ (h : Nat) (s : State), h < 5 → s.mtimecmp h ≤ s.now % 2 ^ 64 →
    ∃ t, exec (.mtimecmpMatch h) s = .next t ∧ t.ctl.mtip = setNth s.ctl.mtip h true) ∧
  (∀ (m : Requester) (n v : Nat) (s : State), n < 4 → s.Passes m (Reg.CPC_MBOX n) .write →
    ∃ t, exec (.mboxWrite m n v) s = .next t ∧ t.rdN (Reg.CPC_MBOX n) = v % 2 ^ 32) ∧
  (∀ (e : Ecc) (s : State), s.bit Reg.CPC_SCRUB_CFG 31 = false →
    ∃ t, exec (.sramScrub e) s = .next t ∧ t.ctl.scrubAddr = (s.ctl.scrubAddr + 8) % 0x400000)

/-- The resets of the whole device (R399, R405, R454, R455): power-on reset, COLD_RST_N, a glitch trip and a boundary-scan instruction leave every register at its reset value but the glitch log, empty every key slot, keep the flash and the programmed fuses; a low of COLD_RST_N below 1 µs does nothing; Test-Logic-Reset ends the boundary-scan hold and nothing else. (The values that the spec gives per device are log entry 9, and what memory reads as after a power-on is log entry 6.) -/
def Obligations.ResetsComplete : Prop :=
  (∀ s : State, ∃ t, exec .powerOnReset s = .next t ∧ s.ColdFrom t 0#32 ∧ t.board.jtagHeld = s.board.jtagHeld) ∧
  (∀ (n : Nat) (s : State), 1000 ≤ n → ∃ t, exec (.coldReset n) s = .next t ∧ s.ColdFrom t (s.rd Reg.KSU_GLITCH_LOG)) ∧
  (∀ (n : Nat) (s : State), n < 1000 → exec (.coldReset n) s = .next s) ∧
  (∀ (die : Nat) (step level : Bool) (s : State), die < 4 →
    ∃ t, exec (.glitchTrip die step level) s = .next t ∧
      s.ColdFrom t (w32 (2 ^ 31 + die * 256 + (s.rdN Reg.KSU_GLITCH_LOG % 4 ||| (b2n step * 2 + b2n level))))) ∧
  (∀ s : State, ∃ t, exec .jtagExtest s = .next t ∧ s.ColdFrom t (s.rd Reg.KSU_GLITCH_LOG) ∧ t.board.jtagHeld = true ∧ t.inHold = true) ∧
  (∀ s : State, exec .jtagTestLogicReset s = .next { s with board := { s.board with jtagHeld := false } })

/-- The device warm reset of a Critical escalation, once it is due (R433, R434): it ends the wait for itself, puts the FCR out of RUN until it returns, goes back to SPAN and to the start of the timescale, takes every reservation, names DEVICE_WARM as a cause, and keeps the programmed fuses; while none is due the command does nothing. The FCR's return ends that state and lets no late raise wait. The ROM's run (Table 16.3): with no flash it halts the boot core under code 0xEE with reason 6; else the first bank that passes its checks is entered, the second under code 5 with the reason of the first; when neither passes the boot core halts with the reason of the second. It runs once: a second run, or one while a reset is held, does nothing. -/
def Obligations.WarmResetAndBootComplete : Prop :=
  (∀ (s : State) (d : Nat), s.fcr.resetDue = some d →
    ∃ t, exec .deviceWarmReset s = .next t ∧ t.fcr.resetDue = none ∧ t.fcr.inReset = true ∧ t.profile = 0 ∧ t.now = 0 ∧ t.bus.resv = [] ∧
      t.armed = [] ∧ t.bit Reg.CPC_RESET_CAUSE 1 = true ∧ t.keys.programmed = s.keys.programmed) ∧
  (∀ s : State, s.fcr.resetDue = none → exec .deviceWarmReset s = .next s) ∧
  (∀ s : State, s.fcr.inReset = true → ∃ t, exec .fcrLateRecords s = .next t ∧ t.fcr.inReset = false ∧ t.fcr.lateRaises = []) ∧
  (∀ (f : Bool) (s : State), s.inHold = false → s.keys.booted = false → s.rdN Reg.KSU_GLITCH_LOG = 0 →
    ∃ t, exec (.bootRom f) s = .next t ∧ t.keys.booted = true ∧
      t.rdN Reg.CPC_B_STAGE =
        (if f = false then 0xEE060000
         else if s.checkBank 0 = 0 then 4 * 2 ^ 24
         else if s.checkBank 0x400000 = 0 then 5 * 2 ^ 24 + s.checkBank 0 * 2 ^ 16
         else 0xEE * 2 ^ 24 + s.checkBank 0x400000 * 2 ^ 16) ∧
      t.keys.halted = (s.keys.halted || f == false || (s.checkBank 0 != 0 && s.checkBank 0x400000 != 0))) ∧
  (∀ (f : Bool) (s : State), s.inHold = true ∨ s.keys.booted = true → exec (.bootRom f) s = .next s)

/-- The protection map and the release of the harts (R33, R392, R395): before the seal a map word takes what is written within the fixed entries, and writing 1 to BMX_PMAP_SEAL seals it; after the seal a write to the map is answered LOCKED and changes no map word; CPC_HART_RUN releases the harts it names once the map is sealed, and is answered STATE before. JTAG (Table 19.5, R386, R454): DEBUG opens the debug modules except in DEPLOYED, where it acts as BYPASS; FUSE_PROG programs the given fuses in BLANK, advances the lifecycle alone in PROVISIONED and acts as BYPASS elsewhere. Nothing but the fuses as programmed, or the debug modules, changes. -/
def Obligations.MapSealAndJtagComplete : Prop :=
  (∀ (m : Requester) (n v : Nat) (s : State), s.Passes m (mapAddr n) .write → s.isSealed = false →
    ∃ t, exec (.pmapWrite m n v) s = .next t ∧ t.answer.resp = .okay ∧
      t.rd (mapAddr n) = w32 (mergeMask (s.rdN (mapAddr n)) v (fixedClassMask (mapAddr n)))) ∧
  (∀ (m : Requester) (n v : Nat) (s : State), s.Passes m (mapAddr n) .write → s.isSealed = true →
    ∃ t, exec (.pmapWrite m n v) s = .next t ∧ t.answer.resp = .locked ∧ ∀ k, t.rd (mapAddr k) = s.rd (mapAddr k)) ∧
  (∀ (m : Requester) (v : Nat) (s : State), s.Passes m Reg.BMX_PMAP_SEAL .write → s.isSealed = false →
    ∃ t, exec (.pmapSeal m v) s = .next t ∧ t.isSealed = v.testBit 0) ∧
  (∀ (m : Requester) (v : Nat) (s : State), s.Passes m Reg.CPC_HART_RUN .write → s.isSealed = true →
    ∃ t, exec (.hartRunWrite m v) s = .next t ∧ ∀ h, h < 4 → t.released h = (v.testBit h || s.released h)) ∧
  (∀ (m : Requester) (v : Nat) (s : State), s.Passes m Reg.CPC_HART_RUN .write → s.isSealed = false →
    ∃ t, exec (.hartRunWrite m v) s = .next t ∧ t.answer.resp = .state ∧ t.rd Reg.CPC_HART_RUN = s.rd Reg.CPC_HART_RUN) ∧
  (∀ s : State, ∃ t, exec .jtagDebug s = .next t ∧ t.board.debugOpen = (s.board.debugOpen || s.keys.fuses.lc != 2) ∧
    { t with board := s.board } = s) ∧
  (∀ (adv : Bool) (root hash uid : Nat) (s : State), s.keys.fuses.lc = 0 → s.keys.programmed.lc = 0 →
    ∃ t, exec (.jtagFuseProg adv root hash uid) s = .next t ∧
      t.keys.programmed = { s.keys.programmed with root := some root, hash0 := some hash, uid := uid % 2 ^ 64, lc := b2n adv } ∧
      { t with keys := s.keys } = s ∧ t.keys.fuses = s.keys.fuses) ∧
  (∀ (adv : Bool) (root hash uid : Nat) (s : State), s.keys.fuses.lc = 1 → s.keys.programmed.lc = 1 →
    ∃ t, exec (.jtagFuseProg adv root hash uid) s = .next t ∧
      t.keys.programmed = { s.keys.programmed with lc := if adv then 2 else 1 } ∧ { t with keys := s.keys } = s) ∧
  (∀ (adv : Bool) (root hash uid : Nat) (s : State), 2 ≤ s.keys.fuses.lc → exec (.jtagFuseProg adv root hash uid) s = .next s)

/-- A fault source that rises sets its sticky bit, is the last source noted, and counts for its block; the sticky bits of every other source that were set stay set, and an error of a hart's cache or of the boot core's TCM is counted where it rose (R365); nothing else changes outside the FCR, the sticky registers, the pending bits of MSI-X, the record ring in memory, what the device sends and the twin's records in waiting (R425, R428). A raise writes memory only in the record ring in force (R431). -/
def Obligations.RaiseCompletes : Prop :=
  (∀ (src detail addr : Nat) (s : State), sourceExists src = true →
    (srcBlock src = 3 → 1 ≤ srcPage src → elementHas (srcPage src) (srcBit src) = true) →
    ∃ t, exec (.faultRaise src detail addr) s = .next t ∧
      t.bit (hSTICKY (pageAddr (srcBlock src) (srcPage src))) (16 + srcBit src) = true ∧
      (∀ p n, p % 0x10000 = 0 → s.bit (hSTICKY p) n = true → t.bit (hSTICKY p) n = true) ∧
      { t with regs := s.regs, mem := s.mem, out := s.out, fcr := s.fcr, twin := s.twin } = s ∧
      (src = Src.CPC_CACHE_ECC → t.rdN (Reg.CPC_H_CACHE_ECC_CNT (detail % 4 + 1)) = (s.rdN (Reg.CPC_H_CACHE_ECC_CNT (detail % 4 + 1)) + 1) % 2 ^ 32) ∧
      (src = Src.CPC_TCM_UNCORR → t.rdN Reg.CPC_B_TCM_UNCORR_CNT = (s.rdN Reg.CPC_B_TCM_UNCORR_CNT + 1) % 2 ^ 32 ∧
        t.rdN Reg.CPC_B_TCM_ECC_ADDR = detail % 0x10000 / 8 * 8) ∧
      ∀ a, ¬ (0x43000000 ≤ a ∧ a < 0x44000000 ∧ 0x100 ≤ offOf a) → offOf a ≠ 0x18 → ¬ (0x41303000 ≤ a ∧ a < 0x41304000) →
        ¬ (src = Src.CPC_CACHE_ECC ∧ a = Reg.CPC_H_CACHE_ECC_CNT (detail % 4 + 1)) →
        ¬ (src = Src.CPC_TCM_UNCORR ∧ (a = Reg.CPC_B_TCM_UNCORR_CNT ∨ a = Reg.CPC_B_TCM_ECC_ADDR)) → t.rd a = s.rd a) ∧
  (∀ (src detail addr : Nat) (s t : State) (a : Nat), exec (.faultRaise src detail addr) s = .next t →
    ¬ (s.fcr.ringBase ≤ a ∧ a < s.fcr.ringBase + 32 * s.ringSlots) → t.rdByte a = s.rdByte a)

/-- The handling of records (R430, R432, R433): an acknowledgement that names the open record before its window ends closes it, with the time it took; one that names an escalated record is late and acknowledges it; the window's end closes the record, and where it is Critical a device warm reset falls due 100 µs later and the escalation cause of FAULT_N is set. -/
def Obligations.RecordsComplete : Prop :=
  (∀ (m : Requester) (v : Nat) (s : State), s.Passes m Reg.FCR_ACK .write → s.fcr.isOpen = true → s.fld (recA 6) 31 16 = v % 65536 →
    (∀ w, s.fcr.winEnd = some w → s.now < w) →
    ∃ t, exec (.fcrAck m v) s = .next t ∧ t.fcr.isOpen = false ∧ t.bit (recA 0) 12 = true ∧
      t.rdN (recA 7) = min ((s.now - s.fcr.created) / 1000) 0xFFFFFFFF) ∧
  (∀ (m : Requester) (v : Nat) (s : State), s.Passes m Reg.FCR_ACK .write → s.fcr.isOpen = false →
    (∃ e ∈ s.fcr.escalations, e.seq = v % 65536) →
    ∃ t, exec (.fcrAck m v) s = .next t ∧
      t.fcr.escalations = s.fcr.escalations.map (fun e => if e.seq = v % 65536 then { e with acked := true } else e)) ∧
  (∀ s : State, s.fcr.isOpen = true → s.fcr.winEnd ≠ none → s.fcr.escSev = 3 →
    ∃ t, exec .fcrWindowEnd s = .next t ∧ t.fcr.isOpen = false ∧ t.fcr.resetDue = some (s.now + 100000) ∧
      t.bit Reg.FCR_FAULT_STATUS 0 = true) ∧
  (∀ s : State, s.fcr.isOpen = true → s.fcr.winEnd ≠ none → s.fcr.escSev < 2 →
    ∃ t, exec .fcrWindowEnd s = .next t ∧ t.fcr.isOpen = false ∧ t.fcr.resetDue = s.fcr.resetDue ∧ t.fcr.escalations = s.fcr.escalations) ∧
  (∀ s : State, s.fcr.isOpen = false ∨ s.fcr.winEnd = none → exec .fcrWindowEnd s = .next s)

/-- FAULT_N, the severity table and the ring (R427, R431, R435): the software cause is set and cleared; the pin's level is noted and changes no register unless it goes low with no cause of the device's own; a severity word takes its existing bits, or is answered LOCKED once lock group 0 is set; enabling the ring takes its base and size and empties it. -/
def Obligations.FaultPinAndRingComplete : Prop :=
  (∀ (m : Requester) (s : State), s.Passes m Reg.FCR_CTRL .write →
    (∃ t, exec (.faultAssert m) s = .next t ∧ t.bit Reg.FCR_FAULT_STATUS 3 = true ∧ t.bit Reg.FCR_FAULT_STATUS 0 = s.bit Reg.FCR_FAULT_STATUS 0) ∧
    (∃ t, exec (.faultRelease m) s = .next t ∧ t.bit Reg.FCR_FAULT_STATUS 3 = false ∧ t.bit Reg.FCR_FAULT_STATUS 0 = false)) ∧
  (∀ (low : Bool) (s : State), ∃ t, exec (.faultNExternalLow low) s = .next t ∧ t.board = { s.board with faultLow := low } ∧
    ((low && !s.faultN) = false → t.regs = s.regs) ∧ ((low && !s.faultN) = true → t.bit (hSTICKY (pageAddr 3 0)) (16 + srcBit Src.FCR_FAULT_PIN) = true)) ∧
  (∀ (m : Requester) (n v : Nat) (s : State), n < 248 → s.Passes m (0x43201000 + 4 * n) .write →
    (s.bit (hLOCK (pageAddr 3 0x20)) 0 = false →
      ∃ t, exec (.sevWrite m n v) s = .next t ∧ t.rdN (0x43201000 + 4 * n) = v &&& sevMask (0x1000 + 4 * n) ∧ t.answer.resp = .okay) ∧
    (s.bit (hLOCK (pageAddr 3 0x20)) 0 = true →
      ∃ t, exec (.sevWrite m n v) s = .next t ∧ t.rd (0x43201000 + 4 * n) = s.rd (0x43201000 + 4 * n) ∧ t.answer.resp = .locked)) ∧
  (∀ (m : Requester) (v : Nat) (s : State), s.Passes m Reg.FCR_RING_CFG .write → s.bit Reg.FCR_RING_CFG 31 = false → v.testBit 31 = true →
    ∃ t, exec (.ringEnable m v) s = .next t ∧ t.bit Reg.FCR_RING_CFG 31 = true ∧ t.fcr.ringBase = s.rd64 Reg.FCR_RING_BASE_LO Reg.FCR_RING_BASE_HI ∧
      t.fcr.ringLog2 = clamp 4 16 (v % 32) ∧ t.rdN Reg.FCR_RING_PROD = 0 ∧ t.rdN Reg.FCR_RING_CONS = 0)

/-- Snapshot triggers (R437, R438, R447): with its source enabled and none accepted within the last 8 µs, a write to FCR_SNAP_CMD, a low pulse of 20 ns or more on SNAP_IN, a Vendor_Defined message with the signature, and the timescale at an armed match time each begin a cut with the next sequence number at the present time; a trigger within 8 µs of the last begins none and raises FCR_SNAP_DROP. A shorter pulse raises FCR_SNAP_PIN, any other message is discarded. A cut's token reaches a block (R55, R439): the block is noted, the cut ends when every block that is on has latched, and nothing happens while no cut travels or the block has latched already. A page that is not OFF latches the cut's number and time into its header, and sets STICKY.SNAP. -/
def Obligations.SnapshotsComplete : Prop :=
  (∀ (m : Requester) (s : State), s.Passes m Reg.FCR_SNAP_CMD .write → s.bit Reg.FCR_SNAP_CFG 0 = true → s.defers 0 = false → s.cutFree →
    ∃ t, exec (.snapSwTrigger m) s = .next t ∧ s.CutBegun t ∧ t.fcr.lastTrigger = some s.now) ∧
  (∀ (m : Requester) (s : State) (x : Nat), s.Passes m Reg.FCR_SNAP_CMD .write → s.bit Reg.FCR_SNAP_CFG 0 = true → s.defers 0 = false →
    s.fcr.lastTrigger = some x → s.now < x + 8000 →
    ∃ t, exec (.snapSwTrigger m) s = .next t ∧ t.fcr.cut = s.fcr.cut ∧ t.fcr.lastTrigger = some x ∧
      t.bit (hSTICKY (pageAddr 3 0)) (16 + srcBit Src.FCR_SNAP_DROP) = true) ∧
  (∀ (m : Requester) (s : State), s.Passes m Reg.FCR_SNAP_CMD .write →
    (∃ t, exec (.snapArmTime m) s = .next t ∧ t.fcr = { s.fcr with timeArmed := true }) ∧
    (∃ t, exec (.snapDisarmTime m) s = .next t ∧ t.fcr = { s.fcr with timeArmed := false })) ∧
  (∀ s : State, s.fcr.timeArmed = true → s.rd64 Reg.FCR_SNAP_TIME_LO Reg.FCR_SNAP_TIME_HI ≤ s.now % 2 ^ 64 →
    s.bit Reg.FCR_SNAP_CFG 2 = true → s.cutFree →
    ∃ t, exec (.snapTimeMatch false) s = .next t ∧ s.CutBegun t ∧ t.fcr.timeArmed = false) ∧
  (∀ s : State, s.fcr.time2Armed = true → s.rd64 Reg.FCR_SNAP_TIME2_LO Reg.FCR_SNAP_TIME2_HI ≤ s.now % 2 ^ 64 →
    s.bit Reg.FCR_SNAP_CFG 2 = true → s.cutFree →
    ∃ t, exec (.snapTimeMatch true) s = .next t ∧ s.CutBegun t ∧ t.fcr.time2Armed = false) ∧
  (∀ (ns : Nat) (s : State), 20 ≤ ns → s.bit Reg.FCR_SNAP_CFG 3 = true → s.defers 3 = false → s.cutFree →
    ∃ t, exec (.snapInPulse ns) s = .next t ∧ s.CutBegun t) ∧
  (∀ (ns : Nat) (s : State), ns < 20 →
    ∃ t, exec (.snapInPulse ns) s = .next t ∧ t.bit (hSTICKY (pageAddr 3 0)) (16 + srcBit Src.FCR_SNAP_PIN) = true) ∧
  (∀ s : State, s.board.pcieUp = true → s.bit Reg.FCR_SNAP_CFG 5 = true → s.defers 5 = false → s.cutFree →
    ∃ t, exec (.pcieSnapMsg 0x1E5A 0x534E4150) s = .next t ∧ s.CutBegun t) ∧
  (∀ (v w : Nat) (s : State), v ≠ 0x1E5A ∨ w ≠ 0x534E4150 → exec (.pcieSnapMsg v w) s = .next s) ∧
  (∀ (b lat seq time : Nat) (s : State), b < 16 → s.fcr.cut = some (seq, time) → b ∉ s.fcr.latched →
    ∃ t, exec (.snapLatch b lat) s = .next t ∧ t.fcr.latched = b :: s.fcr.latched ∧ (t.fcr.cut = none ∨ t.fcr.cut = some (seq, time))) ∧
  (∀ (b lat : Nat) (s : State), b < 16 → s.fcr.cut = none ∨ b ∈ s.fcr.latched → exec (.snapLatch b lat) s = .next s) ∧
  (∀ (seq time b k : Nat) (s : State), b < 16 → k < 256 → seq < 65536 → s.curOf b k ≠ sOFF →
    (s.latchPage seq time b k).rdN (hSNAPSEQ (pageAddr b k)) = 2 ^ 31 + seq ∧
      (s.latchPage seq time b k).rdN (hSNAPLO (pageAddr b k)) = time % 2 ^ 32 ∧
      (s.latchPage seq time b k).rdN (hSNAPHI (pageAddr b k)) = time / 2 ^ 32 % 2 ^ 32 ∧
      (s.latchPage seq time b k).bit (hSTICKY (pageAddr b k)) 8 = true)

/-- A write of a register's word that its page accepts (R36, R43 to R45, R51): the register then holds the written word in its writable fields, clamped to their ranges, its write-1-to-clear fields cleared where 1 was written; a static or shadowed field of a page in RUN keeps its value, since a write that would change one is refused; and no other register changes but its shadow copy and the bus counters, nor anything outside the registers. -/
def Obligations.PlainWriteCompletes : Prop :=
  ∀ (m : Requester) (a v : Nat) (r : RegRow) (s : State), s.Passes m a .write → isRegAddr a = true → PlainAt a v → s.Accepts a (v % 2 ^ 32) r →
    a ≠ Reg.BMX_M_SERVED (m.num + 1) → a ≠ Reg.BMX_T_GRANTS (0x11 + targetNo a) → a ≠ Reg.BMX_T_STATUS (0x11 + targetNo a) → clearsTo a = none →
    ∃ t, exec (.regWrite m a v) s = .next t ∧ t.answer.resp = .okay ∧ t.rd a = s.written a (v % 2 ^ 32) 0 r ∧
      { t with regs := s.regs, answer := s.answer } = s ∧
      ∀ b, b ≠ a → b ≠ a + 0x8000 → b ≠ Reg.BMX_M_SERVED (m.num + 1) → b ≠ Reg.BMX_T_GRANTS (0x11 + targetNo a) →
        b ≠ Reg.BMX_T_STATUS (0x11 + targetNo a) → t.rd b = s.rd b

/-- A write that its page refuses (R34, R35, R44, R51, R52): a locked register is answered LOCKED, and a write in RUN that would change a static or shadowed field is answered STATE; the register keeps its value, the response is recorded in ACC_ERR with the requester, and the page's sticky bits say so. -/
def Obligations.RefusedWrites : Prop :=
  (∀ (m : Requester) (a v : Nat) (r : RegRow) (s : State), s.Passes m a .write → isRegAddr a = true → PlainAt a v → blockOf a ≠ 1 →
    masksAt (blockOf a) (pageNo a) (offOf a) = some r → isWatermark r = false → s.isLocked a r.lock = true →
    ∃ t, exec (.regWrite m a v) s = .next t ∧ t.answer.resp = .locked ∧ t.bit (hSTICKY (pageOf a)) 0 = true ∧ t.bit (hSTICKY (pageOf a)) 2 = true ∧
      t.fld (hACCERR (pageOf a)) 31 28 = 1 ∧ t.fld (hACCERR (pageOf a)) 27 24 = m.num % 16) ∧
  (∀ (m : Requester) (a v : Nat) (r : RegRow) (s : State), s.Passes m a .write → isRegAddr a = true → PlainAt a v → blockOf a ≠ 1 →
    masksAt (blockOf a) (pageNo a) (offOf a) = some r → isWatermark r = false → s.isLocked a r.lock = false →
    s.curOf (blockOf a) (pageNo a) = sRUN → ((s.rdN a ^^^ (v % 2 ^ 32)) &&& (r.rwi ||| r.rws)) ≠ 0 →
    ∃ t, exec (.regWrite m a v) s = .next t ∧ t.answer.resp = .state ∧ t.bit (hSTICKY (pageOf a)) 1 = true ∧ t.bit (hSTICKY (pageOf a)) 2 = true ∧
      t.fld (hACCERR (pageOf a)) 31 28 = 2 ∧ t.fld (hACCERR (pageOf a)) 15 0 = offOf a)

/-- What an access is answered before its page considers it (R34, R379): the highest response of Table 2.5 that applies, with the reason of a RETRY; nothing is answered while a reset is held. It holds for a write and for a read. The order of Table 2.5: an address where nothing answers is DECODE before anything else; a requester the page class or the region does not admit is SECURE; RETRY comes before ABSENT; and a location that decodes, is admitted, is not retried and is present reaches its page. -/
def Obligations.GateAnswersInOrder : Prop :=
  (∀ (m : Requester) (a v n : Nat) (r : Resp) (s : State), s.inHold = false → s.gate m a 4 .write = some (r, n) →
    ∃ t, exec (.regWrite m a v) s = .next t ∧ t.answer.resp = r ∧ t.answer.reason = n) ∧
  (∀ (m : Requester) (a n : Nat) (r : Resp) (s : State), s.inHold = false → s.gate m a 4 .read = some (r, n) →
    ∃ t, exec (.pairLoRead m a) s = .next t ∧ t.answer.resp = r ∧ t.answer.reason = n) ∧
  (∀ (m : Requester) (a v : Nat) (s : State), s.inHold = true → exec (.regWrite m a v) s = .next s) ∧
  (∀ (m : Requester) (a len : Nat) (k : TxnKind) (s : State),
    (s.decodes a len k = false → s.gate m a len k = some (.decode, 0)) ∧
    (s.decodes a len k = true → s.secureOk m a k = false → s.gate m a len k = some (.secure, 0)) ∧
    (s.decodes a len k = true → s.secureOk m a k = true → s.retryReason a ≠ 0 → s.gate m a len k = some (.retry, s.retryReason a)) ∧
    (s.decodes a len k = true → s.secureOk m a k = true → s.retryReason a = 0 → s.isAbsent a = true → s.gate m a len k = some (.absent, 0)) ∧
    (s.decodes a len k = true → s.secureOk m a k = true → s.retryReason a = 0 → s.isAbsent a = false → s.gate m a len k = none))

/-- Register pairs (R29): a write of _LO is held and changes no register of the block; a write of _HI then sets both halves as one event; a read of _LO answers the low half and latches the high half with it. -/
def Obligations.PairsComplete : Prop :=
  (∀ (m : Requester) (lo hi v : Nat) (r : RegRow) (s : State), s.Passes m lo .write → isRegAddr lo = true → PairAt lo hi v → pairWritable lo = true →
    masksAt (blockOf lo) (pageNo lo) (offOf lo) = some r → s.isLocked lo r.lock = false →
    ∃ t, exec (.pairLoWrite m lo v) s = .next t ∧ kget t.held lo = some (w32 v) ∧ t.answer.resp = .okay ∧
      ∀ b, ¬ (0x41000000 ≤ b ∧ b < 0x42000000) → t.rd b = s.rd b) ∧
  (∀ (m : Requester) (lo hi v : Nat) (w : W) (rl rh : RegRow) (s : State), s.Passes m hi .write → isRegAddr hi = true → PairAt lo hi v →
    blockOf lo ≠ 1 → kget s.held lo = some w → s.Accepts lo w.toNat rl → s.Accepts hi (v % 2 ^ 32) rh → clearsTo lo = none → clearsTo hi = none →
    rl.rws = 0 → rh.rws = 0 →
    ∃ t, exec (.pairHiWrite m hi v) s = .next t ∧ t.answer.resp = .okay ∧ t.rd lo = s.written lo w.toNat 0 rl ∧
      t.rd hi = s.written hi (v % 2 ^ 32) 0 rh ∧ kget t.held lo = none) ∧
  (∀ (m : Requester) (lo hi v : Nat) (s : State), s.Passes m lo .read → isRegAddr lo = true → PairAt lo hi v →
    (∀ u : State, u.ownRead lo = none) →
    ∃ t, exec (.pairLoRead m lo) s = .next t ∧ t.answer.data = ((s.arrived m lo).view lo).toNat ∧
      kget t.latched hi = some ((s.arrived m lo).view hi) ∧ t.answer.resp = .okay)

/-- The header's own writes (R36, R37, R51, R53): STICKY clears the bits written as 1 that hardware does not set in the same instant; FORCE makes every source of the page whose bit is 1 rise; LOCK sets the bits written as 1 and clears none; CLR_COUNT sets a watermark's COUNT to 0. -/
def Obligations.HeaderWritesComplete : Prop :=
  (∀ (m : Requester) (b k v hw : Nat) (s : State), b < 16 → k < 256 → s.Passes m (hSTICKY (pageAddr b k)) .write →
    ∃ t, exec (.stickyClear m (hSTICKY (pageAddr b k)) v hw) s = .next t ∧ t.answer.resp = .okay ∧
      ∀ n, n < 32 → t.bit (hSTICKY (pageAddr b k)) n = (s.bit (hSTICKY (pageAddr b k)) n && (!v.testBit n || hw.testBit n))) ∧
  (∀ (m : Requester) (b k v : Nat) (s : State), b < 16 → k < 256 → s.Passes m (hFORCE (pageAddr b k)) .write →
    ∃ t, exec (.forceWrite m b k v) s = .next t ∧
      ∀ n, n < faultCount b k → n < 16 → v.testBit n = true → t.bit (hSTICKY (pageAddr b k)) (16 + n) = true) ∧
  (∀ (m : Requester) (b k v : Nat) (s : State), b < 16 → k < 256 → s.Passes m (hLOCK (pageAddr b k)) .write →
    ∃ t, exec (.lockWrite m b k v) s = .next t ∧ t.rdN (hLOCK (pageAddr b k)) = s.rdN (hLOCK (pageAddr b k)) ||| v % 2 ^ 32) ∧
  (∀ (m : Requester) (a : Nat) (r : RegRow) (s : State), s.Passes m a .write → isRegAddr a = true → PlainAt a 0x8000 →
    masksAt (blockOf a) (pageNo a) (offOf a) = some r → isWatermark r = true → a ≠ Reg.BMX_M_SERVED (m.num + 1) → a ≠ Reg.BMX_T_STATUS (0x11 + targetNo a) →
    a ≠ Reg.BMX_T_GRANTS (0x11 + targetNo a) →
    ∃ t, exec (.wmClrCount m a) s = .next t ∧ t.fld a 31 24 = 0 ∧ t.bit a 0 = s.bit a 0)

/-- MSI-X (R445, R446): an EOI of an asserted vector sends its message again, or sets its PBA bit while it is masked; unmasking a vector whose PBA bit is set sends the message and clears the bit; a doorbell holds what is written, and one that leaves 0 notifies its vector. -/
def Obligations.MsixCompletes : Prop :=
  (∀ (m : Requester) (v : Nat) (s : State), v < 512 → s.Passes m 0x41306040 .write → (s.arrived m 0x41306040).vectorAsserted v = true →
    ∃ t, exec (.msixEoi m v) s = .next t ∧
      (s.bit (msixEntry v + 12) 0 = true → t.bit (0x41303000 + 4 * (v / 32)) (v % 32) = true ∧ t.out = s.out) ∧
      (s.bit (msixEntry v + 12) 0 = false →
        t.out = .msix v (s.rdN (msixEntry v) + s.rdN (msixEntry v + 4) * 2 ^ 32) (s.rdN (msixEntry v + 8)) :: s.out)) ∧
  (∀ (m : Requester) (n : Nat) (s : State), n < 512 → s.Passes m (msixEntry n + 12) .write →
    ∃ t, exec (.msixUnmask m n) s = .next t ∧ t.rdN (msixEntry n + 12) = 0 ∧
      (s.bit (msixEntry n + 12) 0 = true → s.bit (0x41303000 + 4 * (n / 32)) (n % 32) = true →
        t.bit (0x41303000 + 4 * (n / 32)) (n % 32) = false ∧
          t.out = .msix n (s.rdN (msixEntry n) + s.rdN (msixEntry n + 4) * 2 ^ 32) (s.rdN (msixEntry n + 8)) :: s.out) ∧
      (s.bit (0x41303000 + 4 * (n / 32)) (n % 32) = false → t.out = s.out)) ∧
  (∀ (m : Requester) (n v : Nat) (s : State), n < 16 → s.Passes m (doorbell n) .write →
    ∃ t, exec (.hostDbWrite m n v) s = .next t ∧ t.rdN (doorbell n) = v % 2 ^ 32 ∧
      (s.rdN (doorbell n) = 0 → v % 2 ^ 32 ≠ 0 → s.bit (msixEntry (496 + n) + 12) 0 = false →
        t.out = .msix (496 + n) (s.rdN (msixEntry (496 + n)) + s.rdN (msixEntry (496 + n) + 4) * 2 ^ 32) (s.rdN (msixEntry (496 + n) + 8)) :: s.out) ∧
      (s.rdN (doorbell n) ≠ 0 → t.out = s.out))

/-- Requests for a state (Tables 2.10 and 2.22, R38): ISOLATED is left for OFF and reached from OFF at once; IDLE is reached from ISOLATED at once; a data-path page goes between IDLE and RUN at the next epoch boundary and is BUSY until then; IDLE is left for ISOLATED through DRAIN; FAULT is left for ISOLATED once the record that escalated has been acknowledged. The RTU takes these requests only while the CXF is not in RUN (R41, R303). -/
def Obligations.RequestsComplete : Prop :=
  (∀ (m : Requester) (b k : Nat) (s : State), s.Asks m b k → s.curOf b k = sISOLATED → (b = 5 → s.running 9 = false) →
    (∃ t, exec (.reqOff m b k) s = .next t ∧ t.curOf b k = sOFF) ∧
    (∃ t, exec (.reqIdle m b k) s = .next t ∧ t.curOf b k = sIDLE ∧ (b = 11 → t.store.filling = true))) ∧
  (∀ (m : Requester) (b k : Nat) (s : State), s.Asks m b k → s.curOf b k = sOFF → (b = 5 → s.running 9 = false) →
    ∃ t, exec (.reqIsolated m b k) s = .next t ∧ t.curOf b k = sISOLATED) ∧
  (∀ (m : Requester) (b k : Nat) (s : State), s.Asks m b k → s.curOf b k = sFAULT → s.faultAcked (statePage b k) = true → (b = 5 → s.running 9 = false) →
    ∃ t, exec (.reqIsolated m b k) s = .next t ∧ t.curOf b k = sISOLATED) ∧
  (∀ (m : Requester) (b k : Nat) (s : State), s.Asks m b k → s.curOf b k = sIDLE → (b = 5 → s.running 9 = false) →
    ∃ t, exec (.reqIsolated m b k) s = .next t ∧ t.curOf b k = sDRAIN ∧ kget t.draining (statePage b k) = some false) ∧
  (∀ (m : Requester) (b k : Nat) (s : State), s.Asks m b k → controlBlock b = false → s.curOf b k = sIDLE →
    ((s.arrived m (hCTRL (pageAddr b k))).runBarred b k).2 = false →
    ∃ t, exec (.reqRun m b k) s = .next t ∧ kget t.awaiting (statePage b k) = some sRUN ∧ t.busy (statePage b k) = true ∧ t.curOf b k = sIDLE) ∧
  (∀ (m : Requester) (s : State), s.Asks m 2 0 → s.cur 2 = sIDLE → ∃ t, exec (.reqRun m 2 0) s = .next t ∧ t.cur 2 = sRUN) ∧
  (∀ (m : Requester) (b k : Nat) (s : State), s.Asks m b k → controlBlock b = false → s.curOf b k = sRUN →
    ∃ t, exec (.reqIdle m b k) s = .next t ∧ kget t.awaiting (statePage b k) = some sIDLE ∧ t.busy (statePage b k) = true ∧ t.curOf b k = sRUN)

/-- Requests that Table 2.22 has no row for, that come while a transition is in progress, or that ask a block to leave RUN which never does, are answered STATE and leave the state as it is (R38, R152, R373, R434). While the CXF is in RUN, a request for ISOLATED or OFF to the RTU is answered STATE (R41), and so is one for IDLE (R303). The end of a drain (R38): the page goes to ISOLATED, or to FAULT where an escalation started the drain; a page that is not in DRAIN is left alone. -/
def Obligations.RequestsRefusedAndDrained : Prop :=
  (∀ (m : Requester) (b k : Nat) (s : State), b < 16 → k < 256 → s.Passes m (hCTRL (pageAddr b k)) .write →
    fixedBlock b = true ∨ (k ≠ 0 ∧ ownState b k = false) ∨ s.busy (statePage b k) = true →
    (∃ t, exec (.reqOff m b k) s = .next t ∧ t.answer.resp = .state ∧ t.curOf b k = s.curOf b k) ∧
    (∃ t, exec (.reqIsolated m b k) s = .next t ∧ t.answer.resp = .state ∧ t.curOf b k = s.curOf b k) ∧
    (∃ t, exec (.reqIdle m b k) s = .next t ∧ t.answer.resp = .state ∧ t.curOf b k = s.curOf b k) ∧
    (∃ t, exec (.reqRun m b k) s = .next t ∧ t.answer.resp = .state ∧ t.curOf b k = s.curOf b k)) ∧
  (∀ (m : Requester) (b k : Nat) (s : State), s.Asks m b k → s.curOf b k = sOFF →
    (∃ t, exec (.reqIdle m b k) s = .next t ∧ t.answer.resp = .state ∧ t.curOf b k = sOFF) ∧
    (∃ t, exec (.reqRun m b k) s = .next t ∧ t.answer.resp = .state ∧ t.curOf b k = sOFF)) ∧
  (∀ (m : Requester) (b k : Nat) (s : State), s.Asks m b k → s.curOf b k = sRUN →
    ∃ t, exec (.reqOff m b k) s = .next t ∧ t.answer.resp = .state ∧ t.curOf b k = sRUN) ∧
  (∀ (m : Requester) (k : Nat) (s : State), k < 256 → s.Passes m (hCTRL (pageAddr 5 k)) .write → s.running 9 = true →
    (∃ t, exec (.reqIsolated m 5 k) s = .next t ∧ t.answer.resp = .state ∧ t.curOf 5 k = s.curOf 5 k) ∧
    (∃ t, exec (.reqOff m 5 k) s = .next t ∧ t.answer.resp = .state ∧ t.curOf 5 k = s.curOf 5 k) ∧
    (∃ t, exec (.reqIdle m 5 k) s = .next t ∧ t.answer.resp = .state ∧ t.curOf 5 k = s.curOf 5 k)) ∧
  (∀ (b k : Nat) (e : Bool) (s : State), b < 16 → k < 256 → kget s.draining (statePage b k) = some e →
    ∃ t, exec (.drainEnd b k) s = .next t ∧ t.curOf b k = (if e then sFAULT else sISOLATED) ∧ kget t.draining (statePage b k) = none) ∧
  (∀ (b k : Nat) (s : State), b < 16 → k < 256 → kget s.draining (statePage b k) = none → exec (.drainEnd b k) s = .next s)

/-- A shadow write (R45, R46, R77): with the page neither armed nor committed, and outside the CXF group while the CXF runs, the shadow copy takes the shadowed fields of the written word and the page is DIRTY; the active copy keeps its value. While the page is armed or committed the write is answered STATE, and the shadow copy keeps its value. -/
def Obligations.ShadowWriteCompletes : Prop :=
  (∀ (m : Requester) (a v : Nat) (r : RegRow) (s : State), s.Passes m a .write → ShadowAt a r → s.cxfGuard (pageOf a) = false →
    s.shadowHeld (pageOf a) = false →
    ∃ t, exec (.shadowWrite m a v) s = .next t ∧ t.answer.resp = .okay ∧
      t.rd a = normalWord (a - 0x8000) (w32 (mergeMask (s.rdN a) (v % 2 ^ 32) r.rws)) ∧ t.shadowStatus (pageOf a) = 1 ∧
      t.rd (a - 0x8000) = s.rd (a - 0x8000)) ∧
  (∀ (m : Requester) (a v : Nat) (r : RegRow) (s : State), s.Passes m a .write → ShadowAt a r → s.cxfGuard (pageOf a) = false →
    s.shadowHeld (pageOf a) = true →
    ∃ t, exec (.shadowWrite m a v) s = .next t ∧ t.answer.resp = .state ∧ t.rd a = s.rd a ∧ t.bit (hSTICKY (pageOf a)) 10 = true)

/-- ARM (R46 to R48): where the EPOCH field, or with NEXT the earliest epoch, gives a target that meets the page's deadline, every page of the flip group is ARMED for it, with the whole epoch kept; where none does, every page of the group is REFUSED_LATE with the field it was given. An ARM while the page is held is answered STATE. -/
def Obligations.ShadowArmCompletes : Prop :=
  (∀ (m : Requester) (b k epoch : Nat) (s : State), s.MayArm m b k →
    ∃ t, exec (.shadowArm m b k epoch) s = .next t ∧ ∀ q ∈ flipGroup (pageAddr b k),
      match (s.arrived m (hSHADOW (pageAddr b k))).armChoice (pageAddr b k) (epoch % 2 ^ 24) false with
      | some E => t.shadowStatus q = 2 ∧ t.fld (hSHADOW q) 23 0 = E % 2 ^ 24 ∧ (q, E) ∈ t.armed
      | none => t.shadowStatus q = 5 ∧ t.fld (hSHADOW q) 23 0 = epoch % 2 ^ 24 ∧ t.armed = s.armed) ∧
  (∀ (m : Requester) (b k : Nat) (s : State), s.MayArm m b k →
    ∃ t, exec (.shadowArmNext m b k) s = .next t ∧ ∀ q ∈ flipGroup (pageAddr b k),
      match (s.arrived m (hSHADOW (pageAddr b k))).armChoice (pageAddr b k) 0 true with
      | some E => t.shadowStatus q = 2 ∧ t.fld (hSHADOW q) 23 0 = E % 2 ^ 24 ∧ (q, E) ∈ t.armed
      | none => t.shadowStatus q = 5 ∧ t.armed = s.armed) ∧
  (∀ (m : Requester) (b k epoch : Nat) (s : State), b < 16 → k < 256 → s.Passes m (hSHADOW (pageAddr b k)) .write →
    s.cxfGuard (pageAddr b k) = false → s.shadowHeld (pageAddr b k) = true →
    (∃ t, exec (.shadowArm m b k epoch) s = .next t ∧ t.answer.resp = .state ∧ t.rd (hSHADOW (pageAddr b k)) = s.rd (hSHADOW (pageAddr b k))) ∧
    (∃ t, exec (.shadowArmNext m b k) s = .next t ∧ t.answer.resp = .state ∧ t.rd (hSHADOW (pageAddr b k)) = s.rd (hSHADOW (pageAddr b k))))

/-- The target that an ARM takes meets its page's deadline: the arm falls before the start of the epoch before it, for the CXF group before the start of the second epoch before it, and the target lies inside the window of R47 (R46, R47, R77). -/
def Obligations.ArmTargetsLieAhead : Prop :=
  ∀ (s : State) (p field E : Nat) (next : Bool), s.armChoice p field next = some E →
    s.epoch + 1 < E ∧ E ≤ s.epoch + 2 ^ 23 ∧ (blockOf p = 9 → s.epoch + 2 < E)

/-- CANCEL and the commit point (R46): a cancelled page that was ARMED on its own is CANCELLED with its group and no longer armed; one that is COMMITTED goes on, notes CANCEL_LATE, and the write is answered STATE. At its commit point an armed page is COMMITTED when its block's check passes, else REFUSED_CHECK with STICKY.FLIP_REFUSED; one that is not armed is left alone. -/
def Obligations.ShadowEndsComplete : Prop :=
  (∀ (m : Requester) (b k : Nat) (s : State), b < 16 → k < 256 → s.Passes m (hSHADOW (pageAddr b k)) .write → s.cxfGuard (pageAddr b k) = false →
    s.shadowStatus (pageAddr b k) = 2 → s.gseHolds (pageAddr b k) = false →
    ∃ t, exec (.shadowCancel m b k) s = .next t ∧ ∀ q ∈ flipGroup (pageAddr b k), t.shadowStatus q = 7 ∧ ∀ x ∈ t.armed, x.1 ≠ q) ∧
  (∀ (m : Requester) (b k : Nat) (s : State), b < 16 → k < 256 → s.Passes m (hSHADOW (pageAddr b k)) .write → s.cxfGuard (pageAddr b k) = false →
    pageAddr b k ∈ flipGroup (pageAddr b k) → s.shadowStatus (pageAddr b k) = 3 →
    ∃ t, exec (.shadowCancel m b k) s = .next t ∧ t.answer.resp = .state ∧ t.shadowStatus (pageAddr b k) = 3 ∧ t.bit (hSHADOW (pageAddr b k)) 25 = true) ∧
  (∀ (b k : Nat) (s : State), b < 16 → k < 256 → b ≠ 12 → s.shadowStatus (pageAddr b k) = 2 → s.gseHolds (pageAddr b k) = false →
    ∃ t, exec (.shadowCommit b k) s = .next t ∧ ∀ q ∈ flipGroup (pageAddr b k),
      t.shadowStatus q = (if (s.blockCheck (pageAddr b k)).2 then 3 else 6)) ∧
  (∀ (e : Nat) (s : State), e < 64 → s.shadowStatus (pageAddr 12 (e + 1)) = 2 → s.gseHolds (pageAddr 12 (e + 1)) = false →
    (s.pxpCommit e ((s.targetOfPage (pageAddr 12 (e + 1))).getD 0)).2 = 0 →
    ∃ t, exec (.shadowCommit 12 (e + 1)) s = .next t ∧ t.shadowStatus (pageAddr 12 (e + 1)) = 3) ∧
  (∀ (b k : Nat) (s : State), b < 16 → k < 256 → s.shadowStatus (pageAddr b k) ≠ 2 → exec (.shadowCommit b k) s = .next s)

/-- A flip takes the shadow whole (R45, R46): every shadowed location of the page then holds what its shadow copy held, no other page's registers change except where the flip notifies an interrupt, and the page is FLIPPED. -/
def Obligations.FlipTakesShadow : Prop :=
  ∀ (p : Nat) (s : State), p % 0x10000 = 0 → p < 2 ^ 32 → p ≠ 0x41300000 →
    (∀ a, pageOf a = p → 0x100 ≤ offOf a → offOf a < 0x7000 → shadowedAt (blockOf a) (pageNo a) (offOf a) = true →
      (s.flipPage p).rd a = s.rd (a + 0x8000)) ∧
    (∀ a, pageOf a ≠ p → ¬ (0x41303000 ≤ a ∧ a < 0x41304000) → (s.flipPage p).rd a = s.rd a) ∧
    (s.flipPage p).shadowStatus p = 4 ∧ (s.flipPage p).bit (hSTICKY p) 3 = true

/-- The Fumarole loop's own events (R136 to R138): after eight epochs without a measurement PTM_SLACK_STALE rises once; a completed span of high slack lowers VDD_CORE by one step, kept inside the window, and the span starts again; before that nothing happens. LOAD and SAVE of the calibration record (R155, R156, Table 5.13): a LOAD or SAVE while the flash is busy shows BUSY; a LOAD finds the slot in use or raises PTM_CAL_NONE; a SAVE erases the slot not in use; the end of each shows DONE, or FAILED with its reason (what a failed SAVE leaves is log entry 45). -/
def Obligations.LoopAndCalibrationComplete : Prop :=
  (∀ s : State, 8 ≤ s.power.noMeasure → s.power.stale = false →
    ∃ t, exec .slackStale s = .next t ∧ t.power = { s.power with stale := true } ∧
      t.raised Src.PTM_SLACK_STALE = true) ∧
  (∀ s : State, s.power.noMeasure < 8 ∨ s.power.stale = true → exec .slackStale s = .next s) ∧
  (∀ s : State, s.bit Reg.PTM_CFG 0 = true → s.fld Reg.PTM_LOOP_RATE 23 12 * 1000000 ≤ s.power.span → s.downHeld = false → s.vFree = true →
    ∃ t, exec .loopDownStep s = .next t ∧ t.power.span = 0 ∧
      t.fld Reg.PTM_VCORE 6 0 = max (s.steps - 1) (min s.steps (s.vWindow s.profile).1) % 128) ∧
  (∀ s : State, s.power.span < s.fld Reg.PTM_LOOP_RATE 23 12 * 1000000 → exec .loopDownStep s = .next s) ∧
  (∀ (m : Requester) (s : State), s.Passes m Reg.PTM_CAL_CMD .write → s.calBusy = true →
    (∃ t, exec (.calLoad m) s = .next t ∧ t.fld Reg.PTM_CAL_STATUS 27 24 = 3 ∧ t.power = s.power ∧ t.mem = s.mem) ∧
    (∃ t, exec (.calSave m) s = .next t ∧ t.fld Reg.PTM_CAL_STATUS 27 24 = 3 ∧ t.power = s.power ∧ t.mem = s.mem)) ∧
  (∀ (m : Requester) (s : State), s.Passes m Reg.PTM_CAL_CMD .write → s.calBusy = false →
    (s.slotInUse calMagic (s.calSlot 0) (s.calSlot 1) = none → ∃ t, exec (.calLoad m) s = .next t ∧ t.power = { s.power with cal := some (.load false) } ∧
      t.fld Reg.PTM_CAL_STATUS 31 28 = 1 ∧ t.raised Src.PTM_CAL_NONE = true) ∧
    (∀ x, s.slotInUse calMagic (s.calSlot 0) (s.calSlot 1) = some x → ∃ t, exec (.calLoad m) s = .next t ∧
      t.power = { s.power with cal := some (.load true), calTime := some (s.flashLE (s.calSlot x.1 + 0x18) 8) } ∧ t.mem = s.mem)) ∧
  (∀ (m : Requester) (slot gen : Nat) (s : State), s.Passes m Reg.PTM_CAL_CMD .write → s.calBusy = false →
    (slot, gen) = (match s.slotInUse calMagic (s.calSlot 0) (s.calSlot 1) with | some x => (1 - x.1, (x.2.1 + 1) % 2 ^ 32) | none => (0, 1)) →
    ∃ t, exec (.calSave m) s = .next t ∧ t.power = { s.power with cal := some (.save slot gen) } ∧ t.board = { s.board with flashBusy := true } ∧
      t.fld Reg.PTM_CAL_STATUS 31 28 = 2 ∧
      ∀ a, t.rdByte a = if 0x20000000 + s.calSlot slot ≤ a ∧ a < 0x20000000 + s.calSlot slot + 0x40000 then memDefault a else s.rdByte a) ∧
  (∀ (ok found : Bool) (left : List Byte) (s : State), s.power.cal = some (.load found) →
    ∃ t, exec (.calOpDone ok left) s = .next t ∧ t.power = { s.power with cal := none } ∧ t.fld Reg.PTM_CAL_STATUS 31 28 = (if found then 3 else 4) ∧
      t.fld Reg.PTM_CAL_STATUS 27 24 = (if found then 0 else 1) ∧ t.mem = s.mem) ∧
  (∀ (slot gen : Nat) (left : List Byte) (s : State), s.power.cal = some (.save slot gen) →
    (∃ t, exec (.calOpDone true left) s = .next t ∧ t.power = { s.power with cal := none, calTime := some (s.now / 1000000000) } ∧ t.board.flashBusy = false ∧
      t.fld Reg.PTM_CAL_STATUS 31 28 = 3 ∧ t.rdN Reg.PTM_CAL_GEN = gen % 2 ^ 32) ∧
    (∃ t, exec (.calOpDone false left) s = .next t ∧ t.power = { s.power with cal := none } ∧ t.board.flashBusy = false ∧
      t.fld Reg.PTM_CAL_STATUS 31 28 = 4 ∧ t.fld Reg.PTM_CAL_STATUS 27 24 = 2)) ∧
  (∀ (ok : Bool) (left : List Byte) (s : State), s.power.cal = none → exec (.calOpDone ok left) s = .next s)

/-- The planes (R75, R80, R86, R477): a plane whose list stands at a RUN executes it, goes on by one place and counts its token times; a plane with a carry executes the carried RUN at its head; at a GAP it inserts its probes; at the end of its list it is DONE with its measurement recorded; and when its carry is done it starts the new list while the CXF is in RUN, else it is DONE. Nothing changes but the fabric, the registers and what a raise may touch. -/
def Obligations.PlanesComplete : Prop :=
  (∀ (p : Nat) (damaged : List Nat) (s : State), p < s.fabric.planes.length → p < 16 → (s.plane p).phase = .list → s.planesWork = true →
    (s.plane p).pos < s.listLen p → dKind (s.planeDesc p) = 1 →
    ∃ t, exec (.runDescExec p damaged) s = .next t ∧
      t.plane p = { s.plane p with pos := (s.plane p).pos + 1, tokens := (s.plane p).tokens + (s.runExec (s.planeDesc p) s.epoch false damaged).2 } ∧
      { t with regs := s.regs, mem := s.mem, out := s.out, fcr := s.fcr, twin := s.twin, fabric := s.fabric } = s) ∧
  (∀ (p : Nat) (damaged : List Nat) (c : Nat × Nat) (r : List (Nat × Nat)) (s : State), p < s.fabric.planes.length → p < 16 →
    (s.plane p).phase = .carry → (s.plane p).carry = c :: r → s.planesWork = true →
    ∃ t, exec (.runDescExec p damaged) s = .next t ∧
      t.plane p = { s.plane p with carry := r, tokens := (s.plane p).tokens + (s.runExec c.1 c.2 true damaged).2 } ∧
      { t with regs := s.regs, mem := s.mem, out := s.out, fcr := s.fcr, twin := s.twin, fabric := s.fabric } = s) ∧
  (∀ (p bad : Nat) (s : State), p < s.fabric.planes.length → p < 16 → (s.plane p).phase = .list → s.planesWork = true →
    (s.plane p).pos < s.listLen p → dKind (s.planeDesc p) = 2 →
    ∃ t n, exec (.gapExec p bad) s = .next t ∧ n = s.probesAt (s.plane p) (dGap (s.planeDesc p)) ∧
      t.plane p = { s.plane p with pos := (s.plane p).pos + 1, tokens := (s.plane p).tokens + n, probes := (s.plane p).probes + n } ∧
      t.rdN Reg.CXF_PROBE_ERR_CNT = (s.rdN Reg.CXF_PROBE_ERR_CNT + min bad n) % 2 ^ 32) ∧
  (∀ (p elapsed : Nat) (s : State), p < s.fabric.planes.length → p < 16 → (s.plane p).phase = .list → s.planesWork = true →
    s.listLen p ≤ (s.plane p).pos ∨ dKind (s.planeDesc p) = 15 →
    ∃ t, exec (.planeListDone p elapsed) s = .next t ∧ t.plane p = { s.plane p with phase := .done, pos := s.listLen p } ∧
      t.fld (Reg.CXF_PL_TOKENS (p + 1)) 17 0 = (s.plane p).tokens % 2 ^ 18 ∧ t.fld (Reg.CXF_PL_ELAPSED (p + 1)) 17 0 = elapsed % 2 ^ 18) ∧
  (∀ (p : Nat) (s : State), p < s.fabric.planes.length → p < 16 → (s.plane p).phase = .carry → (s.plane p).carry = [] →
    ∃ t, exec (.carryDone p) s = .next t ∧ t.plane p = { s.plane p with phase := if s.running 9 then .list else .done, pos := 0 } ∧
      t.bit (Reg.CXF_PL_STATUS (p + 1)) 2 = false)

/-- Cells (R59, R65 to R67, R81, R83 to R85): a cell begun or completed in time is stored in its ingress pool while a slot is free, and dropped with CXF_IBUF_FULL while none is; a release takes the cell that stands for it, sealed for its output, or a fill where nothing stands; a cell whose release has passed leaves as a LATE cell. -/
def Obligations.CellsComplete : Prop :=
  (∀ (die : Nat) (c : LineCell) (f : Bool) (p : PoolDef) (s : State), die < 2 → s.epoch ≤ s.assignedEpoch c → s.poolOf c.essence 0 = some p →
    s.fabric.ingress.find? (sameCell c) = none → (s.fabric.ingress.filter (fun y => y.cell.essence == c.essence)).length < p.slots →
    ∃ t, exec (.cellAssemble die c f) s = .next t ∧
      t.fabric = { s.fabric with ingress := s.fabric.ingress ++
        [⟨if f then s.sealIngress c (s.assignedEpoch c) else c, s.assignedEpoch c, die, 0, f⟩] }) ∧
  (∀ (die : Nat) (c : LineCell) (f : Bool) (p : PoolDef) (s : State), die < 2 → s.epoch ≤ s.assignedEpoch c → s.poolOf c.essence 0 = some p →
    s.fabric.ingress.find? (sameCell c) = none → p.slots ≤ (s.fabric.ingress.filter (fun y => y.cell.essence == c.essence)).length →
    ∃ t, exec (.cellAssemble die c f) s = .next t ∧ t.fabric.ingress = s.fabric.ingress ∧
      t.raised Src.CXF_IBUF_FULL = true) ∧
  (∀ (dst i : Nat) (o : OutputDef) (n : Nominal) (x : Nat × Nat) (c : OutCell) (d : LineCell) (s : State), s.outputDef dst = some o → fmtKind o.format ≠ 2 →
    (s.releasesOf o s.epochStart)[i]? = some n → i ∉ s.releasedIdx o.id s.epoch →
    (placements (s.releasesOf o s.epochStart) (s.releasedIdx o.id s.epoch) (s.standing o.id s.epoch)).find? (fun x => x.1 == i) = some x →
    (s.standing o.id s.epoch).find? (fun c => c.idx == x.2 && c.cell.isSome) = some c → c.cell = some d →
    ∃ t, exec (.cellRelease dst i) s = .next t ∧
      t.fabric.delivered = s.fabric.delivered ++
        [(s.epoch, stampCell d o.id (seqOf (s.epoch * s.epochNs) i) c.late (s.takeDue o.id s.epoch))] ∧
      i ∈ t.releasedIdx o.id s.epoch) ∧
  (∀ (dst i : Nat) (o : OutputDef) (n : Nominal) (s : State), s.outputDef dst = some o → fmtKind o.format ≠ 2 →
    (s.releasesOf o s.epochStart)[i]? = some n → i ∉ s.releasedIdx o.id s.epoch → s.standing o.id s.epoch = [] → s.carryPending o.id s.epoch i = false →
    s.running 9 = true → s.takeDue o.id s.epoch = false →
    ∃ t, exec (.cellRelease dst i) s = .next t ∧
      t.fabric.delivered = s.fabric.delivered ++ [(s.epoch, fillCell o n (seqOf (s.epoch * s.epochNs) i) 0xFFFF 0)] ∧
      .cell s.now (fillCell o n (seqOf (s.epoch * s.epochNs) i) 0xFFFF 0) ∈ t.out) ∧
  (∀ (dst : Nat) (o : OutputDef) (c : OutCell) (d : LineCell) (s : State), s.outputDef dst = some o →
    s.fabric.egress.find? (fun c => c.dst == dst && c.late && c.cell.isSome) = some c → c.cell = some d →
    ∃ t e, exec (.lateCellRelease dst) s = .next t ∧ t.fabric.delivered = s.fabric.delivered ++ [(c.release, e)] ∧ e.flags.testBit 0 = true ∧
      e.outputId = dst ∧ e.payload = d.payload ∧ c ∉ t.fabric.egress)

/-- Image loads (R98 to R103), with no profile change under way: a LOAD that is not BUSY starts a copy of the image at GSE_IMG_ADDR for the target that EPOCH names, or with NEXT for one still to be chosen; a LOAD while one is in progress is refused and counted; a CANCEL ends a load before its commit point CANCELLED, and after it leaves the load COMMITTED with REASON LATE. -/
def Obligations.ImageLoadsComplete : Prop :=
  (∀ (m : Requester) (epoch : Nat) (s : State), s.Passes m Reg.GSE_IMG_CMD .write → s.profOpen = none → s.geyser.load = none →
    (s.arrived m Reg.GSE_IMG_CMD).loadBusy s.imgAddr (s.evenTarget epoch) false false = false →
    ∃ t l, exec (.imgLoad m epoch) s = .next t ∧ t.geyser = { s.geyser with load := some l } ∧ l.addr = s.imgAddr ∧ l.target = s.evenTarget epoch ∧
      l.next = false ∧ l.newProfile = none ∧ l.stage = 0 ∧ l.started = s.now ∧ t.fld Reg.GSE_IMG_STATUS 31 28 = 1) ∧
  (∀ (m : Requester) (s : State), s.Passes m Reg.GSE_IMG_CMD .write → s.profOpen = none → s.geyser.load = none →
    (s.arrived m Reg.GSE_IMG_CMD).loadBusy s.imgAddr none false false = false →
    ∃ t l, exec (.imgLoadNext m) s = .next t ∧ t.geyser = { s.geyser with load := some l } ∧ l.addr = s.imgAddr ∧ l.target = none ∧ l.next = true ∧
      l.stage = 0 ∧ t.fld Reg.GSE_IMG_STATUS 31 28 = 1) ∧
  (∀ (m : Requester) (epoch : Nat) (s : State), s.Passes m Reg.GSE_IMG_CMD .write → s.profOpen = none → s.geyser.load.isSome = true →
    (∃ t, exec (.imgLoad m epoch) s = .next t ∧ t.geyser = s.geyser ∧ t.rdN Reg.GSE_IMG_REFUSED = (s.rdN Reg.GSE_IMG_REFUSED + 1) % 2 ^ 32) ∧
    (∃ t, exec (.imgLoadNext m) s = .next t ∧ t.geyser = s.geyser ∧ t.rdN Reg.GSE_IMG_REFUSED = (s.rdN Reg.GSE_IMG_REFUSED + 1) % 2 ^ 32)) ∧
  (∀ (m : Requester) (l : ImageLoad) (s : State), s.Passes m Reg.GSE_IMG_CMD .write → s.profOpen = none → s.geyser.load = some l →
    (l.stage ≠ 3 → ∃ t, exec (.imgCancel m) s = .next t ∧ t.geyser.load = none ∧ t.fld Reg.GSE_IMG_STATUS 31 28 = 6) ∧
    (l.stage = 3 → ∃ t, exec (.imgCancel m) s = .next t ∧ t.geyser = s.geyser ∧ t.fld Reg.GSE_IMG_STATUS 31 28 = 3 ∧ t.fld Reg.GSE_IMG_STATUS 27 24 = 11))

/-- The end of an image's copy (R99 to R102): an image that Table 4.7 refuses is refused with the first reason that applies, and the load is over; with the CXF in IDLE an image whose checks pass becomes the active one at once; in RUN one that meets its deadline, with no other hold on the CXF group and no earlier take, arms the group for its target. -/
def Obligations.ImageCopyCompletes : Prop :=
  (∀ (l : ImageLoad) (s : State), s.profOpen = none → s.geyser.load = some l → l.stage = 0 → l.next = false →
    (s.copied l).imgReason l.addr ((s.copied l).imgProfile l) ≠ 0 →
    ∃ t, exec .imgCopyDone s = .next t ∧ t.geyser.load = none ∧ t.fld Reg.GSE_IMG_STATUS 31 28 = 5 ∧
      t.fld Reg.GSE_IMG_STATUS 27 24 = (s.copied l).imgReason l.addr ((s.copied l).imgProfile l) % 16) ∧
  (∀ (l : ImageLoad) (s : State), s.profOpen = none → s.geyser.load = some l → l.stage = 0 → s.cur 9 = sIDLE →
    (s.copied l).imgReason l.addr ((s.copied l).imgProfile l) = 0 → (s.copied l).blockStateBad l.addr = false →
    ((cxfPages ++ (s.copied l).imgPages l.addr).foldl (fun u p => u.setShadow p 2)
      (((s.copied l).stageOthers l.addr).stageLists ((s.copied l).imgLists l.addr)) |>.imgCheck ((s.copied l).imgPages l.addr)
        ((s.copied l).imgProfile l) ((s.copied l).imgDef l.addr) false).2 = true →
    ∃ t, exec .imgCopyDone s = .next t ∧ t.geyser.load = none ∧ t.fabric.image = some ((s.copied l).imgDef l.addr) ∧
      t.fld Reg.GSE_IMG_STATUS 31 28 = 4) ∧
  (∀ (l : ImageLoad) (E : Nat) (s : State), s.profOpen = none → s.geyser.load = some l → l.stage = 0 → s.cur 9 ≠ sIDLE → l.next = false → l.target = some E →
    (s.copied l).imgReason l.addr ((s.copied l).imgProfile l) = 0 → (s.copied l).blockStateBad l.addr = false → s.now ≤ (E - 2) * s.epochNs →
    (s.copied l).imgPages l.addr = [] → s.geyser.takes = [] → s.geyser.group = .free →
    ∃ t, exec .imgCopyDone s = .next t ∧ t.geyser.group = .image ∧ t.geyser.groupEpoch = E ∧ t.geyser.groupCommitted = false ∧
      (∃ x, t.geyser.load = some x ∧ x.stage = 2 ∧ x.pages = cxfPages) ∧ ∀ p ∈ cxfPages, (p, E) ∈ t.armed) ∧
  (∀ s : State, s.profOpen = none → s.geyser.load = none → exec .imgCopyDone s = .next s)

/-- The commands of a take port (R105, R111, R112, R119, R122, R124), with no profile change under way: a TAKE or SALVO receives the port's next tag, the serial moves on, and GSE_P_RESULT shows the tag with the code of Table 4.9; an accepted one is held under its tag. A CANCEL that is not refused leaves DONE under its own tag. -/
def Obligations.TakePortsComplete : Prop :=
  (∀ (m : Requester) (n : Nat) (s : State), n < 8 → s.Passes m (Reg.GSE_P_CMD (n + 1)) .write → s.profOpen = none →
    ∀ (next : Bool) (T : Nat), T = (if next then s.now else s.rd64 (Reg.GSE_P_TIME_LO (n + 1)) (Reg.GSE_P_TIME_HI (n + 1))) →
    ∀ r, r = ((s.arrived m (Reg.GSE_P_CMD (n + 1))).issued n).takeCheck false false (s.nextTag n) 1
        [(s.rdN (Reg.GSE_P_ARG (n + 1)) / 65536, s.rdN (Reg.GSE_P_ARG (n + 1)) % 65536)] T s.now →
    ∃ t, exec (.takeCmd m n next) s = .next t ∧
      (r.1 ≠ 0 → t.rdN (Reg.GSE_P_RESULT (n + 1)) = 2 * 2 ^ 28 + r.1 * 2 ^ 24 + s.nextTag n) ∧
      (r.1 = 0 → t.rdN (Reg.GSE_P_RESULT (n + 1)) = 2 ^ 28 + b2n (r.2.2 != 0) * 2 ^ 23 + s.nextTag n ∧ ∃ k ∈ t.geyser.takes, k.tag = s.nextTag n)) ∧
  (∀ (m : Requester) (n count : Nat) (s : State), n < 8 → count < 2 ^ 14 → s.Passes m (Reg.GSE_P_CMD (n + 1)) .write → s.profOpen = none →
    ∀ (next : Bool) (T : Nat), T = (if next then s.now else s.rd64 (Reg.GSE_P_TIME_LO (n + 1)) (Reg.GSE_P_TIME_HI (n + 1))) →
    ∀ r, r = ((s.arrived m (Reg.GSE_P_CMD (n + 1))).issued n).takeCheck false true (s.nextTag n) count
        ((List.range (min count 4096)).map (s.salvoMember n)) T s.now →
    ∃ t, exec (.salvoCmd m n count next) s = .next t ∧
      (r.1 ≠ 0 → t.rdN (Reg.GSE_P_RESULT (n + 1)) = 2 * 2 ^ 28 + r.1 * 2 ^ 24 + s.nextTag n) ∧
      (r.1 = 0 → t.rdN (Reg.GSE_P_RESULT (n + 1)) = 2 ^ 28 + b2n (r.2.2 != 0) * 2 ^ 23 + s.nextTag n ∧ ∃ k ∈ t.geyser.takes, k.tag = s.nextTag n)) ∧
  (∀ (m : Requester) (n tag : Nat) (s : State), n < 8 → tag < 2 ^ 14 → s.Passes m (Reg.GSE_P_CMD (n + 1)) .write → s.profOpen = none →
    ((s.arrived m (Reg.GSE_P_CMD (n + 1))).issued n).cancelCheck tag (some (s.nextTag n)) = 0 →
    ∃ t, exec (.takeCancelCmd m n tag) s = .next t ∧ t.rdN (Reg.GSE_P_RESULT (n + 1)) = 2 ^ 28 + s.nextTag n ∧
      t.rdN (statusAddr (s.nextTag n)) = 5 * 2 ^ 28)

/-- Arming, committing and the credits (R110, R118, R121): at the start of F - 2 a waiting member whose output the image defines is armed and takes the CXF group for F; at the start of F - 1 a group armed for F whose checks pass is COMMITTED with all its pages; a completed run-ahead stages four cells, which the read counters of their stack count; a credit is gained up to 8,192 and nothing else changes. -/
def Obligations.TakesArmAndCommit : Prop :=
  (∀ (k : Take) (m : Member) (o : OutputDef) (s : State), s.profOpen = none → s.geyser.load = none → s.geyser.takes = [k] → k.members = [m] →
    m.flip = s.epoch + 2 → m.state = 2 → m.written = false → s.outputDef m.dst = some o → s.srcOk m.src o = true → s.geyser.group = .free →
    ∃ t, exec .takeArm s = .next t ∧ t.geyser.group = .takes ∧ t.geyser.groupEpoch = s.epoch + 2 ∧
      t.geyser.takes = [{ k with members := [{ m with state := 3, written := true, prefetch := if s.runAhead m.src then 1 else 0 }] }] ∧
      ∀ p ∈ cxfPages, (p, s.epoch + 2) ∈ t.armed) ∧
  (∀ s : State, s.profOpen = none → s.geyser.load = none → s.geyser.group = .takes → s.geyser.groupEpoch = s.epoch + 1 →
    s.geyser.groupCommitted = false → (∀ k ∈ s.geyser.takes, ∀ m ∈ k.members, ¬ (m.flip = s.epoch + 1 ∧ m.state = 1)) →
    (s.dropUnagreed (s.epoch + 1)).cxfCheck none s.profile s.outputs = 0 →
    ∃ t, exec .takeCommit s = .next t ∧ t.geyser.groupCommitted = true ∧ t.geyser.group = .takes ∧ ∀ p ∈ cxfPages, t.shadowStatus p = 3) ∧
  (∀ (src : Nat) (k : Take) (m : Member) (s : State), s.geyser.takes = [k] → k.members = [m] → m.src = src → m.prefetch = 1 → inR 1 3 m.state = true →
    ∃ t, exec (.prefetchDone src) s = .next t ∧ t.geyser.takes = [{ k with members := [{ m with prefetch := 2 }] }] ∧
      t.rdN Reg.GSE_PREFETCH_CELLS = (s.rdN Reg.GSE_PREFETCH_CELLS + 4) % 2 ^ 32 ∧
      ∀ y, s.activeSlots.find? (fun y => slOut y.2 == src) = some y →
        t.rdN (Reg.FST_S_RD_CNT (slStack y.2 % 4 + 1)) = (s.rdN (Reg.FST_S_RD_CNT (slStack y.2 % 4 + 1)) + 4) % 2 ^ 32 ∧
        t.rdN (Reg.FST_S_PF_RD_CNT (slStack y.2 % 4 + 1)) = (s.rdN (Reg.FST_S_PF_RD_CNT (slStack y.2 % 4 + 1)) + 4) % 2 ^ 32) ∧
  (∀ s : State, ∃ t, exec .creditTick s = .next t ∧ t.fld Reg.GSE_CREDIT 13 0 = min 8192 (s.rdN Reg.GSE_CREDIT + 1) ∧
    { t with regs := s.regs } = s ∧ ∀ a, a ≠ Reg.GSE_CREDIT → t.rd a = s.rd a)

/-- Profile changes (Tables 5.3, 5.4, 5.11 and 5.12; R128, R131, R133, R140, R145, R135): a request that no code refuses, and whose image loads, opens a change in CHECKING; a code shows REFUSED with that code and keeps the profile; CANCEL before the commit point ends a change that is not forced in CANCELLED; the ramp and SETTLING move VDD_CORE by one step; a local change that is ready commits, and one while the loop is FROZEN is refused with 12; the twin's records are kept and followed. -/
def Obligations.ProfilesComplete : Prop :=
  (∀ (m : Requester) (profile epoch code : Nat) (s : State), profile < 4 → epoch < 2 ^ 24 → s.Passes m Reg.PTM_PROF_CMD .write →
    (s.power.prof.any (fun c => inR 1 5 c.state)) = false → code ≠ 0 →
    (s.profCode profile (s.profTarget profile epoch) false = code → ∃ t, exec (.profReq m profile epoch) s = .next t ∧
      t.fld Reg.PTM_PROF_STATUS 31 28 = 7 ∧ t.fld Reg.PTM_PROF_STATUS 27 24 = code ∧ t.profile = s.profile ∧ t.geyser = s.geyser) ∧
    (s.profCode profile none true = code → ∃ t, exec (.profReqNext m profile) s = .next t ∧
      t.fld Reg.PTM_PROF_STATUS 31 28 = 7 ∧ t.fld Reg.PTM_PROF_STATUS 27 24 = code ∧ t.profile = s.profile ∧ t.geyser = s.geyser)) ∧
  (∀ (m : Requester) (profile epoch E : Nat) (s : State), profile < 4 → epoch < 2 ^ 24 → s.Passes m Reg.PTM_PROF_CMD .write →
    s.profTarget profile epoch = some E → s.profCode profile (some E) false = 0 → s.power.twinReq = none →
    ∀ c, c = s.newChange profile (some E) (s.rd64 Reg.PTM_PROF_IMG_LO Reg.PTM_PROF_IMG_HI) → s.now < s.armDeadline c.vphase E →
    ((s.arrived m Reg.PTM_PROF_CMD).setProf c).loadBusy c.addr (some E) true false = false →
    ∃ t, exec (.profReq m profile epoch) s = .next t ∧ t.power.prof = some c ∧ t.fld Reg.PTM_PROF_STATUS 31 28 = 1 ∧ t.profile = s.profile ∧
      ∃ l, t.geyser = { s.geyser with load := some l } ∧ l.newProfile = some profile ∧ l.target = some E ∧ l.stage = 0) ∧
  (∀ (m : Requester) (profile : Nat) (s : State), profile < 4 → s.Passes m Reg.PTM_PROF_CMD .write → s.profCode profile none true = 0 →
    ∀ c, c = s.newChange profile none (s.rd64 Reg.PTM_PROF_IMG_LO Reg.PTM_PROF_IMG_HI) →
    ((s.arrived m Reg.PTM_PROF_CMD).setProf c).loadBusy c.addr none true false = false →
    ∃ t, exec (.profReqNext m profile) s = .next t ∧ t.power.prof = some c ∧ t.fld Reg.PTM_PROF_STATUS 31 28 = 1 ∧ t.profile = s.profile ∧
      ∃ l, t.geyser = { s.geyser with load := some l } ∧ l.newProfile = some profile ∧ l.next = true ∧ l.stage = 0) ∧
  (∀ (m : Requester) (c : ProfChange) (s : State), s.Passes m Reg.PTM_PROF_CMD .write → s.power.prof = some c → c.forced = false →
    (1 ≤ c.state → c.state ≤ 3 → ∃ t, exec (.profCancel m) s = .next t ∧
      t.power = { s.power with prof := some { c with state := 8 }, twinReq := none, twinReady := false }) ∧
    (c.state = 4 → ∃ t, exec (.profCancel m) s = .next t ∧ t.power = s.power)) ∧
  (∀ (c : ProfChange) (s : State), s.power.prof = some c → c.state = 2 → c.rampEnd = none → s.vFree = true →
    (s.steps < (s.vWindow c.profile).2 → ∃ t, exec .rampStep s = .next t ∧ t.steps = s.steps + 1 ∧ t.profile = s.profile ∧
      t.power.prof = some (if c.goal ≤ s.steps + 1 then { c with rampEnd := some s.now } else c)) ∧
    ((s.vWindow c.profile).2 ≤ s.steps → ∃ t, exec .rampStep s = .next t ∧ t.steps = s.steps ∧
      t.raised Src.PTM_RAIL_LIMIT = true)) ∧
  (∀ (c : ProfChange) (E : Nat) (l : ImageLoad) (s : State), s.power.prof = some c → c.state = 3 → c.forced = false → c.isLocal = true →
    (c.ready = true → s.frozen = false → c.armed = true → c.target = some E → s.geyser.load = some l → l.newProfile.isSome = true →
      s.geyser.groupCommitted = true → exec .profCommit s = .next (s.setProf { c with state := 4 })) ∧
    (s.frozen = true ∨ c.ready = false → ∃ t, exec .profCommit s = .next t ∧ t.profile = s.profile ∧
      t.power = { s.power with prof := some { c with state := 7, reason := 12 }, twinReq := none, twinReady := false })) ∧
  (∀ (c : ProfChange) (s : State), s.power.prof = some c → c.state = 5 →
    ((s.vWindow s.profile).2 < s.steps → s.power.raiseTick ≠ some s.power.tick → s.vFree = true →
      ∃ t, exec .settleStep s = .next t ∧ t.steps = s.steps - 1 ∧
        t.power.prof = some (if s.steps - 1 ≤ (s.vWindow s.profile).2 then { c with state := 6 } else c)) ∧
    (s.steps ≤ (s.vWindow s.profile).2 → exec .settleStep s = .next (s.setProf { c with state := 6 }))) ∧
  (∀ (profile epoch id crc : Nat) (s : State), s.running 15 = true → s.power.prof = none →
    ∃ t, exec (.profReqRx profile epoch id crc) s = .next t ∧
      t.power = { s.power with twinReq := some (profile % 4, epoch % 2 ^ 24, id % 2 ^ 32, crc % 2 ^ 32) } ∧
      t.rdN Reg.PTM_PROF_TWIN = b2n s.power.twinReady * 2 ^ 31 + 2 ^ 30 + profile % 4 * 2 ^ 28 + epoch % 2 ^ 24 ∧ { t with regs := s.regs, power := s.power } = s) ∧
  (∀ s : State, s.running 15 = true →
    ∃ t, exec .profReadyRx s = .next t ∧ t.power = { s.power with twinReady := true } ∧ t.bit Reg.PTM_PROF_TWIN 31 = true ∧
      { t with regs := s.regs, power := s.power } = s) ∧
  (∀ (c : ProfChange) (s : State), s.running 15 = true → s.power.prof = some c → c.forced = false → 1 ≤ c.state → c.state ≤ 3 →
    ∃ t, exec .profCancelRx s = .next t ∧ t.power = { s.power with prof := some { c with state := 8 }, twinReq := none, twinReady := false }) ∧
  (∀ (epoch : Nat) (s : State), s.running 15 = true → s.bit Reg.PTM_CFG 2 = true → s.power.prof = none → s.geyser.load = none →
    (s.profile = 3 → ∃ t, exec (.profForceRx epoch) s = .next t ∧ t.bit Reg.PTM_THERM_STATUS 2 = true ∧ t.profile = 3 ∧
      t.raised Src.PTM_FORCED_COOL = true) ∧
    (s.profile ≠ 3 → ∃ t c, exec (.profForceRx epoch) s = .next t ∧ t.power.prof = some c ∧ c.forced = true ∧ c.profile = 3 ∧
      (c.state = 1 ∨ (c.state = 7 ∧ c.reason = 9)))) ∧
  (∀ (epoch : Nat) (s : State), s.bit Reg.PTM_CFG 2 = false → exec (.profForceRx epoch) s = .next s)

/-- Rails, temperatures and power (R142, R143, R147 to R151, R453): a poll keeps an enabled rail's readings; EN going to 1 applies a rail's settings, for VDD_CORE only where VOUT_MODE holds (the coding of VOUT_MODE is the model's, log entry 42); a transaction that fails four times counts, raises PTM_PMBUS_ERR and freezes the loop where it was VDD_CORE's; an alert reads STATUS_WORD of the master's rails; the power average is kept with its run above the cap; a sample of the sensors keeps the junction temperature, and two in a row at 125 °C or more shut down. -/
def Obligations.PowerAndTemperatureComplete : Prop :=
  (∀ (k vout iout status : Nat) (pout : Option Nat) (temp : Int) (s : State), s.railOn (railNo k) = true →
    ∃ t, exec (.railPoll k vout iout pout temp status) s = .next t ∧
      t.fld (Reg.PTM_R_VOUT (railNo k)) 15 0 = min vout 65535 ∧ t.fld (Reg.PTM_R_IOUT (railNo k)) 19 0 = min iout (2 ^ 20 - 1) ∧
      t.fld (Reg.PTM_R_POUT (railNo k)) 15 0 = min (pout.getD (vout * iout / 1000000)) 65535 ∧
      t.fld (Reg.PTM_R_TEMP (railNo k)) 15 0 = unsigned 16 temp ∧ t.fld (Reg.PTM_R_STATUS (railNo k)) 15 0 = status % 65536 ∧
      (railNo k = 1 → t.frozen = false)) ∧
  (∀ (k vout iout status : Nat) (pout : Option Nat) (temp : Int) (s : State), s.railOn (railNo k) = false →
    exec (.railPoll k vout iout pout temp status) s = .next s) ∧
  (∀ (m : Requester) (k v mode : Nat) (s : State), (if railNo k = 1 then { s with board := { s.board with voutMode := mode % 256 } } else s).Passes m (Reg.PTM_R_CFG (railNo k)) .write →
    s.railOn (railNo k) = false →
    (v.testBit 31 = true → (railNo k = 1 → voutOk (mode % 256) = true) → ∃ t, exec (.railEnable m k v mode) s = .next t ∧ t.railOn (railNo k) = true ∧
      kget t.power.rails (railNo k) = some (b2n (v.testBit 30), v / 2 ^ 16 % 128, v / 256 % 256)) ∧
    (v.testBit 31 = true → railNo k = 1 → voutOk (mode % 256) = false → ∃ t, exec (.railEnable m k v mode) s = .next t ∧ t.railOn 1 = false ∧
      t.power = s.power ∧ t.raised Src.PTM_PMBUS_ERR = true) ∧
    (v.testBit 31 = false → ∃ t, exec (.railEnable m k v mode) s = .next t ∧ t.railOn (railNo k) = false ∧ kget t.power.rails (railNo k) = none)) ∧
  (∀ (k n : Nat) (pec : Bool) (s : State), s.railOn (railNo k) = true → (pec = true → s.bit Reg.PTM_PMBUS_CFG 2 = true) → 0 < n →
    (4 ≤ n → ∃ t, exec (.pmbusTxnFail k n pec) s = .next t ∧ t.rdN (Reg.PTM_R_ERR_CNT (railNo k)) = (s.rdN (Reg.PTM_R_ERR_CNT (railNo k)) + 1) % 2 ^ 32 ∧
      t.rdN Reg.PTM_PMBUS_ERR_CNT = (s.rdN Reg.PTM_PMBUS_ERR_CNT + 1) % 2 ^ 32 ∧ (railNo k = 1 → t.frozen = true) ∧
      t.raised Src.PTM_PMBUS_ERR = true) ∧
    (n < 4 → ∃ t, exec (.pmbusTxnFail k n pec) s = .next t ∧ (railNo k = 1 → t.frozen = false) ∧ { t with regs := s.regs } = s)) ∧
  (∀ (k n : Nat) (x : Nat × Nat × Nat) (s : State), s.railOn (railNo k) = true → kget s.power.rails (railNo k) = some x → 0 < n →
    (4 ≤ n → ∃ t, exec (.pmbusClkTimeout k n) s = .next t ∧ .pmbusRecover s.now x.1 ∈ t.out ∧ (railNo k = 1 → t.frozen = true) ∧
      t.rdN (Reg.PTM_R_ERR_CNT (railNo k)) = (s.rdN (Reg.PTM_R_ERR_CNT (railNo k)) + 1) % 2 ^ 32) ∧
    (n < 4 → ∃ t, exec (.pmbusClkTimeout k n) s = .next t ∧ t.out = List.replicate n (.pmbusRecover s.now x.1) ++ s.out)) ∧
  (∀ (master : Nat) (words : List Nat) (s : State), ∃ t, exec (.smbalert master words) s = .next t ∧ { t with regs := s.regs } = s ∧
    ∀ k, 1 ≤ k → k ≤ 8 → ∀ x, kget s.power.rails k = some x →
      t.fld (Reg.PTM_R_STATUS k) 15 0 = (if x.1 = master % 2 ∧ s.railOn k = true then nthD words (k - 1) 0 % 65536 else s.fld (Reg.PTM_R_STATUS k) 15 0)) ∧
  (∀ s : State, ∃ t, exec .powerAverage s = .next t ∧ t.fld Reg.PTM_POWER 15 0 = min s.meanPower 65535 ∧
    t.power = { s.power with sums := [], above := if powerCap s.profile < min s.meanPower 65535 then s.power.above + 1 else 0 }) ∧
  (∀ (readings : List Int) (s : State) (h : Nat × Int), (s.sampled readings).hottest = h →
    (h.2 < s.thermTh 8 → h.2 < 1000 → ∃ t, exec (.sensorSample readings) s = .next t ∧ t.power.tripped = s.power.tripped ∧
      t.rdN Reg.PTM_TS_HOT = (h.1 * 65536 + unsigned 16 h.2) % 2 ^ 32 ∧ t.bit Reg.PTM_THERM_STATUS 0 = decide (s.thermTh 0 ≤ h.2) ∧
      t.bit Reg.PTM_THERM_STATUS 1 = false ∧ t.bit Reg.PTM_THERM_STATUS 3 = decide (h.2 < s.thermTh 16) ∧
      ∀ i, i < 28 → t.temp i = clampInt (-32768) 32767 (nthD readings i (s.temp i))) ∧
    (s.power.tripped = false → 1000 ≤ h.2 → s.power.hot = true → ∃ t, exec (.sensorSample readings) s = .next t ∧ t.power.tripped = true) ∧
    (s.power.tripped = false → s.thermTh 8 ≤ h.2 → s.power.hot = false → s.bit Reg.PTM_THERM_STATUS 1 = false → s.power.prof = none →
      s.geyser.load = none → s.profile ≠ 3 → ∃ t c, exec (.sensorSample readings) s = .next t ∧ t.power.prof = some c ∧ c.forced = true ∧ c.profile = 3))

/-- The states of the serial lanes (R160, R170 to R173, Tables 6.12 and 6.14): a PLL locks, does not lock in time, or is lost; block lock is gained, lost after 16 invalid headers within 64 blocks, and given up for ALIGN; SLIP moves the boundary; lanes sleep and wake in each direction (the state that a lane shows while it recovers is log entry 24). -/
def Obligations.LaneStatesComplete : Prop :=
  (∀ (q : Nat) (tx : Bool) (s : State), q < 128 →
    (s.curOf 6 (q + 1) = sRUN ∨ s.awaiting.any (fun x => x.1 == quadPage q && x.2 == sRUN) = true →
      ∃ t, exec (.pllLock q tx) s = .next t ∧ t.bit (Reg.SLC_Q_STATUS (q + 1)) (pllBit tx) = true) ∧
    (s.curOf 6 (q + 1) = sRUN → ∃ t, exec (.pllUnlock q tx) s = .next t ∧ t.bit (Reg.SLC_Q_STATUS (q + 1)) (pllBit tx) = false ∧
      ∀ n, n < 4 → (tx = true → s.txState (4 * q + n) = 1 → t.txState (4 * q + n) = 0) ∧
        (tx = false → s.rxState (4 * q + n) = 3 → t.rxState (4 * q + n) = 1 ∧ (t.lane (4 * q + n)).recovering = true ∧ t.raised Src.SLC_LOCK_LOST = true))) ∧
  (∀ (q : Nat) (s : State), q < 128 → s.awaiting.any (fun x => x.1 == quadPage q && x.2 == sRUN) = true → s.quadLocked q = false →
    ∃ t, exec (.pllLockTimeout q) s = .next t ∧ t.raised Src.SLC_PLL_UNLOCK = true ∧ t.busy (quadPage q) = false ∧
      t.curOf 6 (q + 1) = s.curOf 6 (q + 1) ∧ (∀ x ∈ t.awaiting, x.1 ≠ quadPage q)) ∧
  (∀ (l b : Nat) (w : List Nat) (s : State), l < 512 → s.locked l = true → w = (b :: (s.lane l).bad).filter (fun y => decide (b < y + 64)) →
    (w.length < 16 → ∃ t, exec (.syncHeaderInvalid l b) s = .next t ∧ t.lane l = { s.lane l with bad := w } ∧ t.rxState l = 3 ∧
      t.rdN (hid (Reg.SLC_Q_ERR_CNT (l / 4 + 1)) (l % 4)) = (s.rdN (hid (Reg.SLC_Q_ERR_CNT (l / 4 + 1)) (l % 4)) + 1) % 2 ^ 32) ∧
    (16 ≤ w.length → ∃ t, exec (.syncHeaderInvalid l b) s = .next t ∧ t.rxState l = 1 ∧ (t.lane l).recovering = true ∧ t.raised Src.SLC_LOCK_LOST = true)) ∧
  (∀ (l : Nat) (s : State), l < 512 → s.quadRuns l = true → (s.rxState l = 2 ∨ (s.lane l).recovering = true) →
    ∃ t, exec (.laneLock l) s = .next t ∧ t.rxState l = 3 ∧ t.lane l = { s.lane l with good := 64, bad := [], recovering := false }) ∧
  (∀ (k : Nat) (s : State), k < 16 → s.running 15 = true →
    (s.pairRx k = 2 ∨ s.pairRx k = 3 → ∃ t, exec (.laneLock (512 + k)) s = .next t ∧ t.pairRx k = 4) ∧
    (∀ b, s.pairRx k = 4 → 15 ≤ ((s.lane (512 + k)).bad.filter (fun y => decide (b < y + 64))).length →
      ∃ t, exec (.syncHeaderInvalid (512 + k) b) s = .next t ∧ t.pairRx k = 2)) ∧
  (∀ (l : Nat) (s : State), l < 512 →
    ((s.lane l).recovering = true → ∃ t, exec (.lockRecoveryTimeout l) s = .next t ∧ t.rxState l = (if slfRate (s.rxRate l) then 2 else 1) ∧
      t.lane l = { s.lane l with good := 0, recovering := false }) ∧
    ((s.lane l).recovering = false → exec (.lockRecoveryTimeout l) s = .next s)) ∧
  (∀ (m : Requester) (q v l : Nat) (s : State), q < 128 → s.Passes m (Reg.SLC_Q_ALIGN (q + 1)) .write → l = 4 * q + s.fld (Reg.SLC_Q_SEL (q + 1)) 1 0 →
    (v.testBit 31 = true → (s.lane l).pos < 66 → ∃ t, exec (.alignSlip m q v) s = .next t ∧
      t.lane l = { s.lane l with pos := ((s.lane l).pos + 1) % 66, good := 0 }) ∧
    (v.testBit 31 = false → ∃ t, exec (.alignSlip m q v) s = .next t ∧ t.lanes = s.lanes)) ∧
  (∀ (l : Nat) (s : State), l < 512 → s.locked l = true → slfRate (s.rxRate l) = true →
    ∃ t, exec (.slfSleepRx l) s = .next t ∧ t.rxState l = if s.bit (Reg.SLC_Q_SLEEP (l / 4 + 1)) (8 + l % 4) then 4 else 1) ∧
  (∀ (l : Nat) (ppm : Int) (s : State), l < 512 → s.quadRuns l = true → s.rxState l = 4 →
    (-300 ≤ ppm → ppm ≤ 300 → s.bit (Reg.SLC_Q_SLEEP (l / 4 + 1)) (16 + l % 4) = true → s.bit (Reg.SLC_Q_STATUS (l / 4 + 1)) 30 = true →
      ∃ t, exec (.rxWake l ppm) s = .next t ∧ t.rxState l = 3 ∧ t.fld (Reg.SLC_LANE_WAKE_MODE (l / 4 + 1)) (2 * (l % 4) + 1) (2 * (l % 4)) = 1) ∧
    (ppm < -300 ∨ 300 < ppm → ∃ t, exec (.rxWake l ppm) s = .next t ∧ t.rxState l = 5 ∧ t.raised Src.SLC_FULL_RETRAIN = true ∧
      t.fld (Reg.SLC_LANE_WAKE_MODE (l / 4 + 1)) (2 * (l % 4) + 1) (2 * (l % 4)) = 2) ∧
    (-300 ≤ ppm → ppm ≤ 300 → s.bit (Reg.SLC_Q_SLEEP (l / 4 + 1)) (16 + l % 4) = false ∨ s.bit (Reg.SLC_Q_STATUS (l / 4 + 1)) 30 = false →
      ∃ t, exec (.rxWake l ppm) s = .next t ∧ t.rxState l = 5 ∧ t.raised Src.SLC_FULL_RETRAIN = true ∧
        t.fld (Reg.SLC_LANE_WAKE_MODE (l / 4 + 1)) (2 * (l % 4) + 1) (2 * (l % 4)) = 3)) ∧
  (∀ (l : Nat) (s : State), l < 512 → s.quadRuns l = true → (s.rxState l = 5 ∨ s.rxState l = 1) → (s.lane l).recovering = false →
    s.bit (Reg.SLC_Q_STATUS (l / 4 + 1)) 30 = true →
    ∃ t, exec (.rxRetrainDone l) s = .next t ∧ t.rxState l = if slfRate (s.rxRate l) then 2 else 3) ∧
  (∀ (m : Requester) (q n v : Nat) (s : State), q < 128 → n < 4 → s.Passes m (Reg.SLC_Q_SLEEP (q + 1)) .write →
    (v.testBit n = true → slfRate (s.txRate (4 * q + n)) = true → ((List.range 8).any (s.streamOn q n)) = false → s.txState (4 * q + n) = 1 →
      ∃ t, exec (.txSleepSet m q v) s = .next t ∧ t.txState (4 * q + n) = 3 ∧ .blocks s.now (4 * q + n) (List.replicate 16 (true, 0x4B)) ∈ t.out) ∧
    (v.testBit n = false → s.txState (4 * q + n) = 3 → s.bit (Reg.SLC_Q_STATUS (q + 1)) 31 = true →
      ∃ t, exec (.txSleepClear m q v) s = .next t ∧ t.txState (4 * q + n) = 1 ∧
        .blocks s.now (4 * q + n) (List.replicate 128 (true, 0xA5A5A5A5A5A5A555)) ∈ t.out) ∧
    (v.testBit n = false → s.txState (4 * q + n) = 3 → s.bit (Reg.SLC_Q_STATUS (q + 1)) 31 = false →
      ∃ t, exec (.txSleepClear m q v) s = .next t ∧ t.txState (4 * q + n) = 4))

/-- Bursts, markers, eye scans and adaptation (R163 to R169, R174, R175): the burst that a lane sends is received whole by a lane in LOCK, with its line, its fill and error marks and no CRC error; one whose header check fails is discarded and counted; a lane sends its oldest line of a stream and its markers in turn; a scan starts once and completes with its count; a locked lane moves one setting by one code. -/
def Obligations.BurstsComplete : Prop :=
  (∀ (l seq h : Nat) (y : TxLine) (body : List (Bool × Nat)) (s : State), l < 512 → s.locked l = true → slfRate (s.rxRate l) = true →
    y.words.length < 2 ^ 14 → y.stream < 8 → seq < 2 ^ 32 → burstOf y seq = (true, h) :: body →
    fifoFill (s.lane l) + ceilDiv (10 * y.words.length) 64 + 2 ≤ 2048 → (∀ b, kget (s.lane l).lastSeq y.stream = some b → newer 32 seq b = true) →
    ∃ t, exec (.slfBurstRx l h body) s = .next t ∧ t.lane l = { s.lane l with
      lastSeq := kput (s.lane l).lastSeq y.stream seq,
      fifo := (s.lane l).fifo ++ [⟨y.stream, seq, y.words.length, ceilDiv (10 * y.words.length) 64 + 2, false, y.fill, y.err⟩] }) ∧
  (∀ (l h : Nat) (body : List (Bool × Nat)) (s : State), l < 512 → s.locked l = true → slfRate (s.rxRate l) = true → hcrc (h % 2 ^ 59) ≠ h / 2 ^ 59 % 32 →
    ∃ t, exec (.slfBurstRx l h body) s = .next t ∧ t.lanes = s.lanes ∧ t.raised Src.SLC_BURST_CRC = true ∧
      t.rdN (hid (Reg.SLC_Q_ERR_CNT (l / 4 + 1)) (4 + l % 4)) = (s.rdN (hid (Reg.SLC_Q_ERR_CNT (l / 4 + 1)) (4 + l % 4)) + 1) % 2 ^ 32) ∧
  (∀ (l payload : Nat) (s : State), l < 512 → s.locked l = true → slfRate (s.rxRate l) = true →
    ∃ t, exec (.slfMarkerRx l payload) s = .next t ∧ t.lane l = { s.lane l with mcount := some (payload / 2 ^ 30 % 2 ^ 32) } ∧
      ∀ b, (s.lane l).mcount = some b → payload / 2 ^ 30 % 2 ^ 32 ≠ (b + 1) % 2 ^ 32 → t.raised Src.SLC_FRAMING = true) ∧
  (∀ (l stream : Nat) (y : TxLine) (s : State), l < 512 → stream < 8 → s.sends l = true → s.streamOn (l / 4) (l % 4) stream = true →
    (s.lane l).txq.find? (fun z => z.stream == stream) = some y →
    ∃ t i, exec (.slfBurstTx l stream) s = .next t ∧ t.out = .blocks s.now l (burstOf y (seqOf s.epochStart i)) :: s.out ∧ t.regs = s.regs ∧
      (t.lane l).txq = (s.lane l).txq.erase y ∧ (t.lane l).sent = (s.lane l).sent.filter (fun z => z.1 != stream) ++ [(stream, s.epoch, i + 1)] ∧
      ((∀ z ∈ (s.lane l).sent, z.1 ≠ stream) → i = 0)) ∧
  (∀ (l : Nat) (s : State), l < 512 → s.sends l = true →
    ∃ t, exec (.slfMarkerTx l) s = .next t ∧ t.out = .blocks s.now l [(true, s.markerPayload l (s.lane l).txMcount)] :: s.out ∧ t.regs = s.regs ∧
      t.lane l = { s.lane l with txMcount := ((s.lane l).txMcount + 1) % 2 ^ 32 }) ∧
  (∀ (m : Requester) (q v : Nat) (s : State), q < 128 → s.Passes m (Reg.SLC_Q_EYE_CMD (q + 1)) .write →
    (v.testBit 31 = true → s.bit (Reg.SLC_Q_EYE_RESULT (q + 1)) 31 = false → ∃ t, exec (.eyeScanStart m q v) s = .next t ∧
      t.bit (Reg.SLC_Q_EYE_RESULT (q + 1)) 31 = true ∧ t.bit (Reg.SLC_Q_EYE_RESULT (q + 1)) 30 = false ∧
      t.fld (Reg.SLC_Q_EYE_RESULT (q + 1)) 29 28 = s.fld (Reg.SLC_Q_SEL (q + 1)) 1 0) ∧
    (v.testBit 31 = false ∨ s.bit (Reg.SLC_Q_EYE_RESULT (q + 1)) 31 = true → ∃ t, exec (.eyeScanStart m q v) s = .next t ∧
      t.rd (Reg.SLC_Q_EYE_RESULT (q + 1)) = s.rd (Reg.SLC_Q_EYE_RESULT (q + 1)))) ∧
  (∀ (q errors : Nat) (s : State), q < 128 →
    (s.bit (Reg.SLC_Q_EYE_RESULT (q + 1)) 31 = true → ∃ t, exec (.eyeScanDone q errors) s = .next t ∧ t.bit (Reg.SLC_Q_EYE_RESULT (q + 1)) 31 = false ∧
      t.bit (Reg.SLC_Q_EYE_RESULT (q + 1)) 30 = true ∧ t.fld (Reg.SLC_Q_EYE_RESULT (q + 1)) 23 0 = min errors (2 ^ 24 - 1)) ∧
    (s.bit (Reg.SLC_Q_EYE_RESULT (q + 1)) 31 = false → exec (.eyeScanDone q errors) s = .next s)) ∧
  (∀ (l setting eyeW eyeH : Nat) (up : Bool) (s : State), l < 512 → setting < 5 → s.locked l = true → s.bit (Reg.SLC_Q_CFG (l / 4 + 1)) 8 = true →
    s.bit (Reg.SLC_Q_EYE_RESULT (l / 4 + 1)) 31 = false →
    ∃ t, exec (.adaptStep l setting up eyeW eyeH) s = .next t ∧ (t.lane l).eyeW = eyeW % 256 ∧ (t.lane l).eyeH = eyeH % 256 ∧
      (t.lane l).ctle = (if setting = 0 then (if up then min 15 ((s.lane l).ctle + 1) else (s.lane l).ctle - 1) else (s.lane l).ctle) ∧
      (t.lane l).vga = (if setting = 1 then (if up then min 63 ((s.lane l).vga + 1) else (s.lane l).vga - 1) else (s.lane l).vga) ∧
      (setting < 2 → (t.lane l).dfe = (s.lane l).dfe) ∧
      (2 ≤ setting → (t.lane l).dfe = (s.lane l).dfe.set (setting - 2) (if up then min 31 (nthD (s.lane l).dfe (setting - 2) 0 + 1)
        else max (-32) (nthD (s.lane l).dfe (setting - 2) 0 - 1)))) ∧
  (∀ (l setting eyeW eyeH : Nat) (up : Bool) (s : State), l < 512 → s.locked l = false → exec (.adaptStep l setting up eyeW eyeH) s = .next s)

/-- The SDI framing engine (R181, R182, R184, R188, Table 7.3): a context word is written unless the context is on, when it is answered STATE; a received line leaves its lane's FIFO, and in its place of a LOCKED context it counts; a LOCKED context without bursts goes back to SEARCH with SFE_INPUT_LOSS; a line of an enabled stream is built and joins its lane's queue. -/
def Obligations.FramingCompletes : Prop :=
  (∀ (m : Requester) (q d i w v : Nat) (s : State), q < 128 → d < 2 → i < 32 → w < 4 → s.Passes m (sfeCtxAddr q d i + 4 * w) .write →
    (s.curOf 7 (q + 1) = sRUN → s.bit (sfeCtxAddr q d i + 12) 31 = true → ¬ (w = 3 ∧ v.testBit 31 = false) →
      ∃ t, exec (.sfeCtxWrite m q d i w v) s = .next t ∧ t.answer.resp = .state ∧ t.raised Src.SFE_RUN_WRITE = true ∧
        t.rd (sfeCtxAddr q d i + 4 * w) = s.rd (sfeCtxAddr q d i + 4 * w)) ∧
    (s.curOf 7 (q + 1) ≠ sRUN ∨ s.bit (sfeCtxAddr q d i + 12) 31 = false ∨ (w = 3 ∧ v.testBit 31 = false) →
      ∃ t, exec (.sfeCtxWrite m q d i w v) s = .next t ∧ t.answer.resp = .okay ∧ t.rd (sfeCtxAddr q d i + 4 * w) = w32 v)) ∧
  (∀ (l stream : Nat) (y : RxLine) (x : SdiLine) (s : State), l < 512 → stream < 8 → (s.lane l).fifo.find? (fun z => z.stream == stream) = some y →
    ∃ t, exec (.sfeLineRx l stream x) s = .next t ∧ (t.lane l).fifo = (s.lane l).fifo.erase y ∧
      (s.curOf 7 (l / 4 + 1) = sRUN → (s.rxCtx (l / 4) (8 * (l % 4) + stream)).st = 2 → (s.rxCtx (l / 4) (8 * (l % 4) + stream)).refused = false →
        ctxQuad (s.sfeCtx (l / 4) 0 (8 * (l % 4) + stream)) = false → x.first = false →
        burstPlace (s.sfeCtx (l / 4) 0 (8 * (l % 4) + stream)) y.words x.place = .inPlace →
        t.rdN Reg.SFE_RX_LINES = (s.rdN Reg.SFE_RX_LINES + 1) % 2 ^ 32)) ∧
  (∀ (l stream : Nat) (x : SdiLine) (s : State), l < 512 → stream < 8 → (s.lane l).fifo.find? (fun z => z.stream == stream) = none →
    exec (.sfeLineRx l stream x) s = .next s) ∧
  (∀ (q i : Nat) (s : State), q < 128 → i < 32 →
    ((s.rxCtx q i).st = 2 → ∃ t, exec (.sfeInputLossTimeout q i) s = .next t ∧ (t.rxCtx q i).st = 1 ∧ t.raised Src.SFE_INPUT_LOSS = true) ∧
    ((s.rxCtx q i).st ≠ 2 → exec (.sfeInputLossTimeout q i) s = .next s)) ∧
  (∀ (l stream n line : Nat) (s : State), l < 512 → stream < 8 →
    (s.curOf 7 (l / 4 + 1) = sRUN → s.streamOn (l / 4) (l % 4) stream = true → (s.txCtx (l / 4) (8 * (l % 4) + stream)).refused = false →
      ∃ t b, exec (.sfeLineTx l stream n line) s = .next t ∧ (t.lane l).txq = (s.lane l).txq ++ [b] ∧ t.rdN Reg.SFE_TX_LINES = (s.rdN Reg.SFE_TX_LINES + 1) % 2 ^ 32 ∧
        (s.upd.loading.contains 4 = false → b.stream = stream ∧
          b.fill = (s.lineSource (s.sfeCtx (l / 4) 1 (8 * (l % 4) + stream)) n (s.txCtx (l / 4) (8 * (l % 4) + stream)).on).2.1 ∧
          b.words.length = burstWords (s.sfeCtx (l / 4) 1 (8 * (l % 4) + stream)))) ∧
    (s.curOf 7 (l / 4 + 1) ≠ sRUN → exec (.sfeLineTx l stream n line) s = .next s))

/-- The media MACs (R198, R200, R203, R204, R212, R213, R217, R218, R220, R224, Table 8.2): a short, long or damaged frame is dropped with its source; a whole one that a rule steers to a queue with room counts for its port and its queue; a flow's cells of the epoch that ends are closed; a silent leg of a merge is reported; a packet that is due leaves its port, or waits for its data, or is counted where the port is down; the head of a transmit ring is sent and CONS advances; a port comes up with its locks and goes down with FMAC_LINK_DOWN; TX_AN is taken. -/
def Obligations.MediaMacsComplete : Prop :=
  (∀ (q n fixed lost : Nat) (f : List Byte) (s : State), q < 128 → n < 4 → s.portUp q n = true → (s.fecOn q n = true → lost = 0) →
    (f.length < 64 → ∃ t, exec (.frameRx q n f false fixed lost) s = .next t ∧ t.raised Src.FMAC_RUNT = true ∧ t.macCnt q 2 n = (s.macCnt q 2 n + 1) % 2 ^ 32) ∧
    (64 ≤ f.length → s.mtu q < f.length → ∃ t, exec (.frameRx q n f false fixed lost) s = .next t ∧ t.raised Src.FMAC_OVERSIZE = true ∧
      t.macCnt q 4 n = (s.macCnt q 4 n + 1) % 2 ^ 32) ∧
    (64 ≤ f.length → f.length ≤ s.mtu q → crc32 (f.take (f.length - 4)) ≠ ofBytesLE (f.drop (f.length - 4)) →
      ∃ t, exec (.frameRx q n f false fixed lost) s = .next t ∧ t.raised Src.FMAC_FCS_ERR = true ∧ t.macCnt q 3 n = (s.macCnt q 3 n + 1) % 2 ^ 32) ∧
    (∀ k, 64 ≤ f.length → f.length ≤ s.mtu q → crc32 (f.take (f.length - 4)) = ofBytesLE (f.drop (f.length - 4)) → s.secOn q n = false →
      s.steer q n (f.take (f.length - 4)) = some k → quSink (s.queueEntry q k 0) ≠ 0 →
      (quSink (s.queueEntry q k 0) = 1 → (s.flowFor q n (f.take (f.length - 4))).isSome = true) → s.queueFull (s.queueEntry q k 0) (f.length - 4) = false →
      ∃ t, exec (.frameRx q n f false fixed lost) s = .next t ∧ t.macCnt q 0 n = (s.macCnt q 0 n + 1) % 2 ^ 32 ∧ t.macCnt q 10 k = (s.macCnt q 10 k + 1) % 2 ^ 32)) ∧
  (∀ (q i : Nat) (s : State), q < 128 → i < 256 → s.macRuns q = true → rfEn (s.rxFlow q i) = true → rfKind (s.rxFlow q i) ≠ 4 →
    ∃ t, exec (.flowCellClose q i) s = .next t ∧ (t.flowRun (flowKey q (s.leadOf q i))).opened = s.epoch + 1 ∧
      t.mac.lines = s.mac.lines.filter (fun x => !(x.flow == flowKey q (s.leadOf q i) && decide (s.epochOf x.cell.format x.cell.ptpTime ≤ s.epoch)))) ∧
  (∀ (q i p : Nat) (s : State), q < 128 → i < 256 → s.mergeWith q i = some p → s.macRuns q = true → rfEn (s.rxFlow q i) = true →
    (∀ x, kget s.mac.legs (flowKey q i) = some x → x + 10000000 ≤ s.now) →
    (∀ x, kget s.mac.legs (flowKey q p) = some x → s.now < x + 10000000 →
      ∃ t, exec (.mergeLegTimeout q i) s = .next t ∧ t.raised Src.FMAC_MERGE_LEG = true) ∧
    (kget s.mac.legs (flowKey q p) = none → exec (.mergeLegTimeout q i) s = .next s)) ∧
  (∀ (q i n e : Nat) (s : State), q < 128 → i < 256 → s.macRuns q = true → e = s.txFlow q i → tfEn e = true →
    (∀ d, s.datagram q i e n = some d → s.portUp q (tfPortA e) = true → s.secOn q (tfPortA e) = false →
      ∃ t, exec (.mediaPktTx q i n) s = .next t ∧ .frame s.now q (tfPortA e) (withFcs (mediaFrame e (s.portEntry q (tfPortA e)) (tfDstA e) d)) ∈ t.out) ∧
    (∀ d, s.datagram q i e n = some d → s.portUp q (tfPortA e) = false → tfBEn e = false →
      ∃ t, exec (.mediaPktTx q i n) s = .next t ∧ t.macCnt q 16 (tfPortA e) = (s.macCnt q 16 (tfPortA e) + 1) % 2 ^ 32 ∧ ∀ a b c d, .frame a b c d ∈ t.out → .frame a b c d ∈ s.out) ∧
    (s.datagram q i e n = none → exec (.mediaPktTx q i n) s = .next s)) ∧
  (∀ (q n e c : Nat) (s : State), q < 128 → n < 4 → s.macRuns q = true → e = s.txRing q n 0 → e.testBit 63 = true → s.storeOpen = true →
    c = s.ringCons (ringBase e) →
    (s.ringProd (ringBase e) ≠ c → s.portUp q n = true → s.secOn q n = false →
      ∃ t, exec (.hostFrameTx q n) s = .next t ∧ t.ringCons (ringBase e) = (c + 1) % 2 ^ 32 ∧
        t.out = .frame s.now q n (withFcs (s.rdBytes (ringSlot e c + 16) (ofBytesLE (s.rdBytes (ringSlot e c) 2)))) :: s.out) ∧
    (s.ringProd (ringBase e) ≠ c → s.portUp q n = false →
      ∃ t, exec (.hostFrameTx q n) s = .next t ∧ t.ringCons (ringBase e) = (c + 1) % 2 ^ 32 ∧ t.macCnt q 16 n = (s.macCnt q 16 n + 1) % 2 ^ 32) ∧
    (s.ringProd (ringBase e) = c → exec (.hostFrameTx q n) s = .next s)) ∧
  (∀ (q n : Nat) (block am fec lf rf up : Bool) (s : State), q < 128 → n < 4 → s.macRuns q = true → s.portOn q n = true →
    up = (block && (decide (s.macMode q < 2) || am) && (!s.fecOn q n || fec) && !lf) →
    ∃ t, exec (.portLinkChange q n block am fec lf rf) s = .next t ∧ t.bit (Reg.FMAC_M_STATUS (q + 1)) (28 + n) = up ∧
      t.bit (Reg.FMAC_M_STATUS (q + 1)) (24 + n) = block ∧ t.bit (Reg.FMAC_M_STATUS (q + 1)) (20 + n) = am ∧ t.bit (Reg.FMAC_M_STATUS (q + 1)) (16 + n) = fec ∧
      t.bit (Reg.FMAC_M_STATUS (q + 1)) (12 + n) = lf ∧ t.bit (Reg.FMAC_M_STATUS (q + 1)) (8 + n) = rf ∧
      (s.bit (Reg.FMAC_M_STATUS (q + 1)) (28 + n) = true → up = false → t.raised Src.FMAC_LINK_DOWN = true)) ∧
  (∀ (m : Requester) (q v : Nat) (s : State), q < 128 → s.Passes m (Reg.FMAC_M_SEC_STATUS (q + 1)) .write →
    ∃ t, exec (.secTxAnWrite m q v) s = .next t ∧
      t.rdN (hid (Reg.FMAC_M_SEC_STATUS (q + 1)) (s.fld (Reg.FMAC_M_SEL (q + 1)) 25 24)) = v / 2 ^ 30 % 4 * 2 ^ 30)

/-- The frame store and the compositor (R228, R234, R239 to R242, R247, R257, R258, R421): the zero fill leaves every byte of the window 0; a completed read leaves the reads in progress and its ECC outcome is kept; a stack powers down where its tolerance permits and wakes; the scrubber goes on by one granule; the timing master's decisions are kept by a device that follows; an engine takes its program at a frame start and stores each line it composites; a fence is written, found ready or not at the fence point, and the twin is told. -/
def Obligations.StoreAndCompositorComplete : Prop :=
  (∀ (h : Nat) (s : State), s.store.filling = true → ∃ t, exec (.fstZeroFillDone h) s = .next t ∧ t.store = { s.store with filling := false, badGranules := [] } ∧
    (∀ a, t.rdByte a = if isStore a then 0#8 else s.rdByte a) ∧ t.rdN Reg.FST_INIT_STATUS = 2 ^ 31 + min h 65535) ∧
  (∀ (h : Nat) (s : State), s.store.filling = false → exec (.fstZeroFillDone h) s = .next s) ∧
  (∀ (i ns tok : Nat) (ecc : Ecc) (r : FstRead) (off : Nat) (s : State), s.store.reads[i]? = some r → off = r.addr + 64 * (tok % (1 + payloadLen r.cell)) →
    (r.issued = true → (∀ d ∈ s.store.down, d.1 ≠ r.stack) → ∃ t, exec (.fstReadDone i ns tok ecc) s = .next t ∧ t.store.reads.length + 1 = s.store.reads.length ∧
      (ecc = .uncorrectable ∨ s.store.badGranules.contains (off / 64 * 64) = true → t.rdN Reg.FST_ECC_UNCORR_CNT = (s.rdN Reg.FST_ECC_UNCORR_CNT + 1) % 2 ^ 32 ∧
        t.rdN Reg.FST_ECC_ADDR_LO = off % 2 ^ 32 ∧ t.raised Src.FST_ECC_UNCORR = true ∧ off / 64 * 64 ∈ t.store.badGranules) ∧
      (ecc = .corrected → s.store.badGranules.contains (off / 64 * 64) = false → t.rdN Reg.FST_ECC_CORR_CNT = (s.rdN Reg.FST_ECC_CORR_CNT + 1) % 2 ^ 32 ∧
        t.raised Src.FST_ECC_CORR = true)) ∧
    (r.issued = false → exec (.fstReadDone i ns tok ecc) s = .next s)) ∧
  (∀ (i ns tok : Nat) (ecc : Ecc) (s : State), s.store.reads.length ≤ i →
    (s.mon.fetched < s.mon.asked → ∃ t, exec (.fstReadDone i ns tok ecc) s = .next t ∧ t.mon.fetched = s.mon.fetched + 1) ∧
    (s.mon.asked ≤ s.mon.fetched → exec (.fstReadDone i ns tok ecc) s = .next s)) ∧
  (∀ (st : Nat) (s : State), st < 4 → s.bit Reg.FST_PD_CFG 31 = true → s.fld Reg.FST_PD_CFG 7 0 * 1000 ≤ s.now - nthD s.store.lastUse st 0 → 12 ≤ s.tolMin st →
    s.store.urgent.contains st = false → (∀ r ∈ s.store.reads, r.stack = st → r.issued = false) → (s.cur 11 = sIDLE ∨ s.cur 11 = sRUN) → s.stackDown st = false →
    ∃ t, exec (.stackPowerDown st) s = .next t ∧ t.store = { s.store with down := s.store.down ++ [(st, s.now)] } ∧ t.bit (Reg.FST_S_STATUS (st + 1)) 0 = true ∧
      t.rdN (Reg.FST_S_PD_CNT (st + 1)) = (s.rdN (Reg.FST_S_PD_CNT (st + 1)) + 1) % 2 ^ 32) ∧
  (∀ (st : Nat) (s : State), st < 4 → s.bit Reg.FST_PD_CFG 31 = false ∨ s.tolMin st < 12 ∨ s.store.urgent.contains st = true → exec (.stackPowerDown st) s = .next s) ∧
  (∀ (st ns : Nat) (s : State), st < 4 →
    (∀ since, kget s.store.down st = some since → ∃ t, exec (.stackWake st ns) s = .next t ∧ (∀ d ∈ t.store.down, d.1 ≠ st) ∧
      t.bit (Reg.FST_S_STATUS (st + 1)) 0 = false ∧ t.rdN (Reg.FST_S_PD_US (st + 1)) = (s.rdN (Reg.FST_S_PD_US (st + 1)) + (s.now - since) / 1000) % 2 ^ 32) ∧
    (kget s.store.down st = none → exec (.stackWake st ns) s = .next s)) ∧
  (∀ (st g off : Nat) (ecc : Ecc) (s : State), st < 4 → s.bit Reg.FST_SCRUB_CFG 31 = false → (s.cur 11 = sIDLE ∨ s.cur 11 = sRUN) → s.store.filling = false →
    s.stackDown st = false → s.store.scrubbed[st]? = some g → off = st * 0x400000000 + g % stackGranules * 64 →
    ∃ t, exec (.scrubRead st ecc) s = .next t ∧
      t.store.scrubbed = (if (s.store.scrubbed.set st (g + 1)).all (fun x => decide (stackGranules ≤ x)) then [0, 0, 0, 0] else s.store.scrubbed.set st (g + 1)) ∧
      (ecc = .uncorrectable → t.raised Src.FST_ECC_UNCORR = true ∧ off ∈ t.store.badGranules) ∧
      (ecc = .corrected → s.store.badGranules.contains off = false → t.raised Src.FST_ECC_CORR = true)) ∧
  (∀ (slot k stamp : Nat) (s : State),
    (s.bit Reg.FST_CFG 1 = true → s.running 11 = true → ∃ t, exec (.syncRx slot k stamp) s = .next t ∧ (slot, k % 2 ^ 24, stamp) ∈ t.store.decisions ∧
      { t with store := s.store } = s) ∧
    (s.bit Reg.FST_CFG 1 = false ∨ s.running 11 = false → exec (.syncRx slot k stamp) s = .next s)) ∧
  (∀ (e k : Nat) (s : State), e < 64 →
    (s.engineOn e = true → s.upd.loading.contains 5 = false → ∃ t, exec (.pxpFrameStart e k) s = .next t ∧ t.engine e = { s.engine e with
      frame := some k, cfg := s.engineCfg e 0, format := s.engineFormat e 0, bg := s.rdN (Reg.PXP_E_BG (e + 1)), layers := s.engineLayers e 0,
      valid := (s.engine e).valid.filter (fun v => v.1 % 2 != k % 2) }) ∧
    (s.engineOn e = true → s.upd.loading.contains 5 = true → ∃ t, exec (.pxpFrameStart e k) s = .next t ∧ t.engine e = { s.engine e with frame := none }) ∧
    (s.engineOn e = false → exec (.pxpFrameStart e k) s = .next s)) ∧
  (∀ (e j k : Nat) (s : State), e < 64 → (s.engine e).frame = some k → s.engineOn e = true → engineFormatOk (s.engine e).format = true →
    j < rasterHeight (fmtRaster (s.engine e).format) → s.storeOpen = true →
    ∃ t, exec (.pxpLineComposite e j) s = .next t ∧ t.rdN Reg.PXP_LINES_OUT = (s.rdN Reg.PXP_LINES_OUT + 1) % 2 ^ 32 ∧
      (k, rasterLine (fmtRaster (s.engine e).format) j, egSlot (s.engine e).cfg) ∈ (t.engine e).valid) ∧
  (∀ (m : Requester) (n v : Nat) (s : State), n < 256 → s.Passes m (fenceAddr n) .write →
    ∃ t, exec (.fenceWrite m n v) s = .next t ∧ t.rd (fenceAddr n) = w32 v ∧ t.rdN Reg.PXP_FENCE_WRITES = (s.rdN Reg.PXP_FENCE_WRITES + 1) % 2 ^ 32) ∧
  (∀ (e T : Nat) (s : State), e < 64 → s.shadowStatus (enginePage e) = 2 → s.targetOfPage (enginePage e) = some T →
    ∃ t, exec (.fencePoint e) s = .next t ∧ (t.engine e).own = some (T, s.fenceReady e) ∧ t.regs = s.regs ∧
      t.twin.waiting = s.twin.waiting ++ (if s.fenceTwin then [.fence e (s.fenceReady e).1 (T % 2 ^ 24)] else [])) ∧
  (∀ (e : Nat) (s : State), e < 64 → s.shadowStatus (enginePage e) ≠ 2 → exec (.fencePoint e) s = .next s) ∧
  (∀ (e epoch : Nat) (ready : Bool) (s : State), ∃ t, exec (.fenceRx e ready epoch) s = .next t ∧ (t.engine (e % 64)).partner = some (epoch % 2 ^ 24, ready) ∧ t.regs = s.regs)

/-- The monitor output (R265 to R276): a frame starts with a READY after its wait, or as a late repeat at MAX_US; a buffer's READY is kept; an underrun gives up the rest of the frame; an AUX request goes out while the channel is free, and ends with its reply, a failed retry or a timeout; hot plug events and training change the link's status. -/
def Obligations.MonitorCompletes : Prop :=
  (∀ (b : Nat) (s : State), s.running 13 = true → s.bit Reg.MRS_CFG 8 = true → s.mon.ready = some b →
    (∀ x, s.mon.start = some x → (if s.mon.still && s.bit Reg.MRS_CFG 9 then s.fld Reg.MRS_VRR_MAX 31 16 else s.fld Reg.MRS_VRR_MIN 15 0) ≤ (s.now - x) / 1000) →
    ∃ t, exec .mrsFrameStart s = .next t ∧ .scan s.now (s.rdN Reg.MRS_SRC) b ∈ t.out ∧ t.mon.ready = none ∧ t.mon.start = some s.now ∧
      t.rdN Reg.MRS_NEW_FRAMES = (s.rdN Reg.MRS_NEW_FRAMES + 1) % 2 ^ 32) ∧
  (∀ s : State, s.running 13 = false ∨ (s.bit Reg.MRS_CFG 8 = true ∧ s.mon.ready = none) → exec .mrsFrameStart s = .next s) ∧
  (∀ s : State, s.running 13 = true → s.bit Reg.MRS_CFG 8 = true → (∀ x, s.mon.start = some x → s.fld Reg.MRS_VRR_MAX 15 0 ≤ (s.now - x) / 1000) →
    (s.mon.ready = none → ∃ t, exec .mrsMaxUsExpire s = .next t ∧ t.rdN Reg.MRS_REPEATS = (s.rdN Reg.MRS_REPEATS + 1) % 2 ^ 32 ∧
      t.rdN Reg.MRS_READY_LATE_CNT = (s.rdN Reg.MRS_READY_LATE_CNT + 1) % 2 ^ 32 ∧ t.raised Src.MRS_READY_LATE = true ∧ t.mon.start = some s.now) ∧
    (s.mon.ready ≠ none → ∃ t, exec .mrsMaxUsExpire s = .next t ∧ t.rdN Reg.MRS_NEW_FRAMES = (s.rdN Reg.MRS_NEW_FRAMES + 1) % 2 ^ 32 ∧ t.mon.ready = none)) ∧
  (∀ (m : Requester) (v : Nat) (s : State), s.Passes m Reg.MRS_FRAME_READY .write → s.running 13 = true →
    ∃ t, exec (.mrsFrameReadyWrite m v) s = .next t ∧ t.mon = if mrsKind (s.rdN Reg.MRS_SRC) = 2 then { s.mon with ready := some (v % 2) } else s.mon) ∧
  (∀ s : State, s.running 13 = true → s.mon.start.isSome = true → mrsKind s.mon.src ≠ 0 → s.mon.fetched < s.mrsVActive →
    (s.mon.aborted = none → ∃ t, exec .mrsUnderrun s = .next t ∧ t.mon = { s.mon with asked := s.mon.fetched, aborted := some s.mon.fetched } ∧
      t.rdN Reg.MRS_UNDERRUN_CNT = (s.rdN Reg.MRS_UNDERRUN_CNT + 1) % 2 ^ 32 ∧ t.raised Src.MRS_UNDERRUN = true) ∧
    (s.mon.aborted.isSome = true → exec .mrsUnderrun s = .next s)) ∧
  (∀ (m : Requester) (mot : Bool) (addr len a : Nat) (s : State), s.Passes m Reg.MRS_AUX_CMD .write → s.auxBusy = false → a = addr % 2 ^ 20 * 256 + len % 16 →
    (∃ t, exec (.auxNativeWrite m addr len) s = .next t ∧ t.mon.aux = some (8 * 2 ^ 28 + a, s.now) ∧ t.out = .aux s.now (8 * 2 ^ 28 + a) (s.auxData (len % 16 + 1)) :: s.out) ∧
    (∃ t, exec (.auxNativeRead m addr len) s = .next t ∧ t.mon.aux = some (9 * 2 ^ 28 + a, s.now) ∧ t.out = .aux s.now (9 * 2 ^ 28 + a) [] :: s.out) ∧
    (∃ t, exec (.auxI2cWrite m mot addr len) s = .next t ∧ t.mon.aux = some ((if mot then 4 else 0) * 2 ^ 28 + a, s.now) ∧
      t.out = .aux s.now ((if mot then 4 else 0) * 2 ^ 28 + a) (s.auxData (len % 16 + 1)) :: s.out) ∧
    (∃ t, exec (.auxI2cRead m mot addr len) s = .next t ∧ t.mon.aux = some ((if mot then 5 else 1) * 2 ^ 28 + a, s.now) ∧
      t.out = .aux s.now ((if mot then 5 else 1) * 2 ^ 28 + a) [] :: s.out)) ∧
  (∀ (m : Requester) (addr len : Nat) (s : State), s.Passes m Reg.MRS_AUX_CMD .write → s.auxBusy = true →
    ∃ t, exec (.auxNativeWrite m addr len) s = .next t ∧ t.mon = s.mon ∧ t.out = s.out ∧ t.rdN Reg.MRS_AUX_FAIL_CNT = (s.rdN Reg.MRS_AUX_FAIL_CNT + 1) % 2 ^ 32) ∧
  (∀ (kind cmd at1 : Nat) (data : List Byte) (s : State), kind < 3 → s.mon.aux = some (cmd, at1) → s.mon.deferred = false →
    (kind = 0 → ∃ t, exec (.auxReply kind data) s = .next t ∧ t.mon.aux = none ∧ t.fld Reg.MRS_AUX_STATUS 31 29 = 2 ∧
      t.fld Reg.MRS_AUX_STATUS 20 16 = (if auxWrites cmd then auxLen cmd else min (auxLen cmd) data.length)) ∧
    (kind = 1 → ∃ t, exec (.auxReply kind data) s = .next t ∧ t.mon.aux = none ∧ t.fld Reg.MRS_AUX_STATUS 31 29 = 3 ∧ t.raised Src.MRS_AUX_FAIL = true) ∧
    (kind = 2 → s.fld Reg.MRS_AUX_STATUS 3 0 = 7 → ∃ t, exec (.auxReply kind data) s = .next t ∧ t.mon.aux = none ∧ t.fld Reg.MRS_AUX_STATUS 31 29 = 5 ∧
      t.raised Src.MRS_AUX_FAIL = true) ∧
    (kind = 2 → s.fld Reg.MRS_AUX_STATUS 3 0 ≠ 7 → ∃ t, exec (.auxReply kind data) s = .next t ∧ t.mon = { s.mon with aux := some (cmd, s.now), deferred := true } ∧
      t.regs = s.regs)) ∧
  (∀ (cmd at1 : Nat) (s : State), s.mon.aux = some (cmd, at1) →
    (s.mon.deferred = true → at1 + 100000 ≤ s.now → ∃ t, exec .auxDeferRetry s = .next t ∧ t.mon = { s.mon with aux := some (cmd, s.now), deferred := false } ∧
      t.rdN Reg.MRS_AUX_RETRY_CNT = (s.rdN Reg.MRS_AUX_RETRY_CNT + 1) % 2 ^ 32) ∧
    (s.mon.deferred = false → at1 + 400000 ≤ s.now → ∃ t, exec .auxTimeout s = .next t ∧ t.mon.aux = none ∧ t.fld Reg.MRS_AUX_STATUS 31 29 = 4 ∧
      t.raised Src.MRS_AUX_FAIL = true) ∧
    (s.mon.deferred = true ∨ s.now < at1 + 400000 → exec .auxTimeout s = .next s)) ∧
  (∀ s : State, s.mrsAlive = true →
    (s.mon.connected = true → ∃ t, exec .hpdIrq s = .next t ∧ t.rdN Reg.MRS_HPD_IRQ_CNT = (s.rdN Reg.MRS_HPD_IRQ_CNT + 1) % 2 ^ 32 ∧ t.raised Src.MRS_HPD_EVENT = true) ∧
    (∃ t, exec .hpdUnplug s = .next t ∧ t.mon.connected = false ∧ t.board.hpd = false ∧ t.bit Reg.MRS_LINK_STATUS 31 = false ∧ t.raised Src.MRS_LINK_LOST = true) ∧
    (∃ t, exec .hpdPlug s = .next t ∧ t.mon.connected = true ∧ t.board.hpd = true ∧ t.raised Src.MRS_HPD_EVENT = true)) ∧
  (∀ (m : Requester) (v : Nat) (s : State), s.Passes m Reg.MRS_LINK_CMD .write →
    (v.testBit 31 = true → s.bit Reg.MRS_LINK_STATUS 30 = false → ∃ t, exec (.linkTrain m v) s = .next t ∧ t.rdN Reg.MRS_LINK_STATUS = 2 ^ 30 ∧
      t.rdN Reg.MRS_TRAIN_CNT = (s.rdN Reg.MRS_TRAIN_CNT + 1) % 2 ^ 32) ∧
    (v.testBit 31 = false ∨ s.bit Reg.MRS_LINK_STATUS 30 = true → ∃ t, exec (.linkTrain m v) s = .next t ∧ t.rd Reg.MRS_LINK_STATUS = s.rd Reg.MRS_LINK_STATUS)) ∧
  (∀ (r swing preemph lanes : Nat) (dpcd : List Byte) (s : State), 1 ≤ r → r ≤ 3 →
    (s.bit Reg.MRS_LINK_STATUS 30 = true → ∃ t, exec (.linkTrainDone r swing preemph lanes dpcd) s = .next t ∧ t.bit Reg.MRS_LINK_STATUS 30 = false ∧
      t.fld Reg.MRS_LINK_STATUS 29 28 = r ∧ t.bit Reg.MRS_LINK_STATUS 31 = (r == 1 && s.mon.connected) ∧ (r ≠ 1 → t.raised Src.MRS_TRAIN_FAIL = true)) ∧
    (s.bit Reg.MRS_LINK_STATUS 30 = false → exec (.linkTrainDone r swing preemph lanes dpcd) s = .next s))

/-- The audio engine (R280 to R288, R290 to R295): an AES3 frame brings its input to LOCK, or shows a biphase error or a rate out of range; an input without preambles goes back to ACQUIRE; a synchronous input repeats its last pair where no frame came; a source group's block becomes its cell; an output sends its frame, and a word-select port takes and sends its pairs; a slip of the timing master is kept. -/
def Obligations.AudioCompletes : Prop :=
  (∀ (p w0 w1 : Nat) (par0 par1 : Bool) (ppm : Int) (s : State), p < 64 → s.portWorks p = true →
    (∃ t, exec (.aesFrameRx p w0 w1 par0 par1 true ppm) s = .next t ∧ t.raised Src.AUD_AES_ERR = true ∧ t.aud = s.aud ∧
      t.rdN (hid (Reg.AUD_A_CNT (p + 1)) 2) = (s.rdN (hid (Reg.AUD_A_CNT (p + 1)) 2) + 1) % 2 ^ 32) ∧
    (∃ t, exec (.aesFrameRx p w0 w1 par0 par1 false ppm) s = .next t ∧
      t.rdN (hid (Reg.AUD_A_CNT (p + 1)) 0) = (s.rdN (hid (Reg.AUD_A_CNT (p + 1)) 0) + 1) % 2 ^ 32 ∧
      (-1000 ≤ ppm → ppm ≤ 1000 → (t.audPort p).st = 2) ∧
      (ppm < -1000 ∨ 1000 < ppm → (t.audPort p).st = 3 ∧ ((s.audPort p).st ≠ 3 → t.raised Src.AUD_AES_LOSS = true)))) ∧
  (∀ (p w0 w1 : Nat) (par0 par1 bad : Bool) (ppm : Int) (s : State), p < 64 → s.portWorks p = false → exec (.aesFrameRx p w0 w1 par0 par1 bad ppm) s = .next s) ∧
  (∀ (p : Nat) (s : State), p < 64 → s.portWorks p = true →
    ((s.audPort p).st = 2 → ∃ t, exec (.aesLossTimeout p) s = .next t ∧ (t.audPort p).st = 1 ∧ (t.audPort p).frames = [] ∧ t.raised Src.AUD_AES_LOSS = true) ∧
    ((s.audPort p).st ≠ 2 → exec (.aesLossTimeout p) s = .next s)) ∧
  (∀ (p rate n : Nat) (s : State), p < 64 → rate < 7 → s.running 14 = true → s.portWorks p = true → cfgRate (s.portCfg p) = rate → (s.audPort p).st = 2 →
    s.portElastic p = false → (∀ h ∈ (s.audPort p).hist, h.1 ≠ n) →
    ∃ t, exec (.audSampleInstant rate n) s = .next t ∧ t.raised Src.AUD_SLIP = true ∧
      kget (t.audPort p).hist n = some (withoutZ (s.audPort p).last.w0, withoutZ (s.audPort p).last.w1)) ∧
  (∀ (rate n : Nat) (s : State), s.running 14 = false → exec (.audSampleInstant rate n) s = .next s) ∧
  (∀ (g b e : Nat) (s : State), g < 512 → e = s.audSource g 0 → s.running 14 = true → agEn e = true →
    ∃ (u : State) (c : LineCell), exec (.audSourceCell g b) s = .next (u.assemble 1 c true) ∧ u.fabric = s.fabric ∧ c.essence = agId e ∧ c.format = agFormat e ∧
      c.units = (audioNominal (agFormat e) b).units ∧
      c.ptpTime = ((audioNominal (agFormat e) b).time + (if agShuffle e then s.fld Reg.AUD_SHUF_DELAY 10 0 else 0) * 1000) % 2 ^ 64 ∧
      c.payload = packFields 32 ((List.range c.units).map (fun i => (groupChans e).map (fun j =>
        s.chanWord j (firstSample (audioHz (agRate e)) (b * 125000) + i)))).flatten) ∧
  (∀ (g b : Nat) (s : State), g < 512 → s.running 14 = false ∨ agEn (s.audSource g 0) = false → exec (.audSourceCell g b) s = .next s) ∧
  (∀ (p n : Nat) (s : State), p < 64 → s.running 14 = true → (s.portOut p 0).testBit 31 = true → s.inFamily (cfgRate (s.portCfg p)) = true →
    ∃ t a b c, exec (.aesFrameTx p n) s = .next t ∧ t.out = .aes n p a b (aesParity a) (aesParity b) :: s.out ∧
      a = (s.outPair p n).1 / 64 * 64 + b2n c * 32 + b2n (n % 192 == 0) * 16 ∧ b = (s.outPair p n).2 / 64 * 64 + b2n c * 32 + b2n (n % 192 == 0) * 16 ∧
      t.rdN (hid (Reg.AUD_A_CNT (p + 1)) 6) = (s.rdN (hid (Reg.AUD_A_CNT (p + 1)) 6) + 1) % 2 ^ 32) ∧
  (∀ (w n left right bclks : Nat) (ppm : Int) (s : State), w < 4 → s.portWorks (64 + w) = true →
    ((s.portCfg (64 + w)).testBit 30 = false → (ppm < -1000 ∨ 1000 < ppm ∨ bclks ≠ 2 * slotBits (s.portCfg (64 + w))) →
      ∃ t, exec (.wsFrameRx w n left right bclks ppm) s = .next t ∧ (t.audPort (64 + w)).st = 3 ∧ t.raised Src.AUD_WS_CLOCK = true) ∧
    ((s.portCfg (64 + w)).testBit 30 = true →
      ∃ t, exec (.wsFrameRx w n left right bclks ppm) s = .next t ∧ (t.audPort (64 + w)).st = 2 ∧ kget (t.audPort (64 + w)).hist (n - 1) =
        some ((if (s.portCfg (64 + w)).testBit 28 then left / 256 % 2 ^ 24 else left % 2 ^ 24) * 256,
              (if (s.portCfg (64 + w)).testBit 28 then right / 256 % 2 ^ 24 else right % 2 ^ 24) * 256)) ∧
    ((s.portCfg (64 + w)).testBit 30 = false → -1000 ≤ ppm → ppm ≤ 1000 → bclks = 2 * slotBits (s.portCfg (64 + w)) → (s.audPort (64 + w)).frames.length < 32 →
      ∃ t, exec (.wsFrameRx w n left right bclks ppm) s = .next t ∧ (t.audPort (64 + w)).st = 2 ∧
        (t.audPort (64 + w)).frames.length = (s.audPort (64 + w)).frames.length + 1)) ∧
  (∀ (w n : Nat) (s : State), w < 4 → s.portWorks (68 + w) = true → (s.portOut (68 + w) 0).testBit 31 = true → (s.audPort (64 + w)).st ≠ 3 →
    ∃ t a b, exec (.wsFrameTx w n) s = .next t ∧ .ws n w a b ∈ t.out ∧
      ((s.portCfg (68 + w)).testBit 30 = true → a = (if (s.portCfg (68 + w)).testBit 28 then (s.outPair (68 + w) n).1 / 256 * 256 else (s.outPair (68 + w) n).1 / 256) ∧
        b = (if (s.portCfg (68 + w)).testBit 28 then (s.outPair (68 + w) n).2 / 256 * 256 else (s.outPair (68 + w) n).2 / 256))) ∧
  (∀ (x n stamp : Nat) (s : State), ∃ t, exec (.audSlipRx x n stamp) s = .next t ∧ (x % 72, n, stamp, s.now) ∈ t.aud.slips ∧ { t with aud := s.aud } = s)

/-- References of the timing unit (R307, R311 to R314, R317 to R321): a quality message is taken or counted as wrong, and five missing ones make the QL unknown; a candidate lost while selected is dropped with RTU_REF_LOSS; a measurement of the selected candidate is kept; the loop locks; a lead whose WTR has run is qualified; qualification ends in selection or in disqualification, which ends in its turn; a draw-down ends; holdover out of its specification, a long clamp and a fault of LO_CLK are reported; MODE and FORCE take effect. -/
def Obligations.TimingReferencesComplete : Prop :=
  (∀ (n : Nat) (l : List Byte) (s : State), n < 2 → s.running 5 = true →
    (qmValid l = false → ∃ t, exec (.qmMsgRx n l) s = .next t ∧ t.raised Src.RTU_QM_CRC = true ∧ t.ref = s.ref ∧
      t.rdN (Reg.RTU_C_QM_MISS_CNT (n + 1)) = (s.rdN (Reg.RTU_C_QM_MISS_CNT (n + 1)) + 1) % 2 ^ 32) ∧
    (qmValid l = true → s.ref.cands.length = 4 → ∃ t, exec (.qmMsgRx n l) s = .next t ∧ (t.cand n).ql = qmByte l 2 % 16 ∧ (t.cand n).qlValid = true ∧
      (t.cand n).missing = 0 ∧ t.rdN (Reg.RTU_C_QM_CNT (n + 1)) = (s.rdN (Reg.RTU_C_QM_CNT (n + 1)) + 1) % 2 ^ 32)) ∧
  (∀ (n : Nat) (s : State), n < 2 → s.running 5 = true → s.ref.cands.length = 4 →
    ((s.cand n).missing ≠ 4 → ∃ t, exec (.qmMissing n) s = .next t ∧ t.cand n = { s.cand n with missing := (s.cand n).missing + 1 } ∧
      t.rdN (Reg.RTU_C_QM_MISS_CNT (n + 1)) = (s.rdN (Reg.RTU_C_QM_MISS_CNT (n + 1)) + 1) % 2 ^ 32) ∧
    ((s.cand n).missing = 4 → ∃ t, exec (.qmMissing n) s = .next t ∧ (t.cand n).qlValid = false ∧ t.raised Src.RTU_QM_LOSS = true)) ∧
  (∀ (n : Nat) (s : State), n < 2 → s.running 5 = true → s.ref.cands.length = 4 →
    (s.ref.sel = some n → (∃ t, exec (.refClkLoss n) s = .next t ∧ t.ref.sel = none ∧ (t.cand n).lost = true ∧ t.raised Src.RTU_REF_LOSS = true) ∧
      (∃ t, exec (.refFpMiss n) s = .next t ∧ t.ref.sel = none ∧ (t.cand n).lost = true ∧ t.raised Src.RTU_REF_LOSS = true)) ∧
    (s.ref.sel ≠ some n → exec (.refClkLoss n) s = .next s ∧ exec (.refFpMiss n) s = .next s)) ∧
  (∀ (c : Nat) (phase freq : Int) (s : State), c < 4 → s.running 5 = true → s.ref.sel = some c →
    ∃ t, exec (.dpllUpdate phase freq) s = .next t ∧ t.ref.phase = s.phaseOf c phase ∧ t.rdN (Reg.RTU_C_PHASE (c + 1)) = unsigned 32 (s.phaseOf c phase / 1000) ∧
      t.rdN (Reg.RTU_C_FREQ (c + 1)) = unsigned 32 freq ∧ t.ref.sel = some c) ∧
  (∀ s : State, s.running 5 = true → s.ref.dpll = 1 → s.ref.drawing = false → s.ref.sel.isSome = true →
    ∃ t, exec .dpllLock s = .next t ∧ t.ref.dpll = 2 ∧ t.ref.sel = s.ref.sel) ∧
  (∀ s : State, s.ref.dpll ≠ 1 ∨ s.ref.drawing = true → exec .dpllLock s = .next s) ∧
  (∀ (w : Nat × Nat × Nat) (s : State), s.running 5 = true → s.ref.wtr = some w →
    (s.now < w.2.2 + 1000000000 * s.fld Reg.RTU_SEL_CFG 11 0 → ∃ t, exec .wtrExpire s = .next t ∧ t.ref.wtr = some w ∧ t.ref.sel = s.ref.sel) ∧
    (∀ b c, w.2.2 + 1000000000 * s.fld Reg.RTU_SEL_CFG 11 0 ≤ s.now → s.ref.sel = some c → s.ref.qual = none → c < 4 → s.candUsable c = true →
      s.fld Reg.RTU_SEL_CFG 31 28 = 0 → s.bit Reg.RTU_CFG 1 = false → s.bestCand = some b → b ≠ c → (s.cand c).seen ≤ s.candQl c →
      s.candQl c < s.candQl b → s.fld Reg.RTU_SEL_CFG 19 16 ≤ s.candQl b - s.candQl c →
      ∃ t, exec .wtrExpire s = .next t ∧ t.ref.qual = some b ∧ t.ref.sel = none ∧ t.ref.wtr = none ∧ t.ref.reason = 1 ∧
        t.rdN Reg.RTU_SWITCHES = (s.rdN Reg.RTU_SWITCHES + 1) % 2 ^ 32)) ∧
  (∀ (c exchanges : Nat) (phase freq : Int) (pulses unbroken : Bool) (s : State), s.running 5 = true → s.ref.qual = some c → c < 4 → s.ref.cands.length = 4 →
    (s.refSync.qualOk c phase freq pulses exchanges unbroken = true → s.bit Reg.RTU_CFG 0 = false →
      ∃ t, exec (.qualComplete phase freq pulses exchanges unbroken) s = .next t ∧ t.ref.sel = some c ∧ t.ref.qual = none ∧ t.ref.phase = phase ∧
        t.ref.pbo = phase ∧ t.ref.dpll = (if s.ref.dpll = 4 then 4 else 1) ∧ (t.cand c).lost = false ∧ t.now = s.now) ∧
    (s.refSync.qualOk c phase freq pulses exchanges unbroken = false →
      ∃ t, exec (.qualComplete phase freq pulses exchanges unbroken) s = .next t ∧ (t.cand c).disq = true ∧ t.raised Src.RTU_REF_FAULT = true ∧
        t.rdN (Reg.RTU_C_DISQ_CNT (c + 1)) = (s.rdN (Reg.RTU_C_DISQ_CNT (c + 1)) + 1) % 2 ^ 32)) ∧
  (∀ (c : Nat) (s : State), c < 4 → s.ref.cands.length = 4 → ∃ t, exec (.disqualExpire c) s = .next t ∧ (t.cand c).disq = false) ∧
  (∀ s : State, s.ref.drawing = true → ∃ t, exec .pboDrawDone s = .next t ∧ t.ref.drawing = false ∧ t.ref.pbo = 0 ∧ t.ref.add = 0) ∧
  (∀ s : State, (s.ref.dpll = 3 → s.ref.inSpec = true → ∃ t, exec .holdoverSpecExpire s = .next t ∧ t.ref = { s.ref with inSpec := false } ∧
      t.raised Src.RTU_HOLD_SPEC = true) ∧ (s.ref.dpll ≠ 3 ∨ s.ref.inSpec = false → exec .holdoverSpecExpire s = .next s)) ∧
  (∀ (x : Nat) (s : State), s.slewing = true → s.ref.clampFrom = some x → x + 1000000000 < s.now →
    ∃ t, exec .slewClampLimit s = .next t ∧ t.raised Src.RTU_SLEW_LIMIT = true ∧ t.ref.clampFrom = some x) ∧
  (∀ (present : Bool) (ppb : Int) (s : State), ∃ t, exec (.loClkFault present ppb) s = .next t ∧ t.rdN Reg.RTU_LO_STATUS = b2n present * 2 ^ 31 + unsigned 24 ppb ∧
    (present = false ∨ 20000 < ppb.natAbs → t.raised Src.RTU_LO_FAULT = true)) ∧
  (∀ (m : Requester) (v : Nat) (s : State), s.Passes m Reg.RTU_PHASE_ADJ .write →
    ∃ t, exec (.phaseAdjWrite m v) s = .next t ∧ t.ref.pbo = s.drawNow.1 + 1000 * signed 32 v) ∧
  (∀ (m : Requester) (v : Nat) (s : State), s.Passes m Reg.RTU_DPLL_CFG .write → s.running 5 = true → v / 2 ^ 30 % 4 = 1 →
    ∃ t, exec (.dpllModeWrite m v) s = .next t ∧ t.fld Reg.RTU_DPLL_CFG 31 30 = 1 ∧ t.ref.dpll = 4) ∧
  (∀ (m : Requester) (v : Nat) (s : State), s.Passes m Reg.RTU_SEL_CFG .write → s.running 5 = true →
    (v / 2 ^ 28 % 16 = 5 → s.ref.dpll ≠ 4 → ∃ t, exec (.selForceWrite m v) s = .next t ∧ t.fld Reg.RTU_SEL_CFG 31 28 = 5 ∧ t.ref.dpll = 3 ∧ t.ref.sel = none ∧ t.ref.qual = none) ∧
    (∀ c, c < 4 → v / 2 ^ 28 % 16 = c + 1 → s.candEn c = true → s.ref.sel ≠ some c → s.ref.qual ≠ some c →
      ∃ t, exec (.selForceWrite m v) s = .next t ∧ t.fld Reg.RTU_SEL_CFG 31 28 = c + 1 ∧ t.ref.qual = some c ∧ t.ref.sel = none ∧ t.ref.reason = 6))

/-- The timescale, the audio clock, timing outputs and the time-interval counter (R302, R323 to R329, R420, R475): a step sets the time to the value written, or to the selected candidate's, and is answered STATE where it may not happen; a change of AFAM stops ACLK and is answered STATE while the AUD works; an output sends its edge; OFFSET, REALIGN and a reference pulse are kept; the counter is armed, captures, gives its result, times out and takes new bin edges (how a capture is formed is log entry 36). -/
def Obligations.TimingOutputsComplete : Prop :=
  (∀ (m : Requester) (s : State), s.Passes m Reg.RTU_TIME_CMD .write →
    (s.mayStep = true → ∃ t, exec (.timeStep m) s = .next t ∧
      t.now = (s.fld Reg.RTU_TIME_SET_SEC_HI 15 0 * 2 ^ 32 + s.rdN Reg.RTU_TIME_SET_SEC_LO) * 1000000000 + s.fld Reg.RTU_TIME_SET_NS 29 0) ∧
    (∀ x, s.mayStep = true → s.refTime = some x → ∃ t, exec (.timeStepRef m) s = .next t ∧ t.now = x) ∧
    (s.mayStep = true → s.refTime = none → ∃ t, exec (.timeStepRef m) s = .next t ∧ t.now = s.now ∧ t.ref = s.ref) ∧
    (s.mayStep = false → (∃ t, exec (.timeStep m) s = .next t ∧ t.answer.resp = .state ∧ t.now = s.now) ∧
      (∃ t, exec (.timeStepRef m) s = .next t ∧ t.answer.resp = .state ∧ t.now = s.now))) ∧
  (∀ (m : Requester) (v : Nat) (s : State), s.Passes m Reg.RTU_ACLK .write →
    (s.bit Reg.RTU_ACLK 31 ≠ v.testBit 31 → (s.cur 14 = sOFF ∨ s.cur 14 = sISOLATED ∨ s.cur 14 = sIDLE) →
      ∃ t, exec (.aclkFamilyWrite m v) s = .next t ∧ t.rdN Reg.RTU_ACLK = b2n (v.testBit 31) * 2 ^ 31 + 2) ∧
    (s.bit Reg.RTU_ACLK 31 ≠ v.testBit 31 → ¬ (s.cur 14 = sOFF ∨ s.cur 14 = sISOLATED ∨ s.cur 14 = sIDLE) →
      ∃ t, exec (.aclkFamilyWrite m v) s = .next t ∧ t.answer.resp = .state ∧ t.rd Reg.RTU_ACLK = s.rd Reg.RTU_ACLK) ∧
    (s.bit Reg.RTU_ACLK 31 = v.testBit 31 → ∃ t, exec (.aclkFamilyWrite m v) s = .next t ∧ t.answer.resp = .okay ∧ t.rd Reg.RTU_ACLK = s.rd Reg.RTU_ACLK)) ∧
  (∀ s : State, (s.bit Reg.RTU_ACLK 1 = true → ∃ t, exec .aclkSwitchDone s = .next t ∧ t.bit Reg.RTU_ACLK 1 = false ∧ t.bit Reg.RTU_ACLK 0 = true ∧
      { t with regs := s.regs } = s) ∧ (s.bit Reg.RTU_ACLK 1 = false → exec .aclkSwitchDone s = .next s)) ∧
  (∀ s : State, (s.ref.held = true → exec .rtuLoopLoadDone s = .next { s with ref := { s.ref with held := false, yAt := s.now } }) ∧
    (s.ref.held = false → exec .rtuLoopLoadDone s = .next s)) ∧
  (∀ (k : Nat) (s : State), k < 8 →
    (s.outActive k = true → (s.toutMode k = 5 → (s.tout k).base.isSome = true) → ∃ t, exec (.toutEdge k) s = .next t ∧
      t.out = .edge s.now k (!s.bit (Reg.RTU_O_CFG (5 + k)) 27) (s.toutWidth k) :: s.out ∧
      t.rdN (Reg.RTU_O_PULSES (5 + k)) = (s.rdN (Reg.RTU_O_PULSES (5 + k)) + 1) % 2 ^ 32) ∧
    (s.outActive k = false → exec (.toutEdge k) s = .next s)) ∧
  (∀ (m : Requester) (k v : Nat) (s : State), k < 8 → s.ref.outs.length = 8 →
    (s.Passes m (Reg.RTU_O_OFFSET (5 + k)) .write → ∃ t, exec (.toutOffsetWrite m k v) s = .next t ∧
      t.tout k = { s.tout k with change := some (signed 32 v, s.now) } ∧ t.rd (Reg.RTU_O_OFFSET (5 + k)) = w32 v) ∧
    (s.Passes m (Reg.RTU_O_CTRL (5 + k)) .write → ∃ t, exec (.toutRealign m k) s = .next t ∧ t.tout k = { s.tout k with realign := true })) ∧
  (∀ (n stamp : Nat) (s : State), n < 2 → s.ref.cands.length = 4 →
    (s.running 5 = true → ∃ t, exec (.refFpPulse n stamp) s = .next t ∧ t.cand n = { s.cand n with pulse := some stamp }) ∧
    (s.running 5 = false → exec (.refFpPulse n stamp) s = .next s)) ∧
  (∀ (m : Requester) (v : Nat) (s : State), s.Passes m Reg.RTU_TIC_CFG .write → s.running 5 = true →
    ∃ t, exec (.ticArm m v) s = .next t ∧ t.ref.ticArmed = true ∧ t.ref.ticStart = none ∧ t.ref.ticStop = none) ∧
  (∀ (src tick bin : Nat) (s : State), src < 16 → bin < 250 → s.running 5 = true → s.ref.ticArmed = true → s.ref.ticStop = none →
    (s.ref.ticStart = none → s.fld Reg.RTU_TIC_CFG 27 24 = src → s.fld Reg.RTU_TIC_CFG 23 20 ≠ src →
      exec (.ticCapture src tick bin) s = .next { s with ref := { s.ref with ticStart := some (s.ticStamp src tick bin) } }) ∧
    (∀ a d, s.ref.ticStart = some a → s.fld Reg.RTU_TIC_CFG 23 20 = src → d = s.ticStamp src tick bin - a →
      ∃ t, exec (.ticCapture src tick bin) s = .next t ∧ t.ref.ticStart = none ∧ t.ref.ticStop = none ∧ t.ref.ticArmed = s.bit Reg.RTU_TIC_CFG 30 ∧
        t.rdN Reg.RTU_TIC_EVENTS = (s.rdN Reg.RTU_TIC_EVENTS + 1) % 2 ^ 32 ∧
        (64 ≤ d.natAbs → 2 * (d / 64).natAbs ≤ s.rdN Reg.RTU_TIC_PERIOD * 250 → t.rdN Reg.RTU_TIC_LO = unsigned 40 (d / 64) % 2 ^ 32 ∧
          t.rdN Reg.RTU_TIC_HI = (16 + b2n (decide (d < 0))) * 2 ^ 27 + unsigned 40 (d / 64) / 2 ^ 32))) ∧
  (∀ s : State, (s.ref.ticArmed = true → (s.ref.ticStart.isSome || s.ref.ticStop.isSome) = true → ∃ t, exec .ticTimeout s = .next t ∧ t.rdN Reg.RTU_TIC_LO = 0 ∧
      t.rdN Reg.RTU_TIC_HI = (2 + b2n s.ref.ticStart.isNone) * 2 ^ 27 ∧ t.ref.ticArmed = s.bit Reg.RTU_TIC_CFG 30) ∧
    (s.ref.ticArmed = false → exec .ticTimeout s = .next s)) ∧
  (∀ (counts : List Nat) (s : State), s.running 5 = true → s.bit Reg.RTU_TIC_CFG 29 = true → counts.sum = 2 ^ 20 →
    ∃ t, exec (.ticCalUpdate counts) s = .next t ∧ t.fld Reg.RTU_TIC_CAL_STATUS 23 0 = 0 ∧
      ∀ b, b < 251 → t.binEdge b = 16000 * (counts.take b).sum / 2 ^ 20)

/-- PTP ports (R331 to R337, IEEE 1588-2019 where the spec names it: log entry 37): a master port sends Sync with its Follow_Up, Announce and, as grandmaster, Management messages, and answers Delay_Req; a slave port keeps its parent's Sync and Follow_Up, sends Delay_Req and completes an exchange with Delay_Resp; an Announce joins the foreign masters, a timeout drops them; the decision sets the port's state. -/
def Obligations.PtpCompletes : Prop :=
  (∀ (p : Nat) (stamp : Option Nat) (s : State), p < 8 → s.ref.ports.length = 8 → s.ptpOn p = true → s.portSt p = 6 →
    ∃ t, exec (.ptpSyncTx p stamp) s = .next t ∧ (t.ptpPort p).syncSeq = ((s.ptpPort p).syncSeq + 1) % 65536 ∧
      t.rdN (Reg.RTU_P_TX_SYNC (16 + p)) = (s.rdN (Reg.RTU_P_TX_SYNC (16 + p)) + 1) % 2 ^ 32 ∧
      t.out = if s.bit (Reg.RTU_P_CFG (16 + p)) 29 then .ptp s.now p (.sync (s.ptpPort p).syncSeq (stamp.getD (1000 * s.now))) :: s.out
        else (match stamp with | some v => [.ptp s.now p (.followUp (s.ptpPort p).syncSeq v)] | none => []) ++ .ptp s.now p (.sync (s.ptpPort p).syncSeq 0) :: s.out) ∧
  (∀ (p : Nat) (s : State), p < 8 → s.ptpOn p = true → s.portSt p = 6 →
    (∃ t, exec (.ptpAnnounceTx p) s = .next t ∧ t.out = .ptp s.now p (.announce (s.ptpPort p).annSeq s.clockDs (s.rdN Reg.RTU_UTC)) :: s.out ∧
      t.rdN (Reg.RTU_P_TX_ANN (16 + p)) = (s.rdN (Reg.RTU_P_TX_ANN (16 + p)) + 1) % 2 ^ 32) ∧
    (s.bit Reg.RTU_PTP_CFG 0 = true → s.isGm = true → ∃ t, exec (.ptpMgmtTx p) s = .next t ∧ t.regs = s.regs ∧
      t.out = .ptp s.now p (.management (s.ptpPort p).mgmtSeq s.smTlv) :: s.out) ∧
    (∀ sender port seq stamp, ∃ t, exec (.ptpDelayReqRx p sender port seq stamp) s = .next t ∧ t.out = .ptp s.now p (.delayResp seq stamp sender port) :: s.out ∧
      t.rdN (Reg.RTU_P_RX_DREQ (16 + p)) = (s.rdN (Reg.RTU_P_RX_DREQ (16 + p)) + 1) % 2 ^ 32)) ∧
  (∀ (p : Nat) (s : State), p < 8 → s.portSt p ≠ 6 → exec (.ptpAnnounceTx p) s = .next s ∧ exec (.ptpMgmtTx p) s = .next s) ∧
  (∀ (p sender port seq t2 : Nat) (origin : Option Nat) (corr : Int) (s : State), p < 8 → s.ref.ports.length = 8 → s.ptpOn p = true → s.portSt p = 9 →
    (s.ptpPort p).parent = some (sender, port) →
    ∃ t, exec (.ptpSyncRx p sender port seq origin corr (some t2)) s = .next t ∧
      t.rdN (Reg.RTU_P_RX_SYNC (16 + p)) = (s.rdN (Reg.RTU_P_RX_SYNC (16 + p)) + 1) % 2 ^ 32 ∧
      t.ptpPort p = (match origin with
        | some t1 => { s.ptpPort p with sync := some (t1, t2, corr), open' := none }
        | none => { s.ptpPort p with open' := some (seq, t2, corr) })) ∧
  (∀ (p sender port seq : Nat) (origin : Option Nat) (corr : Int) (s : State), p < 8 → s.ptpOn p = true →
    ∃ t, exec (.ptpSyncRx p sender port seq origin corr none) s = .next t ∧ t.raised Src.RTU_PTP_TS = true ∧ t.ref = s.ref) ∧
  (∀ (p sender port seq t1 t2 : Nat) (corr c0 : Int) (s : State), p < 8 → s.ref.ports.length = 8 → s.ptpOn p = true →
    (s.ptpPort p).parent = some (sender, port) → (s.ptpPort p).open' = some (seq, t2, c0) →
    ∃ t, exec (.ptpFollowUpRx p sender port seq t1 corr) s = .next t ∧ t.ptpPort p = { s.ptpPort p with sync := some (t1, t2, c0 + corr), open' := none }) ∧
  (∀ (p : Nat) (stamp : Option Nat) (s : State), p < 8 → s.ref.ports.length = 8 → s.ptpOn p = true → s.portSt p = 9 →
    ∃ t, exec (.ptpDelayReqTx p stamp) s = .next t ∧ .ptp s.now p (.delayReq (s.ptpPort p).dreqSeq) ∈ t.out ∧
      (t.ptpPort p).dreq = stamp.map (fun v => ((s.ptpPort p).dreqSeq, v)) ∧ (stamp = none → t.raised Src.RTU_PTP_TS = true)) ∧
  (∀ (p sender port seq t1 t2 t3 t4 : Nat) (c corr : Int) (s : State), p < 8 → s.ref.ports.length = 8 → s.ptpOn p = true → s.portSt p = 9 →
    (s.ptpPort p).parent = some (sender, port) → (s.ptpPort p).sync = some (t1, t2, c) → (s.ptpPort p).dreq = some (seq, t3) →
    ∀ down up : Int, down = (t2 : Int) - t1 - c → up = (t4 : Int) - t3 - corr →
    ∃ t, exec (.ptpDelayRespRx p sender port seq t4 corr) s = .next t ∧ t.rdN (Reg.RTU_P_DELAY (16 + p)) = ((down + up) / 2).toNat % 2 ^ 32 ∧
      (t.ptpPort p).dreq = none ∧ (s.ref.window.length + 1 < s.fld Reg.RTU_PTP_FILT 7 0 → t.ref.window = s.ref.window ++ [(((down + up) / 2).toNat, (down - up) / 2)]) ∧
      (s.ref.window = [] → s.fld Reg.RTU_PTP_FILT 7 0 ≤ 1 → t.rdN Reg.RTU_PTP_OFFSET = unsigned 32 ((down - up) / 2))) ∧
  (∀ (p sender port : Nat) (ds : PtpDs) (s : State), p < 8 → s.ref.ports.length = 8 → s.ptpOn p = true →
    ∃ t, exec (.ptpAnnounceRx p sender port ds) s = .next t ∧ t.rdN (Reg.RTU_P_RX_ANN (16 + p)) = (s.rdN (Reg.RTU_P_RX_ANN (16 + p)) + 1) % 2 ^ 32 ∧
      (t.ptpPort p).foreign = ⟨sender, port, ds, s.now, ((s.ptpPort p).foreign.find? (fun f => f.sender == sender && f.port == port)).map (·.last)⟩ ::
        ((s.ptpPort p).foreign.filter (fun f => !(f.sender == sender && f.port == port))).take 7) ∧
  (∀ (p : Nat) (s : State), p < 8 → s.ref.ports.length = 8 →
    (s.ptpOn p = true → ∃ t, exec (.ptpAnnounceTimeout p) s = .next t ∧ (t.ptpPort p).foreign = [] ∧ t.raised Src.RTU_PTP_FAULT = true ∧
      t.rdN (Reg.RTU_P_ANN_TIMEOUT (16 + p)) = (s.rdN (Reg.RTU_P_ANN_TIMEOUT (16 + p)) + 1) % 2 ^ 32) ∧
    (s.ptpOn p = false → exec (.ptpAnnounceTimeout p) s = .next s)) ∧
  (∀ (p d : Nat) (s : State), p < 8 → s.running 5 = true → s.ptpRole ≠ 0 → s.ptpOn p = true → (∀ q, q < 8 → q ≠ p → s.ptpOn q = false ∧ s.portSt q = 3) →
    s.portDecision p s.clockBest = (d, false) → (d = 9 → s.clockBest.isSome = true) → s.pairState ≠ 3 →
    ∃ t, exec .ptpBmca s = .next t ∧ t.portSt p = d ∧ ∀ q, q < 8 → q ≠ p → t.portSt q = 3) ∧
  (∀ s : State, s.running 5 = false ∨ s.ptpRole = 0 → exec .ptpBmca s = .next s)

/-- The bus matrix (R374, R376, R378 to R380, R383): a transaction that passes its checks joins the queue of its target, its first 1,024 bytes first, and one that does not is answered; a target grants the transaction that goes before the others, which then reads or writes the SRAM; the next part of a long burst follows; a core repeats what was answered RETRY; an LR takes its hart's reservation, an SC stores only under it, an AMO answers the old value and stores the new one; a reservation expires. -/
def Obligations.BusCompletes : Prop :=
  (∀ (m : Requester) (k : TxnKind) (a len data : Nat) (s : State), s.inHold = false → s.noFetch m a k = false →
    (s.gate m a len k = none → ∃ t, exec (.bmxTransaction m k a len data) s = .next t ∧
      t.bus = { s.bus with queue := s.bus.queue ++ [⟨targetNo a, m, k, a, min len 1024, data, s.now, false, len - min len 1024, false, 0⟩] }) ∧
    (∀ r n, s.gate m a len k = some (r, n) → ∃ t, exec (.bmxTransaction m k a len data) s = .next t ∧ t.answer.resp = r ∧ t.answer.reason = n ∧
      t.bus.queue = s.bus.queue)) ∧
  (∀ (g : Nat) (e : Ecc) (x : Txn) (s : State), s.inHold = false → s.grantPick g = some x → isSram x.addr = true → x.len ≤ 1024 → x.restLen = 0 → x.done = 0 → x.late = false →
    x.orphan = false → s.now - x.entered ≤ s.fld (Reg.BMX_M_CFG (x.who.num + 1)) 23 16 * 1000 →
    (x.kind = .write → ∃ t, exec (.bmxGrant g e) s = .next t ∧ t.bus.queue = s.bus.queue.erase x ∧ t.answer.resp = .okay ∧
      (∀ i, i < x.len → some (t.rdByte (x.addr + i)) = (bytesLE x.len x.data)[i]?) ∧
      ∀ b, ¬ (x.addr ≤ b ∧ b < x.addr + x.len) → t.rdByte b = s.rdByte b) ∧
    (x.kind = .read → e = .clean → ∃ t, exec (.bmxGrant g e) s = .next t ∧ t.bus.queue = s.bus.queue.erase x ∧ t.answer.resp = .okay ∧
      t.answer.data = ofBytesLE (s.rdBytes x.addr x.len) ∧ t.mem = s.mem)) ∧
  (∀ (g : Nat) (e : Ecc) (s : State), s.grantPick g = none → exec (.bmxGrant g e) s = .next s) ∧
  (∀ (m : Nat) (s : State),
    (∀ x, s.bus.between.find? (fun x => x.who.num == m) = some x → s.depth (targetNo x.addr) < 32 → ∃ t, exec (.bmxSubburstNext m) s = .next t ∧
      t.bus.between = s.bus.between.erase x ∧ t.bus.queue = s.bus.queue ++ [{ x with target := targetNo x.addr, len := min x.restLen 1024, restLen := x.restLen - min x.restLen 1024, entered := s.now }]) ∧
    (s.bus.between.find? (fun x => x.who.num == m) = none → exec (.bmxSubburstNext m) s = .next s)) ∧
  (∀ (m k n : Nat) (x : Txn) (s : State), m ≠ 5 → s.bus.retrying.find? (fun r => r.1 == m) = some (k, x, n) →
    (s.gate x.who x.addr x.len x.kind = none → ∃ t, exec (.coreRetry m) s = .next t ∧ t.bus.retrying = s.bus.retrying.filter (fun r => r.1 != m) ∧
      t.bus.queue = s.bus.queue ++ [⟨targetNo x.addr, x.who, x.kind, x.addr, min x.len 1024, x.data, s.now, false, x.len - min x.len 1024, false, 0⟩]) ∧
    (∀ reason, s.gate x.who x.addr x.len x.kind = some (.retry, reason) → n + 1 < s.fld (Reg.BMX_M_CFG (x.who.num + 1)) 15 12 →
      ∃ t, exec (.coreRetry m) s = .next t ∧ t.answer.resp = .retry ∧ (x.who.num, x, n + 1) ∈ t.bus.retrying)) ∧
  (∀ (m : Nat) (s : State), s.bus.retrying.find? (fun r => r.1 == m) = none → exec (.coreRetry m) s = .next s) ∧
  (∀ (m : Requester) (a len : Nat) (s : State), 1 ≤ m.num → m.num ≤ 4 → s.inHold = false → s.gate m a len .lr = none →
    ∃ t, exec (.lrReserve m a len) s = .next t ∧ t.answer.resp = .okay ∧ t.answer.data = ofBytesLE (s.rdBytes a len) ∧ t.mem = s.mem ∧
      t.bus.resv = s.bus.resv.filter (fun r => r.1 != m.num - 1) ++ [(m.num - 1, a / 64)]) ∧
  (∀ (m : Requester) (a len data : Nat) (s : State), 1 ≤ m.num → m.num ≤ 4 → s.inHold = false → s.gate m a len .sc = none →
    ((m.num - 1, a / 64) ∈ s.bus.resv → ∃ t, exec (.scAttempt m a len data) s = .next t ∧ t.answer.data = 0 ∧
      (∀ i, i < len → some (t.rdByte (a + i)) = (bytesLE len data)[i]?) ∧ (∀ b, ¬ (a ≤ b ∧ b < a + len) → t.rdByte b = s.rdByte b) ∧
      ∀ r ∈ t.bus.resv, r.1 ≠ m.num - 1) ∧
    ((m.num - 1, a / 64) ∉ s.bus.resv → ∃ t, exec (.scAttempt m a len data) s = .next t ∧ t.answer.data = 1 ∧ t.mem = s.mem ∧
      t.rdN Reg.BMX_SC_FAIL_CNT = (s.rdN Reg.BMX_SC_FAIL_CNT + 1) % 2 ^ 32 ∧ ∀ r ∈ t.bus.resv, r.1 ≠ m.num - 1)) ∧
  (∀ (m : Requester) (op : AmoOp) (a len data : Nat) (s : State), s.inHold = false → s.gate m a len (.amo op) = none →
    ∃ t, exec (.amoExec m op a len data) s = .next t ∧ t.answer.resp = .okay ∧ t.answer.data = ofBytesLE (s.rdBytes a len) ∧
      (∀ i, i < len → some (t.rdByte (a + i)) = (bytesLE len (amoResult op len (ofBytesLE (s.rdBytes a len)) data))[i]?) ∧
      ∀ b, ¬ (a ≤ b ∧ b < a + len) → t.rdByte b = s.rdByte b) ∧
  (∀ (h : Nat) (s : State), h < 4 → exec (.resvExpire h) s = .next { s with bus := { s.bus with resv := s.bus.resv.filter (fun r => r.1 != h) } })

/-- The host's two paths (R441, R443, R444, R449 to R451): a request through a BAR that is one transaction answers a read with its data, or with the completion that its refusal maps to; a RETRY is kept and repeated; PERST_N and a Function Level Reset end the repeats and nothing else of the device; the link goes up and down; a word of the management SPI is applied once under its SEQ, while a duplicate, a word that finds the previous one executing, a NOP and a short word change nothing but the port's response and its counts. -/
def Obligations.HostPathsComplete : Prop :=
  (∀ (bar2 : Bool) (offset len data a : Nat) (s : State), s.inHold = false → s.board.pcieUp = true →
    a = (if bar2 then 0x1000000000 + offset % 2 ^ 36 else 0x40000000 + offset % 2 ^ 28) → requestPieces a len = [(a, len)] →
    (s.gate hostReq a len .read = none → ∀ u, u = s.accessNow hostReq .read a len 0 .clean →
      exec (.pcieAccess bar2 false offset len data) s = .next { u with out := .completion 0 u.answer.data :: u.out }) ∧
    (s.gate hostReq a len .write = none → exec (.pcieAccess bar2 true offset len data) s = .next (s.accessNow hostReq .write a len data .clean)) ∧
    (∀ n, s.gate hostReq a len .read = some (.decode, n) → ∃ t o, exec (.pcieAccess bar2 false offset len data) s = .next t ∧ t.out = .completion 1 0 :: o) ∧
    (∀ n, s.gate hostReq a len .read = some (.secure, n) → ∃ t o, exec (.pcieAccess bar2 false offset len data) s = .next t ∧ t.out = .completion 2 0 :: o) ∧
    (∀ n, s.gate hostReq a len .read = some (.absent, n) → ∃ t o, exec (.pcieAccess bar2 false offset len data) s = .next t ∧ t.out = .completion 0 0 :: o) ∧
    (∀ n, s.gate hostReq a len .read = some (.retry, n) → ∃ t x, exec (.pcieAccess bar2 false offset len data) s = .next t ∧ (5, x, 0) ∈ t.bus.retrying ∧
      x.addr = a ∧ x.len = len ∧ x.kind = .read)) ∧
  (∀ (bar2 write : Bool) (offset len data : Nat) (s : State), s.inHold = true ∨ s.board.pcieUp = false → exec (.pcieAccess bar2 write offset len data) s = .next s) ∧
  (∀ (x : Txn) (n : Nat) (s : State), s.bus.retrying = [(5, x, n)] → x.kind = .read → x.done = 0 → x.data = 0 → requestPieces x.addr x.len = [(x.addr, x.len)] →
    s.inHold = false → s.gate hostReq x.addr x.len .read = none →
    ∃ t o, exec (.coreRetry 5) s = .next t ∧ t.bus.retrying = [] ∧ t.out = .completion 0 t.answer.data :: o) ∧
  (∀ s : State, ∃ t, exec .perst s = .next t ∧ t.board = { s.board with pcieUp := false, pcieWidth := 0, pcieRate := 0 } ∧
    (∀ r ∈ t.bus.retrying, r.1 ≠ 5) ∧ (∀ x ∈ t.bus.queue, x.who.num = 5 → x.orphan = true) ∧ { t with bus := s.bus, board := s.board } = s) ∧
  (∀ s : State, ∃ t, exec .flr s = .next t ∧ (∀ r ∈ t.bus.retrying, r.1 ≠ 5) ∧ (∀ x ∈ t.bus.queue, x.who.num = 5 → x.orphan = true) ∧
    { t with bus := s.bus } = s) ∧
  (∀ (up : Bool) (width rate : Nat) (s : State),
    (up = true → s.board.pcieDis = false → exec (.pcieLinkChange up width rate) s =
      .next { s with board := { s.board with pcieUp := true, pcieWidth := width, pcieRate := rate } }) ∧
    (up = false ∨ s.board.pcieDis = true → ∃ t, exec (.pcieLinkChange up width rate) s = .next t ∧
      t.board = { s.board with pcieUp := false, pcieWidth := 0, pcieRate := 0 } ∧ { t with bus := s.bus, board := s.board } = s)) ∧
  (∀ (seq waddr data n : Nat) (s : State), s.inHold = false → 96 ≤ n → s.board.mspiSeq ≠ some (seq % 65536) →
    (∀ u, u = (s.mspiShift.mspiSurplus n).accessNow mspiReq .read (mspiAddr waddr) 4 0 .clean → ∃ t, exec (.mspiRead seq waddr n false) s = .next t ∧
      t.board = { u.board with mspiDiscarded := false, mspiSurplus := decide (96 < n), mspiDup := false, mspiSeq := some (seq % 65536), mspiResp := mspiCode u.answer.resp, mspiLate := u.answer.late, mspiData := if u.answer.resp = .okay then u.answer.data % 2 ^ 32 else 0 } ∧
      t.rdN Reg.BMX_MSPI_SEQ = seq % 65536 ∧ t.rdN Reg.BMX_MSPI_WORDS = (u.rdN Reg.BMX_MSPI_WORDS + 1) % 2 ^ 32) ∧
    (∀ u, u = (s.mspiShift.mspiSurplus n).accessNow mspiReq .write (mspiAddr waddr) 4 (data % 2 ^ 32) .clean →
      ∃ t, exec (.mspiWrite seq waddr data n false) s = .next t ∧ t.board.mspiSeq = some (seq % 65536) ∧ t.board.mspiResp = mspiCode u.answer.resp ∧
      t.rdN Reg.BMX_MSPI_SEQ = seq % 65536 ∧ { t with regs := u.regs, board := u.board } = u) ∧
    (∃ t, exec (.mspiRead seq waddr n true) s = .next t ∧ t.board.mspiResp = 7 ∧ t.board.mspiData = 0 ∧ t.board.mspiSeq = s.board.mspiSeq ∧ t.mem = s.mem)) ∧
  (∀ (seq waddr data n : Nat) (b : Bool) (s : State), s.inHold = false → 96 ≤ n → s.board.mspiSeq = some (seq % 65536) →
    (∃ t, exec (.mspiRead seq waddr n b) s = .next t ∧ t.board.mspiDup = true ∧ t.board.mspiResp = s.board.mspiResp ∧
      t.rdN Reg.BMX_MSPI_DUP_CNT = (s.rdN Reg.BMX_MSPI_DUP_CNT + 1) % 2 ^ 32) ∧
    (∃ t, exec (.mspiWrite seq waddr data n b) s = .next t ∧ t.board.mspiDup = true ∧ t.board.mspiResp = s.board.mspiResp ∧
      { t with regs := s.regs, board := s.board } = s)) ∧
  (∀ (n : Nat) (s : State), s.inHold = false →
    (96 ≤ n → ∃ t, exec (.mspiNop n) s = .next t ∧ t.board = { s.board with mspiMiso := s.mspiFrame, mspiDiscarded := false } ∧
      { t with regs := s.regs, board := s.board } = s) ∧
    (0 < n → n < 96 → n % 8 = 0 → ∃ t, exec (.mspiWordDiscard n) s = .next t ∧ t.board = { s.board with mspiMiso := s.mspiFrame, mspiDiscarded := true } ∧
      t.rdN Reg.BMX_MSPI_SHORT_CNT = (s.rdN Reg.BMX_MSPI_SHORT_CNT + 1) % 2 ^ 32) ∧
    (0 < n → n < 96 → n % 8 ≠ 0 → ∃ t, exec (.mspiWordDiscard n) s = .next t ∧ t.board = { s.board with mspiMiso := s.mspiFrame, mspiDiscarded := true } ∧
      t.rdN Reg.BMX_MSPI_FRAME_CNT = (s.rdN Reg.BMX_MSPI_FRAME_CNT + 1) % 2 ^ 32 ∧ t.raised Src.BMX_MSPI_FRAME = true) ∧
    (exec (.mspiNop 0) s = .next s ∧ exec (.mspiWordDiscard 0) s = .next s))

/-- The Key Store Unit (R387, R396 to R398, R401, R402, R404): WRITE, CLEAR and LOCK of a slot, with what refuses them; the fuse commands, which are answered LOCKED after the seal, and the end of programming; the engine's operations, taken at once or waiting while it works, and refused while their context is busy; the end of an operation, with the next context in rotation; and the failure of the TRNG (the cryptographic functions are the configuration's, log entry 5). -/
def Obligations.KeyStoreCompletes : Prop :=
  (∀ (m : Requester) (n len : Nat) (s : State), n < 64 → s.Passes m Reg.KSU_SLOT_CMD .write →
    (s.slotLocked n = false → s.ksuRun = true → s.slotInFlight n = false →
      (len = s.fld Reg.KSU_SLOT_ATTR 6 0 → 1 ≤ len → len ≤ 64 → s.fld Reg.KSU_SLOT_ATTR 29 24 ≠ 0 →
        ∃ t, exec (.slotWrite m n) s = .next t ∧ t.slotState n = 1 ∧ t.slotUsage n = s.fld Reg.KSU_SLOT_ATTR 29 24 ∧ t.slotKey n = s.stagedKey.take len ∧
          t.rdN Reg.KSU_SLOT_RESULT = 2 ^ 28 + n ∧ (∀ i, i < 16 → t.rdN (stageAddr i) = 0) ∧ ∀ k, k ≠ n → k < 64 → t.slotWord k = s.slotWord k ∧ t.slotKey k = s.slotKey k) ∧
      (∃ t, exec (.slotClear m n) s = .next t ∧ t.slotWord n = 0 ∧ t.slotKey n = [] ∧ t.rdN Reg.KSU_SLOT_RESULT = 2 ^ 28 + n ∧
        ∀ k, k ≠ n → k < 64 → t.slotWord k = s.slotWord k ∧ t.slotKey k = s.slotKey k)) ∧
    (s.slotLocked n = true → (∃ t, exec (.slotWrite m n) s = .next t ∧ t.answer.resp = .locked ∧ t.keys = s.keys) ∧
      (∃ t, exec (.slotClear m n) s = .next t ∧ t.answer.resp = .locked ∧ t.keys = s.keys)) ∧
    (s.slotLocked n = false → s.ksuRun = false ∨ s.slotInFlight n = true → (∃ t, exec (.slotWrite m n) s = .next t ∧ t.answer.resp = .state ∧ t.keys = s.keys) ∧
      (∃ t, exec (.slotClear m n) s = .next t ∧ t.answer.resp = .state ∧ t.keys = s.keys)) ∧
    (s.ksuRun = true → ∃ t, exec (.slotLock m n) s = .next t ∧ t.slotLocked n = true ∧ t.slotKey n = s.slotKey n ∧ t.rdN Reg.KSU_SLOT_RESULT = 2 ^ 28 + n)) ∧
  (∀ (m : Requester) (s : State), s.Passes m Reg.KSU_LC_CMD .write → s.isSealed = false → s.keys.programming = none →
    (s.keys.fuses.lc = 1 ∨ s.keys.fuses.lc = 2 → ∃ t, exec (.lcAdvance m) s = .next t ∧ t.keys = { s.keys with programming := some .advance } ∧ t.bit Reg.KSU_LC 8 = true) ∧
    (s.fld Reg.KSU_SVN 6 0 ≠ 64 → ∃ t, exec (.svnInc m) s = .next t ∧ t.keys = { s.keys with programming := some .svnInc } ∧ t.bit Reg.KSU_LC 8 = true) ∧
    (s.keys.fuses.hash0 = none ∨ s.keys.fuses.revoked0 = true ∨ (s.keys.fuses.hash1.isSome = true ∧ s.keys.fuses.revoked1 = false) →
      ∃ t, exec (.revoke0 m) s = .next t ∧ t.keys = { s.keys with programming := some .revoke0 } ∧ t.bit Reg.KSU_LC 8 = true) ∧
    (s.keys.fuses.hash1 = none ∨ s.keys.fuses.revoked1 = true ∨ (s.keys.fuses.hash0.isSome = true ∧ s.keys.fuses.revoked0 = false) →
      ∃ t, exec (.revoke1 m) s = .next t ∧ t.keys = { s.keys with programming := some .revoke1 } ∧ t.bit Reg.KSU_LC 8 = true)) ∧
  (∀ (m : Requester) (s : State), s.Passes m Reg.KSU_LC_CMD .write → s.isSealed = true →
    (∃ t, exec (.lcAdvance m) s = .next t ∧ t.answer.resp = .locked ∧ t.keys = s.keys) ∧ (∃ t, exec (.svnInc m) s = .next t ∧ t.answer.resp = .locked ∧ t.keys = s.keys) ∧
    (∃ t, exec (.revoke0 m) s = .next t ∧ t.answer.resp = .locked ∧ t.keys = s.keys) ∧ (∃ t, exec (.revoke1 m) s = .next t ∧ t.answer.resp = .locked ∧ t.keys = s.keys)) ∧
  (∀ s : State, (∀ op, s.keys.programming = some op → ∃ t, exec .fuseProgDone s = .next t ∧
      t.keys = { s.keys with programmed := fuseAfter s.keys.programmed op, programming := none } ∧ t.bit Reg.KSU_LC 8 = false ∧ { t with regs := s.regs, keys := s.keys } = s) ∧
    (s.keys.programming = none → exec .fuseProgDone s = .next s)) ∧
  (∀ (m : Requester) (c phase op ph : Nat) (i : Instr) (s : State), c < 4 → phase < 4 →
    (i, op, ph) ∈ [(.ksuSha384 m c phase, 1, phase), (.ksuHmac m c phase, 2, phase), (.ksuKdf m c, 3, 0), (.ksuGcmEncrypt m c, 4, 0), (.ksuGcmDecrypt m c, 5, 0),
      (.ksuEcdsaSign m c, 6, 0), (.ksuEcdsaVerify m c, 7, 0), (.ksuEcdh m c, 8, 0), (.ksuGenerate m c, 9, 0)] → s.Passes m (Reg.KSU_C_CMD (c + 1)) .write →
    (s.ctxBusy c = false → s.ksuRun = true → ∃ t, exec i s = .next t ∧ t.rdN (Reg.KSU_C_STATUS (c + 1)) = 2 ^ 28 ∧
      t.keys = (if s.keys.current.isNone then { s.keys with current := some ⟨c, op, ph⟩, lastCtx := c } else { s.keys with waiting := s.keys.waiting ++ [⟨c, op, ph⟩] })) ∧
    (s.ctxBusy c = true ∨ s.ksuRun = false → ∃ t, exec i s = .next t ∧ t.answer.resp = .state ∧ t.keys = s.keys)) ∧
  (∀ (us : Nat) (bad : Bool) (x : EngineOp) (s : State), x.ctx < 4 → s.keys.current = some x →
    (x.op = 1 → x.phase = 0 → s.fld (Reg.KSU_C_LEN (x.ctx + 1)) 14 0 ≤ 16384 → ∃ t, exec (.ksuOpDone us bad) s = .next t ∧
      t.rdN (Reg.KSU_C_STATUS (x.ctx + 1)) = 2 * 2 ^ 28 ∧ t.rdN (Reg.KSU_C_OUT_LEN (x.ctx + 1)) = 48 ∧
      t.bufBytes x.ctx 0 48 = bytesBE 48 (Config.sha384 (s.bufBytes x.ctx 0 (s.fld (Reg.KSU_C_LEN (x.ctx + 1)) 14 0))) ∧
      t.keys.current = nextWaiting s.keys.waiting s.keys.lastCtx) ∧
    (x.op = 4 ∨ x.op = 5 ∨ x.op = 6 ∨ x.op = 8 → s.slotState (s.ctxKey x.ctx) = 0 → ∃ t, exec (.ksuOpDone us bad) s = .next t ∧
      t.rdN (Reg.KSU_C_STATUS (x.ctx + 1)) = 7 * 2 ^ 28 ∧ t.rdN (Reg.KSU_C_OUT_LEN (x.ctx + 1)) = 0 ∧ t.keys.current = nextWaiting s.keys.waiting s.keys.lastCtx) ∧
    (x.op = 9 → s.keys.trngOk = false → ∃ t, exec (.ksuOpDone us bad) s = .next t ∧ t.rdN (Reg.KSU_C_STATUS (x.ctx + 1)) = 9 * 2 ^ 28)) ∧
  (∀ (us : Nat) (bad : Bool) (s : State), s.keys.current = none → exec (.ksuOpDone us bad) s = .next s) ∧
  (∀ s : State, ∃ t, exec .trngHealthFail s = .next t ∧ t.keys = { s.keys with trngOk := false } ∧ t.bit Reg.KSU_TRNG_STATUS 31 = false ∧
    t.bit Reg.KSU_TRNG_STATUS 30 = true ∧ t.raised Src.KSU_TRNG_FAIL = true)

/-- Firmware update (R407, R409, R410, R412, R414, R417 to R421, R423): a chain-port receiver locks, loses lock and is reported; a chunk is stored in the staging area and acknowledged, or answered NACK; an ABORT ends the session; ACK blocks free what they acknowledge, an unanswered chunk goes again and is given up after 32 times, and is repeated while the receiver asks to wait; LOAD, ACTIVATE, ABORT and RESUME have their effect in their states, with the codes of Table 17.3; verification, staging, the pause's end, the microcode's and the primary bank's ends move the session on (the session number that LOAD takes is a free value, log entry 3). -/
def Obligations.UpdateCompletes : Prop :=
  (∀ (p b : Nat) (s : State), p < 2 → s.chainOn p = true →
    (s.chainRx p ≠ 2 → ∃ t, exec (.chainLockLoss p) s = .next t ∧ t.raised Src.TWN_CHAIN_LINK = true) ∧
    (s.chainRx p = 2 → exec (.chainLockLoss p) s = .next s) ∧
    (s.chainRx p = 1 → ∃ t, exec (.laneLock (528 + p)) s = .next t ∧ t.chainRx p = 2) ∧
    (s.chainRx p = 2 → 16 ≤ ((b :: (s.lane (528 + p)).bad).filter (fun y => decide (b < y + 64))).length →
      ∃ t, exec (.syncHeaderInvalid (528 + p) b) s = .next t ∧ t.chainRx p = 1)) ∧
  (∀ (p head cend seq session index : Nat) (data : List Nat) (s : State), p < 2 → s.upd.ports.length = 2 → s.chainOn p = true → s.chainRx p = 2 →
    head % 256 = 0x3C → head / 2 ^ 14 % 4 = 0 → seq = head / 2 ^ 48 % 65536 → session = head / 2 ^ 32 % 65536 → index = head / 2 ^ 20 % 4096 →
    (cend / 2 ^ 16 % 2 ^ 32 ≠ blocksCrc (head :: data) → ∃ t, exec (.chunkRx p head data cend) s = .next t ∧ t.upd = s.upd ∧
      t.rdN (hid (Reg.TWN_CH_CNT (17 + p)) 4) = (s.rdN (hid (Reg.TWN_CH_CNT (17 + p)) 4) + 1) % 2 ^ 32 ∧
      t.out = .blocks s.now (528 + p) [(true, (s.chainPort p).rxSeq.getD 0 * 2 ^ 48 + session * 2 ^ 32 + 2 ^ 30 + 0x69)] :: s.out) ∧
    (cend / 2 ^ 16 % 2 ^ 32 = blocksCrc (head :: data) → cend % 256 = 0xC3 → data.length = 512 → (∀ x, (s.chainPort p).rxSeq = some x → seq = (x + 1) % 65536) →
      s.bit (Reg.TWN_CH_CFG (17 + p)) 30 = false → s.bit (Reg.TWN_CH_CFG (17 + p)) 29 = true → s.upd.port = some p → s.upd.session = session →
      s.updState = 2 → index = s.fld (Reg.TWN_CH_UPD_STATUS (17 + p)) 12 0 →
      ∃ t, exec (.chunkRx p head data cend) s = .next t ∧ t.updState = (if index + 1 = s.upd.total then 3 else 2) ∧ (t.chainPort p).rxSeq = some seq ∧
        (∀ i, i < 4096 → some (t.rdByte (s.stagingBase p + 4096 * index + i)) = (data.flatMap (bytesLE 8))[i]?) ∧
        t.out = .blocks s.now (528 + p) [(true, seq * 2 ^ 48 + session * 2 ^ 32 + 0x69)] :: s.out)) ∧
  (∀ (p seq session hops cend : Nat) (s : State), p < 2 → seq < 65536 → session < 65536 → hops < 16 → s.upd.ports.length = 2 → s.chainOn p = true → s.chainRx p = 2 →
    cend / 2 ^ 16 % 2 ^ 32 = blocksCrc [chunkHead seq session 0 hops 1] → cend % 256 = 0xC3 → (∀ x, (s.chainPort p).rxSeq = some x → seq = (x + 1) % 65536) →
    s.bit (Reg.TWN_CH_CFG (17 + p)) 30 = false → s.upd.port = some p → s.upd.session = session → s.updState = 2 →
    ∃ t, exec (.chunkAbortRx p seq session hops cend) s = .next t ∧ t.updState = 11 ∧ t.fld (Reg.TWN_CH_UPD_STATUS (17 + p)) 23 20 = 5 ∧
      (t.chainPort p).rxSeq = some seq) ∧
  (∀ (p payload : Nat) (s : State), p < 2 → s.upd.ports.length = 2 → s.chainOn p = true → payload % 256 = 0x69 → (s.chainPort p).queue = [] →
    (payload / 2 ^ 30 % 4 ≠ 3 → ∃ t, exec (.chunkAckRx p payload) s = .next t ∧
      (t.chainPort p).unacked = (s.chainPort p).unacked.filter (fun c => newer16 c.seq (payload / 2 ^ 48 % 65536)) ∧
      (t.chainPort p).nacked = (payload / 2 ^ 30 % 4 == 1) ∧ (t.chainPort p).waiting = (payload / 2 ^ 30 % 4 == 2)) ∧
    (payload / 2 ^ 30 % 4 = 3 → ∃ t, exec (.chunkAckRx p payload) s = .next t ∧ t.raised Src.TWN_CHAIN_REFUSED = true ∧
      ∀ c ∈ (t.chainPort p).unacked, c.head / 2 ^ 32 % 65536 ≠ payload / 2 ^ 32 % 65536)) ∧
  (∀ (p : Nat) (c : ChunkOut) (r : List ChunkOut) (s : State), p < 2 → s.upd.ports.length = 2 → s.chainOn p = true → (s.chainPort p).unacked = c :: r →
    ((s.chainPort p).waiting = false → (s.chainPort p).resends < 32 → ∃ t, exec (.chunkResend p) s = .next t ∧
      t.out = .blocks s.now (528 + p) (chunkBlocks c) :: s.out ∧ t.chainPort p = { s.chainPort p with resends := (s.chainPort p).resends + 1, nacked := false } ∧
      t.rdN (hid (Reg.TWN_CH_CNT (17 + p)) 3) = (s.rdN (hid (Reg.TWN_CH_CNT (17 + p)) 3) + 1) % 2 ^ 32) ∧
    ((s.chainPort p).waiting = false → 32 ≤ (s.chainPort p).resends → (s.chainPort p).queue = [] → ∃ t, exec (.chunkResend p) s = .next t ∧
      t.raised Src.TWN_CHAIN_LINK = true ∧ ∀ x ∈ (t.chainPort p).unacked, x.head / 2 ^ 32 % 65536 ≠ c.head / 2 ^ 32 % 65536) ∧
    ((s.chainPort p).waiting = true → exec (.chunkResend p) s = .next s ∧
      exec (.chunkWaitRepeat p) s = .next { s with out := .blocks s.now (528 + p) (chunkBlocks c) :: s.out }) ∧
    ((s.chainPort p).waiting = false → exec (.chunkWaitRepeat p) s = .next s)) ∧
  (∀ (m : Requester) (p : Nat) (s : State), p < 2 → s.Passes m (Reg.TWN_CH_UPD_CMD (17 + p)) .write →
    (s.updOpen = true → ∀ hops, ∃ t, exec (.updLoad m p hops) s = .next t ∧ t.upd = s.upd ∧ t.updState = s.updState) ∧
    (s.updOpen = false → s.stagingOk p = false → ∀ hops, ∃ t, exec (.updLoad m p hops) s = .next t ∧ t.updState = 10 ∧ t.upd.session = s.freeVal % 65536 ∧
      t.fld (Reg.TWN_CH_UPD_STATUS (17 + p)) 23 20 = 6) ∧
    (s.updOpen = false → s.stagingOk p = true → s.bit (Reg.TWN_CH_CFG (17 + p)) 29 = true → (∀ x ∈ s.upd.ports, x.queue = []) →
      (s.headCheck (s.rdBytes (s.stagingBase p) 256) ≠ 0 → ∃ t, exec (.updLoad m p 0) s = .next t ∧ t.updState = 9 ∧
        t.fld (Reg.TWN_CH_UPD_STATUS (17 + p)) 27 24 = s.headCheck (s.rdBytes (s.stagingBase p) 256) ∧ t.raised Src.TWN_CHAIN_REFUSED = true) ∧
      (s.headCheck (s.rdBytes (s.stagingBase p) 256) = 0 → ∃ t, exec (.updLoad m p 0) s = .next t ∧ t.updState = 3 ∧ t.upd.session = s.freeVal % 65536 ∧
        t.upd.total = ceilDiv (headLen (s.rdBytes (s.stagingBase p) 256)) 4096)) ∧
    (∀ q code, q < 2 → s.upd.port = some q → s.updState = 5 → code = s.updGuards ((s.le (setBase (1 - s.activeSet) + 0x0B) 1).testBit 0) →
      (code ≠ 0 → ∃ t, exec (.updActivate m p) s = .next t ∧ t.updState = 5 ∧ t.bit (Reg.TWN_CH_UPD_STATUS (17 + q)) 18 = true ∧
        t.fld (Reg.TWN_CH_UPD_STATUS (17 + q)) 27 24 = code ∧ t.upd = s.upd) ∧
      (code = 0 → ∃ t, exec (.updActivate m p) s = .next t ∧ t.updState = 6 ∧ t.upd.pause = some s.now ∧ t.bit Reg.GSE_CFG 2 = true ∧ t.bus.resv = [])) ∧
    (s.updState ≠ 5 → ∃ t, exec (.updActivate m p) s = .next t ∧ t.upd = s.upd ∧ t.mem = s.mem) ∧
    (∀ q, q < 2 → s.upd.port = some q →
      (1 ≤ s.updState → s.updState ≤ 5 → s.updState ≠ 4 → s.upd.hops = 0 → ∃ t, exec (.updAbort m p) s = .next t ∧ t.updState = 11 ∧
        t.fld (Reg.TWN_CH_UPD_STATUS (17 + q)) 23 20 = 4) ∧
      (s.updState = 6 ∨ s.updState = 7 → ∃ t, exec (.updAbort m p) s = .next t ∧ t.answer.resp = .state ∧ t.updState = s.updState) ∧
      (∀ x, s.updState = 6 → s.upd.pause = some x → hasPart (s.manifest (setBase s.activeSet)) 1 = true → ∃ t, exec (.updResume m p) s = .next t ∧
        t.updState = 7 ∧ t.upd.pause = none ∧ t.bit Reg.GSE_CFG 2 = false)) ∧
    (s.updState ≠ 6 → ∃ t, exec (.updResume m p) s = .next t ∧ t.upd = s.upd ∧ t.mem = s.mem)) ∧
  (∀ (q : Nat) (s : State), q < 2 → s.upd.port = some q →
    (s.updState = 3 → ∃ t, exec .updVerifyDone s = .next t ∧ t.updState = (if s.imageVerifies s.stagedImage then 4 else 10) ∧
      t.board.flashBusy = (s.board.flashBusy || s.imageVerifies s.stagedImage) ∧ (s.imageVerifies s.stagedImage = false → t.raised Src.TWN_CHAIN_REFUSED = true)) ∧
    (s.updState = 4 → (∃ t, exec (.updStagingDone true) s = .next t ∧ t.updState = 5 ∧ t.board.flashBusy = false) ∧
      (∃ t, exec (.updStagingDone false) s = .next t ∧ t.updState = 10 ∧ t.board.flashBusy = false ∧ t.fld (Reg.TWN_CH_UPD_STATUS (17 + q)) 23 20 = 2)) ∧
    (∀ x, s.updState = 6 → s.upd.pause = some x → hasPart (s.manifest (setBase s.activeSet)) 1 = true → ∃ t, exec .updPauseTimeout s = .next t ∧
      t.updState = 7 ∧ t.upd.pause = none ∧ t.bit Reg.GSE_CFG 2 = false ∧
      ∀ a, t.rdByte a = if 0x20000000 ≤ a ∧ a < 0x20400000 then memDefault a else s.rdByte a) ∧
    (s.updState = 7 → ∃ t, exec .updPrimaryDone s = .next t ∧ t.updState = 8 ∧ ∀ i, i < 0x400000 → t.rdByte (0x20000000 + i) = s.rdByte (0x20400000 + i))) ∧
  (∀ s : State, (s.updState ≠ 3 → exec .updVerifyDone s = .next s) ∧ (s.updState ≠ 4 → ∀ ok, exec (.updStagingDone ok) s = .next s) ∧
    (s.updState ≠ 6 → exec .updPauseTimeout s = .next s) ∧ (s.updState ≠ 7 → exec .updPrimaryDone s = .next s)) ∧
  (∀ (pxp : Bool) (ty b : Nat) (s : State), ty = (if pxp then 5 else 4) → b = (if pxp then 12 else 7) →
    (ty ∈ s.upd.loading → ∃ t, exec (.ucodeLoadDone pxp) s = .next t ∧ t.upd = { s.upd with loading := s.upd.loading.filter (· != ty) } ∧
      ∀ k ∈ pagesOf b, t.fld (hREV (pageAddr b k)) 7 0 = (match (s.manifest (setBase s.activeSet)).find? (fun p => p.type' == ty) with | some p => p.version % 256 | none => 0)) ∧
    (ty ∉ s.upd.loading → exec (.ucodeLoadDone pxp) s = .next s))

/-- The pair states, lanes and slot messages of the twin link (R342, R344 to R349, Table 14.2): heartbeat edges and their loss; SPLIT and alone; pairing after eight epochs of frames; the partner lost after three without; one message on each active lane in a slot, the control message with the waiting records under the next SEQ; a message received in time counts for its lane and its epoch, one that is damaged, early or late is discarded, one of the same strap is reported; the oldest unacknowledged message goes again; a failed lane is replaced by a spare at the agreed boundary. -/
def Obligations.TwinLinkCompletes : Prop :=
  (∀ s : State, ∃ t, exec .hbEdge s = .next t ∧ t.bit Reg.TWN_STATUS 28 = true ∧ { t with regs := s.regs } = s ∧ ∀ a, a ≠ Reg.TWN_STATUS → t.rd a = s.rd a) ∧
  (∀ s : State, (s.pairState = 2 ∨ s.pairState = 3 → ∃ t, exec .hbLoss s = .next t ∧ t.pairState = 0 ∧ t.twin.due = 3 ∧ t.raised Src.TWN_PARTNER_LOST = true) ∧
    (s.pairState = 0 ∨ s.pairState = 1 → ∃ t, exec .hbLoss s = .next t ∧ t.bit Reg.TWN_STATUS 28 = false ∧ t.pairState = s.pairState ∧ { t with regs := s.regs } = s)) ∧
  (∀ s : State, s.running 15 = true → s.pairState = 0 →
    (s.bit Reg.TWN_STATUS 28 = true → ∃ t, exec .aloneExpire s = .next t ∧ t.pairState = 3 ∧ t.raised Src.TWN_SPLIT = true ∧
      t.rdN Reg.TWN_SPLIT_CNT = (s.rdN Reg.TWN_SPLIT_CNT + 1) % 2 ^ 32 ∧ (s.isTwinB = false → t.roles = 3)) ∧
    (s.bit Reg.TWN_STATUS 28 = false → s.isTwinB = true → s.twin.due = 0 → exec .aloneExpire s = .next { s with twin := { s.twin with due := 2 } })) ∧
  (∀ s : State, s.pairState ≠ 0 → exec .aloneExpire s = .next s) ∧
  (∀ s : State, (s.twin.miss < 3 → exec .partnerTimeout s = .next s) ∧
    (3 ≤ s.twin.miss → s.pairState = 1 → ∃ t, exec .partnerTimeout s = .next t ∧ t.pairState = 0 ∧ t.twin.waiting = []) ∧
    (3 ≤ s.twin.miss → s.pairState = 2 → s.bit Reg.TWN_STATUS 28 = true → ∃ t, exec .partnerTimeout s = .next t ∧ t.pairState = 3 ∧ t.raised Src.TWN_SPLIT = true) ∧
    (3 ≤ s.twin.miss → s.pairState = 2 → s.bit Reg.TWN_STATUS 28 = false → ∃ t, exec .partnerTimeout s = .next t ∧ t.pairState = 0 ∧ t.raised Src.TWN_PARTNER_LOST = true)) ∧
  (∀ s : State, ((s.pairState = 1 ∨ s.pairState = 3) → 8 ≤ s.twin.good → s.twin.measured = true → ∃ t, exec .pairEstablish s = .next t ∧ t.pairState = 2 ∧
      t.twin.cmpFrom = s.epoch) ∧ (s.twin.good < 8 ∨ s.twin.measured = false → exec .pairEstablish s = .next s)) ∧
  (∀ s : State, s.running 15 = false → exec .slotTx s = .next s) ∧
  (∀ s : State, s.running 15 = true → ∃ t, exec .slotTx s = .next t ∧
    (∀ k, k < 16 → s.laneActive k = true → s.ctlLane ≠ some k →
      ∃ m l, .blocks s.now (512 + k) (slotBlocks m l) ∈ t.out ∧ m.isHash = true ∧ m.lane = k ∧ m.slot = s.now / 1000 ∧ m.epoch = s.epoch) ∧
    (∀ c, s.ctlLane = some c → s.twin.ctlSlot ≠ some (s.now / 1000) → s.resendDue = false → s.twin.unacked.length < 64 →
      (∃ m, .blocks s.now (512 + c) (slotBlocks m (fitRecs 317 s.twin.waiting).1) ∈ t.out ∧ m.isHash = false ∧ m.seq = s.twin.nextSeq ∧ m.lane = c) ∧
        t.twin.waiting = (fitRecs 317 s.twin.waiting).2 ∧ t.twin.unacked = s.twin.unacked ++ [(s.twin.nextSeq, (fitRecs 317 s.twin.waiting).1)] ∧
        t.twin.nextSeq = (s.twin.nextSeq + 1) % 65536)) ∧
  (∀ (k stamp : Nat) (b : List (Bool × Nat)) (s : State), k < 16 → s.laneActive k = true → s.pairRx k = 4 →
    (readSlot b = none → ∃ t, exec (.slotMsgRx k stamp b) s = .next t ∧ t.rdN (Reg.TWN_L_DISCARD (k + 1)) = (s.rdN (Reg.TWN_L_DISCARD (k + 1)) + 1) % 2 ^ 32 ∧
      t.twin.nackOut = (s.twin.nackOut || s.ctlLane == some k)) ∧
    (∀ m l, readSlot b = some (m, l) → m.twin = s.isTwinB → ∃ t, exec (.slotMsgRx k stamp b) s = .next t ∧ t.raised Src.TWN_STRAP = true) ∧
    (∀ (m : SlotHead) (l : List CtlRec) (a : Int), readSlot b = some (m, l) → m.twin ≠ s.isTwinB → m.health ≠ 2 →
      a = (stamp : Int) - nearSlot s.now m.slot * 1000000 - signed 32 (s.rdN Reg.TWN_DELAY) →
      (200000 < a.natAbs → ∃ t, exec (.slotMsgRx k stamp b) s = .next t ∧ t.raised Src.TWN_SLOT_LATE = true ∧
        t.rdN (Reg.TWN_L_DISCARD (k + 1)) = (s.rdN (Reg.TWN_L_DISCARD (k + 1)) + 1) % 2 ^ 32) ∧
      (a.natAbs ≤ 20000 → l = [] → ∃ t, exec (.slotMsgRx k stamp b) s = .next t ∧ t.twin.got = true ∧ k ∈ t.twin.heard ∧ t.twin.rawCount = s.twin.rawCount + 1 ∧
        t.pairState = (if s.pairState = 0 then 1 else s.pairState) ∧
        (m.isHash = true → t.rdN (Reg.TWN_L_SLOTS (k + 1)) = (s.rdN (Reg.TWN_L_SLOTS (k + 1)) + 1) % 2 ^ 32 ∧ t.twin.lastRx = s.twin.lastRx) ∧
        (m.isHash = false → (∀ x, s.twin.lastRx = some x → m.seq = (x + 1) % 65536) → t.twin.lastRx = some m.seq ∧ t.twin.nackOut = false ∧
          t.rdN (Reg.TWN_L_SLOTS (k + 1)) = (s.rdN (Reg.TWN_L_SLOTS (k + 1)) + 1) % 2 ^ 32 ∧
          t.twin.unacked = s.twin.unacked.filter (fun x => newer16 x.1 m.ack))))) ∧
  (∀ (k stamp : Nat) (b : List (Bool × Nat)) (s : State), k < 16 → s.laneActive k = false ∨ s.pairRx k ≠ 4 → exec (.slotMsgRx k stamp b) s = .next s) ∧
  (∀ s : State, (∀ k q l r, s.ctlLane = some k → s.twin.unacked = (q, l) :: r → s.resendDue = true → ∃ t m, exec .ctlResend s = .next t ∧
      t.out = .blocks s.now (512 + k) (slotBlocks m l) :: s.out ∧ m.seq = q ∧ t.twin.nackIn = false ∧ t.twin.unacked = s.twin.unacked ∧
      t.rdN Reg.TWN_RESEND_CNT = (s.rdN Reg.TWN_RESEND_CNT + 1) % 2 ^ 32) ∧
    (s.resendDue = false → exec .ctlResend s = .next s)) ∧
  (∀ (k : Nat) (s : State), k < 16 →
    (s.pairState ≠ 0 → s.laneActive k = true → s.pairFailed k = false → (4 ≤ s.fld (Reg.TWN_L_STATUS (k + 1)) 7 0 ∨ s.pairRx k ≠ 4) →
      ∃ t mask E, exec (.laneFail k) s = .next t ∧ t.pairFailed k = true ∧ t.raised Src.TWN_LANE_FAIL = true ∧ t.twin.change = some (mask, E) ∧
        E = ceilDiv (s.now + 3000000) s.epochNs ∧ .lane mask (E % 2 ^ 24) ∈ t.twin.waiting) ∧
    (s.laneActive k = false ∨ s.pairFailed k = true → exec (.laneFail k) s = .next s)) ∧
  (∀ s : State, (∀ mask E, s.twin.change = some (mask, E) → E ≤ s.epoch → ∃ t, exec .spareActivate s = .next t ∧ t.twin.change = none ∧
      ∀ k, k < 16 → t.twin.active.testBit k = (mask.testBit k && (s.twin.active.testBit k || s.pairRx k == 4))) ∧
    (s.twin.change = none → exec .spareActivate s = .next s))

/-- The twin's records (R104, R115, R333, R345, R346, R350, R352, R355, R356, R358, Table 14.4) and TWN_CTRL: STATUS, TIME and PTP_DS are kept; a TAKE is checked and answered, and gathers until its last part; AGREE lets a waiting take go on; IMAGE_ARM is kept; hashes are compared; ROLE moves a role by GIVE, TAKE and CANCEL; LANE names the lanes to come; SNAP arms the comparator or is missed; Twin B gives its roles back once its hold-off has run, or at REVERT_NOW; SELFTEST and RELEASE have their effect. -/
def Obligations.TwinRecordsComplete : Prop :=
  (∀ (st ri : Bool) (p d q : Nat) (v : Bool) (i h : Nat) (s : State),
    (s.pairState ≠ 0 → ∃ t, exec (.statusRx st ri p d q v i h) s = .next t ∧ t.bit Reg.TWN_PARTNER 25 = st ∧ t.twin.inhibit = ri ∧
      t.twin.image = (if v then some (i % 2 ^ 32, h % 2 ^ 32) else none)) ∧
    (s.pairState = 0 → exec (.statusRx st ri p d q v i h) s = .next s)) ∧
  (∀ (tm : Bool) (d q : Nat) (raw : Int) (s : State), (s.pairState ≠ 0 → ∃ t, exec (.timeRx tm d q raw) s = .next t ∧ t.bit Reg.TWN_ROLE 29 = tm ∧
      ∀ here, s.twin.meanRaw = some here → t.rdN Reg.TWN_DELAY = unsigned 32 ((here + raw) / 2) ∧ t.twin.measured = true) ∧
    (s.pairState = 0 → exec (.timeRx tm d q raw) s = .next s)) ∧
  (∀ (ds : PtpDs) (s : State), (s.pairState ≠ 0 → exec (.ptpDsRx ds) s = .next { s with ref := { s.ref with partnerDs := some ds } }) ∧
    (s.pairState = 0 → exec (.ptpDsRx ds) s = .next s)) ∧
  (∀ (tag S T src dst : Nat) (r : Nat × List Nat × Nat) (s : State), tag < 2 ^ 14 → s.pairState ≠ 0 → s.profOpen = none → s.geyser.parts = [] →
    r = s.takeCheck true false tag 1 [(src, dst)] T S →
    (r.1 ≠ 0 → ∃ t, exec (.twinTakeRx tag 0 S T [(src, dst)] true) s = .next t ∧ t.twin.waiting = s.twin.waiting ++ [.agree tag true r.1]) ∧
    (r.1 = 0 → ∃ t, exec (.twinTakeRx tag 0 S T [(src, dst)] true) s = .next t ∧ (∃ k ∈ t.geyser.takes, k.tag = tag) ∧
      (.agree tag false 0 ∈ t.twin.waiting ∨ .agree tag true 10 ∈ t.twin.waiting)) ∧
    exec (.twinTakeRx tag 1 S T [(src, dst)] false) s = .next { s with geyser := { s.geyser with parts := [(tag, src, dst)] } }) ∧
  (∀ (tag reason x : Nat) (k : Take) (s : State), tag < 2 ^ 14 → s.profOpen = none → s.geyser.load = none → s.takeOf tag = some k → k.sentAt = some x →
    ∃ t, exec (.agreeRx tag false reason) s = .next t ∧ t.geyser.takes = mapIf (fun y => y.tag == k.tag) (fun _ => { k with sentAt := none, members := mapIf (fun m => m.state == 1) (fun m => { m with state := if m.written then 3 else 2 }) k.members }) s.geyser.takes) ∧
  (∀ (tag reason : Nat) (refuse : Bool) (s : State), tag < 2 ^ 14 → s.profOpen = none → s.takeOf tag = none → exec (.agreeRx tag refuse reason) s = .next s) ∧
  (∀ (e i h E : Nat) (s : State), e < 2 ^ 24 → i < 2 ^ 32 → h < 2 ^ 32 → resolveEpoch s.epoch e = some E →
    (s.pairState ≠ 0 → s.geyser.load = none → exec (.imageArmRx e i h) s = .next { s with geyser := { s.geyser with twinImage := some (i, h, E) } }) ∧
    (s.pairState = 0 → exec (.imageArmRx e i h) s = .next s)) ∧
  (∀ (e d h r x : Nat) (s : State), s.paired = true → r = pastEpoch s.epoch e → s.epoch ≤ r + 2 → s.twin.cmpFrom ≤ r → (r, d) ∉ s.twin.compared →
    hashAt s.twin.theirs r d = none → hashAt s.twin.own r d = some x →
    (x = h → ∃ t, exec (.hashRx e d [h]) s = .next t ∧ (r, d) ∈ t.twin.compared ∧ t.rdN Reg.TWN_CMP_CNT = (s.rdN Reg.TWN_CMP_CNT + 1) % 2 ^ 32 ∧
      t.rdN Reg.TWN_DIV_CNT = s.rdN Reg.TWN_DIV_CNT) ∧
    (x ≠ h → ∃ t, exec (.hashRx e d [h]) s = .next t ∧ (r, d) ∈ t.twin.compared ∧ t.rdN Reg.TWN_DIV_CNT = (s.rdN Reg.TWN_DIV_CNT + 1) % 2 ^ 32 ∧
      t.raised Src.TWN_DIVERGE = true)) ∧
  (∀ (e d : Nat) (l : List Nat) (s : State), s.paired = false → exec (.hashRx e d l) s = .next s) ∧
  (∀ (roles e E : Nat) (s : State), roles < 4 → e < 2 ^ 24 → resolveEpoch s.epoch e = some E →
    (s.paired = true → ∃ t g, exec (.roleGiveRx roles e) s = .next t ∧ t.twin = { s.twin with pend := some g, waiting := s.twin.waiting ++ [.role 1 roles (E % 2 ^ 24)] } ∧
      g.roles = roles ∧ g.target = E) ∧
    (s.paired = false → exec (.roleGiveRx roles e) s = .next s)) ∧
  (∀ (e : Nat) (g : RoleMove) (s : State), s.twin.give = some g → g.target % 2 ^ 24 = e % 2 ^ 24 →
    (s.now ≤ (g.target - 1) * s.epochNs → exec (.roleTakeRx e) s = .next { s with twin := { s.twin with give := some { g with agreed := true } } }) ∧
    ((g.target - 1) * s.epochNs < s.now → exec (.roleTakeRx e) s = .next s)) ∧
  (∀ (e : Nat) (g : RoleMove) (s : State), s.twin.pend = some g →
    (g.target % 2 ^ 24 = e % 2 ^ 24 → exec (.roleCancelRx e) s = .next { s with twin := { s.twin with pend := none } }) ∧
    (g.target % 2 ^ 24 ≠ e % 2 ^ 24 → exec (.roleCancelRx e) s = .next s)) ∧
  (∀ (mask e E : Nat) (s : State), mask < 65536 → e < 2 ^ 24 → s.pairState ≠ 0 → resolveEpoch s.epoch e = some E →
    ∃ t, exec (.laneRx mask e) s = .next t ∧ t.twin = { s.twin with change := some (mask, E) } ∧
      ∀ k, k < 16 → t.pairRx k = if mask.testBit k = true ∧ s.pairRx k = 1 then 2 else s.pairRx k) ∧
  (∀ (T : Nat) (s : State), s.pairState ≠ 0 →
    (T ≤ s.now → ∃ t, exec (.snapRx T) s = .next t ∧ t.raised Src.TWN_SNAP_MISS = true ∧ t.rdN Reg.TWN_SNAP_MISS_CNT = (s.rdN Reg.TWN_SNAP_MISS_CNT + 1) % 2 ^ 32) ∧
    (s.now < T → T < 2 ^ 64 → s.bit Reg.FCR_SNAP_CFG 4 = true → s.fcr.time2Armed = false → ∃ t, exec (.snapRx T) s = .next t ∧
      t.fcr = { s.fcr with time2Armed := true } ∧ t.rd64 Reg.FCR_SNAP_TIME2_LO Reg.FCR_SNAP_TIME2_HI = T) ∧
    (s.now < T → s.bit Reg.FCR_SNAP_CFG 4 = false → exec (.snapRx T) s = .next s)) ∧
  (∀ (m : Requester) (s : State), s.isTwinB = true → s.roles ≠ 0 → s.partnerReady = true → s.twin.holdFrom.isSome = true → s.twin.inhibit = false → s.twin.give = none →
    (s.bit Reg.TWN_CFG 3 = false → (∃ t, exec .holdoffExpire s = .next t ∧ t.twin = { s.twin with give := some ⟨s.roles, s.giveTarget, true, false⟩, waiting := s.twin.waiting ++ [.role 0 s.roles (s.giveTarget % 2 ^ 24)] }) ∧
      (s.Passes m Reg.TWN_CTRL .write → ∃ t, exec (.revertNow m) s = .next t ∧ t.twin = { s.twin with give := some ⟨s.roles, s.giveTarget, true, false⟩, waiting := s.twin.waiting ++ [.role 0 s.roles (s.giveTarget % 2 ^ 24)] })) ∧
    (s.bit Reg.TWN_CFG 3 = true → exec .holdoffExpire s = .next s)) ∧
  (∀ (m : Requester) (s : State), s.Passes m Reg.TWN_CTRL .write →
    (∃ t, exec (.selftestOk m) s = .next t ∧ t.bit Reg.TWN_STATUS 25 = true ∧ t.twin = s.twin) ∧
    (∃ t, exec (.selftestClr m) s = .next t ∧ t.bit Reg.TWN_STATUS 25 = false ∧ t.twin = s.twin) ∧
    (s.paired = true → s.roles ≠ 0 → s.partnerHealth = 0 → s.twin.give = none → ∃ t, exec (.release m) s = .next t ∧
      t.twin = { s.twin with give := some ⟨s.roles, s.giveTarget, false, false⟩, waiting := s.twin.waiting ++ [.role 0 s.roles (s.giveTarget % 2 ^ 24)] }) ∧
    (s.paired = false → ∃ t, exec (.release m) s = .next t ∧ t.twin = s.twin))

/-- What a slot message carries arrives: a receiver reads, from the blocks that a sender lays out for a header and records whose fields fit their widths, that header and those records (R348, R350, Tables 14.3 and 14.4). -/
def Obligations.SlotMessagesRoundTrip : Prop :=
  ∀ (m : SlotHead) (l : List CtlRec), m.Fits → (∀ r ∈ l, recFits r) → (l.flatMap recWords).length ≤ 317 → readSlot (slotBlocks m l) = some (m, l)
end

