-- ==== Sys2Proof/Laws/Tidy.lean ====
section
/-! SUPPORT. Sparse canonical lists: reading after writing, and that writing keeps the canonical form; and the combinators with which each operation of the machine is shown to keep a state tidy. -/

set_option Elab.async false

namespace Sys2Proof.Machine

/-! ### Sparse lists -/

variable {α : Type}

theorem sget_sins_same (d : Nat → α) (a : Nat) (v : α) :
    ∀ l : List (Nat × α), (∀ c ∈ l, c.1 ≠ a) → sget d (sins a v l) a = v
  | [], _ => by simp [sins, sget]
  | (b, w) :: r, h => by
    have hb : b ≠ a := h (b, w) (by simp)
    unfold sins; split
    · simp [sget]
    · simpa [sget, hb] using sget_sins_same d a v r (fun c hc => h c (by simp [hc]))

theorem sget_sins_ne (d : Nat → α) {a x : Nat} (v : α) (hx : x ≠ a) :
    ∀ l : List (Nat × α), sget d (sins a v l) x = sget d l x
  | [] => by simp [sins, sget, Ne.symm hx]
  | (b, w) :: r => by
    unfold sins; split
    · simp [sget, Ne.symm hx]
    · simp [sget, sget_sins_ne d v hx r]

theorem sget_sdel_ne (d : Nat → α) {a x : Nat} (hx : x ≠ a) : ∀ l : List (Nat × α), sget d (sdel a l) x = sget d l x
  | [] => rfl
  | (b, w) :: r => by
    have ih := sget_sdel_ne d hx r
    by_cases hb : b = a
    · subst hb; simpa [sdel, sget, Ne.symm hx] using ih
    · simp only [sdel, sget] at ih ⊢; simp [hb, sget, ih]

theorem sget_sdel_same (d : Nat → α) (a : Nat) : ∀ l : List (Nat × α), sget d (sdel a l) a = d a
  | [] => rfl
  | (b, w) :: r => by
    have ih := sget_sdel_same d a r
    by_cases hb : b = a
    · subst hb; simpa [sdel] using ih
    · simp only [sdel] at ih ⊢; simp [hb, sget, ih]

theorem sdel_keys {a : Nat} {l : List (Nat × α)} : ∀ c ∈ sdel a l, c.1 ≠ a := by
  intro c hc; simpa [sdel] using (List.mem_filter.mp hc).2

/-- A key that has just taken a value holds it. -/
theorem sget_sput_same [DecidableEq α] (d : Nat → α) (l : List (Nat × α)) (a : Nat) (v : α) : sget d (sput d l a v) a = v := by
  unfold sput; split
  · rename_i h; rw [sget_sdel_same, h]
  · exact sget_sins_same d a v _ sdel_keys

/-- Every other key holds what it held. -/
theorem sget_sput_ne [DecidableEq α] (d : Nat → α) (l : List (Nat × α)) {a x : Nat} (v : α) (h : x ≠ a) :
    sget d (sput d l a v) x = sget d l x := by
  unfold sput; split
  · exact sget_sdel_ne d h l
  · rw [sget_sins_ne d v h, sget_sdel_ne d h]

/-- x lies above a bound, if there is one. -/
def aboveLo (lo : Option Nat) (x : Nat) : Prop := ∀ y, lo = some y → y < x

theorem scanonFrom_cons [DecidableEq α] {d : Nat → α} {lo : Option Nat} {b : Nat} {w : α} {r : List (Nat × α)} :
    scanonFrom d lo ((b, w) :: r) = true ↔ aboveLo lo b ∧ w ≠ d b ∧ scanonFrom d (some b) r = true := by
  rw [scanonFrom.eq_def]
  cases lo <;> simp [aboveLo, and_assoc]

/-- Raising the order's bound to a lower one keeps the form. -/
theorem scanonFrom_mono [DecidableEq α] {d : Nat → α} {lo lo' : Option Nat} (h : ∀ x, aboveLo lo' x → aboveLo lo x) :
    ∀ {l : List (Nat × α)}, scanonFrom d lo' l = true → scanonFrom d lo l = true
  | [], _ => rfl
  | (b, w) :: r, k => by
    rw [scanonFrom_cons] at k ⊢
    exact ⟨h _ k.1, k.2⟩

theorem scanonFrom_filter [DecidableEq α] {d : Nat → α} (p : Nat × α → Bool) :
    ∀ {lo : Option Nat} {l : List (Nat × α)}, scanonFrom d lo l = true → scanonFrom d lo (l.filter p) = true
  | _, [], _ => rfl
  | lo, (b, w) :: r, k => by
    rw [scanonFrom_cons] at k
    by_cases hp : p (b, w) = true
    · rw [List.filter_cons_of_pos hp, scanonFrom_cons]
      exact ⟨k.1, k.2.1, scanonFrom_filter p k.2.2⟩
    · rw [List.filter_cons_of_neg hp]
      refine scanonFrom_mono (lo' := some b) (fun x hx y hy => ?_) (scanonFrom_filter p k.2.2)
      exact Nat.lt_trans (k.1 y hy) (hx b rfl)

theorem scanonFrom_sins [DecidableEq α] {d : Nat → α} {a : Nat} {v : α} (hv : v ≠ d a) :
    ∀ {lo : Option Nat} {l : List (Nat × α)}, aboveLo lo a → (∀ c ∈ l, c.1 ≠ a) → scanonFrom d lo l = true →
      scanonFrom d lo (sins a v l) = true
  | lo, [], ha, _, _ => by rw [sins, scanonFrom_cons]; exact ⟨ha, hv, rfl⟩
  | lo, (b, w) :: r, ha, hn, k => by
    rw [scanonFrom_cons] at k
    have hb : b ≠ a := hn (b, w) (by simp)
    unfold sins; split
    · rename_i hlt
      rw [scanonFrom_cons, scanonFrom_cons]
      exact ⟨ha, hv, fun y hy => (Option.some.inj hy) ▸ hlt, k.2⟩
    · rw [scanonFrom_cons]
      refine ⟨k.1, k.2.1, scanonFrom_sins hv (fun y hy => ?_) (fun c hc => hn c (by simp [hc])) k.2.2⟩
      have := Option.some.inj hy; omega

/-- Writing a key keeps the canonical form. -/
theorem scanon_sput [DecidableEq α] {d : Nat → α} {l : List (Nat × α)} (a : Nat) (v : α) (h : scanon d l = true) :
    scanon d (sput d l a v) = true := by
  unfold sput; split
  · exact scanonFrom_filter _ h
  · rename_i hv
    exact scanonFrom_sins hv (fun y hy => by cases hy) sdel_keys (scanonFrom_filter _ h)

theorem scanon_filter [DecidableEq α] {d : Nat → α} {l : List (Nat × α)} (p : Nat × α → Bool) (h : scanon d l = true) :
    scanon d (l.filter p) = true := scanonFrom_filter p h

theorem regs_filter {r : List (Nat × W)} (p : Nat × W → Bool) (h : Registers.wf r = true) : Registers.wf (r.filter p) = true := scanon_filter p h

theorem mem_filter {m : List Host.Cell} (p : Host.Cell → Bool) (h : Memory.wf m = true) : Memory.wf (m.filter p) = true := scanon_filter p h

/-! ### Tidy states -/

variable {Q : Base}

theorem tidy_mk {a1 a2 a3 a4 a5 a6 a7 a8 a9 a10 a11 a12 a13 a14 a15 a16 a17 a18 a19 a20 a21 a22 a23 a24 a25 a26 a27 a28 a29 a30 a31 a32}
    (h : TidyParts Q a1 a2 a3 a4 a6 a17.programmed a5) :
    (State.mk a1 a2 a3 a4 a5 a6 a7 a8 a9 a10 a11 a12 a13 a14 a15 a16 a17 a18 a19 a20 a21 a22 a23 a24 a25 a26 a27 a28 a29 a30 a31 a32).Tidy Q := h

theorem tidy_mk_iff {a1 a2 a3 a4 a5 a6 a7 a8 a9 a10 a11 a12 a13 a14 a15 a16 a17 a18 a19 a20 a21 a22 a23 a24 a25 a26 a27 a28 a29 a30 a31 a32} :
    (State.mk a1 a2 a3 a4 a5 a6 a7 a8 a9 a10 a11 a12 a13 a14 a15 a16 a17 a18 a19 a20 a21 a22 a23 a24 a25 a26 a27 a28 a29 a30 a31 a32).Tidy Q ↔
      TidyParts Q a1 a2 a3 a4 a6 a17.programmed a5 := Iff.rfl

theorem tidy_parts_iff {s : State} : TidyParts Q s.pending s.regs s.mem s.tcm s.profile s.keys.programmed s.now ↔ s.Tidy Q := Iff.rfl

theorem tidy_parts {s : State} (h : s.Tidy Q) : TidyParts Q s.pending s.regs s.mem s.tcm s.profile s.keys.programmed s.now := h

theorem tidy_regs {s : State} {r : List (Nat × W)} (h : s.Tidy Q) (hr : Registers.wf s.regs = true → Registers.wf r = true) :
    TidyParts Q s.pending r s.mem s.tcm s.profile s.keys.programmed s.now := ⟨h.1, hr h.2.1, h.2.2⟩

theorem tidy_mem {s : State} {m : List Host.Cell} (h : s.Tidy Q) (hm : Memory.wf s.mem = true → Memory.wf m = true) :
    TidyParts Q s.pending s.regs m s.tcm s.profile s.keys.programmed s.now := ⟨h.1, h.2.1, hm h.2.2.1, h.2.2.2⟩

theorem tidy_tcm {s : State} {t : List Host.Cell} (h : s.Tidy Q) (ht : Tcm.wf s.tcm = true → Tcm.wf t = true) :
    TidyParts Q s.pending s.regs s.mem t s.profile s.keys.programmed s.now := ⟨h.1, h.2.1, h.2.2.1, ht h.2.2.2.1, h.2.2.2.2⟩

/-- Another profile of R4. -/
theorem tidy_profile {s : State} {p : Nat} (h : s.Tidy Q) (hp : p < 4) :
    TidyParts Q s.pending s.regs s.mem s.tcm p s.keys.programmed s.now := ⟨h.1, h.2.1, h.2.2.1, h.2.2.2.1, hp, h.2.2.2.2.2⟩

/-- Fuses programmed further. -/
theorem tidy_fuses {s : State} {f : Fuses} (h : s.Tidy Q) (hf : Q.fuses.From s.keys.programmed → Q.fuses.From f) :
    TidyParts Q s.pending s.regs s.mem s.tcm s.profile f s.now := ⟨h.1, h.2.1, h.2.2.1, h.2.2.2.1, h.2.2.2.2.1, hf h.2.2.2.2.2.1, h.2.2.2.2.2.2⟩

/-- Another time, where any is admitted. -/
theorem tidy_now {s : State} {n : Nat} (hq : ∀ n, Q.clock n) (h : s.Tidy Q) :
    TidyParts Q s.pending s.regs s.mem s.tcm s.profile s.keys.programmed n :=
  ⟨h.1, h.2.1, h.2.2.1, h.2.2.2.1, h.2.2.2.2.1, h.2.2.2.2.2.1, hq n⟩

theorem tidy_keep (_t : KeyState) {P : Prop} (h : P) : P := h

/-- The first component of an answer is tidy. -/
def Tidy1 {β : Type} (Q : Base) (p : State × β) : Prop := p.1.Tidy Q

/-- The state of an answer that there may be is tidy. -/
def TidyO (Q : Base) (o : Option State) : Prop := ∀ t, o = some t → t.Tidy Q

/-- The next state of an outcome, if it is one, is tidy. -/
def TidyOut (Q : Base) (o : Host.Outcome State Fault Refusal) : Prop := ∀ t, o = .next t → t.Tidy Q

theorem tidyOut_next {s : State} (h : s.Tidy Q) : TidyOut Q (.next s) := by intro t k; cases k; exact h

theorem tidy_ite {c : Prop} {_ : Decidable c} {s t : State} (h : s.Tidy Q) (k : t.Tidy Q) : (if c then s else t).Tidy Q := by
  split <;> assumption

theorem tidy1_ite {β : Type} {c : Prop} {_ : Decidable c} {s t : State × β} (h : Tidy1 Q s) (k : Tidy1 Q t) : Tidy1 Q (if c then s else t) := by
  split <;> assumption

theorem tidyO_ite {c : Prop} {_ : Decidable c} {s t : Option State} (h : TidyO Q s) (k : TidyO Q t) : TidyO Q (if c then s else t) := by
  split <;> assumption

theorem tidyO_none : TidyO Q none := by intro t h; cases h

theorem tidyO_some {s : State} (h : s.Tidy Q) : TidyO Q (some s) := by intro t k; cases k; exact h

theorem tidyO_get {o : Option State} {t : State} (h : TidyO Q o) (k : o = some t) : t.Tidy Q := h t k

theorem tidyO_getD {o : Option State} {t : State} (h : TidyO Q o) (k : t.Tidy Q) : (o.getD t).Tidy Q := by
  cases o with
  | none => exact k
  | some u => exact h u rfl

theorem tidy1_pair_iff {β : Type} {s : State} {b : β} : Tidy1 Q (s, b) ↔ s.Tidy Q := Iff.rfl

theorem tidy1_st {β : Type} {p : State × β} (h : Tidy1 Q p) : p.1.Tidy Q := h

theorem tidy1_eq {β : Type} {p : State × β} {s : State} {b : β} (h : Tidy1 Q p) (k : p = (s, b)) : s.Tidy Q := by
  subst k; exact h

theorem tidy_have {t : State} {P : Prop} (h : t.Tidy Q) (k : t.Tidy Q → P) : P := k h

theorem tidy1_have {β : Type} {t : State × β} {P : Prop} (h : Tidy1 Q t) (k : Tidy1 Q t → P) : P := k h

theorem tidyE_have {t : State → State} {P : Prop} (h : ∀ x, x.Tidy Q → (t x).Tidy Q) (k : (∀ x, x.Tidy Q → (t x).Tidy Q) → P) : P := k h

theorem tidyF_have {β : Type} {t : β → State} {P : Prop} (h : ∀ x, (t x).Tidy Q) (k : (∀ x, (t x).Tidy Q) → P) : P := k h

theorem tidyG_have {β : Type} {t : State → β → State} {P : Prop} (h : ∀ x y, x.Tidy Q → (t x y).Tidy Q)
    (k : (∀ x y, x.Tidy Q → (t x y).Tidy Q) → P) : P := k h

theorem tidyG_use {β : Type} {t : State → β → State} {x : State} {y : β} (h : ∀ x y, x.Tidy Q → (t x y).Tidy Q) (k : x.Tidy Q) :
    (t x y).Tidy Q := h x y k

theorem tidyE_use {t : State → State} {x : State} (h : ∀ x, x.Tidy Q → (t x).Tidy Q) (k : x.Tidy Q) : (t x).Tidy Q := h x k

theorem tidyF_use {β : Type} {t : β → State} {x : β} (h : ∀ x, (t x).Tidy Q) : (t x).Tidy Q := h x

theorem tidy_foldl {β : Type} {f : State → β → State} (hf : ∀ t x, t.Tidy Q → (f t x).Tidy Q) :
    ∀ {l : List β} {s : State}, s.Tidy Q → (l.foldl f s).Tidy Q
  | [], _, h => h
  | x :: l, _, h => tidy_foldl hf (l := l) (hf _ x h)

theorem tidy1_foldl {β γ : Type} {f : State × γ → β → State × γ} (hf : ∀ t x, Tidy1 Q t → Tidy1 Q (f t x)) :
    ∀ {l : List β} {s : State × γ}, Tidy1 Q s → Tidy1 Q (l.foldl f s)
  | [], _, h => h
  | x :: l, _, h => tidy1_foldl hf (l := l) (hf _ x h)

/-! ### The operations that store -/

theorem State.wr_tidy {s : State} {a : Nat} {v : W} (h : s.Tidy Q) : (s.wr a v).Tidy Q :=
  tidy_mk (tidy_regs h (scanon_sput a v))

theorem State.dropRegs_tidy {s : State} {p : Nat → Bool} (h : s.Tidy Q) : (s.dropRegs p).Tidy Q :=
  tidy_mk (tidy_regs h (scanon_filter _))

theorem State.wrByte_tidy {s : State} {a : Nat} {v : Byte} (h : s.Tidy Q) : (s.wrByte a v).Tidy Q :=
  tidy_mk (tidy_mem h (scanon_sput a v))

end Sys2Proof.Machine
end

