-- ==== Sys2Proof/Laws/State.lean ====
section
/-! SUPPORT. One lemma for each field and each named update of the state: what the update leaves. Reading a register after writing one. -/

set_option Elab.async false

namespace Sys2Proof.Machine

@[simp] theorem State.wr_pending (s : State) (a : Nat) (v : W) : (s.wr a v).pending = s.pending := rfl
@[simp] theorem State.wr_mem (s : State) (a : Nat) (v : W) : (s.wr a v).mem = s.mem := rfl
@[simp] theorem State.wr_tcm (s : State) (a : Nat) (v : W) : (s.wr a v).tcm = s.tcm := rfl
@[simp] theorem State.wr_now (s : State) (a : Nat) (v : W) : (s.wr a v).now = s.now := rfl
@[simp] theorem State.wr_profile (s : State) (a : Nat) (v : W) : (s.wr a v).profile = s.profile := rfl
@[simp] theorem State.wr_answer (s : State) (a : Nat) (v : W) : (s.wr a v).answer = s.answer := rfl
@[simp] theorem State.wr_out (s : State) (a : Nat) (v : W) : (s.wr a v).out = s.out := rfl
@[simp] theorem State.wr_freeCount (s : State) (a : Nat) (v : W) : (s.wr a v).freeCount = s.freeCount := rfl
@[simp] theorem State.wr_armed (s : State) (a : Nat) (v : W) : (s.wr a v).armed = s.armed := rfl
@[simp] theorem State.wr_awaiting (s : State) (a : Nat) (v : W) : (s.wr a v).awaiting = s.awaiting := rfl
@[simp] theorem State.wr_draining (s : State) (a : Nat) (v : W) : (s.wr a v).draining = s.draining := rfl
@[simp] theorem State.wr_held (s : State) (a : Nat) (v : W) : (s.wr a v).held = s.held := rfl
@[simp] theorem State.wr_latched (s : State) (a : Nat) (v : W) : (s.wr a v).latched = s.latched := rfl
@[simp] theorem State.wr_bus (s : State) (a : Nat) (v : W) : (s.wr a v).bus = s.bus := rfl
@[simp] theorem State.wr_ctl (s : State) (a : Nat) (v : W) : (s.wr a v).ctl = s.ctl := rfl
@[simp] theorem State.wr_keys (s : State) (a : Nat) (v : W) : (s.wr a v).keys = s.keys := rfl
@[simp] theorem State.wr_fcr (s : State) (a : Nat) (v : W) : (s.wr a v).fcr = s.fcr := rfl
@[simp] theorem State.wr_board (s : State) (a : Nat) (v : W) : (s.wr a v).board = s.board := rfl
@[simp] theorem State.wr_fabric (s : State) (a : Nat) (v : W) : (s.wr a v).fabric = s.fabric := rfl
@[simp] theorem State.wr_geyser (s : State) (a : Nat) (v : W) : (s.wr a v).geyser = s.geyser := rfl
@[simp] theorem State.wr_lanes (s : State) (a : Nat) (v : W) : (s.wr a v).lanes = s.lanes := rfl
@[simp] theorem State.wr_sdi (s : State) (a : Nat) (v : W) : (s.wr a v).sdi = s.sdi := rfl
@[simp] theorem State.wr_mac (s : State) (a : Nat) (v : W) : (s.wr a v).mac = s.mac := rfl
@[simp] theorem State.wr_store (s : State) (a : Nat) (v : W) : (s.wr a v).store = s.store := rfl
@[simp] theorem State.wr_twin (s : State) (a : Nat) (v : W) : (s.wr a v).twin = s.twin := rfl
@[simp] theorem State.wr_power (s : State) (a : Nat) (v : W) : (s.wr a v).power = s.power := rfl
@[simp] theorem State.wr_upd (s : State) (a : Nat) (v : W) : (s.wr a v).upd = s.upd := rfl
@[simp] theorem State.wr_engines (s : State) (a : Nat) (v : W) : (s.wr a v).engines = s.engines := rfl
@[simp] theorem State.wr_mon (s : State) (a : Nat) (v : W) : (s.wr a v).mon = s.mon := rfl
@[simp] theorem State.wr_aud (s : State) (a : Nat) (v : W) : (s.wr a v).aud = s.aud := rfl
@[simp] theorem State.wr_ref (s : State) (a : Nat) (v : W) : (s.wr a v).ref = s.ref := rfl
@[simp] theorem State.wrN_pending (s : State) (a v : Nat) : (s.wrN a v).pending = s.pending := rfl
@[simp] theorem State.wrN_mem (s : State) (a v : Nat) : (s.wrN a v).mem = s.mem := rfl
@[simp] theorem State.wrN_tcm (s : State) (a v : Nat) : (s.wrN a v).tcm = s.tcm := rfl
@[simp] theorem State.wrN_now (s : State) (a v : Nat) : (s.wrN a v).now = s.now := rfl
@[simp] theorem State.wrN_profile (s : State) (a v : Nat) : (s.wrN a v).profile = s.profile := rfl
@[simp] theorem State.wrN_answer (s : State) (a v : Nat) : (s.wrN a v).answer = s.answer := rfl
@[simp] theorem State.wrN_out (s : State) (a v : Nat) : (s.wrN a v).out = s.out := rfl
@[simp] theorem State.wrN_freeCount (s : State) (a v : Nat) : (s.wrN a v).freeCount = s.freeCount := rfl
@[simp] theorem State.wrN_armed (s : State) (a v : Nat) : (s.wrN a v).armed = s.armed := rfl
@[simp] theorem State.wrN_awaiting (s : State) (a v : Nat) : (s.wrN a v).awaiting = s.awaiting := rfl
@[simp] theorem State.wrN_draining (s : State) (a v : Nat) : (s.wrN a v).draining = s.draining := rfl
@[simp] theorem State.wrN_held (s : State) (a v : Nat) : (s.wrN a v).held = s.held := rfl
@[simp] theorem State.wrN_latched (s : State) (a v : Nat) : (s.wrN a v).latched = s.latched := rfl
@[simp] theorem State.wrN_bus (s : State) (a v : Nat) : (s.wrN a v).bus = s.bus := rfl
@[simp] theorem State.wrN_ctl (s : State) (a v : Nat) : (s.wrN a v).ctl = s.ctl := rfl
@[simp] theorem State.wrN_keys (s : State) (a v : Nat) : (s.wrN a v).keys = s.keys := rfl
@[simp] theorem State.wrN_fcr (s : State) (a v : Nat) : (s.wrN a v).fcr = s.fcr := rfl
@[simp] theorem State.wrN_board (s : State) (a v : Nat) : (s.wrN a v).board = s.board := rfl
@[simp] theorem State.wrN_fabric (s : State) (a v : Nat) : (s.wrN a v).fabric = s.fabric := rfl
@[simp] theorem State.wrN_geyser (s : State) (a v : Nat) : (s.wrN a v).geyser = s.geyser := rfl
@[simp] theorem State.wrN_lanes (s : State) (a v : Nat) : (s.wrN a v).lanes = s.lanes := rfl
@[simp] theorem State.wrN_sdi (s : State) (a v : Nat) : (s.wrN a v).sdi = s.sdi := rfl
@[simp] theorem State.wrN_mac (s : State) (a v : Nat) : (s.wrN a v).mac = s.mac := rfl
@[simp] theorem State.wrN_store (s : State) (a v : Nat) : (s.wrN a v).store = s.store := rfl
@[simp] theorem State.wrN_twin (s : State) (a v : Nat) : (s.wrN a v).twin = s.twin := rfl
@[simp] theorem State.wrN_power (s : State) (a v : Nat) : (s.wrN a v).power = s.power := rfl
@[simp] theorem State.wrN_upd (s : State) (a v : Nat) : (s.wrN a v).upd = s.upd := rfl
@[simp] theorem State.wrN_engines (s : State) (a v : Nat) : (s.wrN a v).engines = s.engines := rfl
@[simp] theorem State.wrN_mon (s : State) (a v : Nat) : (s.wrN a v).mon = s.mon := rfl
@[simp] theorem State.wrN_aud (s : State) (a v : Nat) : (s.wrN a v).aud = s.aud := rfl
@[simp] theorem State.wrN_ref (s : State) (a v : Nat) : (s.wrN a v).ref = s.ref := rfl
@[simp] theorem State.setFld_pending (s : State) (a hi lo v : Nat) : (s.setFld a hi lo v).pending = s.pending := rfl
@[simp] theorem State.setFld_mem (s : State) (a hi lo v : Nat) : (s.setFld a hi lo v).mem = s.mem := rfl
@[simp] theorem State.setFld_tcm (s : State) (a hi lo v : Nat) : (s.setFld a hi lo v).tcm = s.tcm := rfl
@[simp] theorem State.setFld_now (s : State) (a hi lo v : Nat) : (s.setFld a hi lo v).now = s.now := rfl
@[simp] theorem State.setFld_profile (s : State) (a hi lo v : Nat) : (s.setFld a hi lo v).profile = s.profile := rfl
@[simp] theorem State.setFld_answer (s : State) (a hi lo v : Nat) : (s.setFld a hi lo v).answer = s.answer := rfl
@[simp] theorem State.setFld_out (s : State) (a hi lo v : Nat) : (s.setFld a hi lo v).out = s.out := rfl
@[simp] theorem State.setFld_freeCount (s : State) (a hi lo v : Nat) : (s.setFld a hi lo v).freeCount = s.freeCount := rfl
@[simp] theorem State.setFld_armed (s : State) (a hi lo v : Nat) : (s.setFld a hi lo v).armed = s.armed := rfl
@[simp] theorem State.setFld_awaiting (s : State) (a hi lo v : Nat) : (s.setFld a hi lo v).awaiting = s.awaiting := rfl
@[simp] theorem State.setFld_draining (s : State) (a hi lo v : Nat) : (s.setFld a hi lo v).draining = s.draining := rfl
@[simp] theorem State.setFld_held (s : State) (a hi lo v : Nat) : (s.setFld a hi lo v).held = s.held := rfl
@[simp] theorem State.setFld_latched (s : State) (a hi lo v : Nat) : (s.setFld a hi lo v).latched = s.latched := rfl
@[simp] theorem State.setFld_bus (s : State) (a hi lo v : Nat) : (s.setFld a hi lo v).bus = s.bus := rfl
@[simp] theorem State.setFld_ctl (s : State) (a hi lo v : Nat) : (s.setFld a hi lo v).ctl = s.ctl := rfl
@[simp] theorem State.setFld_keys (s : State) (a hi lo v : Nat) : (s.setFld a hi lo v).keys = s.keys := rfl
@[simp] theorem State.setFld_fcr (s : State) (a hi lo v : Nat) : (s.setFld a hi lo v).fcr = s.fcr := rfl
@[simp] theorem State.setFld_board (s : State) (a hi lo v : Nat) : (s.setFld a hi lo v).board = s.board := rfl
@[simp] theorem State.setFld_fabric (s : State) (a hi lo v : Nat) : (s.setFld a hi lo v).fabric = s.fabric := rfl
@[simp] theorem State.setFld_geyser (s : State) (a hi lo v : Nat) : (s.setFld a hi lo v).geyser = s.geyser := rfl
@[simp] theorem State.setFld_lanes (s : State) (a hi lo v : Nat) : (s.setFld a hi lo v).lanes = s.lanes := rfl
@[simp] theorem State.setFld_sdi (s : State) (a hi lo v : Nat) : (s.setFld a hi lo v).sdi = s.sdi := rfl
@[simp] theorem State.setFld_mac (s : State) (a hi lo v : Nat) : (s.setFld a hi lo v).mac = s.mac := rfl
@[simp] theorem State.setFld_store (s : State) (a hi lo v : Nat) : (s.setFld a hi lo v).store = s.store := rfl
@[simp] theorem State.setFld_twin (s : State) (a hi lo v : Nat) : (s.setFld a hi lo v).twin = s.twin := rfl
@[simp] theorem State.setFld_power (s : State) (a hi lo v : Nat) : (s.setFld a hi lo v).power = s.power := rfl
@[simp] theorem State.setFld_upd (s : State) (a hi lo v : Nat) : (s.setFld a hi lo v).upd = s.upd := rfl
@[simp] theorem State.setFld_engines (s : State) (a hi lo v : Nat) : (s.setFld a hi lo v).engines = s.engines := rfl
@[simp] theorem State.setFld_mon (s : State) (a hi lo v : Nat) : (s.setFld a hi lo v).mon = s.mon := rfl
@[simp] theorem State.setFld_aud (s : State) (a hi lo v : Nat) : (s.setFld a hi lo v).aud = s.aud := rfl
@[simp] theorem State.setFld_ref (s : State) (a hi lo v : Nat) : (s.setFld a hi lo v).ref = s.ref := rfl
@[simp] theorem State.setBit_pending (s : State) (a n : Nat) (b : Bool) : (s.setBit a n b).pending = s.pending := rfl
@[simp] theorem State.setBit_mem (s : State) (a n : Nat) (b : Bool) : (s.setBit a n b).mem = s.mem := rfl
@[simp] theorem State.setBit_tcm (s : State) (a n : Nat) (b : Bool) : (s.setBit a n b).tcm = s.tcm := rfl
@[simp] theorem State.setBit_now (s : State) (a n : Nat) (b : Bool) : (s.setBit a n b).now = s.now := rfl
@[simp] theorem State.setBit_profile (s : State) (a n : Nat) (b : Bool) : (s.setBit a n b).profile = s.profile := rfl
@[simp] theorem State.setBit_answer (s : State) (a n : Nat) (b : Bool) : (s.setBit a n b).answer = s.answer := rfl
@[simp] theorem State.setBit_out (s : State) (a n : Nat) (b : Bool) : (s.setBit a n b).out = s.out := rfl
@[simp] theorem State.setBit_freeCount (s : State) (a n : Nat) (b : Bool) : (s.setBit a n b).freeCount = s.freeCount := rfl
@[simp] theorem State.setBit_armed (s : State) (a n : Nat) (b : Bool) : (s.setBit a n b).armed = s.armed := rfl
@[simp] theorem State.setBit_awaiting (s : State) (a n : Nat) (b : Bool) : (s.setBit a n b).awaiting = s.awaiting := rfl
@[simp] theorem State.setBit_draining (s : State) (a n : Nat) (b : Bool) : (s.setBit a n b).draining = s.draining := rfl
@[simp] theorem State.setBit_held (s : State) (a n : Nat) (b : Bool) : (s.setBit a n b).held = s.held := rfl
@[simp] theorem State.setBit_latched (s : State) (a n : Nat) (b : Bool) : (s.setBit a n b).latched = s.latched := rfl
@[simp] theorem State.setBit_bus (s : State) (a n : Nat) (b : Bool) : (s.setBit a n b).bus = s.bus := rfl
@[simp] theorem State.setBit_ctl (s : State) (a n : Nat) (b : Bool) : (s.setBit a n b).ctl = s.ctl := rfl
@[simp] theorem State.setBit_keys (s : State) (a n : Nat) (b : Bool) : (s.setBit a n b).keys = s.keys := rfl
@[simp] theorem State.setBit_fcr (s : State) (a n : Nat) (b : Bool) : (s.setBit a n b).fcr = s.fcr := rfl
@[simp] theorem State.setBit_board (s : State) (a n : Nat) (b : Bool) : (s.setBit a n b).board = s.board := rfl
@[simp] theorem State.setBit_fabric (s : State) (a n : Nat) (b : Bool) : (s.setBit a n b).fabric = s.fabric := rfl
@[simp] theorem State.setBit_geyser (s : State) (a n : Nat) (b : Bool) : (s.setBit a n b).geyser = s.geyser := rfl
@[simp] theorem State.setBit_lanes (s : State) (a n : Nat) (b : Bool) : (s.setBit a n b).lanes = s.lanes := rfl
@[simp] theorem State.setBit_sdi (s : State) (a n : Nat) (b : Bool) : (s.setBit a n b).sdi = s.sdi := rfl
@[simp] theorem State.setBit_mac (s : State) (a n : Nat) (b : Bool) : (s.setBit a n b).mac = s.mac := rfl
@[simp] theorem State.setBit_store (s : State) (a n : Nat) (b : Bool) : (s.setBit a n b).store = s.store := rfl
@[simp] theorem State.setBit_twin (s : State) (a n : Nat) (b : Bool) : (s.setBit a n b).twin = s.twin := rfl
@[simp] theorem State.setBit_power (s : State) (a n : Nat) (b : Bool) : (s.setBit a n b).power = s.power := rfl
@[simp] theorem State.setBit_upd (s : State) (a n : Nat) (b : Bool) : (s.setBit a n b).upd = s.upd := rfl
@[simp] theorem State.setBit_engines (s : State) (a n : Nat) (b : Bool) : (s.setBit a n b).engines = s.engines := rfl
@[simp] theorem State.setBit_mon (s : State) (a n : Nat) (b : Bool) : (s.setBit a n b).mon = s.mon := rfl
@[simp] theorem State.setBit_aud (s : State) (a n : Nat) (b : Bool) : (s.setBit a n b).aud = s.aud := rfl
@[simp] theorem State.setBit_ref (s : State) (a n : Nat) (b : Bool) : (s.setBit a n b).ref = s.ref := rfl
@[simp] theorem State.bumpBy_pending (s : State) (a n : Nat) : (s.bumpBy a n).pending = s.pending := rfl
@[simp] theorem State.bumpBy_mem (s : State) (a n : Nat) : (s.bumpBy a n).mem = s.mem := rfl
@[simp] theorem State.bumpBy_tcm (s : State) (a n : Nat) : (s.bumpBy a n).tcm = s.tcm := rfl
@[simp] theorem State.bumpBy_now (s : State) (a n : Nat) : (s.bumpBy a n).now = s.now := rfl
@[simp] theorem State.bumpBy_profile (s : State) (a n : Nat) : (s.bumpBy a n).profile = s.profile := rfl
@[simp] theorem State.bumpBy_answer (s : State) (a n : Nat) : (s.bumpBy a n).answer = s.answer := rfl
@[simp] theorem State.bumpBy_out (s : State) (a n : Nat) : (s.bumpBy a n).out = s.out := rfl
@[simp] theorem State.bumpBy_freeCount (s : State) (a n : Nat) : (s.bumpBy a n).freeCount = s.freeCount := rfl
@[simp] theorem State.bumpBy_armed (s : State) (a n : Nat) : (s.bumpBy a n).armed = s.armed := rfl
@[simp] theorem State.bumpBy_awaiting (s : State) (a n : Nat) : (s.bumpBy a n).awaiting = s.awaiting := rfl
@[simp] theorem State.bumpBy_draining (s : State) (a n : Nat) : (s.bumpBy a n).draining = s.draining := rfl
@[simp] theorem State.bumpBy_held (s : State) (a n : Nat) : (s.bumpBy a n).held = s.held := rfl
@[simp] theorem State.bumpBy_latched (s : State) (a n : Nat) : (s.bumpBy a n).latched = s.latched := rfl
@[simp] theorem State.bumpBy_bus (s : State) (a n : Nat) : (s.bumpBy a n).bus = s.bus := rfl
@[simp] theorem State.bumpBy_ctl (s : State) (a n : Nat) : (s.bumpBy a n).ctl = s.ctl := rfl
@[simp] theorem State.bumpBy_keys (s : State) (a n : Nat) : (s.bumpBy a n).keys = s.keys := rfl
@[simp] theorem State.bumpBy_fcr (s : State) (a n : Nat) : (s.bumpBy a n).fcr = s.fcr := rfl
@[simp] theorem State.bumpBy_board (s : State) (a n : Nat) : (s.bumpBy a n).board = s.board := rfl
@[simp] theorem State.bumpBy_fabric (s : State) (a n : Nat) : (s.bumpBy a n).fabric = s.fabric := rfl
@[simp] theorem State.bumpBy_geyser (s : State) (a n : Nat) : (s.bumpBy a n).geyser = s.geyser := rfl
@[simp] theorem State.bumpBy_lanes (s : State) (a n : Nat) : (s.bumpBy a n).lanes = s.lanes := rfl
@[simp] theorem State.bumpBy_sdi (s : State) (a n : Nat) : (s.bumpBy a n).sdi = s.sdi := rfl
@[simp] theorem State.bumpBy_mac (s : State) (a n : Nat) : (s.bumpBy a n).mac = s.mac := rfl
@[simp] theorem State.bumpBy_store (s : State) (a n : Nat) : (s.bumpBy a n).store = s.store := rfl
@[simp] theorem State.bumpBy_twin (s : State) (a n : Nat) : (s.bumpBy a n).twin = s.twin := rfl
@[simp] theorem State.bumpBy_power (s : State) (a n : Nat) : (s.bumpBy a n).power = s.power := rfl
@[simp] theorem State.bumpBy_upd (s : State) (a n : Nat) : (s.bumpBy a n).upd = s.upd := rfl
@[simp] theorem State.bumpBy_engines (s : State) (a n : Nat) : (s.bumpBy a n).engines = s.engines := rfl
@[simp] theorem State.bumpBy_mon (s : State) (a n : Nat) : (s.bumpBy a n).mon = s.mon := rfl
@[simp] theorem State.bumpBy_aud (s : State) (a n : Nat) : (s.bumpBy a n).aud = s.aud := rfl
@[simp] theorem State.bumpBy_ref (s : State) (a n : Nat) : (s.bumpBy a n).ref = s.ref := rfl
@[simp] theorem State.bump_pending (s : State) (a : Nat) : (s.bump a).pending = s.pending := rfl
@[simp] theorem State.bump_mem (s : State) (a : Nat) : (s.bump a).mem = s.mem := rfl
@[simp] theorem State.bump_tcm (s : State) (a : Nat) : (s.bump a).tcm = s.tcm := rfl
@[simp] theorem State.bump_now (s : State) (a : Nat) : (s.bump a).now = s.now := rfl
@[simp] theorem State.bump_profile (s : State) (a : Nat) : (s.bump a).profile = s.profile := rfl
@[simp] theorem State.bump_answer (s : State) (a : Nat) : (s.bump a).answer = s.answer := rfl
@[simp] theorem State.bump_out (s : State) (a : Nat) : (s.bump a).out = s.out := rfl
@[simp] theorem State.bump_freeCount (s : State) (a : Nat) : (s.bump a).freeCount = s.freeCount := rfl
@[simp] theorem State.bump_armed (s : State) (a : Nat) : (s.bump a).armed = s.armed := rfl
@[simp] theorem State.bump_awaiting (s : State) (a : Nat) : (s.bump a).awaiting = s.awaiting := rfl
@[simp] theorem State.bump_draining (s : State) (a : Nat) : (s.bump a).draining = s.draining := rfl
@[simp] theorem State.bump_held (s : State) (a : Nat) : (s.bump a).held = s.held := rfl
@[simp] theorem State.bump_latched (s : State) (a : Nat) : (s.bump a).latched = s.latched := rfl
@[simp] theorem State.bump_bus (s : State) (a : Nat) : (s.bump a).bus = s.bus := rfl
@[simp] theorem State.bump_ctl (s : State) (a : Nat) : (s.bump a).ctl = s.ctl := rfl
@[simp] theorem State.bump_keys (s : State) (a : Nat) : (s.bump a).keys = s.keys := rfl
@[simp] theorem State.bump_fcr (s : State) (a : Nat) : (s.bump a).fcr = s.fcr := rfl
@[simp] theorem State.bump_board (s : State) (a : Nat) : (s.bump a).board = s.board := rfl
@[simp] theorem State.bump_fabric (s : State) (a : Nat) : (s.bump a).fabric = s.fabric := rfl
@[simp] theorem State.bump_geyser (s : State) (a : Nat) : (s.bump a).geyser = s.geyser := rfl
@[simp] theorem State.bump_lanes (s : State) (a : Nat) : (s.bump a).lanes = s.lanes := rfl
@[simp] theorem State.bump_sdi (s : State) (a : Nat) : (s.bump a).sdi = s.sdi := rfl
@[simp] theorem State.bump_mac (s : State) (a : Nat) : (s.bump a).mac = s.mac := rfl
@[simp] theorem State.bump_store (s : State) (a : Nat) : (s.bump a).store = s.store := rfl
@[simp] theorem State.bump_twin (s : State) (a : Nat) : (s.bump a).twin = s.twin := rfl
@[simp] theorem State.bump_power (s : State) (a : Nat) : (s.bump a).power = s.power := rfl
@[simp] theorem State.bump_upd (s : State) (a : Nat) : (s.bump a).upd = s.upd := rfl
@[simp] theorem State.bump_engines (s : State) (a : Nat) : (s.bump a).engines = s.engines := rfl
@[simp] theorem State.bump_mon (s : State) (a : Nat) : (s.bump a).mon = s.mon := rfl
@[simp] theorem State.bump_aud (s : State) (a : Nat) : (s.bump a).aud = s.aud := rfl
@[simp] theorem State.bump_ref (s : State) (a : Nat) : (s.bump a).ref = s.ref := rfl
@[simp] theorem State.bumpSat_pending (s : State) (a hi lo n : Nat) : (s.bumpSat a hi lo n).pending = s.pending := rfl
@[simp] theorem State.bumpSat_mem (s : State) (a hi lo n : Nat) : (s.bumpSat a hi lo n).mem = s.mem := rfl
@[simp] theorem State.bumpSat_tcm (s : State) (a hi lo n : Nat) : (s.bumpSat a hi lo n).tcm = s.tcm := rfl
@[simp] theorem State.bumpSat_now (s : State) (a hi lo n : Nat) : (s.bumpSat a hi lo n).now = s.now := rfl
@[simp] theorem State.bumpSat_profile (s : State) (a hi lo n : Nat) : (s.bumpSat a hi lo n).profile = s.profile := rfl
@[simp] theorem State.bumpSat_answer (s : State) (a hi lo n : Nat) : (s.bumpSat a hi lo n).answer = s.answer := rfl
@[simp] theorem State.bumpSat_out (s : State) (a hi lo n : Nat) : (s.bumpSat a hi lo n).out = s.out := rfl
@[simp] theorem State.bumpSat_freeCount (s : State) (a hi lo n : Nat) : (s.bumpSat a hi lo n).freeCount = s.freeCount := rfl
@[simp] theorem State.bumpSat_armed (s : State) (a hi lo n : Nat) : (s.bumpSat a hi lo n).armed = s.armed := rfl
@[simp] theorem State.bumpSat_awaiting (s : State) (a hi lo n : Nat) : (s.bumpSat a hi lo n).awaiting = s.awaiting := rfl
@[simp] theorem State.bumpSat_draining (s : State) (a hi lo n : Nat) : (s.bumpSat a hi lo n).draining = s.draining := rfl
@[simp] theorem State.bumpSat_held (s : State) (a hi lo n : Nat) : (s.bumpSat a hi lo n).held = s.held := rfl
@[simp] theorem State.bumpSat_latched (s : State) (a hi lo n : Nat) : (s.bumpSat a hi lo n).latched = s.latched := rfl
@[simp] theorem State.bumpSat_bus (s : State) (a hi lo n : Nat) : (s.bumpSat a hi lo n).bus = s.bus := rfl
@[simp] theorem State.bumpSat_ctl (s : State) (a hi lo n : Nat) : (s.bumpSat a hi lo n).ctl = s.ctl := rfl
@[simp] theorem State.bumpSat_keys (s : State) (a hi lo n : Nat) : (s.bumpSat a hi lo n).keys = s.keys := rfl
@[simp] theorem State.bumpSat_fcr (s : State) (a hi lo n : Nat) : (s.bumpSat a hi lo n).fcr = s.fcr := rfl
@[simp] theorem State.bumpSat_board (s : State) (a hi lo n : Nat) : (s.bumpSat a hi lo n).board = s.board := rfl
@[simp] theorem State.bumpSat_fabric (s : State) (a hi lo n : Nat) : (s.bumpSat a hi lo n).fabric = s.fabric := rfl
@[simp] theorem State.bumpSat_geyser (s : State) (a hi lo n : Nat) : (s.bumpSat a hi lo n).geyser = s.geyser := rfl
@[simp] theorem State.bumpSat_lanes (s : State) (a hi lo n : Nat) : (s.bumpSat a hi lo n).lanes = s.lanes := rfl
@[simp] theorem State.bumpSat_sdi (s : State) (a hi lo n : Nat) : (s.bumpSat a hi lo n).sdi = s.sdi := rfl
@[simp] theorem State.bumpSat_mac (s : State) (a hi lo n : Nat) : (s.bumpSat a hi lo n).mac = s.mac := rfl
@[simp] theorem State.bumpSat_store (s : State) (a hi lo n : Nat) : (s.bumpSat a hi lo n).store = s.store := rfl
@[simp] theorem State.bumpSat_twin (s : State) (a hi lo n : Nat) : (s.bumpSat a hi lo n).twin = s.twin := rfl
@[simp] theorem State.bumpSat_power (s : State) (a hi lo n : Nat) : (s.bumpSat a hi lo n).power = s.power := rfl
@[simp] theorem State.bumpSat_upd (s : State) (a hi lo n : Nat) : (s.bumpSat a hi lo n).upd = s.upd := rfl
@[simp] theorem State.bumpSat_engines (s : State) (a hi lo n : Nat) : (s.bumpSat a hi lo n).engines = s.engines := rfl
@[simp] theorem State.bumpSat_mon (s : State) (a hi lo n : Nat) : (s.bumpSat a hi lo n).mon = s.mon := rfl
@[simp] theorem State.bumpSat_aud (s : State) (a hi lo n : Nat) : (s.bumpSat a hi lo n).aud = s.aud := rfl
@[simp] theorem State.bumpSat_ref (s : State) (a hi lo n : Nat) : (s.bumpSat a hi lo n).ref = s.ref := rfl
@[simp] theorem State.wr64_pending (s : State) (a b v : Nat) : (s.wr64 a b v).pending = s.pending := rfl
@[simp] theorem State.wr64_mem (s : State) (a b v : Nat) : (s.wr64 a b v).mem = s.mem := rfl
@[simp] theorem State.wr64_tcm (s : State) (a b v : Nat) : (s.wr64 a b v).tcm = s.tcm := rfl
@[simp] theorem State.wr64_now (s : State) (a b v : Nat) : (s.wr64 a b v).now = s.now := rfl
@[simp] theorem State.wr64_profile (s : State) (a b v : Nat) : (s.wr64 a b v).profile = s.profile := rfl
@[simp] theorem State.wr64_answer (s : State) (a b v : Nat) : (s.wr64 a b v).answer = s.answer := rfl
@[simp] theorem State.wr64_out (s : State) (a b v : Nat) : (s.wr64 a b v).out = s.out := rfl
@[simp] theorem State.wr64_freeCount (s : State) (a b v : Nat) : (s.wr64 a b v).freeCount = s.freeCount := rfl
@[simp] theorem State.wr64_armed (s : State) (a b v : Nat) : (s.wr64 a b v).armed = s.armed := rfl
@[simp] theorem State.wr64_awaiting (s : State) (a b v : Nat) : (s.wr64 a b v).awaiting = s.awaiting := rfl
@[simp] theorem State.wr64_draining (s : State) (a b v : Nat) : (s.wr64 a b v).draining = s.draining := rfl
@[simp] theorem State.wr64_held (s : State) (a b v : Nat) : (s.wr64 a b v).held = s.held := rfl
@[simp] theorem State.wr64_latched (s : State) (a b v : Nat) : (s.wr64 a b v).latched = s.latched := rfl
@[simp] theorem State.wr64_bus (s : State) (a b v : Nat) : (s.wr64 a b v).bus = s.bus := rfl
@[simp] theorem State.wr64_ctl (s : State) (a b v : Nat) : (s.wr64 a b v).ctl = s.ctl := rfl
@[simp] theorem State.wr64_keys (s : State) (a b v : Nat) : (s.wr64 a b v).keys = s.keys := rfl
@[simp] theorem State.wr64_fcr (s : State) (a b v : Nat) : (s.wr64 a b v).fcr = s.fcr := rfl
@[simp] theorem State.wr64_board (s : State) (a b v : Nat) : (s.wr64 a b v).board = s.board := rfl
@[simp] theorem State.wr64_fabric (s : State) (a b v : Nat) : (s.wr64 a b v).fabric = s.fabric := rfl
@[simp] theorem State.wr64_geyser (s : State) (a b v : Nat) : (s.wr64 a b v).geyser = s.geyser := rfl
@[simp] theorem State.wr64_lanes (s : State) (a b v : Nat) : (s.wr64 a b v).lanes = s.lanes := rfl
@[simp] theorem State.wr64_sdi (s : State) (a b v : Nat) : (s.wr64 a b v).sdi = s.sdi := rfl
@[simp] theorem State.wr64_mac (s : State) (a b v : Nat) : (s.wr64 a b v).mac = s.mac := rfl
@[simp] theorem State.wr64_store (s : State) (a b v : Nat) : (s.wr64 a b v).store = s.store := rfl
@[simp] theorem State.wr64_twin (s : State) (a b v : Nat) : (s.wr64 a b v).twin = s.twin := rfl
@[simp] theorem State.wr64_power (s : State) (a b v : Nat) : (s.wr64 a b v).power = s.power := rfl
@[simp] theorem State.wr64_upd (s : State) (a b v : Nat) : (s.wr64 a b v).upd = s.upd := rfl
@[simp] theorem State.wr64_engines (s : State) (a b v : Nat) : (s.wr64 a b v).engines = s.engines := rfl
@[simp] theorem State.wr64_mon (s : State) (a b v : Nat) : (s.wr64 a b v).mon = s.mon := rfl
@[simp] theorem State.wr64_aud (s : State) (a b v : Nat) : (s.wr64 a b v).aud = s.aud := rfl
@[simp] theorem State.wr64_ref (s : State) (a b v : Nat) : (s.wr64 a b v).ref = s.ref := rfl
@[simp] theorem State.wrByte_pending (s : State) (a : Nat) (v : Byte) : (s.wrByte a v).pending = s.pending := rfl
@[simp] theorem State.wrByte_regs (s : State) (a : Nat) (v : Byte) : (s.wrByte a v).regs = s.regs := rfl
@[simp] theorem State.wrByte_tcm (s : State) (a : Nat) (v : Byte) : (s.wrByte a v).tcm = s.tcm := rfl
@[simp] theorem State.wrByte_now (s : State) (a : Nat) (v : Byte) : (s.wrByte a v).now = s.now := rfl
@[simp] theorem State.wrByte_profile (s : State) (a : Nat) (v : Byte) : (s.wrByte a v).profile = s.profile := rfl
@[simp] theorem State.wrByte_answer (s : State) (a : Nat) (v : Byte) : (s.wrByte a v).answer = s.answer := rfl
@[simp] theorem State.wrByte_out (s : State) (a : Nat) (v : Byte) : (s.wrByte a v).out = s.out := rfl
@[simp] theorem State.wrByte_freeCount (s : State) (a : Nat) (v : Byte) : (s.wrByte a v).freeCount = s.freeCount := rfl
@[simp] theorem State.wrByte_armed (s : State) (a : Nat) (v : Byte) : (s.wrByte a v).armed = s.armed := rfl
@[simp] theorem State.wrByte_awaiting (s : State) (a : Nat) (v : Byte) : (s.wrByte a v).awaiting = s.awaiting := rfl
@[simp] theorem State.wrByte_draining (s : State) (a : Nat) (v : Byte) : (s.wrByte a v).draining = s.draining := rfl
@[simp] theorem State.wrByte_held (s : State) (a : Nat) (v : Byte) : (s.wrByte a v).held = s.held := rfl
@[simp] theorem State.wrByte_latched (s : State) (a : Nat) (v : Byte) : (s.wrByte a v).latched = s.latched := rfl
@[simp] theorem State.wrByte_bus (s : State) (a : Nat) (v : Byte) : (s.wrByte a v).bus = s.bus := rfl
@[simp] theorem State.wrByte_ctl (s : State) (a : Nat) (v : Byte) : (s.wrByte a v).ctl = s.ctl := rfl
@[simp] theorem State.wrByte_keys (s : State) (a : Nat) (v : Byte) : (s.wrByte a v).keys = s.keys := rfl
@[simp] theorem State.wrByte_fcr (s : State) (a : Nat) (v : Byte) : (s.wrByte a v).fcr = s.fcr := rfl
@[simp] theorem State.wrByte_board (s : State) (a : Nat) (v : Byte) : (s.wrByte a v).board = s.board := rfl
@[simp] theorem State.wrByte_fabric (s : State) (a : Nat) (v : Byte) : (s.wrByte a v).fabric = s.fabric := rfl
@[simp] theorem State.wrByte_geyser (s : State) (a : Nat) (v : Byte) : (s.wrByte a v).geyser = s.geyser := rfl
@[simp] theorem State.wrByte_lanes (s : State) (a : Nat) (v : Byte) : (s.wrByte a v).lanes = s.lanes := rfl
@[simp] theorem State.wrByte_sdi (s : State) (a : Nat) (v : Byte) : (s.wrByte a v).sdi = s.sdi := rfl
@[simp] theorem State.wrByte_mac (s : State) (a : Nat) (v : Byte) : (s.wrByte a v).mac = s.mac := rfl
@[simp] theorem State.wrByte_store (s : State) (a : Nat) (v : Byte) : (s.wrByte a v).store = s.store := rfl
@[simp] theorem State.wrByte_twin (s : State) (a : Nat) (v : Byte) : (s.wrByte a v).twin = s.twin := rfl
@[simp] theorem State.wrByte_power (s : State) (a : Nat) (v : Byte) : (s.wrByte a v).power = s.power := rfl
@[simp] theorem State.wrByte_upd (s : State) (a : Nat) (v : Byte) : (s.wrByte a v).upd = s.upd := rfl
@[simp] theorem State.wrByte_engines (s : State) (a : Nat) (v : Byte) : (s.wrByte a v).engines = s.engines := rfl
@[simp] theorem State.wrByte_mon (s : State) (a : Nat) (v : Byte) : (s.wrByte a v).mon = s.mon := rfl
@[simp] theorem State.wrByte_aud (s : State) (a : Nat) (v : Byte) : (s.wrByte a v).aud = s.aud := rfl
@[simp] theorem State.wrByte_ref (s : State) (a : Nat) (v : Byte) : (s.wrByte a v).ref = s.ref := rfl
@[simp] theorem State.send_pending (s : State) (x : Sent) : (s.send x).pending = s.pending := rfl
@[simp] theorem State.send_regs (s : State) (x : Sent) : (s.send x).regs = s.regs := rfl
@[simp] theorem State.send_mem (s : State) (x : Sent) : (s.send x).mem = s.mem := rfl
@[simp] theorem State.send_tcm (s : State) (x : Sent) : (s.send x).tcm = s.tcm := rfl
@[simp] theorem State.send_now (s : State) (x : Sent) : (s.send x).now = s.now := rfl
@[simp] theorem State.send_profile (s : State) (x : Sent) : (s.send x).profile = s.profile := rfl
@[simp] theorem State.send_answer (s : State) (x : Sent) : (s.send x).answer = s.answer := rfl
@[simp] theorem State.send_freeCount (s : State) (x : Sent) : (s.send x).freeCount = s.freeCount := rfl
@[simp] theorem State.send_armed (s : State) (x : Sent) : (s.send x).armed = s.armed := rfl
@[simp] theorem State.send_awaiting (s : State) (x : Sent) : (s.send x).awaiting = s.awaiting := rfl
@[simp] theorem State.send_draining (s : State) (x : Sent) : (s.send x).draining = s.draining := rfl
@[simp] theorem State.send_held (s : State) (x : Sent) : (s.send x).held = s.held := rfl
@[simp] theorem State.send_latched (s : State) (x : Sent) : (s.send x).latched = s.latched := rfl
@[simp] theorem State.send_bus (s : State) (x : Sent) : (s.send x).bus = s.bus := rfl
@[simp] theorem State.send_ctl (s : State) (x : Sent) : (s.send x).ctl = s.ctl := rfl
@[simp] theorem State.send_keys (s : State) (x : Sent) : (s.send x).keys = s.keys := rfl
@[simp] theorem State.send_fcr (s : State) (x : Sent) : (s.send x).fcr = s.fcr := rfl
@[simp] theorem State.send_board (s : State) (x : Sent) : (s.send x).board = s.board := rfl
@[simp] theorem State.send_fabric (s : State) (x : Sent) : (s.send x).fabric = s.fabric := rfl
@[simp] theorem State.send_geyser (s : State) (x : Sent) : (s.send x).geyser = s.geyser := rfl
@[simp] theorem State.send_lanes (s : State) (x : Sent) : (s.send x).lanes = s.lanes := rfl
@[simp] theorem State.send_sdi (s : State) (x : Sent) : (s.send x).sdi = s.sdi := rfl
@[simp] theorem State.send_mac (s : State) (x : Sent) : (s.send x).mac = s.mac := rfl
@[simp] theorem State.send_store (s : State) (x : Sent) : (s.send x).store = s.store := rfl
@[simp] theorem State.send_twin (s : State) (x : Sent) : (s.send x).twin = s.twin := rfl
@[simp] theorem State.send_power (s : State) (x : Sent) : (s.send x).power = s.power := rfl
@[simp] theorem State.send_upd (s : State) (x : Sent) : (s.send x).upd = s.upd := rfl
@[simp] theorem State.send_engines (s : State) (x : Sent) : (s.send x).engines = s.engines := rfl
@[simp] theorem State.send_mon (s : State) (x : Sent) : (s.send x).mon = s.mon := rfl
@[simp] theorem State.send_aud (s : State) (x : Sent) : (s.send x).aud = s.aud := rfl
@[simp] theorem State.send_ref (s : State) (x : Sent) : (s.send x).ref = s.ref := rfl
@[simp] theorem State.drawn_pending (s : State) : (s.drawn).pending = s.pending := rfl
@[simp] theorem State.drawn_regs (s : State) : (s.drawn).regs = s.regs := rfl
@[simp] theorem State.drawn_mem (s : State) : (s.drawn).mem = s.mem := rfl
@[simp] theorem State.drawn_tcm (s : State) : (s.drawn).tcm = s.tcm := rfl
@[simp] theorem State.drawn_now (s : State) : (s.drawn).now = s.now := rfl
@[simp] theorem State.drawn_profile (s : State) : (s.drawn).profile = s.profile := rfl
@[simp] theorem State.drawn_answer (s : State) : (s.drawn).answer = s.answer := rfl
@[simp] theorem State.drawn_out (s : State) : (s.drawn).out = s.out := rfl
@[simp] theorem State.drawn_armed (s : State) : (s.drawn).armed = s.armed := rfl
@[simp] theorem State.drawn_awaiting (s : State) : (s.drawn).awaiting = s.awaiting := rfl
@[simp] theorem State.drawn_draining (s : State) : (s.drawn).draining = s.draining := rfl
@[simp] theorem State.drawn_held (s : State) : (s.drawn).held = s.held := rfl
@[simp] theorem State.drawn_latched (s : State) : (s.drawn).latched = s.latched := rfl
@[simp] theorem State.drawn_bus (s : State) : (s.drawn).bus = s.bus := rfl
@[simp] theorem State.drawn_ctl (s : State) : (s.drawn).ctl = s.ctl := rfl
@[simp] theorem State.drawn_keys (s : State) : (s.drawn).keys = s.keys := rfl
@[simp] theorem State.drawn_fcr (s : State) : (s.drawn).fcr = s.fcr := rfl
@[simp] theorem State.drawn_board (s : State) : (s.drawn).board = s.board := rfl
@[simp] theorem State.drawn_fabric (s : State) : (s.drawn).fabric = s.fabric := rfl
@[simp] theorem State.drawn_geyser (s : State) : (s.drawn).geyser = s.geyser := rfl
@[simp] theorem State.drawn_lanes (s : State) : (s.drawn).lanes = s.lanes := rfl
@[simp] theorem State.drawn_sdi (s : State) : (s.drawn).sdi = s.sdi := rfl
@[simp] theorem State.drawn_mac (s : State) : (s.drawn).mac = s.mac := rfl
@[simp] theorem State.drawn_store (s : State) : (s.drawn).store = s.store := rfl
@[simp] theorem State.drawn_twin (s : State) : (s.drawn).twin = s.twin := rfl
@[simp] theorem State.drawn_power (s : State) : (s.drawn).power = s.power := rfl
@[simp] theorem State.drawn_upd (s : State) : (s.drawn).upd = s.upd := rfl
@[simp] theorem State.drawn_engines (s : State) : (s.drawn).engines = s.engines := rfl
@[simp] theorem State.drawn_mon (s : State) : (s.drawn).mon = s.mon := rfl
@[simp] theorem State.drawn_aud (s : State) : (s.drawn).aud = s.aud := rfl
@[simp] theorem State.drawn_ref (s : State) : (s.drawn).ref = s.ref := rfl
@[simp] theorem State.reply_pending (s : State) (r : Resp) : (s.reply r).pending = s.pending := rfl
@[simp] theorem State.reply_regs (s : State) (r : Resp) : (s.reply r).regs = s.regs := rfl
@[simp] theorem State.reply_mem (s : State) (r : Resp) : (s.reply r).mem = s.mem := rfl
@[simp] theorem State.reply_tcm (s : State) (r : Resp) : (s.reply r).tcm = s.tcm := rfl
@[simp] theorem State.reply_now (s : State) (r : Resp) : (s.reply r).now = s.now := rfl
@[simp] theorem State.reply_profile (s : State) (r : Resp) : (s.reply r).profile = s.profile := rfl
@[simp] theorem State.reply_out (s : State) (r : Resp) : (s.reply r).out = s.out := rfl
@[simp] theorem State.reply_freeCount (s : State) (r : Resp) : (s.reply r).freeCount = s.freeCount := rfl
@[simp] theorem State.reply_armed (s : State) (r : Resp) : (s.reply r).armed = s.armed := rfl
@[simp] theorem State.reply_awaiting (s : State) (r : Resp) : (s.reply r).awaiting = s.awaiting := rfl
@[simp] theorem State.reply_draining (s : State) (r : Resp) : (s.reply r).draining = s.draining := rfl
@[simp] theorem State.reply_held (s : State) (r : Resp) : (s.reply r).held = s.held := rfl
@[simp] theorem State.reply_latched (s : State) (r : Resp) : (s.reply r).latched = s.latched := rfl
@[simp] theorem State.reply_bus (s : State) (r : Resp) : (s.reply r).bus = s.bus := rfl
@[simp] theorem State.reply_ctl (s : State) (r : Resp) : (s.reply r).ctl = s.ctl := rfl
@[simp] theorem State.reply_keys (s : State) (r : Resp) : (s.reply r).keys = s.keys := rfl
@[simp] theorem State.reply_fcr (s : State) (r : Resp) : (s.reply r).fcr = s.fcr := rfl
@[simp] theorem State.reply_board (s : State) (r : Resp) : (s.reply r).board = s.board := rfl
@[simp] theorem State.reply_fabric (s : State) (r : Resp) : (s.reply r).fabric = s.fabric := rfl
@[simp] theorem State.reply_geyser (s : State) (r : Resp) : (s.reply r).geyser = s.geyser := rfl
@[simp] theorem State.reply_lanes (s : State) (r : Resp) : (s.reply r).lanes = s.lanes := rfl
@[simp] theorem State.reply_sdi (s : State) (r : Resp) : (s.reply r).sdi = s.sdi := rfl
@[simp] theorem State.reply_mac (s : State) (r : Resp) : (s.reply r).mac = s.mac := rfl
@[simp] theorem State.reply_store (s : State) (r : Resp) : (s.reply r).store = s.store := rfl
@[simp] theorem State.reply_twin (s : State) (r : Resp) : (s.reply r).twin = s.twin := rfl
@[simp] theorem State.reply_power (s : State) (r : Resp) : (s.reply r).power = s.power := rfl
@[simp] theorem State.reply_upd (s : State) (r : Resp) : (s.reply r).upd = s.upd := rfl
@[simp] theorem State.reply_engines (s : State) (r : Resp) : (s.reply r).engines = s.engines := rfl
@[simp] theorem State.reply_mon (s : State) (r : Resp) : (s.reply r).mon = s.mon := rfl
@[simp] theorem State.reply_aud (s : State) (r : Resp) : (s.reply r).aud = s.aud := rfl
@[simp] theorem State.reply_ref (s : State) (r : Resp) : (s.reply r).ref = s.ref := rfl
@[simp] theorem State.withData_pending (s : State) (v : Nat) : (s.withData v).pending = s.pending := rfl
@[simp] theorem State.withData_regs (s : State) (v : Nat) : (s.withData v).regs = s.regs := rfl
@[simp] theorem State.withData_mem (s : State) (v : Nat) : (s.withData v).mem = s.mem := rfl
@[simp] theorem State.withData_tcm (s : State) (v : Nat) : (s.withData v).tcm = s.tcm := rfl
@[simp] theorem State.withData_now (s : State) (v : Nat) : (s.withData v).now = s.now := rfl
@[simp] theorem State.withData_profile (s : State) (v : Nat) : (s.withData v).profile = s.profile := rfl
@[simp] theorem State.withData_out (s : State) (v : Nat) : (s.withData v).out = s.out := rfl
@[simp] theorem State.withData_freeCount (s : State) (v : Nat) : (s.withData v).freeCount = s.freeCount := rfl
@[simp] theorem State.withData_armed (s : State) (v : Nat) : (s.withData v).armed = s.armed := rfl
@[simp] theorem State.withData_awaiting (s : State) (v : Nat) : (s.withData v).awaiting = s.awaiting := rfl
@[simp] theorem State.withData_draining (s : State) (v : Nat) : (s.withData v).draining = s.draining := rfl
@[simp] theorem State.withData_held (s : State) (v : Nat) : (s.withData v).held = s.held := rfl
@[simp] theorem State.withData_latched (s : State) (v : Nat) : (s.withData v).latched = s.latched := rfl
@[simp] theorem State.withData_bus (s : State) (v : Nat) : (s.withData v).bus = s.bus := rfl
@[simp] theorem State.withData_ctl (s : State) (v : Nat) : (s.withData v).ctl = s.ctl := rfl
@[simp] theorem State.withData_keys (s : State) (v : Nat) : (s.withData v).keys = s.keys := rfl
@[simp] theorem State.withData_fcr (s : State) (v : Nat) : (s.withData v).fcr = s.fcr := rfl
@[simp] theorem State.withData_board (s : State) (v : Nat) : (s.withData v).board = s.board := rfl
@[simp] theorem State.withData_fabric (s : State) (v : Nat) : (s.withData v).fabric = s.fabric := rfl
@[simp] theorem State.withData_geyser (s : State) (v : Nat) : (s.withData v).geyser = s.geyser := rfl
@[simp] theorem State.withData_lanes (s : State) (v : Nat) : (s.withData v).lanes = s.lanes := rfl
@[simp] theorem State.withData_sdi (s : State) (v : Nat) : (s.withData v).sdi = s.sdi := rfl
@[simp] theorem State.withData_mac (s : State) (v : Nat) : (s.withData v).mac = s.mac := rfl
@[simp] theorem State.withData_store (s : State) (v : Nat) : (s.withData v).store = s.store := rfl
@[simp] theorem State.withData_twin (s : State) (v : Nat) : (s.withData v).twin = s.twin := rfl
@[simp] theorem State.withData_power (s : State) (v : Nat) : (s.withData v).power = s.power := rfl
@[simp] theorem State.withData_upd (s : State) (v : Nat) : (s.withData v).upd = s.upd := rfl
@[simp] theorem State.withData_engines (s : State) (v : Nat) : (s.withData v).engines = s.engines := rfl
@[simp] theorem State.withData_mon (s : State) (v : Nat) : (s.withData v).mon = s.mon := rfl
@[simp] theorem State.withData_aud (s : State) (v : Nat) : (s.withData v).aud = s.aud := rfl
@[simp] theorem State.withData_ref (s : State) (v : Nat) : (s.withData v).ref = s.ref := rfl

/-! ### Registers -/

/-- Reading a register asks only for the register space. -/
theorem State.rd_congr {s t : State} (h : t.regs = s.regs) (a : Nat) : t.rd a = s.rd a := by unfold State.rd; rw [h]

@[simp] theorem State.rd_wr_same (s : State) (a : Nat) (v : W) : (s.wr a v).rd a = v := sget_sput_same _ _ _ _

theorem State.rd_wr_ne (s : State) {a b : Nat} (v : W) (h : b ≠ a) : (s.wr a v).rd b = s.rd b := sget_sput_ne _ _ _ h

theorem State.rd_wr (s : State) (a b : Nat) (v : W) : (s.wr a v).rd b = if b = a then v else s.rd b := by
  split
  · rename_i h; rw [h, State.rd_wr_same]
  · rename_i h; exact State.rd_wr_ne s v h

theorem State.rd_wrN (s : State) (a b v : Nat) : (s.wrN a v).rd b = if b = a then w32 v else s.rd b := State.rd_wr s a b _

theorem State.rd_setFld (s : State) (a hi lo v b : Nat) :
    (s.setFld a hi lo v).rd b = if b = a then Machine.setFld (s.rd a) hi lo v else s.rd b := State.rd_wr s a b _

theorem State.rd_setBit (s : State) (a n : Nat) (x : Bool) (b : Nat) :
    (s.setBit a n x).rd b = if b = a then Machine.setBit (s.rd a) n x else s.rd b := State.rd_wr s a b _

theorem State.rd_bump (s : State) (a b : Nat) : (s.bump a).rd b = if b = a then w32 (s.rdN a + 1) else s.rd b := State.rd_wr s a b _

theorem State.rd_bumpBy (s : State) (a n b : Nat) : (s.bumpBy a n).rd b = if b = a then w32 (s.rdN a + n) else s.rd b := State.rd_wr s a b _

theorem State.rd_bumpSat (s : State) (a hi lo n b : Nat) :
    (s.bumpSat a hi lo n).rd b =
      if b = a then Machine.setFld (s.rd a) hi lo (min (s.fld a hi lo + n) (2 ^ (hi + 1 - lo) - 1)) else s.rd b := State.rd_wr s a b _

@[simp] theorem State.rd_send (s : State) (x : Sent) (b : Nat) : (s.send x).rd b = s.rd b := rfl
@[simp] theorem State.rd_wrByte (s : State) (a : Nat) (v : Byte) (b : Nat) : (s.wrByte a v).rd b = s.rd b := rfl
@[simp] theorem State.rd_reply (s : State) (r : Resp) (b : Nat) : (s.reply r).rd b = s.rd b := rfl
@[simp] theorem State.rd_withData (s : State) (v b : Nat) : (s.withData v).rd b = s.rd b := rfl
@[simp] theorem State.rd_drawn (s : State) (b : Nat) : s.drawn.rd b = s.rd b := rfl

@[simp] theorem toNat_w32 (n : Nat) : (w32 n).toNat = n % 2 ^ 32 := BitVec.toNat_ofNat n 32

/-- A register that has just taken a number holds it. -/
theorem State.rdN_wrN_same (s : State) (a v : Nat) : (s.wrN a v).rdN a = v % 2 ^ 32 := by
  unfold State.rdN; rw [State.rd_wrN, if_pos rfl, toNat_w32]

theorem State.rdN_bump_same (s : State) (a : Nat) : (s.bump a).rdN a = (s.rdN a + 1) % 2 ^ 32 := by
  unfold State.rdN; rw [State.rd_bump, if_pos rfl, toNat_w32]; rfl

/-! ### Bit fields -/

theorem setFld_toNat (w : W) {hi lo v : Nat} (h : lo ≤ hi) (k : hi < 32) :
    (Machine.setFld w hi lo v).toNat =
      w.toNat % 2 ^ lo + (v % 2 ^ (hi + 1 - lo)) * 2 ^ lo + w.toNat / 2 ^ (hi + 1) * 2 ^ (hi + 1) := by
  have hw : w.toNat < 2 ^ 32 := w.isLt
  have e : (2 : Nat) ^ (hi + 1) = 2 ^ (hi + 1 - lo) * 2 ^ lo := by rw [← Nat.pow_add]; congr 1; omega
  have e32 : (2 : Nat) ^ 32 = 2 ^ (31 - hi) * 2 ^ (hi + 1) := by rw [← Nat.pow_add]; congr 1; omega
  have d1 : w.toNat = 2 ^ lo * (w.toNat / 2 ^ lo) + w.toNat % 2 ^ lo := (Nat.div_add_mod _ _).symm
  have d2 : w.toNat / 2 ^ lo = 2 ^ (hi + 1 - lo) * (w.toNat / 2 ^ (hi + 1)) + w.toNat / 2 ^ lo % 2 ^ (hi + 1 - lo) := by
    have q : w.toNat / 2 ^ (hi + 1) = w.toNat / 2 ^ lo / 2 ^ (hi + 1 - lo) := by
      rw [Nat.div_div_eq_div_mul, Nat.mul_comm (2 ^ lo), ← e]
    rw [q]; exact (Nat.div_add_mod _ _).symm
  have hv : v % 2 ^ (hi + 1 - lo) < 2 ^ (hi + 1 - lo) := Nat.mod_lt _ (Nat.two_pow_pos _)
  have hq : w.toNat / 2 ^ (hi + 1) < 2 ^ (31 - hi) := by
    rw [Nat.div_lt_iff_lt_mul (Nat.two_pow_pos _), ← e32]; exact hw
  have hr : w.toNat % 2 ^ lo < 2 ^ lo := Nat.mod_lt _ (Nat.two_pow_pos _)
  unfold Machine.setFld Machine.fld
  rw [BitVec.toNat_ofNat, Nat.shiftRight_eq_div_pow, Nat.shiftLeft_eq, Nat.shiftLeft_eq]
  generalize hA : w.toNat / 2 ^ (hi + 1) = A at *
  generalize hB : w.toNat / 2 ^ lo % 2 ^ (hi + 1 - lo) = B at *
  generalize hC : w.toNat % 2 ^ lo = C at *
  generalize hV : v % 2 ^ (hi + 1 - lo) = V at *
  have ew : w.toNat = C + B * 2 ^ lo + A * 2 ^ (hi + 1) := by
    rw [d2] at d1; rw [d1, e, Nat.mul_add, Nat.mul_comm B, ← Nat.mul_assoc A, Nat.mul_comm (2 ^ lo) (_ * A), Nat.mul_comm (2 ^ (hi + 1 - lo)) A]; omega
  have es : w.toNat - B * 2 ^ lo + V * 2 ^ lo = C + V * 2 ^ lo + A * 2 ^ (hi + 1) := by omega
  rw [es]
  refine Nat.mod_eq_of_lt ?_
  have l1 : C + V * 2 ^ lo < 2 ^ (hi + 1) := by
    rw [e]
    calc C + V * 2 ^ lo < 2 ^ lo + V * 2 ^ lo := by omega
      _ = (V + 1) * 2 ^ lo := by rw [Nat.add_mul]; omega
      _ ≤ 2 ^ (hi + 1 - lo) * 2 ^ lo := Nat.mul_le_mul_right _ hv
  calc C + V * 2 ^ lo + A * 2 ^ (hi + 1) < 2 ^ (hi + 1) + A * 2 ^ (hi + 1) := by omega
    _ = (A + 1) * 2 ^ (hi + 1) := by rw [Nat.add_mul]; omega
    _ ≤ 2 ^ (31 - hi) * 2 ^ (hi + 1) := Nat.mul_le_mul_right _ hq
    _ = 2 ^ 32 := e32.symm

/-- A field that has just taken a value holds it, modulo its size. -/
theorem fld_setFld_same (w : W) {hi lo v : Nat} (h : lo ≤ hi) (k : hi < 32) :
    Machine.fld (Machine.setFld w hi lo v) hi lo = v % 2 ^ (hi + 1 - lo) := by
  have e : (2 : Nat) ^ (hi + 1) = 2 ^ lo * 2 ^ (hi + 1 - lo) := by rw [← Nat.pow_add]; congr 1; omega
  have hr : w.toNat % 2 ^ lo < 2 ^ lo := Nat.mod_lt _ (Nat.two_pow_pos _)
  unfold Machine.fld
  rw [setFld_toNat w h k, Nat.shiftRight_eq_div_pow, e]
  have : w.toNat % 2 ^ lo + v % 2 ^ (hi + 1 - lo) * 2 ^ lo + w.toNat / (2 ^ lo * 2 ^ (hi + 1 - lo)) * (2 ^ lo * 2 ^ (hi + 1 - lo))
      = w.toNat % 2 ^ lo + 2 ^ lo * (v % 2 ^ (hi + 1 - lo) + 2 ^ (hi + 1 - lo) * (w.toNat / (2 ^ lo * 2 ^ (hi + 1 - lo)))) := by
    rw [Nat.mul_add, Nat.mul_comm (v % _), Nat.mul_comm (w.toNat / _), Nat.mul_assoc, Nat.add_assoc]
  rw [this, Nat.add_mul_div_left _ _ (Nat.two_pow_pos _), Nat.div_eq_of_lt hr, Nat.zero_add, Nat.add_mul_mod_self_left, Nat.mod_mod]

/-- Another field of the word keeps its value. -/
theorem fld_setFld_above (w : W) {hi lo v hi' lo' : Nat} (h : lo ≤ hi) (k : hi < lo') (k' : hi < 32) :
    Machine.fld (Machine.setFld w hi lo v) hi' lo' = Machine.fld w hi' lo' := by
  have hr : w.toNat % 2 ^ lo < 2 ^ lo := Nat.mod_lt _ (Nat.two_pow_pos _)
  have hv : v % 2 ^ (hi + 1 - lo) < 2 ^ (hi + 1 - lo) := Nat.mod_lt _ (Nat.two_pow_pos _)
  have e : (2 : Nat) ^ (hi + 1) = 2 ^ (hi + 1 - lo) * 2 ^ lo := by rw [← Nat.pow_add]; congr 1; omega
  have e' : (2 : Nat) ^ lo' = 2 ^ (hi + 1) * 2 ^ (lo' - (hi + 1)) := by rw [← Nat.pow_add]; congr 1; omega
  have l1 : w.toNat % 2 ^ lo + v % 2 ^ (hi + 1 - lo) * 2 ^ lo < 2 ^ (hi + 1) := by
    rw [e]
    calc w.toNat % 2 ^ lo + v % 2 ^ (hi + 1 - lo) * 2 ^ lo < 2 ^ lo + v % 2 ^ (hi + 1 - lo) * 2 ^ lo := by omega
      _ = (v % 2 ^ (hi + 1 - lo) + 1) * 2 ^ lo := by rw [Nat.add_mul]; omega
      _ ≤ 2 ^ (hi + 1 - lo) * 2 ^ lo := Nat.mul_le_mul_right _ hv
  unfold Machine.fld
  rw [setFld_toNat w h k', Nat.shiftRight_eq_div_pow, Nat.shiftRight_eq_div_pow, e', ← Nat.div_div_eq_div_mul, ← Nat.div_div_eq_div_mul,
    Nat.add_mul_div_right _ _ (Nat.two_pow_pos _), Nat.div_eq_of_lt l1, Nat.zero_add]

theorem bitOf_iff (w : W) (n : Nat) : bitOf w n = decide (Machine.fld w n n = 1) := by
  unfold bitOf Machine.fld
  rw [Nat.testBit_eq_decide_div_mod_eq, Nat.shiftRight_eq_div_pow, show n + 1 - n = 1 by omega, Nat.pow_one]

/-- A bit that has just been set or cleared reads so. -/
theorem bitOf_setBit_same (w : W) {n : Nat} (b : Bool) (k : n < 32) : bitOf (Machine.setBit w n b) n = b := by
  unfold Machine.setBit
  rw [bitOf_iff, fld_setFld_same w (Nat.le_refl n) k, show n + 1 - n = 1 by omega]
  cases b <;> rfl

theorem State.bit_setBit_same (s : State) (a : Nat) {n : Nat} (b : Bool) (k : n < 32) : (s.setBit a n b).bit a n = b := by
  unfold State.bit; rw [State.rd_setBit, if_pos rfl]; exact bitOf_setBit_same _ _ k

theorem State.fld_setFld_same (s : State) (a v : Nat) {hi lo : Nat} (h : lo ≤ hi) (k : hi < 32) :
    (s.setFld a hi lo v).fld a hi lo = v % 2 ^ (hi + 1 - lo) := by
  unfold State.fld; rw [State.rd_setFld, if_pos rfl]; exact Machine.fld_setFld_same _ h k

end Sys2Proof.Machine
end

