-- ==== Sys2Proof/Laws/Raise.lean ====
section
/-! SUPPORT. What raising a fault source leaves alone: everything but the FCR's page and engine, the STICKY registers, the pending bits of MSI-X, the ring in memory, what leaves the device and the twin's outbox (R428 to R439). -/

set_option Elab.async false

namespace Sys2Proof.Machine

/-- An address whose register no raise touches: not an FCR register beyond a header, not a STICKY, not in the MSI-X pending bits. -/
def Calm (a : Nat) : Prop := ¬ (0x43000000 ≤ a ∧ a < 0x44000000 ∧ 0x100 ≤ a % 0x10000) ∧ a % 0x10000 ≠ 0x18 ∧ ¬ (0x41303000 ≤ a ∧ a < 0x41304000)

/-- The fields of a state that no raise touches. -/
structure Apart where
  pending : List Instr
  tcm : List Host.Cell
  now : Nat
  profile : Nat
  answer : Answer
  freeCount : Nat
  armed : List (Nat × Nat)
  awaiting : List (Nat × Nat)
  draining : List (Nat × Bool)
  held : List (Nat × W)
  latched : List (Nat × W)
  bus : BusState
  ctl : CtlState
  keys : KeyState
  board : BoardState
  fabric : FabricState
  geyser : GeyserState
  lanes : List (Nat × Lane)
  sdi : SdiState
  mac : MacState
  store : StoreState
  power : PowerState
  upd : UpdState
  engines : List (Nat × EngineRun)
  mon : MonState
  aud : AudState
  ref : RefState

def State.apart (s : State) : Apart :=
  ⟨s.pending, s.tcm, s.now, s.profile, s.answer, s.freeCount, s.armed, s.awaiting, s.draining, s.held, s.latched, s.bus, s.ctl, s.keys, s.board,
    s.fabric, s.geyser, s.lanes, s.sdi, s.mac, s.store, s.power, s.upd, s.engines, s.mon, s.aud, s.ref⟩

/-- s differs from b at most in what a raise may touch. -/
def State.Near (b s : State) : Prop := s.apart = b.apart ∧ ∀ a, Calm a → s.rd a = b.rd a

variable {b s : State}

theorem near_refl (b : State) : b.Near b := ⟨rfl, fun _ _ => rfl⟩

theorem near_trans {c : State} (h : b.Near s) (k : s.Near c) : b.Near c :=
  ⟨k.1.trans h.1, fun a ha => (k.2 a ha).trans (h.2 a ha)⟩

theorem near_wr (h : b.Near s) {x : Nat} {v : W} (hx : ¬ Calm x) : b.Near (s.wr x v) :=
  ⟨h.1, fun a ha => by
    have n : a ≠ x := fun e => hx (e ▸ ha)
    rw [State.rd_wr_ne s v n]; exact h.2 a ha⟩

theorem near_wrN (h : b.Near s) {x v : Nat} (hx : ¬ Calm x) : b.Near (s.wrN x v) := near_wr h hx
theorem near_setFld (h : b.Near s) {x hi lo v : Nat} (hx : ¬ Calm x) : b.Near (s.setFld x hi lo v) := near_wr h hx
theorem near_setBit (h : b.Near s) {x n : Nat} {v : Bool} (hx : ¬ Calm x) : b.Near (s.setBit x n v) := near_wr h hx
theorem near_bump (h : b.Near s) {x : Nat} (hx : ¬ Calm x) : b.Near (s.bump x) := near_wr h hx
theorem near_bumpSat (h : b.Near s) {x hi lo n : Nat} (hx : ¬ Calm x) : b.Near (s.bumpSat x hi lo n) := near_wr h hx
theorem near_orWord (h : b.Near s) {x v : Nat} (hx : ¬ Calm x) : b.Near (s.orWord x v) := near_wr h hx

theorem near_wrWords : ∀ {l : List Nat} {s : State} {x : Nat}, b.Near s → (∀ i, i < l.length → ¬ Calm (x + 4 * i)) → b.Near (s.wrWords x l)
  | [], _, _, h, _ => h
  | w :: l, s, x, h, hx => by
    refine near_wrWords (l := l) (near_wrN h (by simpa using hx 0 (by simp))) (fun i hi => ?_)
    have := hx (i + 1) (by simpa using hi)
    rwa [show x + 4 * (i + 1) = x + 4 + 4 * i by omega] at this

theorem near_wrBytes : ∀ {l : List Byte} {s : State} {x : Nat}, b.Near s → b.Near (s.wrBytes x l)
  | [], _, _, h => h
  | _ :: l, _, _, h => near_wrBytes (l := l) (s := _) ⟨h.1, h.2⟩

theorem near_send (h : b.Near s) {x : Sent} : b.Near (s.send x) := ⟨h.1, h.2⟩
theorem near_fcr (h : b.Near s) {f : FcrState} : b.Near { s with fcr := f } := ⟨h.1, h.2⟩
theorem near_fcr_twin (h : b.Near s) {f : FcrState} {w : TwinState} : b.Near { s with fcr := f, twin := w } := ⟨h.1, h.2⟩

theorem near_ite {c : Prop} {_ : Decidable c} {t u : State} (h : b.Near t) (k : b.Near u) : b.Near (if c then t else u) := by
  split <;> assumption

theorem near1_ite {β : Type} {c : Prop} {_ : Decidable c} {t u : State × β} (h : b.Near t.1) (k : b.Near u.1) : b.Near (if c then t else u).1 := by
  split <;> assumption

theorem near_foldl {β : Type} {f : State → β → State} (hf : ∀ t x, b.Near t → b.Near (f t x)) :
    ∀ {l : List β} {s : State}, b.Near s → b.Near (l.foldl f s)
  | [], _, h => h
  | _ :: l, _, h => near_foldl hf (l := l) (hf _ _ h)

/-! ### Addresses that are not calm -/

theorem not_calm_fcr {x : Nat} (h : 0x43000000 ≤ x) (k : x < 0x44000000) (o : 0x100 ≤ x % 0x10000) : ¬ Calm x := fun c => c.1 ⟨h, k, o⟩

theorem not_calm_sticky {p : Nat} (h : p % 0x10000 = 0) : ¬ Calm (hSTICKY p) := fun c => c.2.1 (by unfold hSTICKY; omega)

theorem not_calm_pba {v : Nat} (h : v < 512) : ¬ Calm (0x41303000 + 4 * (v / 32)) := fun c => c.2.2 (by omega)

theorem not_calm_rec {i : Nat} (h : i < 8) : ¬ Calm (recA i) := by
  unfold recA Reg.FCR_OPEN_REC; exact not_calm_fcr (by omega) (by omega) (by omega)

theorem pageAddr_mod (x k : Nat) : pageAddr x k % 0x10000 = 0 := by unfold pageAddr; omega
theorem pageOf_mod (a : Nat) : pageOf a % 0x10000 = 0 := by unfold pageOf; omega

theorem vectorOf_lt {p v : Nat} (h : s.vectorOf p = some v) : v < 512 := by
  have k : ∀ x : Nat, (if x / 0x8000 = 1 ∧ x % 512 ≤ 479 then some (x % 512) else none) = some v → v < 512 := fun x hx => by
    by_cases c : x / 0x8000 = 1 ∧ x % 512 ≤ 479
    · rw [if_pos c] at hx; cases hx; omega
    · rw [if_neg c] at hx; cases hx
  exact k _ h

/-! ### The operations of a raise -/

theorem notifyVector_near (h : b.Near s) {v : Nat} (hv : v < 512) : b.Near (s.notifyVector v) := by
  unfold State.notifyVector
  exact near_ite (near_setBit h (not_calm_pba hv)) (near_send h)

theorem stick_near (h : b.Near s) {p n : Nat} (hp : p % 0x10000 = 0) : b.Near (s.stick p n) := by
  have k : b.Near (s.setBit (hSTICKY p) n true) := near_setBit h (not_calm_sticky hp)
  unfold State.stick
  refine near_ite ?_ k
  split
  · rename_i v hv
    exact near_ite k (notifyVector_near k (vectorOf_lt hv))
  · exact k

theorem noteRaise_near (h : b.Near s) {src : Nat} : b.Near (s.noteRaise src) := by
  have k : b.Near (s.stick (pageAddr (srcBlock src) (srcPage src)) (16 + srcBit src)) := stick_near h (pageAddr_mod _ _)
  have b1 : srcPage src < 128 := Nat.mod_lt _ (by decide)
  have b2 : srcBit src < 32 := Nat.mod_lt _ (by decide)
  have b3 : srcBlock src < 16 := Nat.mod_lt _ (by decide)
  unfold State.noteRaise
  refine near_wrN (near_bump (near_ite (near_setFld (near_bump k ?_) ?_) k) ?_) ?_ <;>
    refine not_calm_fcr ?_ ?_ ?_ <;>
    simp only [Reg.FCR_E_CNT, Reg.FCR_E_INFO, Reg.FCR_BLK_RAISED, Reg.FCR_LAST_SRC] <;> omega

theorem watermark_near (h : b.Near s) {a l m y : Nat} (ha : ¬ Calm a) : b.Near (s.watermark a l m y) := by
  unfold State.watermark
  refine near_ite (near_ite (near_setBit (near_setBit h ha) ha) h)
    (near_ite (stick_near (near_bumpSat (near_setBit (near_setBit h ha) ha) ha) (pageOf_mod _)) h)

theorem ringMark_near (h : b.Near s) : b.Near s.ringMark := watermark_near h (not_calm_fcr (by decide) (by decide) (by decide))

theorem ringPut_near (h : b.Near s) : b.Near s.ringPut := by
  unfold State.ringPut
  refine near_ite (near_bump h (not_calm_fcr (by decide) (by decide) (by decide))) (near_ite (near_fcr (noteRaise_near (near_bump h (not_calm_fcr (by decide) (by decide) (by decide))))) ?_)
  refine near_ite (ringMark_near (near_fcr (near_bump (near_wrBytes ?_) (not_calm_fcr (by decide) (by decide) (by decide))))) (noteRaise_near h)
  exact near_ite (near_setBit h (not_calm_rec (by decide))) h

theorem stormCount_near (h : b.Near s) : b.Near s.stormCount := by
  unfold State.stormCount
  exact near_ite (noteRaise_near (near_bump (near_fcr h) (not_calm_fcr (by decide) (by decide) (by decide)))) (near_fcr h)

theorem closeRecord_near (h : b.Near s) : b.Near s.closeRecord := by
  unfold State.closeRecord
  exact stormCount_near (ringPut_near (near_bump (near_fcr h) (not_calm_fcr (by decide) (by decide) (by decide))))

theorem createRecord_near (h : b.Near s) {src sev : Nat} {forced late : Bool} : b.Near (s.createRecord src sev forced late) := by
  unfold State.createRecord
  have k : ∀ l : List Nat, l.length = 8 → b.Near (s.wrWords (recA 0) l) := fun l hl =>
    near_wrWords h (fun i hi => by
      have := not_calm_rec (i := i) (by omega)
      unfold recA Reg.FCR_OPEN_REC at this ⊢
      exact this)
  exact near_ite (stick_near (stick_near (near_fcr (k _ rfl)) (pageAddr_mod _ _)) (pageAddr_mod _ _))
    (stick_near (near_fcr (k _ rfl)) (pageAddr_mod _ _))

theorem mergeRecord_near (h : b.Near s) {src sev : Nat} {forced : Bool} : b.Near (s.mergeRecord src sev forced) := by
  have c : ∀ i, i < 8 → ¬ Calm (recA i) := fun i hi => not_calm_rec hi
  have k := near_bump h (x := Reg.FCR_MERGED_CNT) (not_calm_fcr (by decide) (by decide) (by decide))
  unfold State.mergeRecord
  refine near_fcr (near_orWord (near_setFld (near_orWord (near_orWord (near_orWord ?_ (c _ (by decide))) (c _ (by decide))) (c _ (by decide))) (c _ (by decide))) (c _ (by decide)))
  exact near_ite (noteRaise_near k) (near_bumpSat k (c _ (by decide)))

theorem deferCut_near (h : b.Near s) : b.Near s.deferCut := by
  unfold State.deferCut
  exact near_ite h (near_fcr_twin (near_wrN (near_wrN h (not_calm_fcr (by decide) (by decide) (by decide))) (not_calm_fcr (by decide) (by decide) (by decide))))

theorem trigger_near (h : b.Near s) {code : Nat} {always : Bool} : b.Near (s.trigger code always).1 := by
  have c : ∀ x, 0x43000000 ≤ x → x < 0x44000000 → 0x100 ≤ x % 0x10000 → ¬ Calm x := fun _ => not_calm_fcr
  unfold State.trigger
  refine near1_ite h (near1_ite (deferCut_near h) ?_)
  dsimp only
  refine near1_ite (near_wrN (near_bump h (c _ (by decide) (by decide) (by decide))) (c _ (by decide) (by decide) (by decide))) ?_
  exact near_fcr (near_send (near_bump (near_setBit (near_setFld (near_setFld h (c _ (by decide) (by decide) (by decide))) (c _ (by decide) (by decide) (by decide)))
        (c _ (by decide) (by decide) (by decide))) (c _ (by decide) (by decide) (by decide))))

theorem recordCut_near (h : b.Near s) : b.Near s.recordCut := by
  have k := trigger_near h (code := 1) (always := false)
  unfold State.recordCut
  exact near_ite (near_fcr (near_setFld k (not_calm_rec (by decide)))) (near_ite (near_fcr k) k)

theorem reach_near (h : b.Near s) {src : Nat} {forced late cut : Bool} : b.Near (s.reach src forced late cut).1 := by
  have m := mergeRecord_near h (src := src) (sev := s.sevEntry src % 4) (forced := forced)
  have c := createRecord_near h (src := src) (sev := s.sevEntry src % 4) (forced := forced) (late := late)
  unfold State.reach
  refine near1_ite (near1_ite (recordCut_near m) m) ?_
  exact near_ite (closeRecord_near (near_ite (recordCut_near c) c)) (near_ite (recordCut_near c) c)

/-- A raise of any source leaves alone what Near compares. -/
theorem raiseAs_near (h : b.Near s) {src : Nat} {forced : Bool} : b.Near (s.raiseAs src forced) := by
  have k := noteRaise_near h (src := src)
  unfold State.raiseAs
  exact near_ite k (near_ite (near_fcr k) (near_ite (reach_near (noteRaise_near (reach_near k))) (reach_near k)))

theorem raise_near (h : b.Near s) {src : Nat} : b.Near (s.raise src) := raiseAs_near h

theorem raiseAll_near (h : b.Near s) {l : List Nat} : b.Near (s.raiseAll l) := near_foldl (fun _ _ k => raise_near k) h

theorem raiseIf_near (h : b.Near s) {c : Bool} {src : Nat} : b.Near (s.raiseIf c src) := by
  unfold State.raiseIf
  exact near_ite (raise_near h) h

theorem snapshot_near (h : b.Near s) {code : Nat} {always : Bool} : b.Near (s.snapshot code always) := by
  unfold State.snapshot
  exact near_ite (raise_near (trigger_near h)) (trigger_near h)

/-- A register of a calm address reads after a raise as it did before. -/
theorem State.rd_raise (s : State) (src : Nat) {a : Nat} (h : Calm a) : (s.raise src).rd a = s.rd a := (raise_near (near_refl s)).2 a h

theorem State.apart_raise (s : State) (src : Nat) : (s.raise src).apart = s.apart := (raise_near (near_refl s)).1

end Sys2Proof.Machine
end

