-- ==== Sys2Proof/Laws/Access.lean ====
section
/-! SUPPORT. An access that passes has its page's effect, and is settled afterwards; what its arrival leaves alone. -/

set_option Elab.async false

namespace Sys2Proof.Machine

/-- An access that passes: the effect at its page, then the settlement. -/
theorem accessWord_passes {s : State} {m : Requester} {a : Nat} {kind : TxnKind} (h : s.Passes m a kind) (data : Nat) (f : State → State) :
    s.accessWord m a kind data f = (f (s.arrived m a)).settle m a kind := by
  obtain ⟨h1, h2, h3⟩ := h
  unfold State.accessWord State.arrived
  simp only [h1, h2, h3]
  rfl

theorem writeAccess_passes {s : State} {m : Requester} {a : Nat} (h : s.Passes m a .write) (v : Nat) (f : State → State) :
    s.writeAccess m a v f = (f (s.arrived m a)).settle m a .write := accessWord_passes h v f

theorem readAccess_passes {s : State} {m : Requester} {a : Nat} (h : s.Passes m a .read) (f : State → State) :
    s.readAccess m a f = (f (s.arrived m a)).settle m a .read := accessWord_passes h 0 f

/-- An access that its page accepts is counted as served, and nothing else. -/
theorem settle_okay {s : State} (h : s.answer.resp = .okay) (m : Requester) (a : Nat) (kind : TxnKind) :
    s.settle m a kind = s.bump (Reg.BMX_M_SERVED (m.num + 1)) := by
  unfold State.settle; rw [if_pos h]

theorem field_ite {α : Type} (f : State → α) {c : Prop} {_ : Decidable c} {x y : State} {v : α} (h : f x = v) (k : f y = v) :
    f (if c then x else y) = v := by split <;> assumption

/-- A grant writes registers only. -/
theorem State.grantNow_field {α : Type} (f : State → α) (hf : ∀ (t : State) (x : Nat) (v : W), f (t.wr x v) = f t) (s : State) (m : Requester)
    (a : Nat) : f (s.grantNow m a) = f s := by
  unfold State.grantNow
  dsimp only
  exact field_ite f ((hf _ _ _).trans (hf _ _ _)) (hf _ _ _)

@[simp] theorem State.arrived_pending (s : State) (m : Requester) (a : Nat) : (s.arrived m a).pending = s.pending :=
  State.grantNow_field State.pending (fun _ _ _ => rfl) _ m a
@[simp] theorem State.arrived_mem (s : State) (m : Requester) (a : Nat) : (s.arrived m a).mem = s.mem :=
  State.grantNow_field State.mem (fun _ _ _ => rfl) _ m a
@[simp] theorem State.arrived_tcm (s : State) (m : Requester) (a : Nat) : (s.arrived m a).tcm = s.tcm :=
  State.grantNow_field State.tcm (fun _ _ _ => rfl) _ m a
@[simp] theorem State.arrived_now (s : State) (m : Requester) (a : Nat) : (s.arrived m a).now = s.now :=
  State.grantNow_field State.now (fun _ _ _ => rfl) _ m a
@[simp] theorem State.arrived_profile (s : State) (m : Requester) (a : Nat) : (s.arrived m a).profile = s.profile :=
  State.grantNow_field State.profile (fun _ _ _ => rfl) _ m a
@[simp] theorem State.arrived_out (s : State) (m : Requester) (a : Nat) : (s.arrived m a).out = s.out :=
  State.grantNow_field State.out (fun _ _ _ => rfl) _ m a
@[simp] theorem State.arrived_freeCount (s : State) (m : Requester) (a : Nat) : (s.arrived m a).freeCount = s.freeCount :=
  State.grantNow_field State.freeCount (fun _ _ _ => rfl) _ m a
@[simp] theorem State.arrived_armed (s : State) (m : Requester) (a : Nat) : (s.arrived m a).armed = s.armed :=
  State.grantNow_field State.armed (fun _ _ _ => rfl) _ m a
@[simp] theorem State.arrived_awaiting (s : State) (m : Requester) (a : Nat) : (s.arrived m a).awaiting = s.awaiting :=
  State.grantNow_field State.awaiting (fun _ _ _ => rfl) _ m a
@[simp] theorem State.arrived_draining (s : State) (m : Requester) (a : Nat) : (s.arrived m a).draining = s.draining :=
  State.grantNow_field State.draining (fun _ _ _ => rfl) _ m a
@[simp] theorem State.arrived_held (s : State) (m : Requester) (a : Nat) : (s.arrived m a).held = s.held :=
  State.grantNow_field State.held (fun _ _ _ => rfl) _ m a
@[simp] theorem State.arrived_latched (s : State) (m : Requester) (a : Nat) : (s.arrived m a).latched = s.latched :=
  State.grantNow_field State.latched (fun _ _ _ => rfl) _ m a
@[simp] theorem State.arrived_bus (s : State) (m : Requester) (a : Nat) : (s.arrived m a).bus = s.bus :=
  State.grantNow_field State.bus (fun _ _ _ => rfl) _ m a
@[simp] theorem State.arrived_ctl (s : State) (m : Requester) (a : Nat) : (s.arrived m a).ctl = s.ctl :=
  State.grantNow_field State.ctl (fun _ _ _ => rfl) _ m a
@[simp] theorem State.arrived_keys (s : State) (m : Requester) (a : Nat) : (s.arrived m a).keys = s.keys :=
  State.grantNow_field State.keys (fun _ _ _ => rfl) _ m a
@[simp] theorem State.arrived_fcr (s : State) (m : Requester) (a : Nat) : (s.arrived m a).fcr = s.fcr :=
  State.grantNow_field State.fcr (fun _ _ _ => rfl) _ m a
@[simp] theorem State.arrived_board (s : State) (m : Requester) (a : Nat) : (s.arrived m a).board = s.board :=
  State.grantNow_field State.board (fun _ _ _ => rfl) _ m a
@[simp] theorem State.arrived_fabric (s : State) (m : Requester) (a : Nat) : (s.arrived m a).fabric = s.fabric :=
  State.grantNow_field State.fabric (fun _ _ _ => rfl) _ m a
@[simp] theorem State.arrived_geyser (s : State) (m : Requester) (a : Nat) : (s.arrived m a).geyser = s.geyser :=
  State.grantNow_field State.geyser (fun _ _ _ => rfl) _ m a
@[simp] theorem State.arrived_lanes (s : State) (m : Requester) (a : Nat) : (s.arrived m a).lanes = s.lanes :=
  State.grantNow_field State.lanes (fun _ _ _ => rfl) _ m a
@[simp] theorem State.arrived_sdi (s : State) (m : Requester) (a : Nat) : (s.arrived m a).sdi = s.sdi :=
  State.grantNow_field State.sdi (fun _ _ _ => rfl) _ m a
@[simp] theorem State.arrived_mac (s : State) (m : Requester) (a : Nat) : (s.arrived m a).mac = s.mac :=
  State.grantNow_field State.mac (fun _ _ _ => rfl) _ m a
@[simp] theorem State.arrived_store (s : State) (m : Requester) (a : Nat) : (s.arrived m a).store = s.store :=
  State.grantNow_field State.store (fun _ _ _ => rfl) _ m a
@[simp] theorem State.arrived_twin (s : State) (m : Requester) (a : Nat) : (s.arrived m a).twin = s.twin :=
  State.grantNow_field State.twin (fun _ _ _ => rfl) _ m a
@[simp] theorem State.arrived_power (s : State) (m : Requester) (a : Nat) : (s.arrived m a).power = s.power :=
  State.grantNow_field State.power (fun _ _ _ => rfl) _ m a
@[simp] theorem State.arrived_upd (s : State) (m : Requester) (a : Nat) : (s.arrived m a).upd = s.upd :=
  State.grantNow_field State.upd (fun _ _ _ => rfl) _ m a
@[simp] theorem State.arrived_engines (s : State) (m : Requester) (a : Nat) : (s.arrived m a).engines = s.engines :=
  State.grantNow_field State.engines (fun _ _ _ => rfl) _ m a
@[simp] theorem State.arrived_mon (s : State) (m : Requester) (a : Nat) : (s.arrived m a).mon = s.mon :=
  State.grantNow_field State.mon (fun _ _ _ => rfl) _ m a
@[simp] theorem State.arrived_aud (s : State) (m : Requester) (a : Nat) : (s.arrived m a).aud = s.aud :=
  State.grantNow_field State.aud (fun _ _ _ => rfl) _ m a
@[simp] theorem State.arrived_ref (s : State) (m : Requester) (a : Nat) : (s.arrived m a).ref = s.ref :=
  State.grantNow_field State.ref (fun _ _ _ => rfl) _ m a

@[simp] theorem State.arrived_answer (s : State) (m : Requester) (a : Nat) : (s.arrived m a).answer = {} :=
  State.grantNow_field State.answer (fun _ _ _ => rfl) _ m a

theorem targetOf_lt {a t : Nat} (h : targetOf a = some t) : t < 70 := by
  have k : blockOf a < 64 := Nat.mod_lt _ (by decide)
  have some_lt : ∀ {x : Nat}, some x = some t → x < 70 → t < 70 := fun e l => Option.some.inj e ▸ l
  unfold targetOf at h
  by_cases h1 : a < 0x20000
  · rw [if_pos h1] at h; exact some_lt h (by decide)
  rw [if_neg h1] at h
  by_cases h2 : 0x10000000 ≤ a ∧ a < 0x10400000
  · rw [if_pos h2] at h; exact some_lt h (by omega)
  rw [if_neg h2] at h
  by_cases h3 : 0x20000000 ≤ a ∧ a < 0x30000000
  · rw [if_pos h3] at h; exact some_lt h (by decide)
  rw [if_neg h3] at h
  by_cases h4 : 0x40000000 ≤ a ∧ a < 0x50000000
  · rw [if_pos h4] at h; exact some_lt h (by omega)
  rw [if_neg h4] at h
  by_cases h5 : 0x1000000000 ≤ a ∧ a < 0x2000000000
  · rw [if_pos h5] at h; refine some_lt h ?_; split <;> decide
  · rw [if_neg h5] at h; cases h

theorem targetNo_lt (a : Nat) : targetNo a < 70 := by
  unfold targetNo
  cases h : targetOf a with
  | none => decide
  | some t => exact targetOf_lt h

/-- Outside the bus matrix a register reads on arrival as it did before. -/
theorem State.rd_arrived (s : State) (m : Requester) (a : Nat) {b : Nat} (h : ¬ (0x41000000 ≤ b ∧ b < 0x42000000)) :
    (s.arrived m a).rd b = s.rd b := by
  have k := targetNo_lt a
  have n1 : b ≠ Reg.BMX_T_GRANTS (0x11 + targetNo a) := by unfold Reg.BMX_T_GRANTS; omega
  have n2 : b ≠ Reg.BMX_T_STATUS (0x11 + targetNo a) := by unfold Reg.BMX_T_STATUS; omega
  unfold State.arrived State.grantNow
  dsimp only
  refine field_ite (fun t => t.rd b) ?_ ?_
  · rw [State.rd_setFld, if_neg n2, State.rd_bump, if_neg n1]; rfl
  · rw [State.rd_bump, if_neg n1]; rfl

end Sys2Proof.Machine
end

