-- ==== Sys2Proof/Laws/Crc.lean ====
section
/-! SUPPORT. The CRC-32C of a list of bytes, and of blocks, fits 32 bits (R473). -/

set_option Elab.async false

namespace Sys2Proof.Machine

theorem crcBit_lt {poly c : Nat} (hp : poly < 2 ^ 32) (h : c < 2 ^ 32) : crcBit poly c < 2 ^ 32 := by
  unfold crcBit
  split
  · exact Nat.xor_lt_two_pow (by omega) hp
  · omega

theorem crcByte_lt {poly c : Nat} (b : Byte) (hp : poly < 2 ^ 32) (h : c < 2 ^ 32) : crcByte poly c b < 2 ^ 32 := by
  have hx : c ^^^ b.toNat < 2 ^ 32 := Nat.xor_lt_two_pow h (by have := b.isLt; omega)
  exact crcBit_lt hp (crcBit_lt hp (crcBit_lt hp (crcBit_lt hp (crcBit_lt hp (crcBit_lt hp (crcBit_lt hp (crcBit_lt hp hx)))))))

theorem crcFold_lt {poly : Nat} (hp : poly < 2 ^ 32) (l : List Byte) {c : Nat} (h : c < 2 ^ 32) : l.foldl (crcByte poly) c < 2 ^ 32 := by
  induction l generalizing c with
  | nil => exact h
  | cons b l ih => exact ih (crcByte_lt b hp h)

theorem crc32c_lt (l : List Byte) : crc32c l < 2 ^ 32 :=
  Nat.xor_lt_two_pow (crcFold_lt (by decide) l (by decide)) (by decide)

theorem blocksCrc_lt (l : List Nat) : blocksCrc l < 2 ^ 32 := crc32c_lt _

/-- The CRC field of a payload with the CRC at bits 47:16 above a low part reads the CRC. -/
theorem crcField {c low : Nat} (h : c < 2 ^ 32) (hl : low < 2 ^ 16) : (c * 2 ^ 16 + low) / 2 ^ 16 % 2 ^ 32 = c := by omega

end Sys2Proof.Machine
end

