-- ==== Sys2Proof/Laws/KeepOps.lean ====
section
/-! SUPPORT. Every operation of Machine/Ops.lean keeps a state tidy. -/

set_option Elab.async false

namespace Sys2Proof.Machine

set_option linter.unusedSimpArgs false

variable {Q : Base}

theorem State.wrN_tidy {s : State} {a : Nat} {v : Nat} (hs : s.Tidy Q) : State.Tidy Q (State.wrN s a v) := by
  unfold State.wrN
  repeat' first
    | with_reducible assumption
    | with_reducible first
      | refine State.wr_tidy ?_

theorem State.setFld_tidy {s : State} {a : Nat} {hi : Nat} {lo : Nat} {v : Nat} (hs : s.Tidy Q) : State.Tidy Q (State.setFld s a hi lo v) := by
  unfold State.setFld
  repeat' first
    | with_reducible assumption
    | with_reducible first
      | refine State.wr_tidy ?_

theorem State.setBit_tidy {s : State} {a : Nat} {n : Nat} {b : Bool} (hs : s.Tidy Q) : State.Tidy Q (State.setBit s a n b) := by
  unfold State.setBit
  repeat' first
    | with_reducible assumption
    | with_reducible first
      | refine State.wr_tidy ?_

theorem State.bumpBy_tidy {s : State} {a : Nat} {n : Nat} (hs : s.Tidy Q) : State.Tidy Q (State.bumpBy s a n) := by
  unfold State.bumpBy
  repeat' first
    | with_reducible assumption
    | with_reducible first
      | refine State.wrN_tidy ?_

theorem State.bump_tidy {s : State} {a : Nat} (hs : s.Tidy Q) : State.Tidy Q (State.bump s a) := by
  unfold State.bump
  repeat' first
    | with_reducible assumption
    | with_reducible first
      | refine State.bumpBy_tidy ?_

theorem State.bumpSat_tidy {s : State} {a : Nat} {hi : Nat} {lo : Nat} {n : Nat} (hs : s.Tidy Q) : State.Tidy Q (State.bumpSat s a hi lo n) := by
  unfold State.bumpSat
  repeat' first
    | with_reducible assumption
    | with_reducible first
      | refine State.setFld_tidy ?_

theorem State.keepMax_tidy {s : State} {a : Nat} {v : Nat} (hs : s.Tidy Q) : State.Tidy Q (State.keepMax s a v) := by
  unfold State.keepMax
  repeat' first
    | with_reducible assumption
    | with_reducible first
      | refine tidy_ite ?_ ?_
      | refine State.wrN_tidy ?_

theorem State.wr64_tidy {s : State} {lo : Nat} {hi : Nat} {v : Nat} (hs : s.Tidy Q) : State.Tidy Q (State.wr64 s lo hi v) := by
  unfold State.wr64
  repeat' first
    | with_reducible assumption
    | with_reducible first
      | refine State.wrN_tidy ?_

theorem State.wrWords_tidy {a : Nat} : ∀ {l : List Nat} {s : State}, s.Tidy Q → (s.wrWords a l).Tidy Q
  | [], _, h => h
  | _ :: l, _, h => State.wrWords_tidy (l := l) (State.wrN_tidy h)

theorem State.wrBytes_tidy {a : Nat} : ∀ {l : List Byte} {s : State}, s.Tidy Q → (s.wrBytes a l).Tidy Q
  | [], _, h => h
  | _ :: l, _, h => State.wrBytes_tidy (l := l) (State.wrByte_tidy h)

theorem State.drawn_tidy {s : State} (hs : s.Tidy Q) : State.Tidy Q (State.drawn s) := by
  unfold State.drawn
  repeat' first
    | with_reducible assumption
    | ((try lift_lets); intro t; first | (refine tidy_have (Q := Q) (t := t) ?_ (fun _ => ?_); rotate_left; clear_value t; rotate_left; unfold t; clear t) | clear_value t)
    | simp only [↓tidy_mk_iff, ↓tidy_parts_iff]

theorem State.atEpoch_tidy {s : State} {o : Option Nat} {f : Nat → State} (hf : ∀ E, (f E).Tidy Q) (hs : s.Tidy Q) : State.Tidy Q (State.atEpoch s o f) := by
  unfold State.atEpoch
  split
  · exact hf _
  · exact hs

theorem State.send_tidy {s : State} {x : Sent} (hs : s.Tidy Q) : State.Tidy Q (State.send s x) := by
  unfold State.send
  repeat' first
    | with_reducible assumption
    | ((try lift_lets); intro t; first | (refine tidy_have (Q := Q) (t := t) ?_ (fun _ => ?_); rotate_left; clear_value t; rotate_left; unfold t; clear t) | clear_value t)
    | simp only [↓tidy_mk_iff, ↓tidy_parts_iff]

theorem State.notifyVector_tidy {s : State} {v : Nat} (hs : s.Tidy Q) : State.Tidy Q (State.notifyVector s v) := by
  unfold State.notifyVector
  repeat' first
    | with_reducible assumption
    | with_reducible first
      | refine tidy_ite ?_ ?_
      | refine State.send_tidy ?_
      | refine State.setBit_tidy ?_

theorem State.stick_tidy {s : State} {p : Nat} {n : Nat} (hs : s.Tidy Q) : State.Tidy Q (State.stick s p n) := by
  unfold State.stick
  repeat' first
    | with_reducible assumption
    | ((try lift_lets); intro t; first | (refine tidy_have (Q := Q) (t := t) ?_ (fun _ => ?_); rotate_left; clear_value t; rotate_left; unfold t; clear t) | clear_value t)
    | with_reducible first
      | refine tidy_ite ?_ ?_
      | refine State.notifyVector_tidy ?_
      | refine State.setBit_tidy ?_
    | split

theorem State.plicLatch_tidy {s : State} (hs : s.Tidy Q) : State.Tidy Q (State.plicLatch s) := by
  unfold State.plicLatch
  repeat' first
    | with_reducible assumption
    | ((try lift_lets); intro t; first | (refine tidy_have (Q := Q) (t := t) ?_ (fun _ => ?_); rotate_left; clear_value t; rotate_left; unfold t; clear t) | clear_value t)
    | simp only [↓tidy_mk_iff, ↓tidy_parts_iff]

theorem State.setCur_tidy {s : State} {p : Nat} {c : Nat} (hs : s.Tidy Q) : State.Tidy Q (State.setCur s p c) := by
  unfold State.setCur
  repeat' first
    | with_reducible assumption
    | ((try lift_lets); intro t; first | (refine tidy_have (Q := Q) (t := t) ?_ (fun _ => ?_); rotate_left; clear_value t; rotate_left; unfold t; clear t) | clear_value t)
    | with_reducible first
      | refine tidy_ite ?_ ?_
      | refine State.setFld_tidy ?_
      | refine State.stick_tidy ?_

theorem State.setShadow_tidy {s : State} {p : Nat} {st : Nat} (hs : s.Tidy Q) : State.Tidy Q (State.setShadow s p st) := by
  unfold State.setShadow
  repeat' first
    | with_reducible assumption
    | with_reducible first
      | refine State.setFld_tidy ?_

theorem State.watermark_tidy {s : State} {a : Nat} {level : Nat} {mark : Nat} {hyst : Nat} (hs : s.Tidy Q) : State.Tidy Q (State.watermark s a level mark hyst) := by
  unfold State.watermark
  repeat' first
    | with_reducible assumption
    | with_reducible first
      | refine tidy_ite ?_ ?_
      | refine State.bumpSat_tidy ?_
      | refine State.setBit_tidy ?_
      | refine State.stick_tidy ?_

theorem State.watermarkIf_tidy {s : State} {a : Nat} {cond : Bool} (hs : s.Tidy Q) : State.Tidy Q (State.watermarkIf s a cond) := by
  unfold State.watermarkIf
  repeat' first
    | with_reducible assumption
    | with_reducible first
      | refine tidy_ite ?_ ?_
      | refine State.bumpSat_tidy ?_
      | refine State.setBit_tidy ?_
      | refine State.stick_tidy ?_

end Sys2Proof.Machine
end

