-- ==== Sys2Proof/Laws/KeepFlags.lean ====
section
/-! SUPPORT. Every operation of Machine/Flags.lean keeps a state tidy. -/

set_option Elab.async false

namespace Sys2Proof.Machine

set_option linter.unusedSimpArgs false

variable {Q : Base}

theorem State.ringMark_tidy {s : State} (hs : s.Tidy Q) : State.Tidy Q (State.ringMark s) := by
  unfold State.ringMark
  repeat' first
    | with_reducible assumption
    | with_reducible first
      | refine State.watermark_tidy ?_

theorem State.noteRaise_tidy {s : State} {src : Nat} (hs : s.Tidy Q) : State.Tidy Q (State.noteRaise s src) := by
  unfold State.noteRaise
  repeat' first
    | with_reducible assumption
    | ((try lift_lets); intro t; first | (refine tidy_have (Q := Q) (t := t) ?_ (fun _ => ?_); rotate_left; clear_value t; rotate_left; unfold t; clear t) | clear_value t)
    | with_reducible first
      | refine tidy_ite ?_ ?_
      | refine State.bump_tidy ?_
      | refine State.setFld_tidy ?_
      | refine State.stick_tidy ?_
      | refine State.wrN_tidy ?_

theorem State.ringPut_tidy {s : State} (hs : s.Tidy Q) : State.Tidy Q (State.ringPut s) := by
  unfold State.ringPut
  repeat' first
    | with_reducible assumption
    | ((try lift_lets); intro t; first | (refine tidy_have (Q := Q) (t := t) ?_ (fun _ => ?_); rotate_left; clear_value t; rotate_left; unfold t; clear t) | clear_value t)
    | with_reducible first
      | refine tidy_ite ?_ ?_
      | refine State.bump_tidy ?_
      | refine State.noteRaise_tidy ?_
      | refine State.ringMark_tidy ?_
      | refine State.setBit_tidy ?_
      | refine State.wrBytes_tidy ?_
    | simp only [↓tidy_mk_iff, ↓tidy_parts_iff]

theorem State.stormCount_tidy {s : State} (hs : s.Tidy Q) : State.Tidy Q (State.stormCount s) := by
  unfold State.stormCount
  repeat' first
    | with_reducible assumption
    | ((try lift_lets); intro t; first | (refine tidy_have (Q := Q) (t := t) ?_ (fun _ => ?_); rotate_left; clear_value t; rotate_left; unfold t; clear t) | clear_value t)
    | with_reducible first
      | refine tidy_ite ?_ ?_
      | refine State.bump_tidy ?_
      | refine State.noteRaise_tidy ?_
    | simp only [↓tidy_mk_iff, ↓tidy_parts_iff]

theorem State.closeRecord_tidy {s : State} (hs : s.Tidy Q) : State.Tidy Q (State.closeRecord s) := by
  unfold State.closeRecord
  repeat' first
    | with_reducible assumption
    | ((try lift_lets); intro t; first | (refine tidy_have (Q := Q) (t := t) ?_ (fun _ => ?_); rotate_left; clear_value t; rotate_left; unfold t; clear t) | clear_value t)
    | with_reducible first
      | refine State.bump_tidy ?_
      | refine State.ringPut_tidy ?_
      | refine State.stormCount_tidy ?_
    | simp only [↓tidy_mk_iff, ↓tidy_parts_iff]

theorem State.createRecord_tidy {s : State} {src : Nat} {sev : Nat} {forced : Bool} {late : Bool} (hs : s.Tidy Q) : State.Tidy Q (State.createRecord s src sev forced late) := by
  unfold State.createRecord
  repeat' first
    | with_reducible assumption
    | ((try lift_lets); intro t; first | (refine tidy_have (Q := Q) (t := t) ?_ (fun _ => ?_); rotate_left; clear_value t; rotate_left; unfold t; clear t) | clear_value t)
    | with_reducible first
      | refine tidy_ite ?_ ?_
      | refine State.stick_tidy ?_
      | refine State.wrWords_tidy ?_
    | simp only [↓tidy_mk_iff, ↓tidy_parts_iff]

theorem State.orWord_tidy {s : State} {a : Nat} {v : Nat} (hs : s.Tidy Q) : State.Tidy Q (State.orWord s a v) := by
  unfold State.orWord
  repeat' first
    | with_reducible assumption
    | with_reducible first
      | refine State.wrN_tidy ?_

theorem State.mergeRecord_tidy {s : State} {src : Nat} {sev : Nat} {forced : Bool} (hs : s.Tidy Q) : State.Tidy Q (State.mergeRecord s src sev forced) := by
  unfold State.mergeRecord
  repeat' first
    | with_reducible assumption
    | ((try lift_lets); intro t; first | (refine tidy_have (Q := Q) (t := t) ?_ (fun _ => ?_); rotate_left; clear_value t; rotate_left; unfold t; clear t) | clear_value t)
    | with_reducible first
      | refine tidy_ite ?_ ?_
      | refine State.bumpSat_tidy ?_
      | refine State.bump_tidy ?_
      | refine State.noteRaise_tidy ?_
      | refine State.orWord_tidy ?_
      | refine State.setFld_tidy ?_
    | simp only [↓tidy_mk_iff, ↓tidy_parts_iff]
    | split

theorem State.deferCut_tidy {s : State} (hs : s.Tidy Q) : State.Tidy Q (State.deferCut s) := by
  unfold State.deferCut
  repeat' first
    | with_reducible assumption
    | ((try lift_lets); intro t; first | (refine tidy_have (Q := Q) (t := t) ?_ (fun _ => ?_); rotate_left; clear_value t; rotate_left; unfold t; clear t) | clear_value t)
    | with_reducible first
      | refine tidy_ite ?_ ?_
      | refine State.wrN_tidy ?_
    | simp only [↓tidy_mk_iff, ↓tidy_parts_iff]

theorem State.trigger_tidy {s : State} {code : Nat} {always : Bool} (hs : s.Tidy Q) : Tidy1 Q (State.trigger s code always) := by
  unfold State.trigger
  repeat' first
    | with_reducible assumption
    | ((try lift_lets); intro t; first | (refine tidy_have (Q := Q) (t := t) ?_ (fun _ => ?_); rotate_left; clear_value t; rotate_left; unfold t; clear t) | clear_value t)
    | with_reducible first
      | refine tidy1_ite ?_ ?_
      | refine tidy_ite ?_ ?_
      | refine State.bump_tidy ?_
      | refine State.deferCut_tidy ?_
      | refine State.send_tidy ?_
      | refine State.setBit_tidy ?_
      | refine State.setFld_tidy ?_
      | refine State.wrN_tidy ?_
      | refine tidyO_getD ?_ ?_
    | simp only [↓tidy1_pair_iff]
    | simp only [↓tidy_mk_iff, ↓tidy_parts_iff]
    | split

theorem State.recordCut_tidy {s : State} (hs : s.Tidy Q) : State.Tidy Q (State.recordCut s) := by
  unfold State.recordCut
  repeat' first
    | with_reducible assumption
    | ((try lift_lets); intro t; first | (refine tidy_have (Q := Q) (t := t) ?_ (fun _ => ?_); rotate_left; clear_value t; rotate_left; unfold t; clear t) | (refine tidy1_have (Q := Q) (t := t) ?_ (fun _ => ?_); rotate_left; clear_value t; rotate_left; unfold t; clear t) | clear_value t)
    | with_reducible first
      | refine tidy_ite ?_ ?_
      | refine State.setFld_tidy ?_
      | refine State.trigger_tidy ?_
      | refine tidy1_st ?_
    | simp only [↓tidy1_pair_iff]
    | simp only [↓tidy_mk_iff, ↓tidy_parts_iff]

theorem State.reach_tidy {s : State} {src : Nat} {forced : Bool} {late : Bool} {cut : Bool} (hs : s.Tidy Q) : Tidy1 Q (State.reach s src forced late cut) := by
  unfold State.reach
  repeat' first
    | with_reducible assumption
    | ((try lift_lets); intro t; first | (refine tidy_have (Q := Q) (t := t) ?_ (fun _ => ?_); rotate_left; clear_value t; rotate_left; unfold t; clear t) | (refine tidy1_have (Q := Q) (t := t) ?_ (fun _ => ?_); rotate_left; clear_value t; rotate_left; unfold t; clear t) | clear_value t)
    | with_reducible first
      | refine tidy1_ite ?_ ?_
      | refine tidy_ite ?_ ?_
      | refine State.closeRecord_tidy ?_
      | refine State.createRecord_tidy ?_
      | refine State.mergeRecord_tidy ?_
      | refine State.recordCut_tidy ?_
      | refine State.trigger_tidy ?_
    | simp only [↓tidy1_pair_iff]

theorem State.raiseAs_tidy {s : State} {src : Nat} {forced : Bool} (hs : s.Tidy Q) : State.Tidy Q (State.raiseAs s src forced) := by
  unfold State.raiseAs
  repeat' first
    | with_reducible assumption
    | ((try lift_lets); intro t; first | (refine tidy_have (Q := Q) (t := t) ?_ (fun _ => ?_); rotate_left; clear_value t; rotate_left; unfold t; clear t) | (refine tidy1_have (Q := Q) (t := t) ?_ (fun _ => ?_); rotate_left; clear_value t; rotate_left; unfold t; clear t) | clear_value t)
    | with_reducible first
      | refine tidy_ite ?_ ?_
      | refine State.noteRaise_tidy ?_
      | refine State.reach_tidy ?_
      | refine tidy1_st ?_
    | simp only [↓tidy1_pair_iff]
    | simp only [↓tidy_mk_iff, ↓tidy_parts_iff]

theorem State.raise_tidy {s : State} {src : Nat} (hs : s.Tidy Q) : State.Tidy Q (State.raise s src) := by
  unfold State.raise
  repeat' first
    | with_reducible assumption
    | with_reducible first
      | refine State.raiseAs_tidy ?_

theorem State.raiseAll_tidy {s : State} {l : List Nat} (hs : s.Tidy Q) : State.Tidy Q (State.raiseAll s l) := by
  unfold State.raiseAll
  repeat' first
    | with_reducible assumption
    | with_reducible first
      | refine tidy_foldl (fun _ _ _ => ?_) ?_
      | refine tidy1_foldl (fun _ _ _ => ?_) ?_
      | refine State.raise_tidy ?_

theorem State.raiseIf_tidy {s : State} {c : Bool} {src : Nat} (hs : s.Tidy Q) : State.Tidy Q (State.raiseIf s c src) := by
  unfold State.raiseIf
  repeat' first
    | with_reducible assumption
    | with_reducible first
      | refine tidy_ite ?_ ?_
      | refine State.raise_tidy ?_

theorem State.snapshot_tidy {s : State} {code : Nat} {always : Bool} (hs : s.Tidy Q) : State.Tidy Q (State.snapshot s code always) := by
  unfold State.snapshot
  repeat' first
    | with_reducible assumption
    | ((try lift_lets); intro t; first | (refine tidy_have (Q := Q) (t := t) ?_ (fun _ => ?_); rotate_left; clear_value t; rotate_left; unfold t; clear t) | (refine tidy1_have (Q := Q) (t := t) ?_ (fun _ => ?_); rotate_left; clear_value t; rotate_left; unfold t; clear t) | clear_value t)
    | with_reducible first
      | refine tidy_ite ?_ ?_
      | refine State.raise_tidy ?_
      | refine State.trigger_tidy ?_
      | refine tidy1_st ?_
    | simp only [↓tidy1_pair_iff]

theorem State.watermarkRaise_tidy {s : State} {a : Nat} {level : Nat} {mark : Nat} {hyst : Nat} {src : Nat} (hs : s.Tidy Q) : State.Tidy Q (State.watermarkRaise s a level mark hyst src) := by
  unfold State.watermarkRaise
  repeat' first
    | with_reducible assumption
    | ((try lift_lets); intro t; first | (refine tidy_have (Q := Q) (t := t) ?_ (fun _ => ?_); rotate_left; clear_value t; rotate_left; unfold t; clear t) | clear_value t)
    | with_reducible first
      | refine tidy_ite ?_ ?_
      | refine State.raise_tidy ?_
      | refine State.watermark_tidy ?_

end Sys2Proof.Machine
end

