-- ==== Sys2Proof/Laws/KeepSlots.lean ====
section
/-! SUPPORT. Every operation of Machine/Slots.lean keeps a state tidy. -/

set_option Elab.async false

namespace Sys2Proof.Machine

set_option linter.unusedSimpArgs false

variable {Q : Base}

theorem State.fstCheck_tidy {s : State} (hs : s.Tidy Q) : Tidy1 Q (State.fstCheck s) := by
  unfold State.fstCheck
  repeat' first
    | with_reducible assumption
    | ((try lift_lets); intro t; first | (refine tidy_have (Q := Q) (t := t) ?_ (fun _ => ?_); rotate_left; clear_value t; rotate_left; unfold t; clear t) | clear_value t)
    | with_reducible first
      | refine tidy1_ite ?_ ?_
      | refine tidy_ite ?_ ?_
      | refine State.raise_tidy ?_
      | refine State.wrN_tidy ?_
      | refine tidy1_st ?_
    | simp only [↓tidy1_pair_iff]

end Sys2Proof.Machine
end

