-- ==== Sys2Proof/Laws/KeepLoads.lean ====
section
/-! SUPPORT. Every operation of Machine/Loads.lean keeps a state tidy. -/

set_option Elab.async false

namespace Sys2Proof.Machine

set_option linter.unusedSimpArgs false

variable {Q : Base}

theorem State.setEngine_tidy {s : State} {e : Nat} {x : EngineRun} (hs : s.Tidy Q) : State.Tidy Q (State.setEngine s e x) := by
  unfold State.setEngine
  repeat' first
    | with_reducible assumption
    | ((try lift_lets); intro t; first | (refine tidy_have (Q := Q) (t := t) ?_ (fun _ => ?_); rotate_left; clear_value t; rotate_left; unfold t; clear t) | clear_value t)
    | simp only [↓tidy_mk_iff, ↓tidy_parts_iff]

end Sys2Proof.Machine
end

