-- ==== Sys2Proof/Laws/KeepRefs.lean ====
section
/-! SUPPORT. Every operation of Machine/Refs.lean keeps a state tidy. -/

set_option Elab.async false

namespace Sys2Proof.Machine

set_option linter.unusedSimpArgs false

variable {Q : Base}

theorem State.setCand_tidy {s : State} {c : Nat} {x : RefCand} (hs : s.Tidy Q) : State.Tidy Q (State.setCand s c x) := by
  unfold State.setCand
  repeat' first
    | with_reducible assumption
    | ((try lift_lets); intro t; first | (refine tidy_have (Q := Q) (t := t) ?_ (fun _ => ?_); rotate_left; clear_value t; rotate_left; unfold t; clear t) | clear_value t)
    | simp only [↓tidy_mk_iff, ↓tidy_parts_iff]

end Sys2Proof.Machine
end

