-- ==== Sys2Proof/Laws/KeepAccess.lean ====
section
/-! SUPPORT. Every operation of Machine/Access.lean keeps a state tidy. -/

set_option Elab.async false

namespace Sys2Proof.Machine

set_option linter.unusedSimpArgs false

variable {Q : Base}

theorem State.reply_tidy {s : State} {r : Resp} (hs : s.Tidy Q) : State.Tidy Q (State.reply s r) := by
  unfold State.reply
  repeat' first
    | with_reducible assumption
    | ((try lift_lets); intro t; first | (refine tidy_have (Q := Q) (t := t) ?_ (fun _ => ?_); rotate_left; clear_value t; rotate_left; unfold t; clear t) | clear_value t)
    | simp only [↓tidy_mk_iff, ↓tidy_parts_iff]

theorem State.pageRecord_tidy {s : State} {p : Nat} {o : Nat} {m : Requester} {r : Resp} (hs : s.Tidy Q) : State.Tidy Q (State.pageRecord s p o m r) := by
  unfold State.pageRecord
  repeat' first
    | with_reducible assumption
    | ((try lift_lets); intro t; first | (refine tidy_have (Q := Q) (t := t) ?_ (fun _ => ?_); rotate_left; clear_value t; rotate_left; unfold t; clear t) | clear_value t)
    | with_reducible first
      | refine State.bumpSat_tidy ?_
      | refine State.setFld_tidy ?_
      | refine State.stick_tidy ?_

theorem State.refuseState_tidy {s : State} {m : Requester} {a : Nat} (hs : s.Tidy Q) : State.Tidy Q (State.refuseState s m a) := by
  unfold State.refuseState
  repeat' first
    | with_reducible assumption
    | with_reducible first
      | refine State.pageRecord_tidy ?_
      | refine State.reply_tidy ?_

theorem State.raiseOpt_tidy {s : State} {src : Option Nat} (hs : s.Tidy Q) : State.Tidy Q (State.raiseOpt s src) := by
  unfold State.raiseOpt
  repeat' first
    | with_reducible assumption
    | ((try lift_lets); intro t; first | (refine tidy_have (Q := Q) (t := t) ?_ (fun _ => ?_); rotate_left; clear_value t; rotate_left; unfold t; clear t) | clear_value t)
    | with_reducible first
      | refine State.raise_tidy ?_
    | split

theorem State.refuseRun_tidy {s : State} {m : Requester} {a : Nat} (hs : s.Tidy Q) : State.Tidy Q (State.refuseRun s m a) := by
  unfold State.refuseRun
  repeat' first
    | with_reducible assumption
    | with_reducible first
      | refine State.raiseOpt_tidy ?_
      | refine State.refuseState_tidy ?_
      | refine State.stick_tidy ?_

theorem State.refuseLocked_tidy {s : State} {m : Requester} {a : Nat} (hs : s.Tidy Q) : State.Tidy Q (State.refuseLocked s m a) := by
  unfold State.refuseLocked
  repeat' first
    | with_reducible assumption
    | with_reducible first
      | refine State.pageRecord_tidy ?_
      | refine State.raiseOpt_tidy ?_
      | refine State.reply_tidy ?_
      | refine State.stick_tidy ?_

theorem State.busRecord_tidy {s : State} {m : Requester} {a : Nat} {r : Resp} {reason : Nat} {write : Bool} (hs : s.Tidy Q) : State.Tidy Q (State.busRecord s m a r reason write) := by
  unfold State.busRecord
  repeat' first
    | with_reducible assumption
    | ((try lift_lets); intro t; first | (refine tidy_have (Q := Q) (t := t) ?_ (fun _ => ?_); rotate_left; clear_value t; rotate_left; unfold t; clear t) | clear_value t)
    | with_reducible first
      | refine State.bump_tidy ?_
      | refine State.raise_tidy ?_
      | refine State.wrN_tidy ?_
    | split

theorem State.dropResv_tidy {s : State} {h : Nat} (hs : s.Tidy Q) : State.Tidy Q (State.dropResv s h) := by
  unfold State.dropResv
  repeat' first
    | with_reducible assumption
    | ((try lift_lets); intro t; first | (refine tidy_have (Q := Q) (t := t) ?_ (fun _ => ?_); rotate_left; clear_value t; rotate_left; unfold t; clear t) | clear_value t)
    | with_reducible first
      | refine tidy1_st ?_
    | simp only [↓tidy1_pair_iff]
    | simp only [↓tidy_mk_iff, ↓tidy_parts_iff]

theorem State.coreFault_tidy {s : State} {m : Requester} {a : Nat} {code : Nat} {reason : Nat} {kind : TxnKind} (hs : s.Tidy Q) : State.Tidy Q (State.coreFault s m a code reason kind) := by
  unfold State.coreFault
  repeat' first
    | with_reducible assumption
    | ((try lift_lets); intro t; first | (refine tidy_have (Q := Q) (t := t) ?_ (fun _ => ?_); rotate_left; clear_value t; rotate_left; unfold t; clear t) | clear_value t)
    | with_reducible first
      | refine tidy_ite ?_ ?_
      | refine State.bump_tidy ?_
      | refine State.dropResv_tidy ?_
      | refine State.raise_tidy ?_
      | refine State.wrN_tidy ?_

theorem State.deny_tidy {s : State} {m : Requester} {a : Nat} {len : Nat} {kind : TxnKind} {data : Nat} {r : Resp} {reason : Nat} (hs : s.Tidy Q) : State.Tidy Q (State.deny s m a len kind data r reason) := by
  unfold State.deny
  repeat' first
    | with_reducible assumption
    | ((try lift_lets); intro t; first | (refine tidy_have (Q := Q) (t := t) ?_ (fun _ => ?_); rotate_left; clear_value t; rotate_left; unfold t; clear t) | clear_value t)
    | with_reducible first
      | refine tidy_ite ?_ ?_
      | refine State.bump_tidy ?_
      | refine State.busRecord_tidy ?_
      | refine State.coreFault_tidy ?_
      | refine State.pageRecord_tidy ?_
      | refine State.raise_tidy ?_
      | refine tidy1_st ?_
    | simp only [↓tidy1_pair_iff]
    | simp only [↓tidy_mk_iff, ↓tidy_parts_iff]
    | split

theorem State.settle_tidy {s : State} {m : Requester} {a : Nat} {kind : TxnKind} (hs : s.Tidy Q) : State.Tidy Q (State.settle s m a kind) := by
  unfold State.settle
  repeat' first
    | with_reducible assumption
    | with_reducible first
      | refine tidy_ite ?_ ?_
      | refine State.bump_tidy ?_
      | refine State.coreFault_tidy ?_

theorem State.grantNow_tidy {s : State} {m : Requester} {a : Nat} (hs : s.Tidy Q) : State.Tidy Q (State.grantNow s m a) := by
  unfold State.grantNow
  repeat' first
    | with_reducible assumption
    | ((try lift_lets); intro t; first | (refine tidy_have (Q := Q) (t := t) ?_ (fun _ => ?_); rotate_left; clear_value t; rotate_left; unfold t; clear t) | clear_value t)
    | with_reducible first
      | refine tidy_ite ?_ ?_
      | refine State.bump_tidy ?_
      | refine State.setFld_tidy ?_

theorem State.accessWord_tidy {s : State} {m : Requester} {a : Nat} {kind : TxnKind} {data : Nat} {f : State → State} (hs : s.Tidy Q) (hf : ∀ x, x.Tidy Q → (f x).Tidy Q) : State.Tidy Q (State.accessWord s m a kind data f) := by
  unfold State.accessWord
  repeat' first
    | with_reducible assumption
    | ((try lift_lets); intro t; first | (refine tidy_have (Q := Q) (t := t) ?_ (fun _ => ?_); rotate_left; clear_value t; rotate_left; unfold t; clear t) | clear_value t)
    | with_reducible first
      | refine tidy_ite ?_ ?_
      | refine State.deny_tidy ?_
      | refine State.grantNow_tidy ?_
      | refine State.refuseState_tidy ?_
      | refine State.settle_tidy ?_
      | refine tidy1_st ?_
      | refine hf _ ?_
    | simp only [↓tidy1_pair_iff]
    | simp only [↓tidy_mk_iff, ↓tidy_parts_iff]
    | split

theorem State.writeAccess_tidy {s : State} {m : Requester} {a : Nat} {v : Nat} {f : State → State} (hs : s.Tidy Q) (hf : ∀ x, x.Tidy Q → (f x).Tidy Q) : State.Tidy Q (State.writeAccess s m a v f) := by
  unfold State.writeAccess
  repeat' first
    | with_reducible assumption
    | with_reducible first
      | refine State.accessWord_tidy ?_ (fun _ _ => ?_)
      | refine hf _ ?_

theorem State.readAccess_tidy {s : State} {m : Requester} {a : Nat} {f : State → State} (hs : s.Tidy Q) (hf : ∀ x, x.Tidy Q → (f x).Tidy Q) : State.Tidy Q (State.readAccess s m a f) := by
  unfold State.readAccess
  repeat' first
    | with_reducible assumption
    | with_reducible first
      | refine State.accessWord_tidy ?_ (fun _ _ => ?_)
      | refine hf _ ?_

theorem State.withData_tidy {s : State} {v : Nat} (hs : s.Tidy Q) : State.Tidy Q (State.withData s v) := by
  unfold State.withData
  repeat' first
    | with_reducible assumption
    | ((try lift_lets); intro t; first | (refine tidy_have (Q := Q) (t := t) ?_ (fun _ => ?_); rotate_left; clear_value t; rotate_left; unfold t; clear t) | clear_value t)
    | simp only [↓tidy_mk_iff, ↓tidy_parts_iff]

theorem State.writeRow_tidy {s : State} {m : Requester} {a : Nat} {v : Nat} {hw : Nat} {r : RegRow} (hs : s.Tidy Q) : State.Tidy Q (State.writeRow s m a v hw r) := by
  unfold State.writeRow
  repeat' first
    | with_reducible assumption
    | ((try lift_lets); intro t; first | (refine tidy_have (Q := Q) (t := t) ?_ (fun _ => ?_); rotate_left; clear_value t; rotate_left; unfold t; clear t) | clear_value t)
    | with_reducible first
      | refine tidy_ite ?_ ?_
      | refine State.refuseLocked_tidy ?_
      | refine State.refuseRun_tidy ?_
      | refine State.wrN_tidy ?_
      | refine State.wr_tidy ?_
    | split

theorem State.writeShadow_tidy {s : State} {m : Requester} {a : Nat} {v : Nat} (hs : s.Tidy Q) : State.Tidy Q (State.writeShadow s m a v) := by
  unfold State.writeShadow
  repeat' first
    | with_reducible assumption
    | ((try lift_lets); intro t; first | (refine tidy_have (Q := Q) (t := t) ?_ (fun _ => ?_); rotate_left; clear_value t; rotate_left; unfold t; clear t) | clear_value t)
    | with_reducible first
      | refine tidy_ite ?_ ?_
      | refine State.refuseState_tidy ?_
      | refine State.setShadow_tidy ?_
      | refine State.stick_tidy ?_
      | refine State.wr_tidy ?_
    | split

theorem State.clearSticky_tidy {s : State} {p : Nat} {v : Nat} {hw : Nat} (hs : s.Tidy Q) : State.Tidy Q (State.clearSticky s p v hw) := by
  unfold State.clearSticky
  repeat' first
    | with_reducible assumption
    | ((try lift_lets); intro t; first | (refine tidy_have (Q := Q) (t := t) ?_ (fun _ => ?_); rotate_left; clear_value t; rotate_left; unfold t; clear t) | clear_value t)
    | with_reducible first
      | refine tidy_ite ?_ ?_
      | refine State.plicLatch_tidy ?_
      | refine State.setFld_tidy ?_
      | refine State.wrN_tidy ?_

theorem State.writeIrqEn_tidy {s : State} {p : Nat} {v : Nat} (hs : s.Tidy Q) : State.Tidy Q (State.writeIrqEn s p v) := by
  unfold State.writeIrqEn
  repeat' first
    | with_reducible assumption
    | ((try lift_lets); intro t; first | (refine tidy_have (Q := Q) (t := t) ?_ (fun _ => ?_); rotate_left; clear_value t; rotate_left; unfold t; clear t) | clear_value t)
    | with_reducible first
      | refine tidy_ite ?_ ?_
      | refine State.notifyVector_tidy ?_
      | refine State.plicLatch_tidy ?_
      | refine State.wrN_tidy ?_
    | split

theorem State.writeLock_tidy {s : State} {p : Nat} {v : Nat} (hs : s.Tidy Q) : State.Tidy Q (State.writeLock s p v) := by
  unfold State.writeLock
  repeat' first
    | with_reducible assumption
    | with_reducible first
      | refine State.orWord_tidy ?_

theorem State.writeForce_tidy {s : State} {p : Nat} {v : Nat} (hs : s.Tidy Q) : State.Tidy Q (State.writeForce s p v) := by
  unfold State.writeForce
  repeat' first
    | with_reducible assumption
    | with_reducible first
      | refine tidy_foldl (fun _ _ _ => ?_) ?_
      | refine tidy1_foldl (fun _ _ _ => ?_) ?_
      | refine State.raiseAs_tidy ?_

theorem State.writeWatermark_tidy {s : State} {a : Nat} {v : Nat} {hw : Nat} (hs : s.Tidy Q) : State.Tidy Q (State.writeWatermark s a v hw) := by
  unfold State.writeWatermark
  repeat' first
    | with_reducible assumption
    | ((try lift_lets); intro t; first | (refine tidy_have (Q := Q) (t := t) ?_ (fun _ => ?_); rotate_left; clear_value t; rotate_left; unfold t; clear t) | clear_value t)
    | with_reducible first
      | refine tidy_ite ?_ ?_
      | refine State.setFld_tidy ?_
      | refine State.wrN_tidy ?_

end Sys2Proof.Machine
end

