-- ==== Sys2Proof/Laws/KeepControl.lean ====
section
/-! SUPPORT. Every operation of Machine/Control.lean keeps a state tidy. -/

set_option Elab.async false

namespace Sys2Proof.Machine

set_option linter.unusedSimpArgs false

variable {Q : Base}

theorem State.startHart_tidy {s : State} {h : Nat} (hs : s.Tidy Q) : State.Tidy Q (State.startHart s h) := by
  unfold State.startHart
  repeat' first
    | with_reducible assumption
    | ((try lift_lets); intro t; first | (refine tidy_have (Q := Q) (t := t) ?_ (fun _ => ?_); rotate_left; clear_value t; rotate_left; unfold t; clear t) | clear_value t)
    | with_reducible first
      | refine State.dropResv_tidy ?_
      | refine State.setBit_tidy ?_
      | refine State.setFld_tidy ?_
    | simp only [↓tidy_mk_iff, ↓tidy_parts_iff]

theorem State.startReleased_tidy {s : State} (hs : s.Tidy Q) : State.Tidy Q (State.startReleased s) := by
  unfold State.startReleased
  repeat' first
    | with_reducible assumption
    | with_reducible first
      | refine tidy_ite ?_ ?_
      | refine tidy_foldl (fun _ _ _ => ?_) ?_
      | refine tidy1_foldl (fun _ _ _ => ?_) ?_
      | refine State.startHart_tidy ?_

theorem State.orphanTxns_tidy {s : State} {p : Nat → Bool} (hs : s.Tidy Q) : State.Tidy Q (State.orphanTxns s p) := by
  unfold State.orphanTxns
  repeat' first
    | with_reducible assumption
    | ((try lift_lets); intro t; first | (refine tidy_have (Q := Q) (t := t) ?_ (fun _ => ?_); rotate_left; clear_value t; rotate_left; unfold t; clear t) | clear_value t)
    | with_reducible first
      | refine tidy1_st ?_
    | simp only [↓tidy1_pair_iff]
    | simp only [↓tidy_mk_iff, ↓tidy_parts_iff]

theorem State.warmRestart_tidy {s : State} {cause : Nat} (hs : s.Tidy Q) : State.Tidy Q (State.warmRestart s cause) := by
  unfold State.warmRestart
  repeat' first
    | with_reducible assumption
    | ((try lift_lets); intro t; first | (refine tidy_have (Q := Q) (t := t) ?_ (fun _ => ?_); rotate_left; clear_value t; rotate_left; unfold t; clear t) | clear_value t)
    | with_reducible first
      | refine State.bumpSat_tidy ?_
      | refine State.orphanTxns_tidy ?_
      | refine State.setBit_tidy ?_
      | refine State.startReleased_tidy ?_
    | simp only [↓tidy_mk_iff, ↓tidy_parts_iff]

theorem execCpcRestartAll_tidy {m : Requester} {s : State} (hs : s.Tidy Q) : TidyOut Q (execCpcRestartAll m s) := by
  unfold execCpcRestartAll
  repeat' first
    | with_reducible assumption
    | with_reducible first
      | refine tidyOut_next ?_
      | refine State.warmRestart_tidy ?_
      | refine State.writeAccess_tidy ?_ (fun _ _ => ?_)

theorem State.restartHart_tidy {s : State} {h : Nat} (hs : s.Tidy Q) : State.Tidy Q (State.restartHart s h) := by
  unfold State.restartHart
  repeat' first
    | with_reducible assumption
    | with_reducible first
      | refine tidy_ite ?_ ?_
      | refine State.orphanTxns_tidy ?_
      | refine State.startHart_tidy ?_

theorem execHartRestart_tidy {m : Requester} {h : Nat} {s : State} (hs : s.Tidy Q) : TidyOut Q (execHartRestart m h s) := by
  unfold execHartRestart
  repeat' first
    | with_reducible assumption
    | with_reducible first
      | refine tidyOut_next ?_
      | refine State.restartHart_tidy ?_
      | refine State.writeAccess_tidy ?_ (fun _ _ => ?_)

theorem State.nmiHart_tidy {s : State} {h : Nat} (hs : s.Tidy Q) : State.Tidy Q (State.nmiHart s h) := by
  unfold State.nmiHart
  repeat' first
    | with_reducible assumption
    | ((try lift_lets); intro t; first | (refine tidy_have (Q := Q) (t := t) ?_ (fun _ => ?_); rotate_left; clear_value t; rotate_left; unfold t; clear t) | clear_value t)
    | with_reducible first
      | refine tidy_ite ?_ ?_
      | refine State.dropResv_tidy ?_
      | refine State.setFld_tidy ?_
    | simp only [↓tidy_mk_iff, ↓tidy_parts_iff]

theorem execHartNmi_tidy {m : Requester} {h : Nat} {s : State} (hs : s.Tidy Q) : TidyOut Q (execHartNmi m h s) := by
  unfold execHartNmi
  repeat' first
    | with_reducible assumption
    | with_reducible first
      | refine tidyOut_next ?_
      | refine State.nmiHart_tidy ?_
      | refine State.writeAccess_tidy ?_ (fun _ _ => ?_)

theorem State.kickWdt_tidy {s : State} (hs : s.Tidy Q) : State.Tidy Q (State.kickWdt s) := by
  unfold State.kickWdt
  repeat' first
    | with_reducible assumption
    | ((try lift_lets); intro t; first | (refine tidy_have (Q := Q) (t := t) ?_ (fun _ => ?_); rotate_left; clear_value t; rotate_left; unfold t; clear t) | clear_value t)
    | simp only [↓tidy_mk_iff, ↓tidy_parts_iff]

theorem execWdtKick_tidy {m : Requester} {v : Nat} {s : State} (hs : s.Tidy Q) : TidyOut Q (execWdtKick m v s) := by
  unfold execWdtKick
  repeat' first
    | with_reducible assumption
    | with_reducible first
      | refine tidyOut_next ?_
      | refine State.kickWdt_tidy ?_
      | refine State.writeAccess_tidy ?_ (fun _ _ => ?_)

theorem State.wdtExpire_tidy {s : State} (hs : s.Tidy Q) : State.Tidy Q (State.wdtExpire s) := by
  unfold State.wdtExpire
  repeat' first
    | with_reducible assumption
    | with_reducible first
      | refine tidy_ite ?_ ?_
      | refine State.raise_tidy ?_
      | refine State.warmRestart_tidy ?_

theorem execWdtExpire_tidy {s : State} (hs : s.Tidy Q) : TidyOut Q (execWdtExpire s) := by
  unfold execWdtExpire
  repeat' first
    | with_reducible assumption
    | with_reducible first
      | refine tidyOut_next ?_
      | refine State.wdtExpire_tidy ?_

theorem State.plicClaim_tidy {s : State} {c : Nat} (hs : s.Tidy Q) : State.Tidy Q (State.plicClaim s c) := by
  unfold State.plicClaim
  repeat' first
    | with_reducible assumption
    | ((try lift_lets); intro t; first | (refine tidy_have (Q := Q) (t := t) ?_ (fun _ => ?_); rotate_left; clear_value t; rotate_left; unfold t; clear t) | clear_value t)
    | with_reducible first
      | refine tidy_ite ?_ ?_
      | refine State.withData_tidy ?_
    | simp only [↓tidy_mk_iff, ↓tidy_parts_iff]

theorem execPlicClaim_tidy {m : Requester} {c : Nat} {s : State} (hs : s.Tidy Q) : TidyOut Q (execPlicClaim m c s) := by
  unfold execPlicClaim
  repeat' first
    | with_reducible assumption
    | with_reducible first
      | refine tidyOut_next ?_
      | refine State.plicClaim_tidy ?_
      | refine State.readAccess_tidy ?_ (fun _ _ => ?_)

theorem State.plicComplete_tidy {s : State} {c : Nat} {n : Nat} (hs : s.Tidy Q) : State.Tidy Q (State.plicComplete s c n) := by
  unfold State.plicComplete
  repeat' first
    | with_reducible assumption
    | ((try lift_lets); intro t; first | (refine tidy_have (Q := Q) (t := t) ?_ (fun _ => ?_); rotate_left; clear_value t; rotate_left; unfold t; clear t) | clear_value t)
    | with_reducible first
      | refine tidy_ite ?_ ?_
    | simp only [↓tidy_mk_iff, ↓tidy_parts_iff]

theorem execPlicComplete_tidy {m : Requester} {c : Nat} {n : Nat} {s : State} (hs : s.Tidy Q) : TidyOut Q (execPlicComplete m c n s) := by
  unfold execPlicComplete
  repeat' first
    | with_reducible assumption
    | with_reducible first
      | refine tidyOut_next ?_
      | refine State.plicComplete_tidy ?_
      | refine State.writeAccess_tidy ?_ (fun _ _ => ?_)

theorem State.mtimecmpMatch_tidy {s : State} {h : Nat} (hs : s.Tidy Q) : State.Tidy Q (State.mtimecmpMatch s h) := by
  unfold State.mtimecmpMatch
  repeat' first
    | with_reducible assumption
    | with_reducible first
      | refine tidy_ite ?_ ?_
      | refine State.setFld_tidy ?_
    | simp only [↓tidy_mk_iff, ↓tidy_parts_iff]

theorem execMtimecmpMatch_tidy {h : Nat} {s : State} (hs : s.Tidy Q) : TidyOut Q (execMtimecmpMatch h s) := by
  unfold execMtimecmpMatch
  repeat' first
    | with_reducible assumption
    | with_reducible first
      | refine tidyOut_next ?_
      | refine State.mtimecmpMatch_tidy ?_

theorem State.mtimecmpSet_tidy {s : State} {h : Nat} (hs : s.Tidy Q) : State.Tidy Q (State.mtimecmpSet s h) := by
  unfold State.mtimecmpSet
  repeat' first
    | with_reducible assumption
    | ((try lift_lets); intro t; first | (refine tidy_have (Q := Q) (t := t) ?_ (fun _ => ?_); rotate_left; clear_value t; rotate_left; unfold t; clear t) | clear_value t)
    | simp only [↓tidy_mk_iff, ↓tidy_parts_iff]

theorem State.mboxWrite_tidy {s : State} {n : Nat} {v : Nat} (hs : s.Tidy Q) : State.Tidy Q (State.mboxWrite s n v) := by
  unfold State.mboxWrite
  repeat' first
    | with_reducible assumption
    | with_reducible first
      | refine State.plicLatch_tidy ?_
      | refine State.wrN_tidy ?_

theorem execMboxWrite_tidy {m : Requester} {n : Nat} {v : Nat} {s : State} (hs : s.Tidy Q) : TidyOut Q (execMboxWrite m n v s) := by
  unfold execMboxWrite
  repeat' first
    | with_reducible assumption
    | with_reducible first
      | refine tidyOut_next ?_
      | refine State.mboxWrite_tidy ?_
      | refine State.writeAccess_tidy ?_ (fun _ _ => ?_)

theorem State.sramEcc_tidy {s : State} {o : Nat} {e : Ecc} (hs : s.Tidy Q) : State.Tidy Q (State.sramEcc s o e) := by
  unfold State.sramEcc
  repeat' first
    | with_reducible assumption
    | ((try lift_lets); intro t; first | (refine tidy_have (Q := Q) (t := t) ?_ (fun _ => ?_); rotate_left; clear_value t; rotate_left; unfold t; clear t) | clear_value t)
    | with_reducible first
      | refine State.bump_tidy ?_
      | refine State.raise_tidy ?_
      | refine State.wrN_tidy ?_
    | split

theorem State.sramScrub_tidy {s : State} {e : Ecc} (hs : s.Tidy Q) : State.Tidy Q (State.sramScrub s e) := by
  unfold State.sramScrub
  repeat' first
    | with_reducible assumption
    | ((try lift_lets); intro t; first | (refine tidy_have (Q := Q) (t := t) ?_ (fun _ => ?_); rotate_left; clear_value t; rotate_left; unfold t; clear t) | clear_value t)
    | with_reducible first
      | refine tidy_ite ?_ ?_
      | refine State.sramEcc_tidy ?_
    | simp only [↓tidy_mk_iff, ↓tidy_parts_iff]

theorem execSramScrub_tidy {e : Ecc} {s : State} (hs : s.Tidy Q) : TidyOut Q (execSramScrub e s) := by
  unfold execSramScrub
  repeat' first
    | with_reducible assumption
    | with_reducible first
      | refine tidyOut_next ?_
      | refine State.sramScrub_tidy ?_

end Sys2Proof.Machine
end

