-- ==== Sys2Proof/Laws/KeepKeys.lean ====
section
/-! SUPPORT. Every operation of Machine/Keys.lean keeps a state tidy. -/

set_option Elab.async false

namespace Sys2Proof.Machine

set_option linter.unusedSimpArgs false

variable {Q : Base}

theorem State.storeSlot_tidy {s : State} {n : Nat} {key : List Byte} {usage : Nat} {origin : Nat} (hs : s.Tidy Q) : State.Tidy Q (State.storeSlot s n key usage origin) := by
  unfold State.storeSlot
  repeat' first
    | with_reducible assumption
    | ((try lift_lets); intro t; first | (refine tidy_have (Q := Q) (t := t) ?_ (fun _ => ?_); rotate_left; clear_value t; rotate_left; unfold t; clear t) | (refine tidy_keep t ?_; unfold t; clear t) | clear_value t)
    | with_reducible first
      | refine State.bump_tidy ?_
      | refine State.setBit_tidy ?_
      | refine State.wrN_tidy ?_
    | simp only [↓tidy_mk_iff, ↓tidy_parts_iff]

theorem State.emptySlot_tidy {s : State} {n : Nat} (hs : s.Tidy Q) : State.Tidy Q (State.emptySlot s n) := by
  unfold State.emptySlot
  repeat' first
    | with_reducible assumption
    | ((try lift_lets); intro t; first | (refine tidy_have (Q := Q) (t := t) ?_ (fun _ => ?_); rotate_left; clear_value t; rotate_left; unfold t; clear t) | (refine tidy_keep t ?_; unfold t; clear t) | clear_value t)
    | with_reducible first
      | refine State.setBit_tidy ?_
      | refine State.wrN_tidy ?_
    | simp only [↓tidy_mk_iff, ↓tidy_parts_iff]

theorem State.badSlot_tidy {s : State} {n : Nat} (hs : s.Tidy Q) : State.Tidy Q (State.badSlot s n) := by
  unfold State.badSlot
  repeat' first
    | with_reducible assumption
    | ((try lift_lets); intro t; first | (refine tidy_have (Q := Q) (t := t) ?_ (fun _ => ?_); rotate_left; clear_value t; rotate_left; unfold t; clear t) | clear_value t)
    | with_reducible first
      | refine State.bump_tidy ?_
      | refine State.raise_tidy ?_
      | refine State.setBit_tidy ?_
      | refine State.setFld_tidy ?_

theorem State.zeroStage_tidy {s : State} (hs : s.Tidy Q) : State.Tidy Q (State.zeroStage s) := by
  unfold State.zeroStage
  repeat' first
    | with_reducible assumption
    | with_reducible first
      | refine tidy_foldl (fun _ _ _ => ?_) ?_
      | refine tidy1_foldl (fun _ _ _ => ?_) ?_
      | refine State.wrN_tidy ?_

theorem State.slotResult_tidy {s : State} {code : Nat} {n : Nat} (hs : s.Tidy Q) : State.Tidy Q (State.slotResult s code n) := by
  unfold State.slotResult
  repeat' first
    | with_reducible assumption
    | with_reducible first
      | refine State.wrN_tidy ?_

theorem State.slotWrite_tidy {s : State} {m : Requester} {n : Nat} (hs : s.Tidy Q) : State.Tidy Q (State.slotWrite s m n) := by
  unfold State.slotWrite
  repeat' first
    | with_reducible assumption
    | ((try lift_lets); intro t; first | (refine tidy_have (Q := Q) (t := t) ?_ (fun _ => ?_); rotate_left; clear_value t; rotate_left; unfold t; clear t) | clear_value t)
    | with_reducible first
      | refine tidy_ite ?_ ?_
      | refine State.refuseLocked_tidy ?_
      | refine State.refuseState_tidy ?_
      | refine State.slotResult_tidy ?_
      | refine State.storeSlot_tidy ?_
      | refine State.zeroStage_tidy ?_

theorem execSlotWrite_tidy {m : Requester} {slot : Nat} {s : State} (hs : s.Tidy Q) : TidyOut Q (execSlotWrite m slot s) := by
  unfold execSlotWrite
  repeat' first
    | with_reducible assumption
    | with_reducible first
      | refine tidyOut_next ?_
      | refine State.slotWrite_tidy ?_
      | refine State.writeAccess_tidy ?_ (fun _ _ => ?_)

theorem State.slotClear_tidy {s : State} {m : Requester} {n : Nat} (hs : s.Tidy Q) : State.Tidy Q (State.slotClear s m n) := by
  unfold State.slotClear
  repeat' first
    | with_reducible assumption
    | with_reducible first
      | refine tidy_ite ?_ ?_
      | refine State.emptySlot_tidy ?_
      | refine State.refuseLocked_tidy ?_
      | refine State.refuseState_tidy ?_
      | refine State.slotResult_tidy ?_

theorem execSlotClear_tidy {m : Requester} {slot : Nat} {s : State} (hs : s.Tidy Q) : TidyOut Q (execSlotClear m slot s) := by
  unfold execSlotClear
  repeat' first
    | with_reducible assumption
    | with_reducible first
      | refine tidyOut_next ?_
      | refine State.slotClear_tidy ?_
      | refine State.writeAccess_tidy ?_ (fun _ _ => ?_)

theorem State.slotLock_tidy {s : State} {m : Requester} {n : Nat} (hs : s.Tidy Q) : State.Tidy Q (State.slotLock s m n) := by
  unfold State.slotLock
  repeat' first
    | with_reducible assumption
    | ((try lift_lets); intro t; first | (refine tidy_have (Q := Q) (t := t) ?_ (fun _ => ?_); rotate_left; clear_value t; rotate_left; unfold t; clear t) | (refine tidy_keep t ?_; unfold t; clear t) | clear_value t)
    | with_reducible first
      | refine tidy_ite ?_ ?_
      | refine State.refuseState_tidy ?_
      | refine State.setBit_tidy ?_
      | refine State.slotResult_tidy ?_
    | simp only [↓tidy_mk_iff, ↓tidy_parts_iff]

theorem execSlotLock_tidy {m : Requester} {slot : Nat} {s : State} (hs : s.Tidy Q) : TidyOut Q (execSlotLock m slot s) := by
  unfold execSlotLock
  repeat' first
    | with_reducible assumption
    | with_reducible first
      | refine tidyOut_next ?_
      | refine State.slotLock_tidy ?_
      | refine State.writeAccess_tidy ?_ (fun _ _ => ?_)

theorem State.fuseCommand_tidy {s : State} {m : Requester} {op : FuseOp} (hs : s.Tidy Q) : State.Tidy Q (State.fuseCommand s m op) := by
  unfold State.fuseCommand
  repeat' first
    | with_reducible assumption
    | ((try lift_lets); intro t; first | (refine tidy_have (Q := Q) (t := t) ?_ (fun _ => ?_); rotate_left; clear_value t; rotate_left; unfold t; clear t) | (refine tidy_keep t ?_; unfold t; clear t) | clear_value t)
    | with_reducible first
      | refine tidy_ite ?_ ?_
      | refine State.refuseLocked_tidy ?_
      | refine State.refuseState_tidy ?_
      | refine State.setBit_tidy ?_
    | simp only [↓tidy_mk_iff, ↓tidy_parts_iff]
    | split

theorem execLcAdvance_tidy {m : Requester} {s : State} (hs : s.Tidy Q) : TidyOut Q (execLcAdvance m s) := by
  unfold execLcAdvance
  repeat' first
    | with_reducible assumption
    | with_reducible first
      | refine tidyOut_next ?_
      | refine State.fuseCommand_tidy ?_
      | refine State.writeAccess_tidy ?_ (fun _ _ => ?_)

theorem execSvnInc_tidy {m : Requester} {s : State} (hs : s.Tidy Q) : TidyOut Q (execSvnInc m s) := by
  unfold execSvnInc
  repeat' first
    | with_reducible assumption
    | with_reducible first
      | refine tidyOut_next ?_
      | refine State.fuseCommand_tidy ?_
      | refine State.writeAccess_tidy ?_ (fun _ _ => ?_)

theorem execRevoke0_tidy {m : Requester} {s : State} (hs : s.Tidy Q) : TidyOut Q (execRevoke0 m s) := by
  unfold execRevoke0
  repeat' first
    | with_reducible assumption
    | with_reducible first
      | refine tidyOut_next ?_
      | refine State.fuseCommand_tidy ?_
      | refine State.writeAccess_tidy ?_ (fun _ _ => ?_)

theorem execRevoke1_tidy {m : Requester} {s : State} (hs : s.Tidy Q) : TidyOut Q (execRevoke1 m s) := by
  unfold execRevoke1
  repeat' first
    | with_reducible assumption
    | with_reducible first
      | refine tidyOut_next ?_
      | refine State.fuseCommand_tidy ?_
      | refine State.writeAccess_tidy ?_ (fun _ _ => ?_)

theorem fuseAfter_from {f g : Fuses} (op : FuseOp) (h : f.From g) : f.From (fuseAfter g op) := by
  obtain ⟨h1, h2, h3, h4, h5, h6⟩ := h
  unfold Fuses.From
  cases op <;> simp only [fuseAfter] <;> refine ⟨?_, ?_, ?_, ?_, ?_, ?_⟩ <;> first | omega | assumption | simp

theorem State.fuseDone_tidy {s : State} (hs : s.Tidy Q) : State.Tidy Q (State.fuseDone s) := by
  unfold State.fuseDone
  split
  · exact hs
  · exact State.setBit_tidy (tidy_mk (tidy_fuses hs (fuseAfter_from _)))

theorem execFuseProgDone_tidy {s : State} (hs : s.Tidy Q) : TidyOut Q (execFuseProgDone s) := by
  unfold execFuseProgDone
  repeat' first
    | with_reducible assumption
    | with_reducible first
      | refine tidyOut_next ?_
      | refine State.fuseDone_tidy ?_

theorem State.engineCommand_tidy {s : State} {m : Requester} {c : Nat} {op : Nat} {phase : Nat} (hs : s.Tidy Q) : State.Tidy Q (State.engineCommand s m c op phase) := by
  unfold State.engineCommand
  repeat' first
    | with_reducible assumption
    | ((try lift_lets); intro t; first | (refine tidy_have (Q := Q) (t := t) ?_ (fun _ => ?_); rotate_left; clear_value t; rotate_left; unfold t; clear t) | (refine tidy_keep t ?_; unfold t; clear t) | clear_value t)
    | with_reducible first
      | refine tidy_ite ?_ ?_
      | refine State.refuseState_tidy ?_
      | refine State.wrN_tidy ?_
    | simp only [↓tidy_mk_iff, ↓tidy_parts_iff]
    | split

theorem execKsuSha384_tidy {m : Requester} {c : Nat} {phase : Nat} {s : State} (hs : s.Tidy Q) : TidyOut Q (execKsuSha384 m c phase s) := by
  unfold execKsuSha384
  repeat' first
    | with_reducible assumption
    | with_reducible first
      | refine tidyOut_next ?_
      | refine State.engineCommand_tidy ?_
      | refine State.writeAccess_tidy ?_ (fun _ _ => ?_)

theorem execKsuHmac_tidy {m : Requester} {c : Nat} {phase : Nat} {s : State} (hs : s.Tidy Q) : TidyOut Q (execKsuHmac m c phase s) := by
  unfold execKsuHmac
  repeat' first
    | with_reducible assumption
    | with_reducible first
      | refine tidyOut_next ?_
      | refine State.engineCommand_tidy ?_
      | refine State.writeAccess_tidy ?_ (fun _ _ => ?_)

theorem execKsuKdf_tidy {m : Requester} {c : Nat} {s : State} (hs : s.Tidy Q) : TidyOut Q (execKsuKdf m c s) := by
  unfold execKsuKdf
  repeat' first
    | with_reducible assumption
    | with_reducible first
      | refine tidyOut_next ?_
      | refine State.engineCommand_tidy ?_
      | refine State.writeAccess_tidy ?_ (fun _ _ => ?_)

theorem execKsuGcmEncrypt_tidy {m : Requester} {c : Nat} {s : State} (hs : s.Tidy Q) : TidyOut Q (execKsuGcmEncrypt m c s) := by
  unfold execKsuGcmEncrypt
  repeat' first
    | with_reducible assumption
    | with_reducible first
      | refine tidyOut_next ?_
      | refine State.engineCommand_tidy ?_
      | refine State.writeAccess_tidy ?_ (fun _ _ => ?_)

theorem execKsuGcmDecrypt_tidy {m : Requester} {c : Nat} {s : State} (hs : s.Tidy Q) : TidyOut Q (execKsuGcmDecrypt m c s) := by
  unfold execKsuGcmDecrypt
  repeat' first
    | with_reducible assumption
    | with_reducible first
      | refine tidyOut_next ?_
      | refine State.engineCommand_tidy ?_
      | refine State.writeAccess_tidy ?_ (fun _ _ => ?_)

theorem execKsuEcdsaSign_tidy {m : Requester} {c : Nat} {s : State} (hs : s.Tidy Q) : TidyOut Q (execKsuEcdsaSign m c s) := by
  unfold execKsuEcdsaSign
  repeat' first
    | with_reducible assumption
    | with_reducible first
      | refine tidyOut_next ?_
      | refine State.engineCommand_tidy ?_
      | refine State.writeAccess_tidy ?_ (fun _ _ => ?_)

theorem execKsuEcdsaVerify_tidy {m : Requester} {c : Nat} {s : State} (hs : s.Tidy Q) : TidyOut Q (execKsuEcdsaVerify m c s) := by
  unfold execKsuEcdsaVerify
  repeat' first
    | with_reducible assumption
    | with_reducible first
      | refine tidyOut_next ?_
      | refine State.engineCommand_tidy ?_
      | refine State.writeAccess_tidy ?_ (fun _ _ => ?_)

theorem execKsuEcdh_tidy {m : Requester} {c : Nat} {s : State} (hs : s.Tidy Q) : TidyOut Q (execKsuEcdh m c s) := by
  unfold execKsuEcdh
  repeat' first
    | with_reducible assumption
    | with_reducible first
      | refine tidyOut_next ?_
      | refine State.engineCommand_tidy ?_
      | refine State.writeAccess_tidy ?_ (fun _ _ => ?_)

theorem execKsuGenerate_tidy {m : Requester} {c : Nat} {s : State} (hs : s.Tidy Q) : TidyOut Q (execKsuGenerate m c s) := by
  unfold execKsuGenerate
  repeat' first
    | with_reducible assumption
    | with_reducible first
      | refine tidyOut_next ?_
      | refine State.engineCommand_tidy ?_
      | refine State.writeAccess_tidy ?_ (fun _ _ => ?_)

theorem State.bufWrite_tidy {s : State} {c : Nat} {l : List Byte} (hs : s.Tidy Q) : State.Tidy Q (State.bufWrite s c l) := by
  unfold State.bufWrite
  repeat' first
    | with_reducible assumption
    | with_reducible first
      | refine State.wrWords_tidy ?_

theorem State.engineEnd_tidy {s : State} {c : Nat} {us : Nat} {r : EngineResult} (hs : s.Tidy Q) : State.Tidy Q (State.engineEnd s c us r) := by
  unfold State.engineEnd
  repeat' first
    | with_reducible assumption
    | ((try lift_lets); intro t; first | (refine tidy_have (Q := Q) (t := t) ?_ (fun _ => ?_); rotate_left; clear_value t; rotate_left; unfold t; clear t) | clear_value t)
    | with_reducible first
      | refine tidy_ite ?_ ?_
      | refine State.bufWrite_tidy ?_
      | refine State.bump_tidy ?_
      | refine State.raise_tidy ?_
      | refine State.wrN_tidy ?_

theorem State.hashOp_tidy {s : State} {c : Nat} {us : Nat} {phase : Nat} {f : List Byte → Nat} (hs : s.Tidy Q) : State.Tidy Q (State.hashOp s c us phase f) := by
  unfold State.hashOp
  repeat' first
    | with_reducible assumption
    | ((try lift_lets); intro t; first | (refine tidy_have (Q := Q) (t := t) ?_ (fun _ => ?_); rotate_left; clear_value t; rotate_left; unfold t; clear t) | (refine tidy_keep t ?_; unfold t; clear t) | clear_value t)
    | with_reducible first
      | refine tidy_ite ?_ ?_
      | refine State.engineEnd_tidy ?_
      | refine State.wr64_tidy ?_
      | refine tidyO_getD ?_ ?_
    | simp only [↓tidy_mk_iff, ↓tidy_parts_iff]

theorem State.engineRun_tidy {s : State} {x : EngineOp} {us : Nat} (hs : s.Tidy Q) : State.Tidy Q (State.engineRun s x us) := by
  unfold State.engineRun
  repeat' first
    | with_reducible assumption
    | ((try lift_lets); intro t; first | (refine tidy_have (Q := Q) (t := t) ?_ (fun _ => ?_); rotate_left; clear_value t; rotate_left; unfold t; clear t) | (refine tidyG_have (Q := Q) (t := t) (fun _ _ _ => ?_) (fun _ => ?_); rotate_left; clear_value t; rotate_left; unfold t; clear t) | (refine tidyE_have (Q := Q) (t := t) (fun _ _ => ?_) (fun _ => ?_); rotate_left; clear_value t; rotate_left; unfold t; clear t) | (refine tidyF_have (Q := Q) (t := t) (fun _ => ?_) (fun _ => ?_); rotate_left; clear_value t; rotate_left; unfold t; clear t) | clear_value t)
    | with_reducible first
      | refine tidy_ite ?_ ?_
      | refine tidy_foldl (fun _ _ _ => ?_) ?_
      | refine tidy1_foldl (fun _ _ _ => ?_) ?_
      | refine State.drawn_tidy ?_
      | refine State.engineEnd_tidy ?_
      | refine State.hashOp_tidy ?_
      | refine State.storeSlot_tidy ?_
      | refine State.wrN_tidy ?_
      | refine tidy1_st ?_
      | refine tidyG_use (by assumption) ?_
      | refine tidyF_use (by assumption)
      | refine tidyE_use (by assumption) ?_
    | simp only [↓tidy1_pair_iff]
    | split

theorem State.engineNext_tidy {s : State} (hs : s.Tidy Q) : State.Tidy Q (State.engineNext s) := by
  unfold State.engineNext
  repeat' first
    | with_reducible assumption
    | ((try lift_lets); intro t; first | (refine tidy_have (Q := Q) (t := t) ?_ (fun _ => ?_); rotate_left; clear_value t; rotate_left; unfold t; clear t) | (refine tidy_keep t ?_; unfold t; clear t) | clear_value t)
    | simp only [↓tidy_mk_iff, ↓tidy_parts_iff]
    | split

theorem State.engineDone_tidy {s : State} {us : Nat} {tagBad : Bool} (hs : s.Tidy Q) : State.Tidy Q (State.engineDone s us tagBad) := by
  unfold State.engineDone
  repeat' first
    | with_reducible assumption
    | ((try lift_lets); intro t; first | (refine tidy_have (Q := Q) (t := t) ?_ (fun _ => ?_); rotate_left; clear_value t; rotate_left; unfold t; clear t) | clear_value t)
    | with_reducible first
      | refine tidy_ite ?_ ?_
      | refine State.badSlot_tidy ?_
      | refine State.engineNext_tidy ?_
      | refine State.engineRun_tidy ?_
    | split

theorem execKsuOpDone_tidy {us : Nat} {tagBad : Bool} {s : State} (hs : s.Tidy Q) : TidyOut Q (execKsuOpDone us tagBad s) := by
  unfold execKsuOpDone
  repeat' first
    | with_reducible assumption
    | with_reducible first
      | refine tidyOut_next ?_
      | refine State.engineDone_tidy ?_

theorem State.trngFail_tidy {s : State} (hs : s.Tidy Q) : State.Tidy Q (State.trngFail s) := by
  unfold State.trngFail
  repeat' first
    | with_reducible assumption
    | ((try lift_lets); intro t; first | (refine tidy_have (Q := Q) (t := t) ?_ (fun _ => ?_); rotate_left; clear_value t; rotate_left; unfold t; clear t) | (refine tidy_keep t ?_; unfold t; clear t) | clear_value t)
    | with_reducible first
      | refine State.bumpSat_tidy ?_
      | refine State.raise_tidy ?_
      | refine State.setBit_tidy ?_
    | simp only [↓tidy_mk_iff, ↓tidy_parts_iff]

theorem execTrngHealthFail_tidy {s : State} (hs : s.Tidy Q) : TidyOut Q (execTrngHealthFail s) := by
  unfold execTrngHealthFail
  repeat' first
    | with_reducible assumption
    | with_reducible first
      | refine tidyOut_next ?_
      | refine State.trngFail_tidy ?_

end Sys2Proof.Machine
end

