-- ==== Sys2Proof/Laws/KeepBoot.lean ====
section
/-! SUPPORT. Every operation of Machine/Boot.lean keeps a state tidy. -/

set_option Elab.async false

namespace Sys2Proof.Machine

set_option linter.unusedSimpArgs false

variable {Q : Base}

theorem State.coldReset_tidy {s : State} {glitchLog : Nat} (hq : ∀ n, Q.clock n) (hs : s.Tidy Q) : State.Tidy Q (State.coldReset s glitchLog) :=
  State.wrN_tidy (tidy_mk ⟨hs.1, rfl, scanon_filter _ hs.2.2.1, rfl, by decide, hs.2.2.2.2.2.1, hq _⟩)

theorem State.powerOn_tidy {s : State} (hq : ∀ n, Q.clock n) (hs : s.Tidy Q) : State.Tidy Q (State.powerOn s) := by
  unfold State.powerOn
  repeat' first
    | with_reducible assumption
    | with_reducible first
      | refine State.coldReset_tidy hq ?_

theorem execPowerOnReset_tidy {s : State} (hq : ∀ n, Q.clock n) (hs : s.Tidy Q) : TidyOut Q (execPowerOnReset s) := by
  unfold execPowerOnReset
  repeat' first
    | with_reducible assumption
    | with_reducible first
      | refine tidyOut_next ?_
      | refine State.powerOn_tidy hq ?_

theorem execColdReset_tidy {lowNs : Nat} {s : State} (hq : ∀ n, Q.clock n) (hs : s.Tidy Q) : TidyOut Q (execColdReset lowNs s) := by
  unfold execColdReset
  repeat' first
    | with_reducible assumption
    | with_reducible first
      | refine tidy_ite ?_ ?_
      | refine tidyOut_next ?_
      | refine State.coldReset_tidy hq ?_

theorem State.glitchTrip_tidy {s : State} {die : Nat} {step : Bool} {level : Bool} (hq : ∀ n, Q.clock n) (hs : s.Tidy Q) : State.Tidy Q (State.glitchTrip s die step level) := by
  unfold State.glitchTrip
  repeat' first
    | with_reducible assumption
    | with_reducible first
      | refine State.coldReset_tidy hq ?_

theorem execGlitchTrip_tidy {die : Nat} {step : Bool} {level : Bool} {s : State} (hq : ∀ n, Q.clock n) (hs : s.Tidy Q) : TidyOut Q (execGlitchTrip die step level s) := by
  unfold execGlitchTrip
  repeat' first
    | with_reducible assumption
    | with_reducible first
      | refine tidyOut_next ?_
      | refine State.glitchTrip_tidy hq ?_

theorem State.readFuses_tidy {s : State} (hs : s.Tidy Q) : State.Tidy Q (State.readFuses s) := by
  unfold State.readFuses
  repeat' first
    | with_reducible assumption
    | ((try lift_lets); intro t; first | (refine tidy_have (Q := Q) (t := t) ?_ (fun _ => ?_); rotate_left; clear_value t; rotate_left; unfold t; clear t) | (refine tidy_keep t ?_; unfold t; clear t) | clear_value t)
    | with_reducible first
      | refine tidy_ite ?_ ?_
      | refine State.drawn_tidy ?_
      | refine State.setBit_tidy ?_
      | refine State.wr64_tidy ?_
      | refine State.wrN_tidy ?_
    | simp only [↓tidy_mk_iff, ↓tidy_parts_iff]

theorem State.stage_tidy {s : State} {code : Nat} {reason : Nat} (hs : s.Tidy Q) : State.Tidy Q (State.stage s code reason) := by
  unfold State.stage
  repeat' first
    | with_reducible assumption
    | with_reducible first
      | refine State.wrN_tidy ?_

theorem State.haltBoot_tidy {s : State} {reason : Nat} (hs : s.Tidy Q) : State.Tidy Q (State.haltBoot s reason) := by
  unfold State.haltBoot
  repeat' first
    | with_reducible assumption
    | ((try lift_lets); intro t; first | (refine tidy_have (Q := Q) (t := t) ?_ (fun _ => ?_); rotate_left; clear_value t; rotate_left; unfold t; clear t) | (refine tidy_keep t ?_; unfold t; clear t) | clear_value t)
    | with_reducible first
      | refine State.setBit_tidy ?_
      | refine State.stage_tidy ?_
    | simp only [↓tidy_mk_iff, ↓tidy_parts_iff]

theorem foldl_sput_canon {β : Type} {f : List Host.Cell → β → List Host.Cell} (hf : ∀ l x, Tcm.wf l = true → Tcm.wf (f l x) = true) :
    ∀ {xs : List β} {l : List Host.Cell}, Tcm.wf l = true → Tcm.wf (xs.foldl f l) = true
  | [], _, h => h
  | x :: xs, _, h => foldl_sput_canon hf (xs := xs) (hf _ x h)

theorem State.bootBank_tidy {s : State} {o : Nat} {code : Nat} {reason : Nat} (hs : s.Tidy Q) : State.Tidy Q (State.bootBank s o code reason) :=
  State.stage_tidy (State.setFld_tidy (tidy_mk (tidy_tcm hs (foldl_sput_canon (fun _ _ => scanon_sput _ _)))))

theorem State.bootRom_tidy {s : State} {flashOk : Bool} (hs : s.Tidy Q) : State.Tidy Q (State.bootRom s flashOk) := by
  unfold State.bootRom
  repeat' first
    | with_reducible assumption
    | with_reducible first
      | refine tidy_ite ?_ ?_
      | refine State.bootBank_tidy ?_
      | refine State.haltBoot_tidy ?_
      | refine State.raiseIf_tidy ?_
      | refine State.readFuses_tidy ?_
      | refine State.setBit_tidy ?_
      | refine State.setFld_tidy ?_
    | simp only [↓tidy_mk_iff, ↓tidy_parts_iff]

theorem execBootRom_tidy {flashOk : Bool} {s : State} (hs : s.Tidy Q) : TidyOut Q (execBootRom flashOk s) := by
  unfold execBootRom
  repeat' first
    | with_reducible assumption
    | with_reducible first
      | refine tidyOut_next ?_
      | refine State.bootRom_tidy ?_

theorem State.writeWB_tidy {s : State} {m : Requester} {a : Nat} {f : State → State} (hs : s.Tidy Q) (hf : ∀ x, x.Tidy Q → (f x).Tidy Q) : State.Tidy Q (State.writeWB s m a f) := by
  unfold State.writeWB
  repeat' first
    | with_reducible assumption
    | with_reducible first
      | refine tidy_ite ?_ ?_
      | refine State.refuseLocked_tidy ?_
      | refine hf _ ?_

theorem State.seal_tidy {s : State} {m : Requester} {v : Nat} (hs : s.Tidy Q) : State.Tidy Q (State.seal s m v) := by
  unfold State.seal
  repeat' first
    | with_reducible assumption
    | with_reducible first
      | refine tidy_ite ?_ ?_
      | refine State.setBit_tidy ?_
      | refine State.stage_tidy ?_
      | refine State.wrN_tidy ?_
      | refine State.writeWB_tidy ?_ (fun _ _ => ?_)

theorem execPmapSeal_tidy {m : Requester} {v : Nat} {s : State} (hs : s.Tidy Q) : TidyOut Q (execPmapSeal m v s) := by
  unfold execPmapSeal
  repeat' first
    | with_reducible assumption
    | with_reducible first
      | refine tidyOut_next ?_
      | refine State.seal_tidy ?_
      | refine State.writeAccess_tidy ?_ (fun _ _ => ?_)

theorem State.writeMap_tidy {s : State} {m : Requester} {a : Nat} {v : Nat} (hs : s.Tidy Q) : State.Tidy Q (State.writeMap s m a v) := by
  unfold State.writeMap
  repeat' first
    | with_reducible assumption
    | with_reducible first
      | refine State.wrN_tidy ?_
      | refine State.writeWB_tidy ?_ (fun _ _ => ?_)

theorem execPmapWrite_tidy {m : Requester} {n : Nat} {v : Nat} {s : State} (hs : s.Tidy Q) : TidyOut Q (execPmapWrite m n v s) := by
  unfold execPmapWrite
  repeat' first
    | with_reducible assumption
    | with_reducible first
      | refine tidyOut_next ?_
      | refine State.writeAccess_tidy ?_ (fun _ _ => ?_)
      | refine State.writeMap_tidy ?_

theorem State.hartRun_tidy {s : State} {m : Requester} {v : Nat} (hs : s.Tidy Q) : State.Tidy Q (State.hartRun s m v) := by
  unfold State.hartRun
  repeat' first
    | with_reducible assumption
    | ((try lift_lets); intro t; first | (refine tidy_have (Q := Q) (t := t) ?_ (fun _ => ?_); rotate_left; clear_value t; rotate_left; unfold t; clear t) | (refine tidy_keep t ?_; unfold t; clear t) | clear_value t)
    | with_reducible first
      | refine tidy_ite ?_ ?_
      | refine tidy_foldl (fun _ _ _ => ?_) ?_
      | refine tidy1_foldl (fun _ _ _ => ?_) ?_
      | refine State.raise_tidy ?_
      | refine State.refuseState_tidy ?_
      | refine State.setBit_tidy ?_
      | refine State.stage_tidy ?_
      | refine State.startHart_tidy ?_
      | refine State.wrN_tidy ?_
    | simp only [↓tidy_mk_iff, ↓tidy_parts_iff]

theorem execHartRunWrite_tidy {m : Requester} {v : Nat} {s : State} (hs : s.Tidy Q) : TidyOut Q (execHartRunWrite m v s) := by
  unfold execHartRunWrite
  repeat' first
    | with_reducible assumption
    | with_reducible first
      | refine tidyOut_next ?_
      | refine State.hartRun_tidy ?_
      | refine State.writeAccess_tidy ?_ (fun _ _ => ?_)

theorem execJtagExtest_tidy {s : State} (hq : ∀ n, Q.clock n) (hs : s.Tidy Q) : TidyOut Q (execJtagExtest s) := by
  unfold execJtagExtest
  repeat' first
    | with_reducible assumption
    | ((try lift_lets); intro t; first | (refine tidy_have (Q := Q) (t := t) ?_ (fun _ => ?_); rotate_left; clear_value t; rotate_left; unfold t; clear t) | clear_value t)
    | with_reducible first
      | refine tidyOut_next ?_
      | refine State.coldReset_tidy hq ?_
    | simp only [↓tidy_mk_iff, ↓tidy_parts_iff]

theorem execJtagTestLogicReset_tidy {s : State} (hs : s.Tidy Q) : TidyOut Q (execJtagTestLogicReset s) := by
  unfold execJtagTestLogicReset
  repeat' first
    | with_reducible assumption
    | ((try lift_lets); intro t; first | (refine tidy_have (Q := Q) (t := t) ?_ (fun _ => ?_); rotate_left; clear_value t; rotate_left; unfold t; clear t) | clear_value t)
    | with_reducible first
      | refine tidyOut_next ?_
    | simp only [↓tidy_mk_iff, ↓tidy_parts_iff]

theorem execJtagDebug_tidy {s : State} (hs : s.Tidy Q) : TidyOut Q (execJtagDebug s) := by
  unfold execJtagDebug
  repeat' first
    | with_reducible assumption
    | ((try lift_lets); intro t; first | (refine tidy_have (Q := Q) (t := t) ?_ (fun _ => ?_); rotate_left; clear_value t; rotate_left; unfold t; clear t) | clear_value t)
    | with_reducible first
      | refine tidy_ite ?_ ?_
      | refine tidyOut_next ?_
    | simp only [↓tidy_mk_iff, ↓tidy_parts_iff]

theorem State.jtagFuse_tidy {s : State} {advance : Bool} {root hash0 uid : Nat} (hs : s.Tidy Q) : State.Tidy Q (State.jtagFuse s advance root hash0 uid) := by
  unfold State.jtagFuse
  refine tidy_ite (tidy_mk (tidy_fuses hs fun h => ?_)) (tidy_ite (tidy_mk (tidy_fuses hs fun h => ?_)) hs)
  · obtain ⟨h1, h2, h3, h4, h5, h6⟩ := h
    unfold Fuses.From
    cases advance <;> refine ⟨?_, ?_, ?_, ?_, ?_, ?_⟩ <;> first | assumption | (simp only [if_true]; omega)
  · obtain ⟨h1, h2, h3, h4, h5, h6⟩ := h
    unfold Fuses.From
    refine ⟨?_, ?_, ?_, ?_, ?_, ?_⟩ <;> first | assumption | (dsimp only; omega)

theorem execJtagFuseProg_tidy {advance : Bool} {root : Nat} {hash0 : Nat} {uid : Nat} {s : State} (hs : s.Tidy Q) : TidyOut Q (execJtagFuseProg advance root hash0 uid s) := by
  unfold execJtagFuseProg
  repeat' first
    | with_reducible assumption
    | with_reducible first
      | refine tidyOut_next ?_
      | refine State.jtagFuse_tidy ?_

end Sys2Proof.Machine
end

