-- ==== Sys2Proof/Laws/KeepPages.lean ====
section
/-! SUPPORT. Every operation of Machine/Pages.lean keeps a state tidy. -/

set_option Elab.async false

namespace Sys2Proof.Machine

set_option linter.unusedSimpArgs false

variable {Q : Base}

theorem State.resetPages_tidy {s : State} {b : Nat} {k : Nat} (hs : s.Tidy Q) : State.Tidy Q (State.resetPages s b k) := by
  unfold State.resetPages
  repeat' first
    | with_reducible assumption
    | ((try lift_lets); intro t; first | (refine tidy_have (Q := Q) (t := t) ?_ (fun _ => ?_); rotate_left; clear_value t; rotate_left; unfold t; clear t) | (refine tidyG_have (Q := Q) (t := t) (fun _ _ _ => ?_) (fun _ => ?_); rotate_left; clear_value t; rotate_left; unfold t; clear t) | (refine tidyE_have (Q := Q) (t := t) (fun _ _ => ?_) (fun _ => ?_); rotate_left; clear_value t; rotate_left; unfold t; clear t) | (refine tidyF_have (Q := Q) (t := t) (fun _ => ?_) (fun _ => ?_); rotate_left; clear_value t; rotate_left; unfold t; clear t) | clear_value t)
    | with_reducible first
      | refine State.dropRegs_tidy ?_
      | refine tidy1_st ?_
      | refine tidyG_use (by assumption) ?_
      | refine tidyF_use (by assumption)
      | refine tidyE_use (by assumption) ?_
    | simp only [↓tidy1_pair_iff]
    | simp only [↓tidy_mk_iff, ↓tidy_parts_iff]

theorem State.clearFamily_tidy {s : State} {b : Nat} {k : Nat} (hs : s.Tidy Q) : State.Tidy Q (State.clearFamily s b k) := by
  unfold State.clearFamily
  repeat' first
    | with_reducible assumption
    | ((try lift_lets); intro t; first | (refine tidy_have (Q := Q) (t := t) ?_ (fun _ => ?_); rotate_left; clear_value t; rotate_left; unfold t; clear t) | (refine tidy_keep t ?_; unfold t; clear t) | clear_value t)
    | with_reducible first
      | refine tidy1_st ?_
    | simp only [↓tidy1_pair_iff]
    | simp only [↓tidy_mk_iff, ↓tidy_parts_iff]
    | split

theorem State.resetBlock_tidy {s : State} {b : Nat} {k : Nat} (hs : s.Tidy Q) : State.Tidy Q (State.resetBlock s b k) := by
  unfold State.resetBlock
  repeat' first
    | with_reducible assumption
    | with_reducible first
      | refine State.clearFamily_tidy ?_
      | refine State.resetPages_tidy ?_

theorem State.dropRequest_tidy {s : State} {p : Nat} (hs : s.Tidy Q) : State.Tidy Q (State.dropRequest s p) := by
  unfold State.dropRequest
  repeat' first
    | with_reducible assumption
    | ((try lift_lets); intro t; first | (refine tidy_have (Q := Q) (t := t) ?_ (fun _ => ?_); rotate_left; clear_value t; rotate_left; unfold t; clear t) | clear_value t)
    | with_reducible first
      | refine State.setBit_tidy ?_
      | refine tidy1_st ?_
    | simp only [↓tidy1_pair_iff]
    | simp only [↓tidy_mk_iff, ↓tidy_parts_iff]

theorem State.startDrain_tidy {s : State} {p : Nat} {toFault : Bool} (hs : s.Tidy Q) : State.Tidy Q (State.startDrain s p toFault) := by
  unfold State.startDrain
  repeat' first
    | with_reducible assumption
    | ((try lift_lets); intro t; first | (refine tidy_have (Q := Q) (t := t) ?_ (fun _ => ?_); rotate_left; clear_value t; rotate_left; unfold t; clear t) | clear_value t)
    | with_reducible first
      | refine State.dropRequest_tidy ?_
      | refine State.setCur_tidy ?_
      | refine tidy1_st ?_
    | simp only [↓tidy1_pair_iff]
    | simp only [↓tidy_mk_iff, ↓tidy_parts_iff]

theorem State.discard_tidy {s : State} {x : Txn} (hs : s.Tidy Q) : State.Tidy Q (State.discard s x) := by
  unfold State.discard
  repeat' first
    | with_reducible assumption
    | ((try lift_lets); intro t; first | (refine tidy_have (Q := Q) (t := t) ?_ (fun _ => ?_); rotate_left; clear_value t; rotate_left; unfold t; clear t) | clear_value t)
    | with_reducible first
      | refine State.deny_tidy ?_
    | simp only [↓tidy_mk_iff, ↓tidy_parts_iff]

theorem State.drainEnd_tidy {s : State} {b : Nat} {k : Nat} (hs : s.Tidy Q) : State.Tidy Q (State.drainEnd s b k) := by
  unfold State.drainEnd
  repeat' first
    | with_reducible assumption
    | ((try lift_lets); intro t; first | (refine tidy_have (Q := Q) (t := t) ?_ (fun _ => ?_); rotate_left; clear_value t; rotate_left; unfold t; clear t) | clear_value t)
    | with_reducible first
      | refine tidy_ite ?_ ?_
      | refine tidy_foldl (fun _ _ _ => ?_) ?_
      | refine tidy1_foldl (fun _ _ _ => ?_) ?_
      | refine State.bumpSat_tidy ?_
      | refine State.discard_tidy ?_
      | refine State.setCur_tidy ?_
      | refine State.stick_tidy ?_
      | refine tidy1_st ?_
    | simp only [↓tidy1_pair_iff]
    | simp only [↓tidy_mk_iff, ↓tidy_parts_iff]
    | split

end Sys2Proof.Machine
end

