-- ==== Sys2Proof/Laws/KeepFaults.lean ====
section
/-! SUPPORT. Every operation of Machine/Faults.lean keeps a state tidy. -/

set_option Elab.async false

namespace Sys2Proof.Machine

set_option linter.unusedSimpArgs false

variable {Q : Base}

theorem State.elementDetail_tidy {s : State} {k : Nat} {n : Nat} {detail : Nat} {addr : Nat} (hs : s.Tidy Q) : State.Tidy Q (State.elementDetail s k n detail addr) := by
  unfold State.elementDetail
  repeat' first
    | with_reducible assumption
    | ((try lift_lets); intro t; first | (refine tidy_have (Q := Q) (t := t) ?_ (fun _ => ?_); rotate_left; clear_value t; rotate_left; unfold t; clear t) | clear_value t)
    | with_reducible first
      | refine State.bumpSat_tidy ?_
      | refine State.bump_tidy ?_
      | refine State.keepMax_tidy ?_
      | refine State.setFld_tidy ?_
      | refine State.wrN_tidy ?_
    | split

theorem State.coreDetail_tidy {s : State} {src detail : Nat} (hs : s.Tidy Q) : State.Tidy Q (State.coreDetail s src detail) := by
  unfold State.coreDetail
  exact tidy_ite (State.bump_tidy hs) (tidy_ite (State.wrN_tidy (State.bump_tidy hs)) hs)

theorem State.faultRaise_tidy {s : State} {src : Nat} {detail : Nat} {addr : Nat} (hs : s.Tidy Q) : State.Tidy Q (State.faultRaise s src detail addr) := by
  unfold State.faultRaise
  repeat' first
    | with_reducible assumption
    | with_reducible first
      | refine tidy_ite ?_ ?_
      | refine State.elementDetail_tidy ?_
      | refine State.coreDetail_tidy ?_
      | refine State.raise_tidy ?_

theorem execFaultRaise_tidy {src : Nat} {detail : Nat} {addr : Nat} {s : State} (hs : s.Tidy Q) : TidyOut Q (execFaultRaise src detail addr s) := by
  unfold execFaultRaise
  repeat' first
    | with_reducible assumption
    | with_reducible first
      | refine tidyOut_next ?_
      | refine State.faultRaise_tidy ?_

theorem State.escalatePage_tidy {s : State} {p : Nat} (hs : s.Tidy Q) : State.Tidy Q (State.escalatePage s p) := by
  unfold State.escalatePage
  repeat' first
    | with_reducible assumption
    | with_reducible first
      | refine tidy_ite ?_ ?_
      | refine State.startDrain_tidy ?_

theorem State.escalateBlock_tidy {s : State} {b : Nat} (hs : s.Tidy Q) : State.Tidy Q (State.escalateBlock s b) := by
  unfold State.escalateBlock
  repeat' first
    | with_reducible assumption
    | with_reducible first
      | refine tidy_ite ?_ ?_
      | refine tidy_foldl (fun _ _ _ => ?_) ?_
      | refine tidy1_foldl (fun _ _ _ => ?_) ?_
      | refine State.escalatePage_tidy ?_
      | refine State.orWord_tidy ?_

theorem State.escalateMajor_tidy {s : State} {seq : Nat} {iso : Nat} (hs : s.Tidy Q) : State.Tidy Q (State.escalateMajor s seq iso) := by
  unfold State.escalateMajor
  repeat' first
    | with_reducible assumption
    | ((try lift_lets); intro t; first | (refine tidy_have (Q := Q) (t := t) ?_ (fun _ => ?_); rotate_left; clear_value t; rotate_left; unfold t; clear t) | clear_value t)
    | with_reducible first
      | refine tidy_foldl (fun _ _ _ => ?_) ?_
      | refine tidy1_foldl (fun _ _ _ => ?_) ?_
      | refine State.bump_tidy ?_
      | refine State.escalateBlock_tidy ?_
      | refine State.raise_tidy ?_
      | refine tidy1_st ?_
    | simp only [↓tidy1_pair_iff]
    | simp only [↓tidy_mk_iff, ↓tidy_parts_iff]

theorem State.escalateCritical_tidy {s : State} {seq : Nat} (hs : s.Tidy Q) : State.Tidy Q (State.escalateCritical s seq) := by
  unfold State.escalateCritical
  repeat' first
    | with_reducible assumption
    | ((try lift_lets); intro t; first | (refine tidy_have (Q := Q) (t := t) ?_ (fun _ => ?_); rotate_left; clear_value t; rotate_left; unfold t; clear t) | clear_value t)
    | with_reducible first
      | refine State.bump_tidy ?_
      | refine State.setBit_tidy ?_
    | simp only [↓tidy_mk_iff, ↓tidy_parts_iff]

theorem State.criticalCut_tidy {s : State} (hs : s.Tidy Q) : State.Tidy Q (State.criticalCut s) := by
  unfold State.criticalCut
  repeat' first
    | with_reducible assumption
    | ((try lift_lets); intro t; first | (refine tidy_have (Q := Q) (t := t) ?_ (fun _ => ?_); rotate_left; clear_value t; rotate_left; unfold t; clear t) | (refine tidy1_have (Q := Q) (t := t) ?_ (fun _ => ?_); rotate_left; clear_value t; rotate_left; unfold t; clear t) | clear_value t)
    | with_reducible first
      | refine tidy_ite ?_ ?_
      | refine State.setFld_tidy ?_
      | refine State.trigger_tidy ?_
      | refine tidy1_st ?_
    | simp only [↓tidy1_pair_iff]
    | split

theorem State.windowEnd_tidy {s : State} (hs : s.Tidy Q) : State.Tidy Q (State.windowEnd s) := by
  unfold State.windowEnd
  repeat' first
    | with_reducible assumption
    | ((try lift_lets); intro t; first | (refine tidy_have (Q := Q) (t := t) ?_ (fun _ => ?_); rotate_left; clear_value t; rotate_left; unfold t; clear t) | clear_value t)
    | with_reducible first
      | refine tidy_ite ?_ ?_
      | refine State.closeRecord_tidy ?_
      | refine State.criticalCut_tidy ?_
      | refine State.escalateCritical_tidy ?_
      | refine State.escalateMajor_tidy ?_
      | refine State.setBit_tidy ?_
      | refine State.wrN_tidy ?_

theorem State.lateAck_tidy {s : State} {seq : Nat} (hs : s.Tidy Q) : State.Tidy Q (State.lateAck s seq) := by
  unfold State.lateAck
  repeat' first
    | with_reducible assumption
    | ((try lift_lets); intro t; first | (refine tidy_have (Q := Q) (t := t) ?_ (fun _ => ?_); rotate_left; clear_value t; rotate_left; unfold t; clear t) | clear_value t)
    | with_reducible first
      | refine tidy_ite ?_ ?_
      | refine State.bump_tidy ?_
      | refine State.raise_tidy ?_
    | simp only [↓tidy_mk_iff, ↓tidy_parts_iff]

theorem State.fcrAck_tidy {s : State} {v : Nat} (hs : s.Tidy Q) : State.Tidy Q (State.fcrAck s v) := by
  unfold State.fcrAck
  repeat' first
    | with_reducible assumption
    | ((try lift_lets); intro t; first | (refine tidy_have (Q := Q) (t := t) ?_ (fun _ => ?_); rotate_left; clear_value t; rotate_left; unfold t; clear t) | clear_value t)
    | with_reducible first
      | refine tidy_ite ?_ ?_
      | refine State.closeRecord_tidy ?_
      | refine State.keepMax_tidy ?_
      | refine State.lateAck_tidy ?_
      | refine State.setBit_tidy ?_
      | refine State.windowEnd_tidy ?_
      | refine State.wrN_tidy ?_
    | split

theorem State.clearAllFamilies_tidy {s : State} (hs : s.Tidy Q) : State.Tidy Q (State.clearAllFamilies s) := by
  unfold State.clearAllFamilies
  repeat' first
    | with_reducible assumption
    | with_reducible first
      | refine tidy_ite ?_ ?_
      | refine tidy_foldl (fun _ _ _ => ?_) ?_
      | refine tidy1_foldl (fun _ _ _ => ?_) ?_
      | refine State.clearFamily_tidy ?_

theorem State.restartTime_tidy {s : State} (hq : ∀ n, Q.clock n) (hs : s.Tidy Q) : State.Tidy Q (State.restartTime s) := by
  unfold State.restartTime
  repeat' first
    | with_reducible assumption
    | ((try lift_lets); intro t; first | (refine tidy_have (Q := Q) (t := t) ?_ (fun _ => ?_); rotate_left; clear_value t; rotate_left; unfold t; clear t) | (refine tidyG_have (Q := Q) (t := t) (fun _ _ _ => ?_) (fun _ => ?_); rotate_left; clear_value t; rotate_left; unfold t; clear t) | (refine tidyE_have (Q := Q) (t := t) (fun _ _ => ?_) (fun _ => ?_); rotate_left; clear_value t; rotate_left; unfold t; clear t) | (refine tidyF_have (Q := Q) (t := t) (fun _ => ?_) (fun _ => ?_); rotate_left; clear_value t; rotate_left; unfold t; clear t) | clear_value t)
    | with_reducible first
      | refine tidy_ite ?_ ?_
      | refine tidy_now hq ?_
      | refine tidyG_use (by assumption) ?_
      | refine tidyF_use (by assumption)
      | refine tidyE_use (by assumption) ?_
    | simp only [↓tidy_mk_iff, ↓tidy_parts_iff]
    | split

theorem State.warmReset_tidy {s : State} (hq : ∀ n, Q.clock n) (hs : s.Tidy Q) : State.Tidy Q (State.warmReset s) := by
  unfold State.warmReset
  refine State.startReleased_tidy (State.bumpSat_tidy (State.setBit_tidy (tidy_mk (tidy_profile ?_ (by decide)))))
  exact State.restartTime_tidy hq (State.clearAllFamilies_tidy (tidy_mk (tidy_regs hs (regs_filter _))))

theorem execDeviceWarmReset_tidy {s : State} (hq : ∀ n, Q.clock n) (hs : s.Tidy Q) : TidyOut Q (execDeviceWarmReset s) := by
  unfold execDeviceWarmReset
  repeat' first
    | with_reducible assumption
    | ((try lift_lets); intro t; first | (refine tidy_have (Q := Q) (t := t) ?_ (fun _ => ?_); rotate_left; clear_value t; rotate_left; unfold t; clear t) | clear_value t)
    | with_reducible first
      | refine tidy_ite ?_ ?_
      | refine tidyOut_next ?_
      | refine State.closeRecord_tidy ?_
      | refine State.setBit_tidy ?_
      | refine State.warmReset_tidy hq ?_
      | refine State.wrN_tidy ?_
    | split

theorem State.lateRecord_tidy {s : State} {x : Nat × Bool} (hs : s.Tidy Q) : State.Tidy Q (State.lateRecord s x) := by
  unfold State.lateRecord
  repeat' first
    | with_reducible assumption
    | ((try lift_lets); intro t; first | (refine tidy_have (Q := Q) (t := t) ?_ (fun _ => ?_); rotate_left; clear_value t; rotate_left; unfold t; clear t) | (refine tidy1_have (Q := Q) (t := t) ?_ (fun _ => ?_); rotate_left; clear_value t; rotate_left; unfold t; clear t) | clear_value t)
    | with_reducible first
      | refine tidy_ite ?_ ?_
      | refine State.bump_tidy ?_
      | refine State.noteRaise_tidy ?_
      | refine State.reach_tidy ?_
      | refine tidy1_st ?_
    | simp only [↓tidy1_pair_iff]

theorem State.fcrReturn_tidy {s : State} (hs : s.Tidy Q) : State.Tidy Q (State.fcrReturn s) := by
  unfold State.fcrReturn
  repeat' first
    | with_reducible assumption
    | ((try lift_lets); intro t; first | (refine tidy_have (Q := Q) (t := t) ?_ (fun _ => ?_); rotate_left; clear_value t; rotate_left; unfold t; clear t) | clear_value t)
    | with_reducible first
      | refine tidy_ite ?_ ?_
      | refine tidy_foldl (fun _ _ _ => ?_) ?_
      | refine tidy1_foldl (fun _ _ _ => ?_) ?_
      | refine State.lateRecord_tidy ?_
      | refine State.raise_tidy ?_
    | simp only [↓tidy_mk_iff, ↓tidy_parts_iff]

theorem execFcrLateRecords_tidy {s : State} (hs : s.Tidy Q) : TidyOut Q (execFcrLateRecords s) := by
  unfold execFcrLateRecords
  repeat' first
    | with_reducible assumption
    | with_reducible first
      | refine tidyOut_next ?_
      | refine State.fcrReturn_tidy ?_

theorem State.fcrCtrl_tidy {s : State} {v : Nat} (hs : s.Tidy Q) : State.Tidy Q (State.fcrCtrl s v) := by
  unfold State.fcrCtrl
  repeat' first
    | with_reducible assumption
    | ((try lift_lets); intro t; first | (refine tidy_have (Q := Q) (t := t) ?_ (fun _ => ?_); rotate_left; clear_value t; rotate_left; unfold t; clear t) | clear_value t)
    | with_reducible first
      | refine tidy_ite ?_ ?_
      | refine State.setBit_tidy ?_

theorem execFaultAssert_tidy {m : Requester} {s : State} (hs : s.Tidy Q) : TidyOut Q (execFaultAssert m s) := by
  unfold execFaultAssert
  repeat' first
    | with_reducible assumption
    | with_reducible first
      | refine tidyOut_next ?_
      | refine State.fcrCtrl_tidy ?_
      | refine State.writeAccess_tidy ?_ (fun _ _ => ?_)

theorem execFaultRelease_tidy {m : Requester} {s : State} (hs : s.Tidy Q) : TidyOut Q (execFaultRelease m s) := by
  unfold execFaultRelease
  repeat' first
    | with_reducible assumption
    | with_reducible first
      | refine tidyOut_next ?_
      | refine State.fcrCtrl_tidy ?_
      | refine State.writeAccess_tidy ?_ (fun _ _ => ?_)

theorem State.faultPin_tidy {s : State} {low : Bool} (hs : s.Tidy Q) : State.Tidy Q (State.faultPin s low) := by
  unfold State.faultPin
  repeat' first
    | with_reducible assumption
    | ((try lift_lets); intro t; first | (refine tidy_have (Q := Q) (t := t) ?_ (fun _ => ?_); rotate_left; clear_value t; rotate_left; unfold t; clear t) | clear_value t)
    | with_reducible first
      | refine State.raiseIf_tidy ?_
    | simp only [↓tidy_mk_iff, ↓tidy_parts_iff]

theorem execFaultNExternalLow_tidy {low : Bool} {s : State} (hs : s.Tidy Q) : TidyOut Q (execFaultNExternalLow low s) := by
  unfold execFaultNExternalLow
  repeat' first
    | with_reducible assumption
    | with_reducible first
      | refine tidyOut_next ?_
      | refine State.faultPin_tidy ?_

theorem State.sevWrite_tidy {s : State} {m : Requester} {a : Nat} {v : Nat} (hs : s.Tidy Q) : State.Tidy Q (State.sevWrite s m a v) := by
  unfold State.sevWrite
  repeat' first
    | with_reducible assumption
    | with_reducible first
      | refine tidy_ite ?_ ?_
      | refine State.refuseLocked_tidy ?_
      | refine State.wrN_tidy ?_

theorem execSevWrite_tidy {m : Requester} {n : Nat} {v : Nat} {s : State} (hs : s.Tidy Q) : TidyOut Q (execSevWrite m n v s) := by
  unfold execSevWrite
  repeat' first
    | with_reducible assumption
    | with_reducible first
      | refine tidyOut_next ?_
      | refine State.sevWrite_tidy ?_
      | refine State.writeAccess_tidy ?_ (fun _ _ => ?_)

theorem State.ringCfg_tidy {s : State} {v : Nat} (hs : s.Tidy Q) : State.Tidy Q (State.ringCfg s v) := by
  unfold State.ringCfg
  repeat' first
    | with_reducible assumption
    | ((try lift_lets); intro t; first | (refine tidy_have (Q := Q) (t := t) ?_ (fun _ => ?_); rotate_left; clear_value t; rotate_left; unfold t; clear t) | clear_value t)
    | with_reducible first
      | refine tidy_ite ?_ ?_
      | refine State.ringMark_tidy ?_
      | refine State.wrN_tidy ?_
      | refine State.wr_tidy ?_
    | simp only [↓tidy_mk_iff, ↓tidy_parts_iff]

theorem execRingEnable_tidy {m : Requester} {v : Nat} {s : State} (hs : s.Tidy Q) : TidyOut Q (execRingEnable m v s) := by
  unfold execRingEnable
  repeat' first
    | with_reducible assumption
    | with_reducible first
      | refine tidyOut_next ?_
      | refine State.ringCfg_tidy ?_
      | refine State.writeAccess_tidy ?_ (fun _ _ => ?_)

theorem State.snapCmd_tidy {s : State} {v : Nat} (hs : s.Tidy Q) : State.Tidy Q (State.snapCmd s v) := by
  unfold State.snapCmd
  repeat' first
    | with_reducible assumption
    | ((try lift_lets); intro t; first | (refine tidy_have (Q := Q) (t := t) ?_ (fun _ => ?_); rotate_left; clear_value t; rotate_left; unfold t; clear t) | clear_value t)
    | with_reducible first
      | refine tidy_ite ?_ ?_
      | refine State.snapshot_tidy ?_
    | simp only [↓tidy_mk_iff, ↓tidy_parts_iff]

theorem execSnapSwTrigger_tidy {m : Requester} {s : State} (hs : s.Tidy Q) : TidyOut Q (execSnapSwTrigger m s) := by
  unfold execSnapSwTrigger
  repeat' first
    | with_reducible assumption
    | with_reducible first
      | refine tidyOut_next ?_
      | refine State.snapCmd_tidy ?_
      | refine State.writeAccess_tidy ?_ (fun _ _ => ?_)

theorem execSnapArmTime_tidy {m : Requester} {s : State} (hs : s.Tidy Q) : TidyOut Q (execSnapArmTime m s) := by
  unfold execSnapArmTime
  repeat' first
    | with_reducible assumption
    | with_reducible first
      | refine tidyOut_next ?_
      | refine State.snapCmd_tidy ?_
      | refine State.writeAccess_tidy ?_ (fun _ _ => ?_)

theorem execSnapDisarmTime_tidy {m : Requester} {s : State} (hs : s.Tidy Q) : TidyOut Q (execSnapDisarmTime m s) := by
  unfold execSnapDisarmTime
  repeat' first
    | with_reducible assumption
    | with_reducible first
      | refine tidyOut_next ?_
      | refine State.snapCmd_tidy ?_
      | refine State.writeAccess_tidy ?_ (fun _ _ => ?_)

theorem State.timeMatch_tidy {s : State} {second : Bool} (hs : s.Tidy Q) : State.Tidy Q (State.timeMatch s second) := by
  unfold State.timeMatch
  repeat' first
    | with_reducible assumption
    | ((try lift_lets); intro t; first | (refine tidy_have (Q := Q) (t := t) ?_ (fun _ => ?_); rotate_left; clear_value t; rotate_left; unfold t; clear t) | clear_value t)
    | with_reducible first
      | refine tidy_ite ?_ ?_
      | refine State.setFld_tidy ?_
      | refine State.snapshot_tidy ?_
    | simp only [↓tidy_mk_iff, ↓tidy_parts_iff]

theorem execSnapTimeMatch_tidy {second : Bool} {s : State} (hs : s.Tidy Q) : TidyOut Q (execSnapTimeMatch second s) := by
  unfold execSnapTimeMatch
  repeat' first
    | with_reducible assumption
    | with_reducible first
      | refine tidyOut_next ?_
      | refine State.timeMatch_tidy ?_

theorem execSnapInPulse_tidy {ns : Nat} {s : State} (hs : s.Tidy Q) : TidyOut Q (execSnapInPulse ns s) := by
  unfold execSnapInPulse
  repeat' first
    | with_reducible assumption
    | with_reducible first
      | refine tidy_ite ?_ ?_
      | refine tidyOut_next ?_
      | refine State.raise_tidy ?_
      | refine State.snapshot_tidy ?_

theorem execPcieSnapMsg_tidy {vendor : Nat} {word : Nat} {s : State} (hs : s.Tidy Q) : TidyOut Q (execPcieSnapMsg vendor word s) := by
  unfold execPcieSnapMsg
  repeat' first
    | with_reducible assumption
    | with_reducible first
      | refine tidy_ite ?_ ?_
      | refine tidyOut_next ?_
      | refine State.snapshot_tidy ?_

theorem State.latchPage_tidy {s : State} {seq : Nat} {time : Nat} {b : Nat} {k : Nat} (hs : s.Tidy Q) : State.Tidy Q (State.latchPage s seq time b k) := by
  unfold State.latchPage
  repeat' first
    | with_reducible assumption
    | ((try lift_lets); intro t; first | (refine tidy_have (Q := Q) (t := t) ?_ (fun _ => ?_); rotate_left; clear_value t; rotate_left; unfold t; clear t) | clear_value t)
    | with_reducible first
      | refine tidy_ite ?_ ?_
      | refine State.stick_tidy ?_
      | refine State.wrN_tidy ?_
      | refine State.wrWords_tidy ?_

theorem State.cutDone_tidy {s : State} {lat : Nat} (hs : s.Tidy Q) : State.Tidy Q (State.cutDone s lat) := by
  unfold State.cutDone
  repeat' first
    | with_reducible assumption
    | ((try lift_lets); intro t; first | (refine tidy_have (Q := Q) (t := t) ?_ (fun _ => ?_); rotate_left; clear_value t; rotate_left; unfold t; clear t) | clear_value t)
    | with_reducible first
      | refine tidy_ite ?_ ?_
      | refine State.keepMax_tidy ?_
      | refine State.notifyVector_tidy ?_
      | refine State.setBit_tidy ?_
      | refine State.stick_tidy ?_
    | simp only [↓tidy_mk_iff, ↓tidy_parts_iff]

theorem State.snapLatch_tidy {s : State} {b : Nat} {lat : Nat} (hs : s.Tidy Q) : State.Tidy Q (State.snapLatch s b lat) := by
  unfold State.snapLatch
  repeat' first
    | with_reducible assumption
    | ((try lift_lets); intro t; first | (refine tidy_have (Q := Q) (t := t) ?_ (fun _ => ?_); rotate_left; clear_value t; rotate_left; unfold t; clear t) | clear_value t)
    | with_reducible first
      | refine tidy_ite ?_ ?_
      | refine tidy_foldl (fun _ _ _ => ?_) ?_
      | refine tidy1_foldl (fun _ _ _ => ?_) ?_
      | refine State.cutDone_tidy ?_
      | refine State.latchPage_tidy ?_
    | simp only [↓tidy_mk_iff, ↓tidy_parts_iff]
    | split

theorem execSnapLatch_tidy {b : Nat} {lat : Nat} {s : State} (hs : s.Tidy Q) : TidyOut Q (execSnapLatch b lat s) := by
  unfold execSnapLatch
  repeat' first
    | with_reducible assumption
    | with_reducible first
      | refine tidyOut_next ?_
      | refine State.snapLatch_tidy ?_

end Sys2Proof.Machine
end

