-- ==== Sys2Proof/Laws/KeepCells.lean ====
section
/-! SUPPORT. Every operation of Machine/Cells.lean keeps a state tidy. -/

set_option Elab.async false

namespace Sys2Proof.Machine

set_option linter.unusedSimpArgs false

variable {Q : Base}

theorem State.bufMark_tidy {s : State} {die : Nat} {dir : Nat} (hs : s.Tidy Q) : State.Tidy Q (State.bufMark s die dir) := by
  unfold State.bufMark
  repeat' first
    | with_reducible assumption
    | ((try lift_lets); intro t; first | (refine tidy_have (Q := Q) (t := t) ?_ (fun _ => ?_); rotate_left; clear_value t; rotate_left; unfold t; clear t) | clear_value t)
    | with_reducible first
      | refine tidy_ite ?_ ?_
      | refine State.watermark_tidy ?_

theorem State.bufMarks_tidy {s : State} (hs : s.Tidy Q) : State.Tidy Q (State.bufMarks s) := by
  unfold State.bufMarks
  repeat' first
    | with_reducible assumption
    | with_reducible first
      | refine State.bufMark_tidy ?_

theorem State.assemble_tidy {s : State} {die : Nat} {c : LineCell} {complete : Bool} (hs : s.Tidy Q) : State.Tidy Q (State.assemble s die c complete) := by
  unfold State.assemble
  repeat' first
    | with_reducible assumption
    | ((try lift_lets); intro t; first | (refine tidy_have (Q := Q) (t := t) ?_ (fun _ => ?_); rotate_left; clear_value t; rotate_left; unfold t; clear t) | clear_value t)
    | with_reducible first
      | refine tidy_ite ?_ ?_
      | refine State.bufMark_tidy ?_
      | refine State.raise_tidy ?_
    | simp only [↓tidy_mk_iff, ↓tidy_parts_iff]
    | split

theorem execCellAssemble_tidy {die : Nat} {c : LineCell} {complete : Bool} {s : State} (hs : s.Tidy Q) : TidyOut Q (execCellAssemble die c complete s) := by
  unfold execCellAssemble
  repeat' first
    | with_reducible assumption
    | with_reducible first
      | refine tidyOut_next ?_
      | refine State.assemble_tidy ?_

theorem State.assemblyEnd_tidy {s : State} {e : Nat} (hs : s.Tidy Q) : State.Tidy Q (State.assemblyEnd s e) := by
  unfold State.assemblyEnd
  repeat' first
    | with_reducible assumption
    | ((try lift_lets); intro t; first | (refine tidy_have (Q := Q) (t := t) ?_ (fun _ => ?_); rotate_left; clear_value t; rotate_left; unfold t; clear t) | clear_value t)
    | with_reducible first
      | refine tidy_foldl (fun _ _ _ => ?_) ?_
      | refine tidy1_foldl (fun _ _ _ => ?_) ?_
      | refine State.raise_tidy ?_
    | simp only [↓tidy_mk_iff, ↓tidy_parts_iff]

theorem State.markReleased_tidy {s : State} {dst : Nat} {e : Nat} {i : Nat} (hs : s.Tidy Q) : State.Tidy Q (State.markReleased s dst e i) := by
  unfold State.markReleased
  repeat' first
    | with_reducible assumption
    | ((try lift_lets); intro t; first | (refine tidy_have (Q := Q) (t := t) ?_ (fun _ => ?_); rotate_left; clear_value t; rotate_left; unfold t; clear t) | clear_value t)
    | simp only [↓tidy_mk_iff, ↓tidy_parts_iff]

theorem State.takeGiven_tidy {s : State} {dst : Nat} {e : Nat} (hs : s.Tidy Q) : State.Tidy Q (State.takeGiven s dst e) := by
  unfold State.takeGiven
  repeat' first
    | with_reducible assumption
    | ((try lift_lets); intro t; first | (refine tidy_have (Q := Q) (t := t) ?_ (fun _ => ?_); rotate_left; clear_value t; rotate_left; unfold t; clear t) | clear_value t)
    | with_reducible first
      | refine tidy1_st ?_
    | simp only [↓tidy1_pair_iff]
    | simp only [↓tidy_mk_iff, ↓tidy_parts_iff]

theorem State.emit_tidy {s : State} {e : Nat} {c : LineCell} (hs : s.Tidy Q) : State.Tidy Q (State.emit s e c) := by
  unfold State.emit
  repeat' first
    | with_reducible assumption
    | ((try lift_lets); intro t; first | (refine tidy_have (Q := Q) (t := t) ?_ (fun _ => ?_); rotate_left; clear_value t; rotate_left; unfold t; clear t) | clear_value t)
    | with_reducible first
      | refine State.send_tidy ?_
    | simp only [↓tidy_mk_iff, ↓tidy_parts_iff]

theorem State.releaseCell_tidy {s : State} {dst : Nat} {e : Nat} {i : Nat} {o : OutCell} {c : LineCell} (hs : s.Tidy Q) : State.Tidy Q (State.releaseCell s dst e i o c) := by
  unfold State.releaseCell
  repeat' first
    | with_reducible assumption
    | ((try lift_lets); intro t; first | (refine tidy_have (Q := Q) (t := t) ?_ (fun _ => ?_); rotate_left; clear_value t; rotate_left; unfold t; clear t) | clear_value t)
    | with_reducible first
      | refine tidy_ite ?_ ?_
      | refine State.bump_tidy ?_
      | refine State.emit_tidy ?_
      | refine State.markReleased_tidy ?_
      | refine State.takeGiven_tidy ?_
    | simp only [↓tidy_mk_iff, ↓tidy_parts_iff]

theorem State.releaseFill_tidy {s : State} {o : OutputDef} {n : Nominal} {e : Nat} {i : Nat} {src : Nat} {kind : Nat} (hs : s.Tidy Q) : State.Tidy Q (State.releaseFill s o n e i src kind) := by
  unfold State.releaseFill
  repeat' first
    | with_reducible assumption
    | ((try lift_lets); intro t; first | (refine tidy_have (Q := Q) (t := t) ?_ (fun _ => ?_); rotate_left; clear_value t; rotate_left; unfold t; clear t) | clear_value t)
    | with_reducible first
      | refine tidy_ite ?_ ?_
      | refine State.bump_tidy ?_
      | refine State.emit_tidy ?_
      | refine State.markReleased_tidy ?_
      | refine State.takeGiven_tidy ?_
    | simp only [↓tidy_mk_iff, ↓tidy_parts_iff]

theorem State.releaseAt_tidy {s : State} {o : OutputDef} {i : Nat} (hs : s.Tidy Q) : State.Tidy Q (State.releaseAt s o i) := by
  unfold State.releaseAt
  repeat' first
    | with_reducible assumption
    | ((try lift_lets); intro t; first | (refine tidy_have (Q := Q) (t := t) ?_ (fun _ => ?_); rotate_left; clear_value t; rotate_left; unfold t; clear t) | clear_value t)
    | with_reducible first
      | refine tidy_ite ?_ ?_
      | refine State.releaseCell_tidy ?_
      | refine State.releaseFill_tidy ?_
      | refine tidy1_st ?_
    | simp only [↓tidy1_pair_iff]
    | split

theorem State.releaseAnc_tidy {s : State} {o : OutputDef} {i : Nat} (hs : s.Tidy Q) : State.Tidy Q (State.releaseAnc s o i) := by
  unfold State.releaseAnc
  repeat' first
    | with_reducible assumption
    | ((try lift_lets); intro t; first | (refine tidy_have (Q := Q) (t := t) ?_ (fun _ => ?_); rotate_left; clear_value t; rotate_left; unfold t; clear t) | clear_value t)
    | with_reducible first
      | refine State.releaseCell_tidy ?_
      | refine State.releaseFill_tidy ?_
    | simp only [↓tidy_mk_iff, ↓tidy_parts_iff]
    | split

theorem State.cellRelease_tidy {s : State} {dst : Nat} {i : Nat} (hs : s.Tidy Q) : State.Tidy Q (State.cellRelease s dst i) := by
  unfold State.cellRelease
  repeat' first
    | with_reducible assumption
    | ((try lift_lets); intro t; first | (refine tidy_have (Q := Q) (t := t) ?_ (fun _ => ?_); rotate_left; clear_value t; rotate_left; unfold t; clear t) | clear_value t)
    | with_reducible first
      | refine tidy_ite ?_ ?_
      | refine State.bufMarks_tidy ?_
      | refine State.releaseAnc_tidy ?_
      | refine State.releaseAt_tidy ?_
    | split

theorem execCellRelease_tidy {dst : Nat} {i : Nat} {s : State} (hs : s.Tidy Q) : TidyOut Q (execCellRelease dst i s) := by
  unfold execCellRelease
  repeat' first
    | with_reducible assumption
    | with_reducible first
      | refine tidyOut_next ?_
      | refine State.cellRelease_tidy ?_

theorem State.lateRelease_tidy {s : State} {dst : Nat} (hs : s.Tidy Q) : State.Tidy Q (State.lateRelease s dst) := by
  unfold State.lateRelease
  repeat' first
    | with_reducible assumption
    | ((try lift_lets); intro t; first | (refine tidy_have (Q := Q) (t := t) ?_ (fun _ => ?_); rotate_left; clear_value t; rotate_left; unfold t; clear t) | clear_value t)
    | with_reducible first
      | refine tidy_ite ?_ ?_
      | refine State.bufMarks_tidy ?_
      | refine State.releaseCell_tidy ?_
      | refine tidy1_st ?_
    | simp only [↓tidy1_pair_iff]
    | split

theorem execLateCellRelease_tidy {dst : Nat} {s : State} (hs : s.Tidy Q) : TidyOut Q (execLateCellRelease dst s) := by
  unfold execLateCellRelease
  repeat' first
    | with_reducible assumption
    | with_reducible first
      | refine tidyOut_next ?_
      | refine State.lateRelease_tidy ?_

theorem State.releaseEnd_tidy {s : State} {e : Nat} (hs : s.Tidy Q) : State.Tidy Q (State.releaseEnd s e) := by
  unfold State.releaseEnd
  repeat' first
    | with_reducible assumption
    | ((try lift_lets); intro t; first | (refine tidy_have (Q := Q) (t := t) ?_ (fun _ => ?_); rotate_left; clear_value t; rotate_left; unfold t; clear t) | clear_value t)
    | with_reducible first
      | refine tidy_ite ?_ ?_
      | refine tidy_foldl (fun _ _ _ => ?_) ?_
      | refine tidy1_foldl (fun _ _ _ => ?_) ?_
      | refine State.bufMarks_tidy ?_
      | refine State.bump_tidy ?_
      | refine State.raise_tidy ?_
      | refine tidy1_st ?_
    | simp only [↓tidy1_pair_iff]
    | simp only [↓tidy_mk_iff, ↓tidy_parts_iff]
    | split

end Sys2Proof.Machine
end

