-- ==== Sys2Proof/Laws/KeepPlanes.lean ====
section
/-! SUPPORT. Every operation of Machine/Planes.lean keeps a state tidy. -/

set_option Elab.async false

namespace Sys2Proof.Machine

set_option linter.unusedSimpArgs false

variable {Q : Base}

theorem State.setPlane_tidy {s : State} {p : Nat} {x : Plane} (hs : s.Tidy Q) : State.Tidy Q (State.setPlane s p x) := by
  unfold State.setPlane
  repeat' first
    | with_reducible assumption
    | ((try lift_lets); intro t; first | (refine tidy_have (Q := Q) (t := t) ?_ (fun _ => ?_); rotate_left; clear_value t; rotate_left; unfold t; clear t) | clear_value t)
    | simp only [↓tidy_mk_iff, ↓tidy_parts_iff]

theorem State.putOut_tidy {s : State} {x : OutCell} (hs : s.Tidy Q) : State.Tidy Q (State.putOut s x) := by
  unfold State.putOut
  repeat' first
    | with_reducible assumption
    | ((try lift_lets); intro t; first | (refine tidy_have (Q := Q) (t := t) ?_ (fun _ => ?_); rotate_left; clear_value t; rotate_left; unfold t; clear t) | clear_value t)
    | simp only [↓tidy_mk_iff, ↓tidy_parts_iff]

theorem State.checkPcrc_tidy {s : State} {c : LineCell} {damaged : Bool} (hs : s.Tidy Q) : Tidy1 Q (State.checkPcrc s c damaged) := by
  unfold State.checkPcrc
  repeat' first
    | with_reducible assumption
    | with_reducible first
      | refine tidy1_ite ?_ ?_
      | refine tidy_ite ?_ ?_
      | refine State.bump_tidy ?_
      | refine State.raise_tidy ?_
    | simp only [↓tidy1_pair_iff]

theorem State.runIndex_tidy {s : State} {d : Nat} {n : Nat} {late : Bool} {damaged : Bool} {i : Nat} (hs : s.Tidy Q) : Tidy1 Q (State.runIndex s d n late damaged i) := by
  unfold State.runIndex
  repeat' first
    | with_reducible assumption
    | ((try lift_lets); intro t; first | (refine tidy_have (Q := Q) (t := t) ?_ (fun _ => ?_); rotate_left; clear_value t; rotate_left; unfold t; clear t) | (refine tidy1_have (Q := Q) (t := t) ?_ (fun _ => ?_); rotate_left; clear_value t; rotate_left; unfold t; clear t) | (refine tidyG_have (Q := Q) (t := t) (fun _ _ _ => ?_) (fun _ => ?_); rotate_left; clear_value t; rotate_left; unfold t; clear t) | (refine tidyE_have (Q := Q) (t := t) (fun _ _ => ?_) (fun _ => ?_); rotate_left; clear_value t; rotate_left; unfold t; clear t) | (refine tidyF_have (Q := Q) (t := t) (fun _ => ?_) (fun _ => ?_); rotate_left; clear_value t; rotate_left; unfold t; clear t) | clear_value t)
    | with_reducible first
      | refine tidy1_ite ?_ ?_
      | refine tidy_ite ?_ ?_
      | refine State.checkPcrc_tidy ?_
      | refine State.putOut_tidy ?_
      | refine State.raise_tidy ?_
      | refine tidy1_st ?_
      | refine tidyG_use (by assumption) ?_
      | refine tidyF_use (by assumption)
      | refine tidyE_use (by assumption) ?_
    | simp only [↓tidy1_pair_iff]
    | split

theorem State.runExec_tidy {s : State} {d : Nat} {n : Nat} {late : Bool} {damaged : List Nat} (hs : s.Tidy Q) : Tidy1 Q (State.runExec s d n late damaged) := by
  unfold State.runExec
  repeat' first
    | with_reducible assumption
    | ((try lift_lets); intro t; first | (refine tidy_have (Q := Q) (t := t) ?_ (fun _ => ?_); rotate_left; clear_value t; rotate_left; unfold t; clear t) | (refine tidy1_have (Q := Q) (t := t) ?_ (fun _ => ?_); rotate_left; clear_value t; rotate_left; unfold t; clear t) | clear_value t)
    | with_reducible first
      | refine tidy_foldl (fun _ _ _ => ?_) ?_
      | refine tidy1_foldl (fun _ _ _ => ?_) ?_
      | refine State.runIndex_tidy ?_
      | refine tidy1_st ?_
    | simp only [↓tidy1_pair_iff]

theorem State.descExec_tidy {s : State} {p : Nat} {damaged : List Nat} (hs : s.Tidy Q) : State.Tidy Q (State.descExec s p damaged) := by
  unfold State.descExec
  repeat' first
    | with_reducible assumption
    | ((try lift_lets); intro t; first | (refine tidy_have (Q := Q) (t := t) ?_ (fun _ => ?_); rotate_left; clear_value t; rotate_left; unfold t; clear t) | (refine tidy1_have (Q := Q) (t := t) ?_ (fun _ => ?_); rotate_left; clear_value t; rotate_left; unfold t; clear t) | clear_value t)
    | with_reducible first
      | refine tidy_ite ?_ ?_
      | refine State.bufMarks_tidy ?_
      | refine State.runExec_tidy ?_
      | refine State.setFld_tidy ?_
      | refine State.setPlane_tidy ?_
      | refine tidy1_st ?_
    | simp only [↓tidy1_pair_iff]
    | simp only [↓tidy_mk_iff, ↓tidy_parts_iff]
    | split

theorem execRunDescExec_tidy {p : Nat} {damaged : List Nat} {s : State} (hs : s.Tidy Q) : TidyOut Q (execRunDescExec p damaged s) := by
  unfold execRunDescExec
  repeat' first
    | with_reducible assumption
    | with_reducible first
      | refine tidyOut_next ?_
      | refine State.descExec_tidy ?_

theorem State.gapExec_tidy {s : State} {p : Nat} {mismatches : Nat} (hs : s.Tidy Q) : State.Tidy Q (State.gapExec s p mismatches) := by
  unfold State.gapExec
  repeat' first
    | with_reducible assumption
    | ((try lift_lets); intro t; first | (refine tidy_have (Q := Q) (t := t) ?_ (fun _ => ?_); rotate_left; clear_value t; rotate_left; unfold t; clear t) | clear_value t)
    | with_reducible first
      | refine tidy_ite ?_ ?_
      | refine State.bumpBy_tidy ?_
      | refine State.raise_tidy ?_
      | refine State.setFld_tidy ?_
      | refine State.setPlane_tidy ?_
    | simp only [↓tidy_mk_iff, ↓tidy_parts_iff]
    | split

theorem execGapExec_tidy {p : Nat} {mismatches : Nat} {s : State} (hs : s.Tidy Q) : TidyOut Q (execGapExec p mismatches s) := by
  unfold execGapExec
  repeat' first
    | with_reducible assumption
    | with_reducible first
      | refine tidyOut_next ?_
      | refine State.gapExec_tidy ?_
    | split

theorem State.slackMin_tidy {s : State} {p : Nat} {v : Nat} (hs : s.Tidy Q) : State.Tidy Q (State.slackMin s p v) := by
  unfold State.slackMin
  repeat' first
    | with_reducible assumption
    | with_reducible first
      | refine tidy_ite ?_ ?_
      | refine State.setFld_tidy ?_

theorem State.learnRate_tidy {s : State} {p : Nat} {rate : Nat} (hs : s.Tidy Q) : State.Tidy Q (State.learnRate s p rate) := by
  unfold State.learnRate
  repeat' first
    | with_reducible assumption
    | ((try lift_lets); intro t; first | (refine tidy_have (Q := Q) (t := t) ?_ (fun _ => ?_); rotate_left; clear_value t; rotate_left; unfold t; clear t) | clear_value t)
    | with_reducible first
      | refine tidy_ite ?_ ?_
      | refine State.setFld_tidy ?_
      | refine tidy1_st ?_
    | simp only [↓tidy1_pair_iff]

theorem State.measure_tidy {s : State} {p : Nat} {tokens : Nat} {elapsed : Nat} {probes : Nat} {overrun : Bool} (hs : s.Tidy Q) : State.Tidy Q (State.measure s p tokens elapsed probes overrun) := by
  unfold State.measure
  repeat' first
    | with_reducible assumption
    | ((try lift_lets); intro t; first | (refine tidy_have (Q := Q) (t := t) ?_ (fun _ => ?_); rotate_left; clear_value t; rotate_left; unfold t; clear t) | clear_value t)
    | with_reducible first
      | refine tidy_ite ?_ ?_
      | refine State.learnRate_tidy ?_
      | refine State.setBit_tidy ?_
      | refine State.setFld_tidy ?_
      | refine State.slackMin_tidy ?_

theorem State.freeIngress_tidy {s : State} (hs : s.Tidy Q) : State.Tidy Q (State.freeIngress s) := by
  unfold State.freeIngress
  repeat' first
    | with_reducible assumption
    | ((try lift_lets); intro t; first | (refine tidy_have (Q := Q) (t := t) ?_ (fun _ => ?_); rotate_left; clear_value t; rotate_left; unfold t; clear t) | clear_value t)
    | simp only [↓tidy_mk_iff, ↓tidy_parts_iff]

theorem State.listDone_tidy {s : State} {p : Nat} {elapsed : Nat} (hs : s.Tidy Q) : State.Tidy Q (State.listDone s p elapsed) := by
  unfold State.listDone
  repeat' first
    | with_reducible assumption
    | ((try lift_lets); intro t; first | (refine tidy_have (Q := Q) (t := t) ?_ (fun _ => ?_); rotate_left; clear_value t; rotate_left; unfold t; clear t) | clear_value t)
    | with_reducible first
      | refine tidy_ite ?_ ?_
      | refine State.bufMarks_tidy ?_
      | refine State.bumpBy_tidy ?_
      | refine State.freeIngress_tidy ?_
      | refine State.measure_tidy ?_
      | refine State.raise_tidy ?_
      | refine State.setFld_tidy ?_
      | refine State.setPlane_tidy ?_
    | simp only [↓tidy_mk_iff, ↓tidy_parts_iff]

theorem execPlaneListDone_tidy {p : Nat} {elapsed : Nat} {s : State} (hs : s.Tidy Q) : TidyOut Q (execPlaneListDone p elapsed s) := by
  unfold execPlaneListDone
  repeat' first
    | with_reducible assumption
    | with_reducible first
      | refine tidyOut_next ?_
      | refine State.listDone_tidy ?_

theorem State.carryDone_tidy {s : State} {p : Nat} (hs : s.Tidy Q) : State.Tidy Q (State.carryDone s p) := by
  unfold State.carryDone
  repeat' first
    | with_reducible assumption
    | ((try lift_lets); intro t; first | (refine tidy_have (Q := Q) (t := t) ?_ (fun _ => ?_); rotate_left; clear_value t; rotate_left; unfold t; clear t) | clear_value t)
    | with_reducible first
      | refine tidy_ite ?_ ?_
      | refine State.bufMarks_tidy ?_
      | refine State.freeIngress_tidy ?_
      | refine State.setBit_tidy ?_
      | refine State.setPlane_tidy ?_
    | simp only [↓tidy_mk_iff, ↓tidy_parts_iff]

theorem execCarryDone_tidy {p : Nat} {s : State} (hs : s.Tidy Q) : TidyOut Q (execCarryDone p s) := by
  unfold execCarryDone
  repeat' first
    | with_reducible assumption
    | with_reducible first
      | refine tidyOut_next ?_
      | refine State.carryDone_tidy ?_

theorem State.planeEnd_tidy {s : State} {n : Nat} {p : Nat} (hs : s.Tidy Q) : State.Tidy Q (State.planeEnd s n p) := by
  unfold State.planeEnd
  repeat' first
    | with_reducible assumption
    | ((try lift_lets); intro t; first | (refine tidy_have (Q := Q) (t := t) ?_ (fun _ => ?_); rotate_left; clear_value t; rotate_left; unfold t; clear t) | (refine tidy1_have (Q := Q) (t := t) ?_ (fun _ => ?_); rotate_left; clear_value t; rotate_left; unfold t; clear t) | (refine tidyG_have (Q := Q) (t := t) (fun _ _ _ => ?_) (fun _ => ?_); rotate_left; clear_value t; rotate_left; unfold t; clear t) | (refine tidyE_have (Q := Q) (t := t) (fun _ _ => ?_) (fun _ => ?_); rotate_left; clear_value t; rotate_left; unfold t; clear t) | (refine tidyF_have (Q := Q) (t := t) (fun _ => ?_) (fun _ => ?_); rotate_left; clear_value t; rotate_left; unfold t; clear t) | clear_value t)
    | with_reducible first
      | refine tidy1_ite ?_ ?_
      | refine State.bump_tidy ?_
      | refine State.measure_tidy ?_
      | refine State.raiseIf_tidy ?_
      | refine State.raise_tidy ?_
      | refine State.setBit_tidy ?_
      | refine State.setPlane_tidy ?_
      | refine tidyG_use (by assumption) ?_
      | refine tidyF_use (by assumption)
      | refine tidyE_use (by assumption) ?_
    | simp only [↓tidy1_pair_iff]
    | simp only [↓tidy_mk_iff, ↓tidy_parts_iff]
    | split

theorem State.planeStart_tidy {s : State} {p : Nat} (hs : s.Tidy Q) : State.Tidy Q (State.planeStart s p) := by
  unfold State.planeStart
  repeat' first
    | with_reducible assumption
    | ((try lift_lets); intro t; first | (refine tidy_have (Q := Q) (t := t) ?_ (fun _ => ?_); rotate_left; clear_value t; rotate_left; unfold t; clear t) | clear_value t)
    | with_reducible first
      | refine tidy_ite ?_ ?_
      | refine State.setFld_tidy ?_
      | refine State.setPlane_tidy ?_
    | simp only [↓tidy_mk_iff, ↓tidy_parts_iff]

theorem State.planeLent_tidy {s : State} (hs : s.Tidy Q) : State.Tidy Q (State.planeLent s) := by
  unfold State.planeLent
  repeat' first
    | with_reducible assumption
    | with_reducible first
      | refine tidy_foldl (fun _ _ _ => ?_) ?_
      | refine tidy1_foldl (fun _ _ _ => ?_) ?_
      | refine State.setBit_tidy ?_

theorem State.slackWorst_tidy {s : State} (hs : s.Tidy Q) : State.Tidy Q (State.slackWorst s) := by
  unfold State.slackWorst
  repeat' first
    | with_reducible assumption
    | ((try lift_lets); intro t; first | (refine tidy_have (Q := Q) (t := t) ?_ (fun _ => ?_); rotate_left; clear_value t; rotate_left; unfold t; clear t) | clear_value t)
    | with_reducible first
      | refine State.raiseIf_tidy ?_
      | refine State.wrN_tidy ?_
      | refine tidy1_st ?_
    | simp only [↓tidy1_pair_iff]
    | split

theorem State.abandonCarry_tidy {s : State} (hs : s.Tidy Q) : State.Tidy Q (State.abandonCarry s) := by
  unfold State.abandonCarry
  repeat' first
    | with_reducible assumption
    | ((try lift_lets); intro t; first | (refine tidy_have (Q := Q) (t := t) ?_ (fun _ => ?_); rotate_left; clear_value t; rotate_left; unfold t; clear t) | clear_value t)
    | with_reducible first
      | refine tidy_ite ?_ ?_
      | refine State.bumpSat_tidy ?_
      | refine State.stick_tidy ?_
    | simp only [↓tidy_mk_iff, ↓tidy_parts_iff]

end Sys2Proof.Machine
end

