-- ==== Sys2Proof/Laws/KeepLink.lean ====
section
/-! SUPPORT. Every operation of Machine/Link.lean keeps a state tidy. -/

set_option Elab.async false

namespace Sys2Proof.Machine

set_option linter.unusedSimpArgs false

variable {Q : Base}

theorem State.sendCtl_tidy {s : State} {r : CtlRec} (hs : s.Tidy Q) : State.Tidy Q (State.sendCtl s r) := by
  unfold State.sendCtl
  repeat' first
    | with_reducible assumption
    | ((try lift_lets); intro t; first | (refine tidy_have (Q := Q) (t := t) ?_ (fun _ => ?_); rotate_left; clear_value t; rotate_left; unfold t; clear t) | clear_value t)
    | with_reducible first
      | refine tidy_ite ?_ ?_
    | simp only [↓tidy_mk_iff, ↓tidy_parts_iff]

end Sys2Proof.Machine
end

