-- ==== Sys2Proof/Laws/KeepStore.lean ====
section
/-! SUPPORT. Every operation of Machine/Store.lean keeps a state tidy. -/

set_option Elab.async false

namespace Sys2Proof.Machine

set_option linter.unusedSimpArgs false

variable {Q : Base}

theorem State.setRun_tidy {s : State} {j : Nat} {r : SlotRun} (hs : s.Tidy Q) : State.Tidy Q (State.setRun s j r) := by
  unfold State.setRun
  repeat' first
    | with_reducible assumption
    | ((try lift_lets); intro t; first | (refine tidy_have (Q := Q) (t := t) ?_ (fun _ => ?_); rotate_left; clear_value t; rotate_left; unfold t; clear t) | clear_value t)
    | simp only [↓tidy_mk_iff, ↓tidy_parts_iff]

theorem State.slotCount_tidy {s : State} {j : Nat} {c : Nat} {n : Nat} (hs : s.Tidy Q) : State.Tidy Q (State.slotCount s j c n) := by
  unfold State.slotCount
  repeat' first
    | with_reducible assumption
    | with_reducible first
      | refine State.bumpBy_tidy ?_

theorem State.stackMove_tidy {s : State} {st : Nat} {bytes : Nat} (hs : s.Tidy Q) : State.Tidy Q (State.stackMove s st bytes) := by
  unfold State.stackMove
  repeat' first
    | with_reducible assumption
    | ((try lift_lets); intro t; first | (refine tidy_have (Q := Q) (t := t) ?_ (fun _ => ?_); rotate_left; clear_value t; rotate_left; unfold t; clear t) | clear_value t)
    | simp only [↓tidy_mk_iff, ↓tidy_parts_iff]

theorem State.granulesGood_tidy {s : State} {off : Nat} {bytes : Nat} (hs : s.Tidy Q) : State.Tidy Q (State.granulesGood s off bytes) := by
  unfold State.granulesGood
  repeat' first
    | with_reducible assumption
    | ((try lift_lets); intro t; first | (refine tidy_have (Q := Q) (t := t) ?_ (fun _ => ?_); rotate_left; clear_value t; rotate_left; unfold t; clear t) | clear_value t)
    | simp only [↓tidy_mk_iff, ↓tidy_parts_iff]

theorem State.cellCounted_tidy {s : State} {j e : Nat} {c : LineCell} (hs : s.Tidy Q) : State.Tidy Q (State.cellCounted s j e c) := by
  unfold State.cellCounted
  exact State.stackMove_tidy (State.bump_tidy (State.slotCount_tidy hs))

theorem State.cellWritten_tidy {s : State} {j : Nat} {e : Nat} {n : Nat} {i : Nat} {c : LineCell} (hs : s.Tidy Q) : State.Tidy Q (State.cellWritten s j e n i c) := by
  unfold State.cellWritten
  repeat' first
    | with_reducible assumption
    | ((try lift_lets); intro t; first | (refine tidy_have (Q := Q) (t := t) ?_ (fun _ => ?_); rotate_left; clear_value t; rotate_left; unfold t; clear t) | clear_value t)
    | with_reducible first
      | refine State.bump_tidy ?_
      | refine State.granulesGood_tidy ?_
      | refine State.slotCount_tidy ?_
      | refine State.stackMove_tidy ?_
      | refine State.wrBytes_tidy ?_

theorem State.storeInput_tidy {s : State} {c : LineCell} (hs : s.Tidy Q) : State.Tidy Q (State.storeInput s c) := by
  unfold State.storeInput
  repeat' first
    | with_reducible assumption
    | ((try lift_lets); intro t; first | (refine tidy_have (Q := Q) (t := t) ?_ (fun _ => ?_); rotate_left; clear_value t; rotate_left; unfold t; clear t) | clear_value t)
    | with_reducible first
      | refine tidy_ite ?_ ?_
      | refine tidy_foldl (fun _ _ _ => ?_) ?_
      | refine tidy1_foldl (fun _ _ _ => ?_) ?_
      | refine State.cellWritten_tidy ?_
      | refine State.cellCounted_tidy ?_
      | refine State.setRun_tidy ?_
      | refine tidy1_st ?_
    | simp only [↓tidy1_pair_iff]
    | simp only [↓tidy_mk_iff, ↓tidy_parts_iff]

theorem State.produce_tidy {s : State} {die : Nat} {async : Bool} {c : LineCell} (hs : s.Tidy Q) : State.Tidy Q (State.produce s die async c) := by
  unfold State.produce
  repeat' first
    | with_reducible assumption
    | with_reducible first
      | refine tidy_ite ?_ ?_
      | refine State.assemble_tidy ?_
      | refine State.storeInput_tidy ?_

theorem State.syncChoose_tidy {s : State} {j : Nat} {e : Nat} {k : Nat} (hs : s.Tidy Q) : State.Tidy Q (State.syncChoose s j e k) := by
  unfold State.syncChoose
  repeat' first
    | with_reducible assumption
    | ((try lift_lets); intro t; first | (refine tidy_have (Q := Q) (t := t) ?_ (fun _ => ?_); rotate_left; clear_value t; rotate_left; unfold t; clear t) | clear_value t)
    | with_reducible first
      | refine tidy_ite ?_ ?_
      | refine State.sendCtl_tidy ?_
      | refine State.setRun_tidy ?_
      | refine tidy1_st ?_
    | simp only [↓tidy1_pair_iff]
    | simp only [↓tidy_mk_iff, ↓tidy_parts_iff]
    | split

theorem State.syncResolve_tidy {s : State} {j : Nat} {e : Nat} {k : Nat} (hs : s.Tidy Q) : State.Tidy Q (State.syncResolve s j e k) := by
  unfold State.syncResolve
  repeat' first
    | with_reducible assumption
    | ((try lift_lets); intro t; first | (refine tidy_have (Q := Q) (t := t) ?_ (fun _ => ?_); rotate_left; clear_value t; rotate_left; unfold t; clear t) | clear_value t)
    | with_reducible first
      | refine tidy_ite ?_ ?_
      | refine State.bump_tidy ?_
      | refine State.raise_tidy ?_
      | refine State.setRun_tidy ?_
      | refine State.slotCount_tidy ?_
      | refine tidy1_st ?_
      | refine tidyO_getD ?_ ?_
    | simp only [↓tidy1_pair_iff]
    | simp only [↓tidy_mk_iff, ↓tidy_parts_iff]
    | split

theorem State.setInUse_tidy {s : State} {n : Nat} {v : Nat} (hs : s.Tidy Q) : State.Tidy Q (State.setInUse s n v) := by
  unfold State.setInUse
  repeat' first
    | with_reducible assumption
    | ((try lift_lets); intro t; first | (refine tidy_have (Q := Q) (t := t) ?_ (fun _ => ?_); rotate_left; clear_value t; rotate_left; unfold t; clear t) | clear_value t)
    | simp only [↓tidy_mk_iff, ↓tidy_parts_iff]

theorem State.poolMark_tidy {s : State} (hs : s.Tidy Q) : State.Tidy Q (State.poolMark s) := by
  unfold State.poolMark
  repeat' first
    | with_reducible assumption
    | with_reducible first
      | refine State.watermark_tidy ?_

theorem State.poolTake_tidy {s : State} {cls : Nat} {n : Nat} (hs : s.Tidy Q) : State.Tidy Q (State.poolTake s cls n) := by
  unfold State.poolTake
  repeat' first
    | with_reducible assumption
    | ((try lift_lets); intro t; first | (refine tidy_have (Q := Q) (t := t) ?_ (fun _ => ?_); rotate_left; clear_value t; rotate_left; unfold t; clear t) | clear_value t)
    | with_reducible first
      | refine State.poolMark_tidy ?_
      | refine State.raiseIf_tidy ?_
      | refine State.setInUse_tidy ?_

theorem State.poolGive_tidy {s : State} {cls : Nat} {n : Nat} (hs : s.Tidy Q) : State.Tidy Q (State.poolGive s cls n) := by
  unfold State.poolGive
  repeat' first
    | with_reducible assumption
    | with_reducible first
      | refine State.poolMark_tidy ?_
      | refine State.setInUse_tidy ?_

theorem State.readIssue_tidy {s : State} {j : Nat} {e : Nat} {off : Nat} {c : LineCell} (hs : s.Tidy Q) : State.Tidy Q (State.readIssue s j e off c) := by
  unfold State.readIssue
  repeat' first
    | with_reducible assumption
    | ((try lift_lets); intro t; first | (refine tidy_have (Q := Q) (t := t) ?_ (fun _ => ?_); rotate_left; clear_value t; rotate_left; unfold t; clear t) | clear_value t)
    | with_reducible first
      | refine tidy_ite ?_ ?_
      | refine State.bump_tidy ?_
      | refine State.poolTake_tidy ?_
      | refine State.stackMove_tidy ?_
    | simp only [↓tidy_mk_iff, ↓tidy_parts_iff]

theorem State.readNone_tidy {s : State} {j : Nat} (hs : s.Tidy Q) : State.Tidy Q (State.readNone s j) := by
  unfold State.readNone
  repeat' first
    | with_reducible assumption
    | with_reducible first
      | refine State.slotCount_tidy ?_

theorem State.takeStaged_tidy {s : State} {port : Nat} {e : Nat} (hs : s.Tidy Q) : TidyO Q (State.takeStaged s port e) := by
  unfold State.takeStaged
  repeat' first
    | with_reducible assumption
    | ((try lift_lets); intro t; first | (refine tidy_have (Q := Q) (t := t) ?_ (fun _ => ?_); rotate_left; clear_value t; rotate_left; unfold t; clear t) | clear_value t)
    | with_reducible first
      | refine tidyO_some ?_
      | exact tidyO_none
      | refine tidy1_st ?_
    | simp only [↓tidy1_pair_iff]
    | simp only [↓tidy_mk_iff, ↓tidy_parts_iff]
    | split

theorem State.portRead_tidy {s : State} {j : Nat} {e : Nat} {off : Nat} {c : LineCell} (hs : s.Tidy Q) : State.Tidy Q (State.portRead s j e off c) := by
  unfold State.portRead
  repeat' first
    | with_reducible assumption
    | ((try lift_lets); intro t; first | (refine tidy_have (Q := Q) (t := t) ?_ (fun _ => ?_); rotate_left; clear_value t; rotate_left; unfold t; clear t) | clear_value t)
    | with_reducible first
      | refine State.assemble_tidy ?_
      | refine State.readIssue_tidy ?_
      | refine State.slotCount_tidy ?_
      | refine State.takeStaged_tidy ?_
      | refine tidyO_get (State.takeStaged_tidy ?_) (by assumption)
    | split

theorem State.syncVideoReads_tidy {s : State} {j : Nat} {e : Nat} {ep : Nat} (hs : s.Tidy Q) : State.Tidy Q (State.syncVideoReads s j e ep) := by
  unfold State.syncVideoReads
  repeat' first
    | with_reducible assumption
    | ((try lift_lets); intro t; first | (refine tidy_have (Q := Q) (t := t) ?_ (fun _ => ?_); rotate_left; clear_value t; rotate_left; unfold t; clear t) | clear_value t)
    | with_reducible first
      | refine tidy_foldl (fun _ _ _ => ?_) ?_
      | refine tidy1_foldl (fun _ _ _ => ?_) ?_
      | refine State.readIssue_tidy ?_
      | refine State.readNone_tidy ?_
    | split

theorem State.syncAudioReads_tidy {s : State} {j : Nat} {e : Nat} {ep : Nat} (hs : s.Tidy Q) : State.Tidy Q (State.syncAudioReads s j e ep) := by
  unfold State.syncAudioReads
  repeat' first
    | with_reducible assumption
    | ((try lift_lets); intro t; first | (refine tidy_have (Q := Q) (t := t) ?_ (fun _ => ?_); rotate_left; clear_value t; rotate_left; unfold t; clear t) | clear_value t)
    | with_reducible first
      | refine tidy_ite ?_ ?_
      | refine tidy_foldl (fun _ _ _ => ?_) ?_
      | refine tidy1_foldl (fun _ _ _ => ?_) ?_
      | refine State.readIssue_tidy ?_
      | refine State.readNone_tidy ?_
    | split

theorem State.syncAncReads_tidy {s : State} {j : Nat} {e : Nat} {ep : Nat} (hs : s.Tidy Q) : State.Tidy Q (State.syncAncReads s j e ep) := by
  unfold State.syncAncReads
  repeat' first
    | with_reducible assumption
    | ((try lift_lets); intro t; first | (refine tidy_have (Q := Q) (t := t) ?_ (fun _ => ?_); rotate_left; clear_value t; rotate_left; unfold t; clear t) | clear_value t)
    | with_reducible first
      | refine tidy_ite ?_ ?_
      | refine tidy_foldl (fun _ _ _ => ?_) ?_
      | refine tidy1_foldl (fun _ _ _ => ?_) ?_
      | refine State.readIssue_tidy ?_
    | simp only [↓tidy_mk_iff, ↓tidy_parts_iff]
    | split

theorem State.mergeCount_tidy {s : State} {merge : Bool} {x : Option (LineCell × Bool)} (hs : s.Tidy Q) : State.Tidy Q (State.mergeCount s merge x) := by
  unfold State.mergeCount
  repeat' first
    | with_reducible assumption
    | ((try lift_lets); intro t; first | (refine tidy_have (Q := Q) (t := t) ?_ (fun _ => ?_); rotate_left; clear_value t; rotate_left; unfold t; clear t) | clear_value t)
    | with_reducible first
      | refine tidy_ite ?_ ?_
      | refine State.bump_tidy ?_
      | refine State.raise_tidy ?_
    | split

theorem State.delayReads_tidy {s : State} {j : Nat} {e : Nat} {ep : Nat} (hs : s.Tidy Q) : State.Tidy Q (State.delayReads s j e ep) := by
  unfold State.delayReads
  repeat' first
    | with_reducible assumption
    | ((try lift_lets); intro t; first | (refine tidy_have (Q := Q) (t := t) ?_ (fun _ => ?_); rotate_left; clear_value t; rotate_left; unfold t; clear t) | (refine tidyG_have (Q := Q) (t := t) (fun _ _ _ => ?_) (fun _ => ?_); rotate_left; clear_value t; rotate_left; unfold t; clear t) | (refine tidyE_have (Q := Q) (t := t) (fun _ _ => ?_) (fun _ => ?_); rotate_left; clear_value t; rotate_left; unfold t; clear t) | (refine tidyF_have (Q := Q) (t := t) (fun _ => ?_) (fun _ => ?_); rotate_left; clear_value t; rotate_left; unfold t; clear t) | clear_value t)
    | with_reducible first
      | refine tidy_ite ?_ ?_
      | refine tidy_foldl (fun _ _ _ => ?_) ?_
      | refine tidy1_foldl (fun _ _ _ => ?_) ?_
      | refine State.mergeCount_tidy ?_
      | refine State.portRead_tidy ?_
      | refine State.readNone_tidy ?_
      | refine State.setRun_tidy ?_
      | refine tidy1_st ?_
      | refine tidyG_use (by assumption) ?_
      | refine tidyF_use (by assumption)
      | refine tidyE_use (by assumption) ?_
    | simp only [↓tidy1_pair_iff]
    | simp only [↓tidy_mk_iff, ↓tidy_parts_iff]
    | split

theorem State.clipReads_tidy {s : State} {j : Nat} {e : Nat} {ep : Nat} (hs : s.Tidy Q) : State.Tidy Q (State.clipReads s j e ep) := by
  unfold State.clipReads
  repeat' first
    | with_reducible assumption
    | ((try lift_lets); intro t; first | (refine tidy_have (Q := Q) (t := t) ?_ (fun _ => ?_); rotate_left; clear_value t; rotate_left; unfold t; clear t) | clear_value t)
    | with_reducible first
      | refine tidy_ite ?_ ?_
      | refine tidy_foldl (fun _ _ _ => ?_) ?_
      | refine tidy1_foldl (fun _ _ _ => ?_) ?_
      | refine State.bump_tidy ?_
      | refine State.portRead_tidy ?_
      | refine State.readNone_tidy ?_
      | refine State.setRun_tidy ?_
    | simp only [↓tidy_mk_iff, ↓tidy_parts_iff]

theorem State.slotReads_tidy {s : State} {ep : Nat} {x : Nat × Nat} (hs : s.Tidy Q) : State.Tidy Q (State.slotReads s ep x) := by
  unfold State.slotReads
  repeat' first
    | with_reducible assumption
    | ((try lift_lets); intro t; first | (refine tidy_have (Q := Q) (t := t) ?_ (fun _ => ?_); rotate_left; clear_value t; rotate_left; unfold t; clear t) | clear_value t)
    | with_reducible first
      | refine State.clipReads_tidy ?_
      | refine State.delayReads_tidy ?_
      | refine State.syncAncReads_tidy ?_
      | refine State.syncAudioReads_tidy ?_
      | refine State.syncVideoReads_tidy ?_
      | refine tidy1_st ?_
    | simp only [↓tidy1_pair_iff]
    | split

theorem State.delayWrites_tidy {s : State} {x : Nat × Nat} (hs : s.Tidy Q) : State.Tidy Q (State.delayWrites s x) := by
  unfold State.delayWrites
  repeat' first
    | with_reducible assumption
    | ((try lift_lets); intro t; first | (refine tidy_have (Q := Q) (t := t) ?_ (fun _ => ?_); rotate_left; clear_value t; rotate_left; unfold t; clear t) | clear_value t)
    | with_reducible first
      | refine tidy_ite ?_ ?_
      | refine tidy_foldl (fun _ _ _ => ?_) ?_
      | refine tidy1_foldl (fun _ _ _ => ?_) ?_
      | refine State.cellWritten_tidy ?_
      | refine State.cellCounted_tidy ?_
      | refine State.setRun_tidy ?_
      | refine tidy1_st ?_
    | simp only [↓tidy1_pair_iff]
    | simp only [↓tidy_mk_iff, ↓tidy_parts_iff]
    | split

theorem State.readsEnd_tidy {s : State} {e : Nat} (hs : s.Tidy Q) : State.Tidy Q (State.readsEnd s e) := by
  unfold State.readsEnd
  repeat' first
    | with_reducible assumption
    | ((try lift_lets); intro t; first | (refine tidy_have (Q := Q) (t := t) ?_ (fun _ => ?_); rotate_left; clear_value t; rotate_left; unfold t; clear t) | clear_value t)
    | with_reducible first
      | refine tidy_ite ?_ ?_
      | refine tidy_foldl (fun _ _ _ => ?_) ?_
      | refine tidy1_foldl (fun _ _ _ => ?_) ?_
      | refine State.bump_tidy ?_
      | refine State.poolGive_tidy ?_
      | refine State.raise_tidy ?_
      | refine State.slotCount_tidy ?_
    | simp only [↓tidy_mk_iff, ↓tidy_parts_iff]

theorem State.bandwidthEnd_tidy {s : State} (hs : s.Tidy Q) : State.Tidy Q (State.bandwidthEnd s) := by
  unfold State.bandwidthEnd
  repeat' first
    | with_reducible assumption
    | ((try lift_lets); intro t; first | (refine tidy_have (Q := Q) (t := t) ?_ (fun _ => ?_); rotate_left; clear_value t; rotate_left; unfold t; clear t) | clear_value t)
    | with_reducible first
      | refine tidy_foldl (fun _ _ _ => ?_) ?_
      | refine tidy1_foldl (fun _ _ _ => ?_) ?_
      | refine State.setFld_tidy ?_
      | refine State.watermark_tidy ?_
      | refine State.wrN_tidy ?_
    | simp only [↓tidy_mk_iff, ↓tidy_parts_iff]

theorem State.fstStart_tidy {s : State} (hs : s.Tidy Q) : State.Tidy Q (State.fstStart s) := by
  unfold State.fstStart
  repeat' first
    | with_reducible assumption
    | ((try lift_lets); intro t; first | (refine tidy_have (Q := Q) (t := t) ?_ (fun _ => ?_); rotate_left; clear_value t; rotate_left; unfold t; clear t) | clear_value t)
    | with_reducible first
      | refine tidy_ite ?_ ?_
      | refine tidy_foldl (fun _ _ _ => ?_) ?_
      | refine tidy1_foldl (fun _ _ _ => ?_) ?_
      | refine State.delayWrites_tidy ?_
      | refine State.slotReads_tidy ?_
      | refine State.syncChoose_tidy ?_
      | refine State.syncResolve_tidy ?_
      | refine tidy1_st ?_
    | simp only [↓tidy1_pair_iff]
    | simp only [↓tidy_mk_iff, ↓tidy_parts_iff]

theorem State.zeroFillDone_tidy {s : State} {hundredths : Nat} (hs : s.Tidy Q) : State.Tidy Q (State.zeroFillDone s hundredths) := by
  unfold State.zeroFillDone
  repeat' first
    | with_reducible assumption
    | ((try lift_lets); intro t; first | (refine tidy_have (Q := Q) (t := t) ?_ (fun _ => ?_); rotate_left; clear_value t; rotate_left; unfold t; clear t) | clear_value t)
    | with_reducible first
      | refine tidy_ite ?_ ?_
      | refine State.setBit_tidy ?_
      | refine State.wrN_tidy ?_
      | refine tidy1_st ?_
      | refine tidy_mem ?_ (mem_filter _)
    | simp only [↓tidy1_pair_iff]
    | simp only [↓tidy_mk_iff, ↓tidy_parts_iff]

theorem execFstZeroFillDone_tidy {hundredths : Nat} {s : State} (hs : s.Tidy Q) : TidyOut Q (execFstZeroFillDone hundredths s) := by
  unfold execFstZeroFillDone
  repeat' first
    | with_reducible assumption
    | with_reducible first
      | refine tidyOut_next ?_
      | refine State.zeroFillDone_tidy ?_

theorem State.eccBad_tidy {s : State} {st : Nat} {off : Nat} (hs : s.Tidy Q) : State.Tidy Q (State.eccBad s st off) := by
  unfold State.eccBad
  repeat' first
    | with_reducible assumption
    | ((try lift_lets); intro t; first | (refine tidy_have (Q := Q) (t := t) ?_ (fun _ => ?_); rotate_left; clear_value t; rotate_left; unfold t; clear t) | clear_value t)
    | with_reducible first
      | refine State.bump_tidy ?_
      | refine State.raise_tidy ?_
      | refine State.wrN_tidy ?_
    | simp only [↓tidy_mk_iff, ↓tidy_parts_iff]

theorem State.eccFixed_tidy {s : State} {st : Nat} {off : Nat} (hs : s.Tidy Q) : State.Tidy Q (State.eccFixed s st off) := by
  unfold State.eccFixed
  repeat' first
    | with_reducible assumption
    | with_reducible first
      | refine State.bump_tidy ?_
      | refine State.raise_tidy ?_

theorem State.readLatency_tidy {s : State} {st : Nat} {ns : Nat} (hs : s.Tidy Q) : State.Tidy Q (State.readLatency s st ns) := by
  unfold State.readLatency
  repeat' first
    | with_reducible assumption
    | ((try lift_lets); intro t; first | (refine tidy_have (Q := Q) (t := t) ?_ (fun _ => ?_); rotate_left; clear_value t; rotate_left; unfold t; clear t) | clear_value t)
    | with_reducible first
      | refine tidy_ite ?_ ?_
      | refine State.bump_tidy ?_
      | refine State.keepMax_tidy ?_

theorem State.readsGo_tidy {s : State} (hs : s.Tidy Q) : State.Tidy Q (State.readsGo s) := by
  unfold State.readsGo
  repeat' first
    | with_reducible assumption
    | ((try lift_lets); intro t; first | (refine tidy_have (Q := Q) (t := t) ?_ (fun _ => ?_); rotate_left; clear_value t; rotate_left; unfold t; clear t) | clear_value t)
    | with_reducible first
      | refine tidy_ite ?_ ?_
      | refine State.poolTake_tidy ?_
    | simp only [↓tidy_mk_iff, ↓tidy_parts_iff]
    | split

theorem State.readDone_tidy {s : State} {i : Nat} {ns : Nat} {tok : Nat} {ecc : Ecc} (hs : s.Tidy Q) : State.Tidy Q (State.readDone s i ns tok ecc) := by
  unfold State.readDone
  repeat' first
    | with_reducible assumption
    | ((try lift_lets); intro t; first | (refine tidy_have (Q := Q) (t := t) ?_ (fun _ => ?_); rotate_left; clear_value t; rotate_left; unfold t; clear t) | clear_value t)
    | with_reducible first
      | refine tidy_ite ?_ ?_
      | refine State.assemble_tidy ?_
      | refine State.eccBad_tidy ?_
      | refine State.eccFixed_tidy ?_
      | refine State.poolGive_tidy ?_
      | refine State.readLatency_tidy ?_
      | refine State.readsGo_tidy ?_
      | refine State.slotCount_tidy ?_
      | refine tidy1_st ?_
    | simp only [↓tidy1_pair_iff]
    | simp only [↓tidy_mk_iff, ↓tidy_parts_iff]
    | split

theorem State.stackPowerDown_tidy {s : State} {st : Nat} (hs : s.Tidy Q) : State.Tidy Q (State.stackPowerDown s st) := by
  unfold State.stackPowerDown
  repeat' first
    | with_reducible assumption
    | ((try lift_lets); intro t; first | (refine tidy_have (Q := Q) (t := t) ?_ (fun _ => ?_); rotate_left; clear_value t; rotate_left; unfold t; clear t) | clear_value t)
    | with_reducible first
      | refine tidy_ite ?_ ?_
      | refine State.bump_tidy ?_
      | refine State.setBit_tidy ?_
    | simp only [↓tidy_mk_iff, ↓tidy_parts_iff]

theorem execStackPowerDown_tidy {st : Nat} {s : State} (hs : s.Tidy Q) : TidyOut Q (execStackPowerDown st s) := by
  unfold execStackPowerDown
  repeat' first
    | with_reducible assumption
    | with_reducible first
      | refine tidyOut_next ?_
      | refine State.stackPowerDown_tidy ?_

theorem State.stackWake_tidy {s : State} {st : Nat} {ns : Nat} (hs : s.Tidy Q) : State.Tidy Q (State.stackWake s st ns) := by
  unfold State.stackWake
  repeat' first
    | with_reducible assumption
    | ((try lift_lets); intro t; first | (refine tidy_have (Q := Q) (t := t) ?_ (fun _ => ?_); rotate_left; clear_value t; rotate_left; unfold t; clear t) | clear_value t)
    | with_reducible first
      | refine State.bumpBy_tidy ?_
      | refine State.keepMax_tidy ?_
      | refine State.setBit_tidy ?_
      | refine tidy1_st ?_
    | simp only [↓tidy1_pair_iff]
    | simp only [↓tidy_mk_iff, ↓tidy_parts_iff]
    | split

theorem execStackWake_tidy {st : Nat} {ns : Nat} {s : State} (hs : s.Tidy Q) : TidyOut Q (execStackWake st ns s) := by
  unfold execStackWake
  repeat' first
    | with_reducible assumption
    | with_reducible first
      | refine tidyOut_next ?_
      | refine State.stackWake_tidy ?_

theorem State.setUrgent_tidy {s : State} {st : Nat} {on : Bool} (hs : s.Tidy Q) : State.Tidy Q (State.setUrgent s st on) := by
  unfold State.setUrgent
  repeat' first
    | with_reducible assumption
    | ((try lift_lets); intro t; first | (refine tidy_have (Q := Q) (t := t) ?_ (fun _ => ?_); rotate_left; clear_value t; rotate_left; unfold t; clear t) | clear_value t)
    | with_reducible first
      | refine tidy_ite ?_ ?_
      | refine State.setBit_tidy ?_
    | simp only [↓tidy_mk_iff, ↓tidy_parts_iff]

theorem State.scrubRead_tidy {s : State} {st : Nat} {ecc : Ecc} (hs : s.Tidy Q) : State.Tidy Q (State.scrubRead s st ecc) := by
  unfold State.scrubRead
  repeat' first
    | with_reducible assumption
    | ((try lift_lets); intro t; first | (refine tidy_have (Q := Q) (t := t) ?_ (fun _ => ?_); rotate_left; clear_value t; rotate_left; unfold t; clear t) | clear_value t)
    | with_reducible first
      | refine tidy_ite ?_ ?_
      | refine State.bumpSat_tidy ?_
      | refine State.eccBad_tidy ?_
      | refine State.eccFixed_tidy ?_
      | refine State.setFld_tidy ?_
      | refine State.wrN_tidy ?_
    | simp only [↓tidy_mk_iff, ↓tidy_parts_iff]

theorem execScrubRead_tidy {st : Nat} {ecc : Ecc} {s : State} (hs : s.Tidy Q) : TidyOut Q (execScrubRead st ecc s) := by
  unfold execScrubRead
  repeat' first
    | with_reducible assumption
    | with_reducible first
      | refine tidyOut_next ?_
      | refine State.scrubRead_tidy ?_

theorem State.syncRx_tidy {s : State} {slot : Nat} {k : Nat} {stamp : Nat} (hs : s.Tidy Q) : State.Tidy Q (State.syncRx s slot k stamp) := by
  unfold State.syncRx
  repeat' first
    | with_reducible assumption
    | ((try lift_lets); intro t; first | (refine tidy_have (Q := Q) (t := t) ?_ (fun _ => ?_); rotate_left; clear_value t; rotate_left; unfold t; clear t) | clear_value t)
    | with_reducible first
      | refine tidy_ite ?_ ?_
      | refine tidy1_st ?_
    | simp only [↓tidy1_pair_iff]
    | simp only [↓tidy_mk_iff, ↓tidy_parts_iff]

theorem execSyncRx_tidy {slot : Nat} {k : Nat} {stamp : Nat} {s : State} (hs : s.Tidy Q) : TidyOut Q (execSyncRx slot k stamp s) := by
  unfold execSyncRx
  repeat' first
    | with_reducible assumption
    | with_reducible first
      | refine tidyOut_next ?_
      | refine State.syncRx_tidy ?_

end Sys2Proof.Machine
end

