-- ==== Sys2Proof/Laws/KeepLanes.lean ====
section
/-! SUPPORT. Every operation of Machine/Lanes.lean keeps a state tidy. -/

set_option Elab.async false

namespace Sys2Proof.Machine

set_option linter.unusedSimpArgs false

variable {Q : Base}

theorem State.setLane_tidy {s : State} {l : Nat} {x : Lane} (hs : s.Tidy Q) : State.Tidy Q (State.setLane s l x) := by
  unfold State.setLane
  repeat' first
    | with_reducible assumption
    | ((try lift_lets); intro t; first | (refine tidy_have (Q := Q) (t := t) ?_ (fun _ => ?_); rotate_left; clear_value t; rotate_left; unfold t; clear t) | clear_value t)
    | simp only [↓tidy_mk_iff, ↓tidy_parts_iff]

theorem State.setRx_tidy {s : State} {l : Nat} {v : Nat} (hs : s.Tidy Q) : State.Tidy Q (State.setRx s l v) := by
  unfold State.setRx
  repeat' first
    | with_reducible assumption
    | with_reducible first
      | refine State.setFld_tidy ?_

theorem State.setTx_tidy {s : State} {l : Nat} {v : Nat} (hs : s.Tidy Q) : State.Tidy Q (State.setTx s l v) := by
  unfold State.setTx
  repeat' first
    | with_reducible assumption
    | with_reducible first
      | refine State.setFld_tidy ?_

theorem State.laneStick_tidy {s : State} {l : Nat} {k : Nat} (hs : s.Tidy Q) : State.Tidy Q (State.laneStick s l k) := by
  unfold State.laneStick
  repeat' first
    | with_reducible assumption
    | with_reducible first
      | refine State.stick_tidy ?_

theorem State.laneCount_tidy {s : State} {l : Nat} {c : Nat} (hs : s.Tidy Q) : State.Tidy Q (State.laneCount s l c) := by
  unfold State.laneCount
  repeat' first
    | with_reducible assumption
    | with_reducible first
      | refine State.bump_tidy ?_

theorem State.fifoMark_tidy {s : State} {q : Nat} (hs : s.Tidy Q) : State.Tidy Q (State.fifoMark s q) := by
  unfold State.fifoMark
  repeat' first
    | with_reducible assumption
    | ((try lift_lets); intro t; first | (refine tidy_have (Q := Q) (t := t) ?_ (fun _ => ?_); rotate_left; clear_value t; rotate_left; unfold t; clear t) | clear_value t)
    | with_reducible first
      | refine tidy_foldl (fun _ _ _ => ?_) ?_
      | refine tidy1_foldl (fun _ _ _ => ?_) ?_
      | refine State.watermark_tidy ?_

theorem State.lockLost_tidy {s : State} {l : Nat} (hs : s.Tidy Q) : State.Tidy Q (State.lockLost s l) := by
  unfold State.lockLost
  repeat' first
    | with_reducible assumption
    | ((try lift_lets); intro t; first | (refine tidy_have (Q := Q) (t := t) ?_ (fun _ => ?_); rotate_left; clear_value t; rotate_left; unfold t; clear t) | clear_value t)
    | with_reducible first
      | refine State.laneStick_tidy ?_
      | refine State.raise_tidy ?_
      | refine State.setLane_tidy ?_
      | refine State.setRx_tidy ?_
    | simp only [↓tidy_mk_iff, ↓tidy_parts_iff]

theorem State.seedLane_tidy {s : State} {l : Nat} (hs : s.Tidy Q) : State.Tidy Q (State.seedLane s l) := by
  unfold State.seedLane
  repeat' first
    | with_reducible assumption
    | ((try lift_lets); intro t; first | (refine tidy_have (Q := Q) (t := t) ?_ (fun _ => ?_); rotate_left; clear_value t; rotate_left; unfold t; clear t) | clear_value t)
    | with_reducible first
      | refine tidy_ite ?_ ?_
      | refine State.raise_tidy ?_
      | refine State.setLane_tidy ?_
    | simp only [↓tidy_mk_iff, ↓tidy_parts_iff]

theorem State.quadEvent_tidy {s : State} {q : Nat} (hs : s.Tidy Q) : State.Tidy Q (State.quadEvent s q) := by
  unfold State.quadEvent
  repeat' first
    | with_reducible assumption
    | with_reducible first
      | refine tidy_foldl (fun _ _ _ => ?_) ?_
      | refine tidy1_foldl (fun _ _ _ => ?_) ?_
      | refine State.laneStick_tidy ?_

theorem State.setPll_tidy {s : State} {q : Nat} {tx : Bool} {on : Bool} (hs : s.Tidy Q) : State.Tidy Q (State.setPll s q tx on) := by
  unfold State.setPll
  repeat' first
    | with_reducible assumption
    | with_reducible first
      | refine tidy_ite ?_ ?_
      | refine State.quadEvent_tidy ?_
      | refine State.setBit_tidy ?_

theorem State.quadStart_tidy {s : State} {q : Nat} (hs : s.Tidy Q) : State.Tidy Q (State.quadStart s q) := by
  unfold State.quadStart
  repeat' first
    | with_reducible assumption
    | ((try lift_lets); intro t; first | (refine tidy_have (Q := Q) (t := t) ?_ (fun _ => ?_); rotate_left; clear_value t; rotate_left; unfold t; clear t) | clear_value t)
    | with_reducible first
      | refine tidy_ite ?_ ?_
      | refine tidy_foldl (fun _ _ _ => ?_) ?_
      | refine tidy1_foldl (fun _ _ _ => ?_) ?_
      | refine State.seedLane_tidy ?_
      | refine State.setRx_tidy ?_
      | refine State.setTx_tidy ?_

theorem State.quadStop_tidy {s : State} {q : Nat} (hs : s.Tidy Q) : State.Tidy Q (State.quadStop s q) := by
  unfold State.quadStop
  repeat' first
    | with_reducible assumption
    | ((try lift_lets); intro t; first | (refine tidy_have (Q := Q) (t := t) ?_ (fun _ => ?_); rotate_left; clear_value t; rotate_left; unfold t; clear t) | clear_value t)
    | with_reducible first
      | refine tidy_foldl (fun _ _ _ => ?_) ?_
      | refine tidy1_foldl (fun _ _ _ => ?_) ?_
      | refine State.fifoMark_tidy ?_
      | refine State.setLane_tidy ?_
      | refine State.setPll_tidy ?_
      | refine State.setRx_tidy ?_
      | refine State.setTx_tidy ?_
    | simp only [↓tidy_mk_iff, ↓tidy_parts_iff]

theorem State.txResume_tidy {s : State} {q : Nat} (hs : s.Tidy Q) : State.Tidy Q (State.txResume s q) := by
  unfold State.txResume
  repeat' first
    | with_reducible assumption
    | ((try lift_lets); intro t; first | (refine tidy_have (Q := Q) (t := t) ?_ (fun _ => ?_); rotate_left; clear_value t; rotate_left; unfold t; clear t) | clear_value t)
    | with_reducible first
      | refine tidy_ite ?_ ?_
      | refine tidy_foldl (fun _ _ _ => ?_) ?_
      | refine tidy1_foldl (fun _ _ _ => ?_) ?_
      | refine State.laneStick_tidy ?_
      | refine State.send_tidy ?_
      | refine State.setTx_tidy ?_

theorem State.pllLock_tidy {s : State} {q : Nat} {tx : Bool} (hs : s.Tidy Q) : State.Tidy Q (State.pllLock s q tx) := by
  unfold State.pllLock
  repeat' first
    | with_reducible assumption
    | ((try lift_lets); intro t; first | (refine tidy_have (Q := Q) (t := t) ?_ (fun _ => ?_); rotate_left; clear_value t; rotate_left; unfold t; clear t) | clear_value t)
    | with_reducible first
      | refine tidy_ite ?_ ?_
      | refine State.setPll_tidy ?_
      | refine State.txResume_tidy ?_
      | refine tidy1_st ?_
    | simp only [↓tidy1_pair_iff]

theorem execPllLock_tidy {q : Nat} {tx : Bool} {s : State} (hs : s.Tidy Q) : TidyOut Q (execPllLock q tx s) := by
  unfold execPllLock
  repeat' first
    | with_reducible assumption
    | with_reducible first
      | refine tidyOut_next ?_
      | refine State.pllLock_tidy ?_

theorem State.pllTimeout_tidy {s : State} {q : Nat} (hs : s.Tidy Q) : State.Tidy Q (State.pllTimeout s q) := by
  unfold State.pllTimeout
  repeat' first
    | with_reducible assumption
    | ((try lift_lets); intro t; first | (refine tidy_have (Q := Q) (t := t) ?_ (fun _ => ?_); rotate_left; clear_value t; rotate_left; unfold t; clear t) | clear_value t)
    | with_reducible first
      | refine tidy_ite ?_ ?_
      | refine State.dropRequest_tidy ?_
      | refine State.raise_tidy ?_
      | refine State.setPll_tidy ?_
      | refine State.stick_tidy ?_
      | refine tidy1_st ?_
    | simp only [↓tidy1_pair_iff]

theorem execPllLockTimeout_tidy {q : Nat} {s : State} (hs : s.Tidy Q) : TidyOut Q (execPllLockTimeout q s) := by
  unfold execPllLockTimeout
  repeat' first
    | with_reducible assumption
    | with_reducible first
      | refine tidyOut_next ?_
      | refine State.pllTimeout_tidy ?_

theorem State.pllUnlock_tidy {s : State} {q : Nat} {tx : Bool} (hs : s.Tidy Q) : State.Tidy Q (State.pllUnlock s q tx) := by
  unfold State.pllUnlock
  repeat' first
    | with_reducible assumption
    | ((try lift_lets); intro t; first | (refine tidy_have (Q := Q) (t := t) ?_ (fun _ => ?_); rotate_left; clear_value t; rotate_left; unfold t; clear t) | clear_value t)
    | with_reducible first
      | refine tidy_ite ?_ ?_
      | refine tidy_foldl (fun _ _ _ => ?_) ?_
      | refine tidy1_foldl (fun _ _ _ => ?_) ?_
      | refine State.lockLost_tidy ?_
      | refine State.setPll_tidy ?_
      | refine State.setTx_tidy ?_

theorem execPllUnlock_tidy {q : Nat} {tx : Bool} {s : State} (hs : s.Tidy Q) : TidyOut Q (execPllUnlock q tx s) := by
  unfold execPllUnlock
  repeat' first
    | with_reducible assumption
    | with_reducible first
      | refine tidyOut_next ?_
      | refine State.pllUnlock_tidy ?_

theorem State.headerInvalid_tidy {s : State} {l : Nat} {b : Nat} (hs : s.Tidy Q) : State.Tidy Q (State.headerInvalid s l b) := by
  unfold State.headerInvalid
  repeat' first
    | with_reducible assumption
    | ((try lift_lets); intro t; first | (refine tidy_have (Q := Q) (t := t) ?_ (fun _ => ?_); rotate_left; clear_value t; rotate_left; unfold t; clear t) | clear_value t)
    | with_reducible first
      | refine tidy_ite ?_ ?_
      | refine State.laneCount_tidy ?_
      | refine State.lockLost_tidy ?_
      | refine State.setLane_tidy ?_
    | simp only [↓tidy_mk_iff, ↓tidy_parts_iff]

theorem State.laneLock_tidy {s : State} {l : Nat} (hs : s.Tidy Q) : State.Tidy Q (State.laneLock s l) := by
  unfold State.laneLock
  repeat' first
    | with_reducible assumption
    | ((try lift_lets); intro t; first | (refine tidy_have (Q := Q) (t := t) ?_ (fun _ => ?_); rotate_left; clear_value t; rotate_left; unfold t; clear t) | clear_value t)
    | with_reducible first
      | refine tidy_ite ?_ ?_
      | refine State.setLane_tidy ?_
      | refine State.setRx_tidy ?_
    | simp only [↓tidy_mk_iff, ↓tidy_parts_iff]

theorem State.recoveryTimeout_tidy {s : State} {l : Nat} (hs : s.Tidy Q) : State.Tidy Q (State.recoveryTimeout s l) := by
  unfold State.recoveryTimeout
  repeat' first
    | with_reducible assumption
    | ((try lift_lets); intro t; first | (refine tidy_have (Q := Q) (t := t) ?_ (fun _ => ?_); rotate_left; clear_value t; rotate_left; unfold t; clear t) | clear_value t)
    | with_reducible first
      | refine tidy_ite ?_ ?_
      | refine State.setLane_tidy ?_
      | refine State.setRx_tidy ?_
    | simp only [↓tidy_mk_iff, ↓tidy_parts_iff]

theorem State.alignWrite_tidy {s : State} {q : Nat} {v : Nat} (hs : s.Tidy Q) : State.Tidy Q (State.alignWrite s q v) := by
  unfold State.alignWrite
  repeat' first
    | with_reducible assumption
    | ((try lift_lets); intro t; first | (refine tidy_have (Q := Q) (t := t) ?_ (fun _ => ?_); rotate_left; clear_value t; rotate_left; unfold t; clear t) | clear_value t)
    | with_reducible first
      | refine tidy_ite ?_ ?_
      | refine State.setLane_tidy ?_
    | simp only [↓tidy_mk_iff, ↓tidy_parts_iff]

theorem execAlignSlip_tidy {m : Requester} {q : Nat} {v : Nat} {s : State} (hs : s.Tidy Q) : TidyOut Q (execAlignSlip m q v s) := by
  unfold execAlignSlip
  repeat' first
    | with_reducible assumption
    | with_reducible first
      | refine tidyOut_next ?_
      | refine State.alignWrite_tidy ?_
      | refine State.writeAccess_tidy ?_ (fun _ _ => ?_)

theorem State.rxError_tidy {s : State} {l : Nat} {cnt : Nat} {kind : Nat} {src : Nat} (hs : s.Tidy Q) : State.Tidy Q (State.rxError s l cnt kind src) := by
  unfold State.rxError
  repeat' first
    | with_reducible assumption
    | with_reducible first
      | refine State.laneCount_tidy ?_
      | refine State.laneStick_tidy ?_
      | refine State.raise_tidy ?_

theorem State.burstRx_tidy {s : State} {l : Nat} {h : Nat} {body : List (Bool × Nat)} (hs : s.Tidy Q) : State.Tidy Q (State.burstRx s l h body) := by
  unfold State.burstRx
  repeat' first
    | with_reducible assumption
    | ((try lift_lets); intro t; first | (refine tidy_have (Q := Q) (t := t) ?_ (fun _ => ?_); rotate_left; clear_value t; rotate_left; unfold t; clear t) | clear_value t)
    | with_reducible first
      | refine tidy_ite ?_ ?_
      | refine State.fifoMark_tidy ?_
      | refine State.rxError_tidy ?_
      | refine State.setLane_tidy ?_
      | refine tidy1_st ?_
    | simp only [↓tidy1_pair_iff]
    | simp only [↓tidy_mk_iff, ↓tidy_parts_iff]
    | split

theorem execSlfBurstRx_tidy {lane : Nat} {header : Nat} {body : List (Bool × Nat)} {s : State} (hs : s.Tidy Q) : TidyOut Q (execSlfBurstRx lane header body s) := by
  unfold execSlfBurstRx
  repeat' first
    | with_reducible assumption
    | with_reducible first
      | refine tidyOut_next ?_
      | refine State.burstRx_tidy ?_

theorem State.markerRx_tidy {s : State} {l : Nat} {payload : Nat} (hs : s.Tidy Q) : State.Tidy Q (State.markerRx s l payload) := by
  unfold State.markerRx
  repeat' first
    | with_reducible assumption
    | ((try lift_lets); intro t; first | (refine tidy_have (Q := Q) (t := t) ?_ (fun _ => ?_); rotate_left; clear_value t; rotate_left; unfold t; clear t) | clear_value t)
    | with_reducible first
      | refine tidy_ite ?_ ?_
      | refine State.rxError_tidy ?_
      | refine State.setLane_tidy ?_
    | simp only [↓tidy_mk_iff, ↓tidy_parts_iff]
    | split

theorem execSlfMarkerRx_tidy {lane : Nat} {payload : Nat} {s : State} (hs : s.Tidy Q) : TidyOut Q (execSlfMarkerRx lane payload s) := by
  unfold execSlfMarkerRx
  repeat' first
    | with_reducible assumption
    | with_reducible first
      | refine tidyOut_next ?_
      | refine State.markerRx_tidy ?_

theorem State.burstTx_tidy {s : State} {l : Nat} {stream : Nat} (hs : s.Tidy Q) : State.Tidy Q (State.burstTx s l stream) := by
  unfold State.burstTx
  repeat' first
    | with_reducible assumption
    | ((try lift_lets); intro t; first | (refine tidy_have (Q := Q) (t := t) ?_ (fun _ => ?_); rotate_left; clear_value t; rotate_left; unfold t; clear t) | clear_value t)
    | with_reducible first
      | refine tidy_ite ?_ ?_
      | refine State.send_tidy ?_
      | refine State.setLane_tidy ?_
      | refine tidy1_st ?_
    | simp only [↓tidy1_pair_iff]
    | simp only [↓tidy_mk_iff, ↓tidy_parts_iff]
    | split

theorem execSlfBurstTx_tidy {lane : Nat} {stream : Nat} {s : State} (hs : s.Tidy Q) : TidyOut Q (execSlfBurstTx lane stream s) := by
  unfold execSlfBurstTx
  repeat' first
    | with_reducible assumption
    | with_reducible first
      | refine tidyOut_next ?_
      | refine State.burstTx_tidy ?_

theorem State.markerTx_tidy {s : State} {l : Nat} (hs : s.Tidy Q) : State.Tidy Q (State.markerTx s l) := by
  unfold State.markerTx
  repeat' first
    | with_reducible assumption
    | ((try lift_lets); intro t; first | (refine tidy_have (Q := Q) (t := t) ?_ (fun _ => ?_); rotate_left; clear_value t; rotate_left; unfold t; clear t) | clear_value t)
    | with_reducible first
      | refine tidy_ite ?_ ?_
      | refine State.send_tidy ?_
      | refine State.setLane_tidy ?_
    | simp only [↓tidy_mk_iff, ↓tidy_parts_iff]

theorem execSlfMarkerTx_tidy {lane : Nat} {s : State} (hs : s.Tidy Q) : TidyOut Q (execSlfMarkerTx lane s) := by
  unfold execSlfMarkerTx
  repeat' first
    | with_reducible assumption
    | with_reducible first
      | refine tidyOut_next ?_
      | refine State.markerTx_tidy ?_

theorem State.pllRest_tidy {s : State} {q : Nat} {tx : Bool} (hs : s.Tidy Q) : State.Tidy Q (State.pllRest s q tx) := by
  unfold State.pllRest
  repeat' first
    | with_reducible assumption
    | with_reducible first
      | refine tidy_ite ?_ ?_
      | refine State.setPll_tidy ?_

theorem State.txSleep_tidy {s : State} {l : Nat} (hs : s.Tidy Q) : State.Tidy Q (State.txSleep s l) := by
  unfold State.txSleep
  repeat' first
    | with_reducible assumption
    | with_reducible first
      | refine tidy_ite ?_ ?_
      | refine State.laneStick_tidy ?_
      | refine State.pllRest_tidy ?_
      | refine State.send_tidy ?_
      | refine State.setTx_tidy ?_

theorem State.txWake_tidy {s : State} {l : Nat} (hs : s.Tidy Q) : State.Tidy Q (State.txWake s l) := by
  unfold State.txWake
  repeat' first
    | with_reducible assumption
    | ((try lift_lets); intro t; first | (refine tidy_have (Q := Q) (t := t) ?_ (fun _ => ?_); rotate_left; clear_value t; rotate_left; unfold t; clear t) | clear_value t)
    | with_reducible first
      | refine tidy_ite ?_ ?_
      | refine State.laneStick_tidy ?_
      | refine State.send_tidy ?_
      | refine State.setFld_tidy ?_
      | refine State.setTx_tidy ?_

theorem State.sleepWrite_tidy {s : State} {q : Nat} {v : Nat} (hs : s.Tidy Q) : State.Tidy Q (State.sleepWrite s q v) := by
  unfold State.sleepWrite
  repeat' first
    | with_reducible assumption
    | ((try lift_lets); intro t; first | (refine tidy_have (Q := Q) (t := t) ?_ (fun _ => ?_); rotate_left; clear_value t; rotate_left; unfold t; clear t) | clear_value t)
    | with_reducible first
      | refine tidy_ite ?_ ?_
      | refine tidy_foldl (fun _ _ _ => ?_) ?_
      | refine tidy1_foldl (fun _ _ _ => ?_) ?_
      | refine State.txSleep_tidy ?_
      | refine State.txWake_tidy ?_
      | refine State.wrN_tidy ?_

theorem execTxSleepSet_tidy {m : Requester} {q : Nat} {v : Nat} {s : State} (hs : s.Tidy Q) : TidyOut Q (execTxSleepSet m q v s) := by
  unfold execTxSleepSet
  repeat' first
    | with_reducible assumption
    | with_reducible first
      | refine tidyOut_next ?_
      | refine State.sleepWrite_tidy ?_
      | refine State.writeAccess_tidy ?_ (fun _ _ => ?_)

theorem execTxSleepClear_tidy {m : Requester} {q : Nat} {v : Nat} {s : State} (hs : s.Tidy Q) : TidyOut Q (execTxSleepClear m q v s) := by
  unfold execTxSleepClear
  repeat' first
    | with_reducible assumption
    | with_reducible first
      | refine tidyOut_next ?_
      | refine State.sleepWrite_tidy ?_
      | refine State.writeAccess_tidy ?_ (fun _ _ => ?_)

theorem State.sleepRx_tidy {s : State} {l : Nat} (hs : s.Tidy Q) : State.Tidy Q (State.sleepRx s l) := by
  unfold State.sleepRx
  repeat' first
    | with_reducible assumption
    | with_reducible first
      | refine tidy_ite ?_ ?_
      | refine State.laneStick_tidy ?_
      | refine State.pllRest_tidy ?_
      | refine State.setRx_tidy ?_

theorem execSlfSleepRx_tidy {lane : Nat} {s : State} (hs : s.Tidy Q) : TidyOut Q (execSlfSleepRx lane s) := by
  unfold execSlfSleepRx
  repeat' first
    | with_reducible assumption
    | with_reducible first
      | refine tidyOut_next ?_
      | refine State.sleepRx_tidy ?_

theorem State.rxWake_tidy {s : State} {l : Nat} {ppm : Int} (hs : s.Tidy Q) : State.Tidy Q (State.rxWake s l ppm) := by
  unfold State.rxWake
  repeat' first
    | with_reducible assumption
    | ((try lift_lets); intro t; first | (refine tidy_have (Q := Q) (t := t) ?_ (fun _ => ?_); rotate_left; clear_value t; rotate_left; unfold t; clear t) | clear_value t)
    | with_reducible first
      | refine tidy_ite ?_ ?_
      | refine State.laneCount_tidy ?_
      | refine State.laneStick_tidy ?_
      | refine State.raise_tidy ?_
      | refine State.seedLane_tidy ?_
      | refine State.setFld_tidy ?_
      | refine State.setLane_tidy ?_
      | refine State.setRx_tidy ?_
    | simp only [↓tidy_mk_iff, ↓tidy_parts_iff]

theorem execRxWake_tidy {lane : Nat} {ppm : Int} {s : State} (hs : s.Tidy Q) : TidyOut Q (execRxWake lane ppm s) := by
  unfold execRxWake
  repeat' first
    | with_reducible assumption
    | with_reducible first
      | refine tidyOut_next ?_
      | refine State.rxWake_tidy ?_

theorem State.retrainDone_tidy {s : State} {l : Nat} (hs : s.Tidy Q) : State.Tidy Q (State.retrainDone s l) := by
  unfold State.retrainDone
  repeat' first
    | with_reducible assumption
    | ((try lift_lets); intro t; first | (refine tidy_have (Q := Q) (t := t) ?_ (fun _ => ?_); rotate_left; clear_value t; rotate_left; unfold t; clear t) | clear_value t)
    | with_reducible first
      | refine tidy_ite ?_ ?_
      | refine State.setLane_tidy ?_
      | refine State.setRx_tidy ?_
    | simp only [↓tidy_mk_iff, ↓tidy_parts_iff]

theorem execRxRetrainDone_tidy {lane : Nat} {s : State} (hs : s.Tidy Q) : TidyOut Q (execRxRetrainDone lane s) := by
  unfold execRxRetrainDone
  repeat' first
    | with_reducible assumption
    | with_reducible first
      | refine tidyOut_next ?_
      | refine State.retrainDone_tidy ?_

theorem State.eyeWrite_tidy {s : State} {q : Nat} {v : Nat} (hs : s.Tidy Q) : State.Tidy Q (State.eyeWrite s q v) := by
  unfold State.eyeWrite
  repeat' first
    | with_reducible assumption
    | ((try lift_lets); intro t; first | (refine tidy_have (Q := Q) (t := t) ?_ (fun _ => ?_); rotate_left; clear_value t; rotate_left; unfold t; clear t) | clear_value t)
    | with_reducible first
      | refine tidy_ite ?_ ?_
      | refine State.wrN_tidy ?_

theorem execEyeScanStart_tidy {m : Requester} {q : Nat} {v : Nat} {s : State} (hs : s.Tidy Q) : TidyOut Q (execEyeScanStart m q v s) := by
  unfold execEyeScanStart
  repeat' first
    | with_reducible assumption
    | with_reducible first
      | refine tidyOut_next ?_
      | refine State.eyeWrite_tidy ?_
      | refine State.writeAccess_tidy ?_ (fun _ _ => ?_)

theorem State.eyeDone_tidy {s : State} {q : Nat} {errors : Nat} (hs : s.Tidy Q) : State.Tidy Q (State.eyeDone s q errors) := by
  unfold State.eyeDone
  repeat' first
    | with_reducible assumption
    | ((try lift_lets); intro t; first | (refine tidy_have (Q := Q) (t := t) ?_ (fun _ => ?_); rotate_left; clear_value t; rotate_left; unfold t; clear t) | clear_value t)
    | with_reducible first
      | refine tidy_ite ?_ ?_
      | refine State.setBit_tidy ?_
      | refine State.setFld_tidy ?_

theorem execEyeScanDone_tidy {q : Nat} {errors : Nat} {s : State} (hs : s.Tidy Q) : TidyOut Q (execEyeScanDone q errors s) := by
  unfold execEyeScanDone
  repeat' first
    | with_reducible assumption
    | with_reducible first
      | refine tidyOut_next ?_
      | refine State.eyeDone_tidy ?_

theorem State.adaptStep_tidy {s : State} {l : Nat} {setting : Nat} {up : Bool} {eyeW : Nat} {eyeH : Nat} (hs : s.Tidy Q) : State.Tidy Q (State.adaptStep s l setting up eyeW eyeH) := by
  unfold State.adaptStep
  repeat' first
    | with_reducible assumption
    | ((try lift_lets); intro t; first | (refine tidy_have (Q := Q) (t := t) ?_ (fun _ => ?_); rotate_left; clear_value t; rotate_left; unfold t; clear t) | (refine tidyG_have (Q := Q) (t := t) (fun _ _ _ => ?_) (fun _ => ?_); rotate_left; clear_value t; rotate_left; unfold t; clear t) | (refine tidyE_have (Q := Q) (t := t) (fun _ _ => ?_) (fun _ => ?_); rotate_left; clear_value t; rotate_left; unfold t; clear t) | (refine tidyF_have (Q := Q) (t := t) (fun _ => ?_) (fun _ => ?_); rotate_left; clear_value t; rotate_left; unfold t; clear t) | clear_value t)
    | with_reducible first
      | refine tidy_ite ?_ ?_
      | refine State.raiseIf_tidy ?_
      | refine State.setLane_tidy ?_
      | refine tidyG_use (by assumption) ?_
      | refine tidyF_use (by assumption)
      | refine tidyE_use (by assumption) ?_
    | simp only [↓tidy_mk_iff, ↓tidy_parts_iff]
    | split

theorem execAdaptStep_tidy {lane : Nat} {setting : Nat} {up : Bool} {eyeW : Nat} {eyeH : Nat} {s : State} (hs : s.Tidy Q) : TidyOut Q (execAdaptStep lane setting up eyeW eyeH s) := by
  unfold execAdaptStep
  repeat' first
    | with_reducible assumption
    | with_reducible first
      | refine tidyOut_next ?_
      | refine State.adaptStep_tidy ?_

end Sys2Proof.Machine
end

