-- ==== Sys2Proof/Laws/KeepSdi.lean ====
section
/-! SUPPORT. Every operation of Machine/Sdi.lean keeps a state tidy. -/

set_option Elab.async false

namespace Sys2Proof.Machine

set_option linter.unusedSimpArgs false

variable {Q : Base}

theorem State.setRxCtx_tidy {s : State} {q : Nat} {i : Nat} {x : RxCtx} (hs : s.Tidy Q) : State.Tidy Q (State.setRxCtx s q i x) := by
  unfold State.setRxCtx
  repeat' first
    | with_reducible assumption
    | ((try lift_lets); intro t; first | (refine tidy_have (Q := Q) (t := t) ?_ (fun _ => ?_); rotate_left; clear_value t; rotate_left; unfold t; clear t) | clear_value t)
    | simp only [↓tidy_mk_iff, ↓tidy_parts_iff]

theorem State.setTxCtx_tidy {s : State} {q : Nat} {i : Nat} {x : TxCtx} (hs : s.Tidy Q) : State.Tidy Q (State.setTxCtx s q i x) := by
  unfold State.setTxCtx
  repeat' first
    | with_reducible assumption
    | ((try lift_lets); intro t; first | (refine tidy_have (Q := Q) (t := t) ?_ (fun _ => ?_); rotate_left; clear_value t; rotate_left; unfold t; clear t) | clear_value t)
    | simp only [↓tidy_mk_iff, ↓tidy_parts_iff]

theorem State.ctxCount_tidy {s : State} {q : Nat} {dir : Nat} {i : Nat} {c : Nat} {n : Nat} (hs : s.Tidy Q) : State.Tidy Q (State.ctxCount s q dir i c n) := by
  unfold State.ctxCount
  repeat' first
    | with_reducible assumption
    | with_reducible first
      | refine State.bumpBy_tidy ?_

theorem State.sfeStick_tidy {s : State} {q : Nat} {dir : Nat} {i : Nat} (hs : s.Tidy Q) : State.Tidy Q (State.sfeStick s q dir i) := by
  unfold State.sfeStick
  repeat' first
    | with_reducible assumption
    | with_reducible first
      | refine State.stick_tidy ?_

theorem State.sfeRaise_tidy {s : State} {q : Nat} {dir : Nat} {i : Nat} {src : Nat} (hs : s.Tidy Q) : State.Tidy Q (State.sfeRaise s q dir i src) := by
  unfold State.sfeRaise
  repeat' first
    | with_reducible assumption
    | with_reducible first
      | refine State.raise_tidy ?_
      | refine State.sfeStick_tidy ?_

theorem State.rxCtxBoundary_tidy {s : State} {q : Nat} {i : Nat} (hs : s.Tidy Q) : State.Tidy Q (State.rxCtxBoundary s q i) := by
  unfold State.rxCtxBoundary
  repeat' first
    | with_reducible assumption
    | ((try lift_lets); intro t; first | (refine tidy_have (Q := Q) (t := t) ?_ (fun _ => ?_); rotate_left; clear_value t; rotate_left; unfold t; clear t) | clear_value t)
    | with_reducible first
      | refine tidy_ite ?_ ?_
      | refine State.setRxCtx_tidy ?_
      | refine State.sfeRaise_tidy ?_
    | simp only [↓tidy_mk_iff, ↓tidy_parts_iff]

theorem State.txCtxBoundary_tidy {s : State} {q : Nat} {i : Nat} (hs : s.Tidy Q) : State.Tidy Q (State.txCtxBoundary s q i) := by
  unfold State.txCtxBoundary
  repeat' first
    | with_reducible assumption
    | ((try lift_lets); intro t; first | (refine tidy_have (Q := Q) (t := t) ?_ (fun _ => ?_); rotate_left; clear_value t; rotate_left; unfold t; clear t) | clear_value t)
    | with_reducible first
      | refine tidy_ite ?_ ?_
      | refine State.setTxCtx_tidy ?_
      | refine State.sfeRaise_tidy ?_
    | simp only [↓tidy_mk_iff, ↓tidy_parts_iff]

theorem State.sfeBoundary_tidy {s : State} (hs : s.Tidy Q) : State.Tidy Q (State.sfeBoundary s) := by
  unfold State.sfeBoundary
  repeat' first
    | with_reducible assumption
    | with_reducible first
      | refine tidy_ite ?_ ?_
      | refine tidy_foldl (fun _ _ _ => ?_) ?_
      | refine tidy1_foldl (fun _ _ _ => ?_) ?_
      | refine State.rxCtxBoundary_tidy ?_
      | refine State.txCtxBoundary_tidy ?_
      | refine tidy1_st ?_
    | simp only [↓tidy1_pair_iff]

theorem State.ctxWrite_tidy {s : State} {m : Requester} {q : Nat} {dir : Nat} {i : Nat} {w : Nat} {v : Nat} (hs : s.Tidy Q) : State.Tidy Q (State.ctxWrite s m q dir i w v) := by
  unfold State.ctxWrite
  repeat' first
    | with_reducible assumption
    | ((try lift_lets); intro t; first | (refine tidy_have (Q := Q) (t := t) ?_ (fun _ => ?_); rotate_left; clear_value t; rotate_left; unfold t; clear t) | clear_value t)
    | with_reducible first
      | refine tidy_ite ?_ ?_
      | refine State.raise_tidy ?_
      | refine State.refuseState_tidy ?_
      | refine State.wrN_tidy ?_

theorem execSfeCtxWrite_tidy {m : Requester} {q : Nat} {dir : Nat} {i : Nat} {w : Nat} {v : Nat} {s : State} (hs : s.Tidy Q) : TidyOut Q (execSfeCtxWrite m q dir i w v s) := by
  unfold execSfeCtxWrite
  repeat' first
    | with_reducible assumption
    | with_reducible first
      | refine tidyOut_next ?_
      | refine State.ctxWrite_tidy ?_
      | refine State.writeAccess_tidy ?_ (fun _ _ => ?_)

theorem State.audioWord_tidy {s : State} {die : Nat} {essence : Nat} {format : Nat} {async : Bool} {err : Bool} {chan : Nat} {n : Nat} {w : Nat} (hs : s.Tidy Q) : State.Tidy Q (State.audioWord s die essence format async err chan n w) := by
  unfold State.audioWord
  repeat' first
    | with_reducible assumption
    | ((try lift_lets); intro t; first | (refine tidy_have (Q := Q) (t := t) ?_ (fun _ => ?_); rotate_left; clear_value t; rotate_left; unfold t; clear t) | (refine tidyG_have (Q := Q) (t := t) (fun _ _ _ => ?_) (fun _ => ?_); rotate_left; clear_value t; rotate_left; unfold t; clear t) | (refine tidyE_have (Q := Q) (t := t) (fun _ _ => ?_) (fun _ => ?_); rotate_left; clear_value t; rotate_left; unfold t; clear t) | (refine tidyF_have (Q := Q) (t := t) (fun _ => ?_) (fun _ => ?_); rotate_left; clear_value t; rotate_left; unfold t; clear t) | clear_value t)
    | with_reducible first
      | refine tidy_ite ?_ ?_
      | refine State.assemble_tidy ?_
      | refine State.produce_tidy ?_
      | refine tidy1_st ?_
      | refine tidyG_use (by assumption) ?_
      | refine tidyF_use (by assumption)
      | refine tidyE_use (by assumption) ?_
    | simp only [↓tidy1_pair_iff]
    | simp only [↓tidy_mk_iff, ↓tidy_parts_iff]
    | split

theorem State.mismatchAll_tidy {s : State} {q : Nat} {l : List Nat} (hs : s.Tidy Q) : State.Tidy Q (State.mismatchAll s q l) := by
  unfold State.mismatchAll
  repeat' first
    | with_reducible assumption
    | ((try lift_lets); intro t; first | (refine tidy_have (Q := Q) (t := t) ?_ (fun _ => ?_); rotate_left; clear_value t; rotate_left; unfold t; clear t) | clear_value t)
    | with_reducible first
      | refine tidy_ite ?_ ?_
      | refine tidy_foldl (fun _ _ _ => ?_) ?_
      | refine tidy1_foldl (fun _ _ _ => ?_) ?_
      | refine State.setRxCtx_tidy ?_
    | simp only [↓tidy_mk_iff, ↓tidy_parts_iff]

theorem State.ctxMismatch_tidy {s : State} {q : Nat} {i : Nat} (hs : s.Tidy Q) : State.Tidy Q (State.ctxMismatch s q i) := by
  unfold State.ctxMismatch
  repeat' first
    | with_reducible assumption
    | with_reducible first
      | refine State.mismatchAll_tidy ?_
      | refine State.sfeRaise_tidy ?_
    | split

theorem State.ctxBurst_tidy {s : State} {q : Nat} {i : Nat} {p : LinePlace} {first : Bool} (hs : s.Tidy Q) : State.Tidy Q (State.ctxBurst s q i p first) := by
  unfold State.ctxBurst
  repeat' first
    | with_reducible assumption
    | ((try lift_lets); intro t; first | (refine tidy_have (Q := Q) (t := t) ?_ (fun _ => ?_); rotate_left; clear_value t; rotate_left; unfold t; clear t) | clear_value t)
    | with_reducible first
      | refine tidy_ite ?_ ?_
      | refine State.ctxCount_tidy ?_
      | refine State.ctxMismatch_tidy ?_
      | refine State.setRxCtx_tidy ?_
      | refine State.sfeRaise_tidy ?_
    | simp only [↓tidy_mk_iff, ↓tidy_parts_iff]
    | split

theorem State.skewCheck_tidy {s : State} {q : Nat} {i : Nat} {line : Nat} (hs : s.Tidy Q) : State.Tidy Q (State.skewCheck s q i line) := by
  unfold State.skewCheck
  repeat' first
    | with_reducible assumption
    | ((try lift_lets); intro t; first | (refine tidy_have (Q := Q) (t := t) ?_ (fun _ => ?_); rotate_left; clear_value t; rotate_left; unfold t; clear t) | clear_value t)
    | with_reducible first
      | refine tidy_ite ?_ ?_
      | refine State.mismatchAll_tidy ?_
      | refine State.sfeRaise_tidy ?_
      | refine tidy1_st ?_
    | simp only [↓tidy1_pair_iff]
    | split

theorem State.phaseCheck_tidy {s : State} {q : Nat} {i : Nat} (hs : s.Tidy Q) : State.Tidy Q (State.phaseCheck s q i) := by
  unfold State.phaseCheck
  repeat' first
    | with_reducible assumption
    | ((try lift_lets); intro t; first | (refine tidy_have (Q := Q) (t := t) ?_ (fun _ => ?_); rotate_left; clear_value t; rotate_left; unfold t; clear t) | clear_value t)
    | with_reducible first
      | refine tidy_ite ?_ ?_
      | refine State.setRxCtx_tidy ?_
      | refine State.sfeRaise_tidy ?_
    | simp only [↓tidy_mk_iff, ↓tidy_parts_iff]

theorem State.lineSamples_tidy {s : State} {q : Nat} {e : Nat} {n : Nat} {samples : List Nat} {err : Bool} (hs : s.Tidy Q) : State.Tidy Q (State.lineSamples s q e n samples err) := by
  unfold State.lineSamples
  repeat' first
    | with_reducible assumption
    | ((try lift_lets); intro t; first | (refine tidy_have (Q := Q) (t := t) ?_ (fun _ => ?_); rotate_left; clear_value t; rotate_left; unfold t; clear t) | (refine tidyG_have (Q := Q) (t := t) (fun _ _ _ => ?_) (fun _ => ?_); rotate_left; clear_value t; rotate_left; unfold t; clear t) | (refine tidyE_have (Q := Q) (t := t) (fun _ _ => ?_) (fun _ => ?_); rotate_left; clear_value t; rotate_left; unfold t; clear t) | (refine tidyF_have (Q := Q) (t := t) (fun _ => ?_) (fun _ => ?_); rotate_left; clear_value t; rotate_left; unfold t; clear t) | clear_value t)
    | with_reducible first
      | refine tidy_ite ?_ ?_
      | refine State.assemble_tidy ?_
      | refine State.produce_tidy ?_
      | refine tidyG_use (by assumption) ?_
      | refine tidyF_use (by assumption)
      | refine tidyE_use (by assumption) ?_
    | simp only [↓tidy_mk_iff, ↓tidy_parts_iff]
    | split

theorem State.lineAnc_tidy {s : State} {q : Nat} {i : Nat} {l : Nat} {k : Nat} {pkts : List AncPkt} (hs : s.Tidy Q) : State.Tidy Q (State.lineAnc s q i l k pkts) := by
  unfold State.lineAnc
  repeat' first
    | with_reducible assumption
    | ((try lift_lets); intro t; first | (refine tidy_have (Q := Q) (t := t) ?_ (fun _ => ?_); rotate_left; clear_value t; rotate_left; unfold t; clear t) | (refine tidyG_have (Q := Q) (t := t) (fun _ _ _ => ?_) (fun _ => ?_); rotate_left; clear_value t; rotate_left; unfold t; clear t) | (refine tidyE_have (Q := Q) (t := t) (fun _ _ => ?_) (fun _ => ?_); rotate_left; clear_value t; rotate_left; unfold t; clear t) | (refine tidyF_have (Q := Q) (t := t) (fun _ => ?_) (fun _ => ?_); rotate_left; clear_value t; rotate_left; unfold t; clear t) | clear_value t)
    | with_reducible first
      | refine tidy_ite ?_ ?_
      | refine tidy_foldl (fun _ _ _ => ?_) ?_
      | refine tidy1_foldl (fun _ _ _ => ?_) ?_
      | refine State.bumpBy_tidy ?_
      | refine State.ctxCount_tidy ?_
      | refine State.ctxMismatch_tidy ?_
      | refine State.produce_tidy ?_
      | refine State.setRxCtx_tidy ?_
      | refine State.sfeRaise_tidy ?_
      | refine tidyG_use (by assumption) ?_
      | refine tidyF_use (by assumption)
      | refine tidyE_use (by assumption) ?_
    | simp only [↓tidy_mk_iff, ↓tidy_parts_iff]
    | split

theorem State.lineAudio_tidy {s : State} {q : Nat} {i : Nat} {control : List (Nat × Bool)} {pkts : List SdiAudio} (hs : s.Tidy Q) : State.Tidy Q (State.lineAudio s q i control pkts) := by
  unfold State.lineAudio
  repeat' first
    | with_reducible assumption
    | ((try lift_lets); intro t; first | (refine tidy_have (Q := Q) (t := t) ?_ (fun _ => ?_); rotate_left; clear_value t; rotate_left; unfold t; clear t) | clear_value t)
    | with_reducible first
      | refine tidy_ite ?_ ?_
      | refine tidy_foldl (fun _ _ _ => ?_) ?_
      | refine tidy1_foldl (fun _ _ _ => ?_) ?_
      | refine State.audioWord_tidy ?_
      | refine State.ctxCount_tidy ?_
      | refine State.setRxCtx_tidy ?_
      | refine State.sfeRaise_tidy ?_
      | refine tidy1_st ?_
    | simp only [↓tidy1_pair_iff]
    | simp only [↓tidy_mk_iff, ↓tidy_parts_iff]

theorem State.lockedLine_tidy {s : State} {q : Nat} {i : Nat} {slfErr : Bool} {x : SdiLine} (hs : s.Tidy Q) : State.Tidy Q (State.lockedLine s q i slfErr x) := by
  unfold State.lockedLine
  repeat' first
    | with_reducible assumption
    | ((try lift_lets); intro t; first | (refine tidy_have (Q := Q) (t := t) ?_ (fun _ => ?_); rotate_left; clear_value t; rotate_left; unfold t; clear t) | clear_value t)
    | with_reducible first
      | refine tidy_ite ?_ ?_
      | refine State.bump_tidy ?_
      | refine State.ctxCount_tidy ?_
      | refine State.lineAnc_tidy ?_
      | refine State.lineAudio_tidy ?_
      | refine State.lineSamples_tidy ?_
      | refine State.phaseCheck_tidy ?_
      | refine State.sfeRaise_tidy ?_

theorem State.ctxLine_tidy {s : State} {q : Nat} {i : Nat} {words : Nat} {slfErr : Bool} {x : SdiLine} (hs : s.Tidy Q) : State.Tidy Q (State.ctxLine s q i words slfErr x) := by
  unfold State.ctxLine
  repeat' first
    | with_reducible assumption
    | ((try lift_lets); intro t; first | (refine tidy_have (Q := Q) (t := t) ?_ (fun _ => ?_); rotate_left; clear_value t; rotate_left; unfold t; clear t) | clear_value t)
    | with_reducible first
      | refine tidy_ite ?_ ?_
      | refine State.bumpSat_tidy ?_
      | refine State.ctxBurst_tidy ?_
      | refine State.lockedLine_tidy ?_
      | refine State.setRxCtx_tidy ?_
      | refine State.skewCheck_tidy ?_
    | simp only [↓tidy_mk_iff, ↓tidy_parts_iff]

theorem State.sfeLineRx_tidy {s : State} {l : Nat} {stream : Nat} {x : SdiLine} (hs : s.Tidy Q) : State.Tidy Q (State.sfeLineRx s l stream x) := by
  unfold State.sfeLineRx
  repeat' first
    | with_reducible assumption
    | ((try lift_lets); intro t; first | (refine tidy_have (Q := Q) (t := t) ?_ (fun _ => ?_); rotate_left; clear_value t; rotate_left; unfold t; clear t) | clear_value t)
    | with_reducible first
      | refine tidy_ite ?_ ?_
      | refine State.ctxLine_tidy ?_
      | refine State.fifoMark_tidy ?_
      | refine State.setLane_tidy ?_
    | simp only [↓tidy_mk_iff, ↓tidy_parts_iff]
    | split

theorem execSfeLineRx_tidy {lane : Nat} {stream : Nat} {line : SdiLine} {s : State} (hs : s.Tidy Q) : TidyOut Q (execSfeLineRx lane stream line s) := by
  unfold execSfeLineRx
  repeat' first
    | with_reducible assumption
    | with_reducible first
      | refine tidyOut_next ?_
      | refine State.sfeLineRx_tidy ?_

theorem State.inputLoss_tidy {s : State} {q : Nat} {i : Nat} (hs : s.Tidy Q) : State.Tidy Q (State.inputLoss s q i) := by
  unfold State.inputLoss
  repeat' first
    | with_reducible assumption
    | ((try lift_lets); intro t; first | (refine tidy_have (Q := Q) (t := t) ?_ (fun _ => ?_); rotate_left; clear_value t; rotate_left; unfold t; clear t) | clear_value t)
    | with_reducible first
      | refine tidy_ite ?_ ?_
      | refine State.mismatchAll_tidy ?_
      | refine State.setRxCtx_tidy ?_
      | refine State.sfeRaise_tidy ?_
    | simp only [↓tidy_mk_iff, ↓tidy_parts_iff]
    | split

theorem execSfeInputLossTimeout_tidy {q : Nat} {i : Nat} {s : State} (hs : s.Tidy Q) : TidyOut Q (execSfeInputLossTimeout q i s) := by
  unfold execSfeInputLossTimeout
  repeat' first
    | with_reducible assumption
    | with_reducible first
      | refine tidyOut_next ?_
      | refine State.inputLoss_tidy ?_

end Sys2Proof.Machine
end

