-- ==== Sys2Proof/Laws/KeepSdiTx.lean ====
section
/-! SUPPORT. Every operation of Machine/SdiTx.lean keeps a state tidy. -/

set_option Elab.async false

namespace Sys2Proof.Machine

set_option linter.unusedSimpArgs false

variable {Q : Base}

theorem State.ancTake_tidy {s : State} {q : Nat} {i : Nat} {l : Nat} (hs : s.Tidy Q) : State.Tidy Q (State.ancTake s q i l) := by
  unfold State.ancTake
  repeat' first
    | with_reducible assumption
    | ((try lift_lets); intro t; first | (refine tidy_have (Q := Q) (t := t) ?_ (fun _ => ?_); rotate_left; clear_value t; rotate_left; unfold t; clear t) | (refine tidy1_have (Q := Q) (t := t) ?_ (fun _ => ?_); rotate_left; clear_value t; rotate_left; unfold t; clear t) | (refine tidyG_have (Q := Q) (t := t) (fun _ _ _ => ?_) (fun _ => ?_); rotate_left; clear_value t; rotate_left; unfold t; clear t) | (refine tidyE_have (Q := Q) (t := t) (fun _ _ => ?_) (fun _ => ?_); rotate_left; clear_value t; rotate_left; unfold t; clear t) | (refine tidyF_have (Q := Q) (t := t) (fun _ => ?_) (fun _ => ?_); rotate_left; clear_value t; rotate_left; unfold t; clear t) | clear_value t)
    | with_reducible first
      | refine tidy_ite ?_ ?_
      | refine tidy1_ite ?_ ?_
      | refine tidy_foldl (fun _ _ _ => ?_) ?_
      | refine tidy1_foldl (fun _ _ _ => ?_) ?_
      | refine State.ctxCount_tidy ?_
      | refine State.setTxCtx_tidy ?_
      | refine tidy1_st ?_
      | refine tidyG_use (by assumption) ?_
      | refine tidyF_use (by assumption)
      | refine tidyE_use (by assumption) ?_
    | simp only [↓tidy1_pair_iff]
    | simp only [↓tidy_mk_iff, ↓tidy_parts_iff]
    | split

theorem State.queueLine_tidy {s : State} {lane : Nat} {q : Nat} {i : Nat} {l : Nat} {b : TxLine} (hs : s.Tidy Q) : State.Tidy Q (State.queueLine s lane q i l b) := by
  unfold State.queueLine
  repeat' first
    | with_reducible assumption
    | ((try lift_lets); intro t; first | (refine tidy_have (Q := Q) (t := t) ?_ (fun _ => ?_); rotate_left; clear_value t; rotate_left; unfold t; clear t) | clear_value t)
    | with_reducible first
      | refine tidy_ite ?_ ?_
      | refine State.setLane_tidy ?_
      | refine State.setTxCtx_tidy ?_
    | simp only [↓tidy_mk_iff, ↓tidy_parts_iff]
    | split

theorem State.sfeLineTx_tidy {s : State} {lane : Nat} {x : Nat} {n : Nat} {l : Nat} (hs : s.Tidy Q) : State.Tidy Q (State.sfeLineTx s lane x n l) := by
  unfold State.sfeLineTx
  repeat' first
    | with_reducible assumption
    | ((try lift_lets); intro t; first | (refine tidy_have (Q := Q) (t := t) ?_ (fun _ => ?_); rotate_left; clear_value t; rotate_left; unfold t; clear t) | clear_value t)
    | with_reducible first
      | refine tidy_ite ?_ ?_
      | refine State.ancTake_tidy ?_
      | refine State.bumpBy_tidy ?_
      | refine State.bump_tidy ?_
      | refine State.ctxCount_tidy ?_
      | refine State.queueLine_tidy ?_
      | refine State.setTxCtx_tidy ?_
      | refine State.sfeRaise_tidy ?_
      | refine tidy1_st ?_
      | refine tidyO_getD ?_ ?_
    | simp only [↓tidy1_pair_iff]
    | simp only [↓tidy_mk_iff, ↓tidy_parts_iff]
    | split

theorem execSfeLineTx_tidy {lane : Nat} {stream : Nat} {n : Nat} {line : Nat} {s : State} (hs : s.Tidy Q) : TidyOut Q (execSfeLineTx lane stream n line s) := by
  unfold execSfeLineTx
  repeat' first
    | with_reducible assumption
    | with_reducible first
      | refine tidyOut_next ?_
      | refine State.sfeLineTx_tidy ?_

end Sys2Proof.Machine
end

