-- ==== Sys2Proof/Laws/KeepMac.lean ====
section
/-! SUPPORT. Every operation of Machine/Mac.lean keeps a state tidy. -/

set_option Elab.async false

namespace Sys2Proof.Machine

set_option linter.unusedSimpArgs false

variable {Q : Base}

theorem State.macCount_tidy {s : State} {q : Nat} {c : Nat} {i : Nat} {n : Nat} (hs : s.Tidy Q) : State.Tidy Q (State.macCount s q c i n) := by
  unfold State.macCount
  repeat' first
    | with_reducible assumption
    | with_reducible first
      | refine State.bumpBy_tidy ?_

theorem State.macStick_tidy {s : State} {q : Nat} {base : Nat} {n : Nat} (hs : s.Tidy Q) : State.Tidy Q (State.macStick s q base n) := by
  unfold State.macStick
  repeat' first
    | with_reducible assumption
    | with_reducible first
      | refine State.stick_tidy ?_

theorem State.macCheck_tidy {s : State} {q : Nat} (hs : s.Tidy Q) : Tidy1 Q (State.macCheck s q) := by
  unfold State.macCheck
  repeat' first
    | with_reducible assumption
    | ((try lift_lets); intro t; first | (refine tidy_have (Q := Q) (t := t) ?_ (fun _ => ?_); rotate_left; clear_value t; rotate_left; unfold t; clear t) | clear_value t)
    | with_reducible first
      | refine tidy1_ite ?_ ?_
      | refine tidy_ite ?_ ?_
      | refine State.raise_tidy ?_
      | refine State.wrN_tidy ?_
      | refine tidy1_st ?_
    | simp only [↓tidy1_pair_iff]

theorem State.macStop_tidy {s : State} {q : Nat} (hs : s.Tidy Q) : State.Tidy Q (State.macStop s q) := by
  unfold State.macStop
  repeat' first
    | with_reducible assumption
    | ((try lift_lets); intro t; first | (refine tidy_have (Q := Q) (t := t) ?_ (fun _ => ?_); rotate_left; clear_value t; rotate_left; unfold t; clear t) | clear_value t)
    | with_reducible first
      | refine State.wrN_tidy ?_
      | refine tidy1_st ?_
    | simp only [↓tidy1_pair_iff]
    | simp only [↓tidy_mk_iff, ↓tidy_parts_iff]

theorem State.portLink_tidy {s : State} {q : Nat} {n : Nat} {block : Bool} {am : Bool} {fec : Bool} {lf : Bool} {rf : Bool} (hs : s.Tidy Q) : State.Tidy Q (State.portLink s q n block am fec lf rf) := by
  unfold State.portLink
  repeat' first
    | with_reducible assumption
    | ((try lift_lets); intro t; first | (refine tidy_have (Q := Q) (t := t) ?_ (fun _ => ?_); rotate_left; clear_value t; rotate_left; unfold t; clear t) | clear_value t)
    | with_reducible first
      | refine tidy_ite ?_ ?_
      | refine State.macStick_tidy ?_
      | refine State.raiseIf_tidy ?_
      | refine State.setBit_tidy ?_

theorem execPortLinkChange_tidy {q : Nat} {n : Nat} {block : Bool} {am : Bool} {fec : Bool} {lf : Bool} {rf : Bool} {s : State} (hs : s.Tidy Q) : TidyOut Q (execPortLinkChange q n block am fec lf rf s) := by
  unfold execPortLinkChange
  repeat' first
    | with_reducible assumption
    | with_reducible first
      | refine tidyOut_next ?_
      | refine State.portLink_tidy ?_

theorem State.setPn_tidy {s : State} {q : Nat} {n : Nat} {j : Nat} {v : Nat} (hs : s.Tidy Q) : State.Tidy Q (State.setPn s q n j v) := by
  unfold State.setPn
  repeat' first
    | with_reducible assumption
    | with_reducible first
      | refine State.wr64_tidy ?_

theorem State.protect_tidy {s : State} {q : Nat} {n : Nat} {f : List Byte} (hs : s.Tidy Q) : Tidy1 Q (State.protect s q n f) := by
  unfold State.protect
  repeat' first
    | with_reducible assumption
    | ((try lift_lets); intro t; first | (refine tidy_have (Q := Q) (t := t) ?_ (fun _ => ?_); rotate_left; clear_value t; rotate_left; unfold t; clear t) | clear_value t)
    | with_reducible first
      | refine tidy1_ite ?_ ?_
      | refine tidy_ite ?_ ?_
      | refine State.macStick_tidy ?_
      | refine State.raise_tidy ?_
      | refine State.setPn_tidy ?_
      | refine tidy1_st ?_
    | simp only [↓tidy1_pair_iff]
    | split

theorem State.unprotect_tidy {s : State} {q : Nat} {n : Nat} {f : List Byte} (hs : s.Tidy Q) : Tidy1 Q (State.unprotect s q n f) := by
  unfold State.unprotect
  repeat' first
    | with_reducible assumption
    | ((try lift_lets); intro t; first | (refine tidy_have (Q := Q) (t := t) ?_ (fun _ => ?_); rotate_left; clear_value t; rotate_left; unfold t; clear t) | clear_value t)
    | with_reducible first
      | refine tidy1_ite ?_ ?_
      | refine tidy_ite ?_ ?_
      | refine State.setPn_tidy ?_
    | simp only [↓tidy1_pair_iff]
    | split

theorem State.txAnWrite_tidy {s : State} {q : Nat} {v : Nat} (hs : s.Tidy Q) : State.Tidy Q (State.txAnWrite s q v) := by
  unfold State.txAnWrite
  repeat' first
    | with_reducible assumption
    | ((try lift_lets); intro t; first | (refine tidy_have (Q := Q) (t := t) ?_ (fun _ => ?_); rotate_left; clear_value t; rotate_left; unfold t; clear t) | clear_value t)
    | with_reducible first
      | refine State.wrN_tidy ?_

theorem execSecTxAnWrite_tidy {m : Requester} {q : Nat} {v : Nat} {s : State} (hs : s.Tidy Q) : TidyOut Q (execSecTxAnWrite m q v s) := by
  unfold execSecTxAnWrite
  repeat' first
    | with_reducible assumption
    | with_reducible first
      | refine tidyOut_next ?_
      | refine State.txAnWrite_tidy ?_
      | refine State.writeAccess_tidy ?_ (fun _ _ => ?_)

theorem State.ptpAdjWrite_tidy {s : State} {q : Nat} {v : Nat} (hs : s.Tidy Q) : State.Tidy Q (State.ptpAdjWrite s q v) := by
  unfold State.ptpAdjWrite
  repeat' first
    | with_reducible assumption
    | with_reducible first
      | refine State.wrN_tidy ?_

theorem State.frameOut_tidy {s : State} {q : Nat} {n : Nat} {f : List Byte} (hs : s.Tidy Q) : Tidy1 Q (State.frameOut s q n f) := by
  unfold State.frameOut
  repeat' first
    | with_reducible assumption
    | ((try lift_lets); intro t; first | (refine tidy_have (Q := Q) (t := t) ?_ (fun _ => ?_); rotate_left; clear_value t; rotate_left; unfold t; clear t) | (refine tidy1_have (Q := Q) (t := t) ?_ (fun _ => ?_); rotate_left; clear_value t; rotate_left; unfold t; clear t) | clear_value t)
    | with_reducible first
      | refine State.macCount_tidy ?_
      | refine State.protect_tidy ?_
      | refine State.send_tidy ?_
      | refine tidy1_eq ?_ (by assumption)
    | simp only [↓tidy1_pair_iff]
    | split

end Sys2Proof.Machine
end

