-- ==== Sys2Proof/Laws/KeepMacRx.lean ====
section
/-! SUPPORT. Every operation of Machine/MacRx.lean keeps a state tidy. -/

set_option Elab.async false

namespace Sys2Proof.Machine

set_option linter.unusedSimpArgs false

variable {Q : Base}

theorem State.storeBytes_tidy {s : State} {a : Nat} {l : List Byte} (hs : s.Tidy Q) : State.Tidy Q (State.storeBytes s a l) := by
  unfold State.storeBytes
  repeat' first
    | with_reducible assumption
    | with_reducible first
      | refine State.granulesGood_tidy ?_
      | refine State.wrBytes_tidy ?_

theorem State.ringFrame_tidy {s : State} {q : Nat} {n : Nat} {k : Nat} {e : Nat} {sec : Bool} {f : List Byte} (hs : s.Tidy Q) : State.Tidy Q (State.ringFrame s q n k e sec f) := by
  unfold State.ringFrame
  repeat' first
    | with_reducible assumption
    | ((try lift_lets); intro t; first | (refine tidy_have (Q := Q) (t := t) ?_ (fun _ => ?_); rotate_left; clear_value t; rotate_left; unfold t; clear t) | clear_value t)
    | with_reducible first
      | refine State.macStick_tidy ?_
      | refine State.storeBytes_tidy ?_

theorem State.setFlow_tidy {s : State} {k : Nat} {x : RxFlow} (hs : s.Tidy Q) : State.Tidy Q (State.setFlow s k x) := by
  unfold State.setFlow
  repeat' first
    | with_reducible assumption
    | ((try lift_lets); intro t; first | (refine tidy_have (Q := Q) (t := t) ?_ (fun _ => ?_); rotate_left; clear_value t; rotate_left; unfold t; clear t) | clear_value t)
    | simp only [↓tidy_mk_iff, ↓tidy_parts_iff]

theorem State.pktLate_tidy {s : State} {q : Nat} {i : Nat} (hs : s.Tidy Q) : State.Tidy Q (State.pktLate s q i) := by
  unfold State.pktLate
  repeat' first
    | with_reducible assumption
    | with_reducible first
      | refine State.macCount_tidy ?_
      | refine State.raise_tidy ?_

theorem State.seqSeen_tidy {s : State} {k : Nat} {bits : Nat} {seq : Nat} {e : Nat} (hs : s.Tidy Q) : State.Tidy Q (State.seqSeen s k bits seq e) := by
  unfold State.seqSeen
  repeat' first
    | with_reducible assumption
    | ((try lift_lets); intro t; first | (refine tidy_have (Q := Q) (t := t) ?_ (fun _ => ?_); rotate_left; clear_value t; rotate_left; unfold t; clear t) | clear_value t)
    | with_reducible first
      | refine State.setFlow_tidy ?_
      | refine tidyO_getD ?_ ?_
    | simp only [↓tidy_mk_iff, ↓tidy_parts_iff]

theorem State.rowIn_tidy {s : State} {q : Nat} {k : Nat} {e : Nat} {a : Nat} {g : RowSeg} (hs : s.Tidy Q) : State.Tidy Q (State.rowIn s q k e a g) := by
  unfold State.rowIn
  repeat' first
    | with_reducible assumption
    | ((try lift_lets); intro t; first | (refine tidy_have (Q := Q) (t := t) ?_ (fun _ => ?_); rotate_left; clear_value t; rotate_left; unfold t; clear t) | (refine tidyG_have (Q := Q) (t := t) (fun _ _ _ => ?_) (fun _ => ?_); rotate_left; clear_value t; rotate_left; unfold t; clear t) | (refine tidyE_have (Q := Q) (t := t) (fun _ _ => ?_) (fun _ => ?_); rotate_left; clear_value t; rotate_left; unfold t; clear t) | (refine tidyF_have (Q := Q) (t := t) (fun _ => ?_) (fun _ => ?_); rotate_left; clear_value t; rotate_left; unfold t; clear t) | clear_value t)
    | with_reducible first
      | refine tidy_ite ?_ ?_
      | refine State.assemble_tidy ?_
      | refine State.produce_tidy ?_
      | refine tidyO_getD ?_ ?_
      | refine tidyG_use (by assumption) ?_
      | refine tidyF_use (by assumption)
      | refine tidyE_use (by assumption) ?_
    | simp only [↓tidy_mk_iff, ↓tidy_parts_iff]

theorem State.audioIn_tidy {s : State} {q : Nat} {e : Nat} {n0 : Nat} {d : List Byte} (hs : s.Tidy Q) : State.Tidy Q (State.audioIn s q e n0 d) := by
  unfold State.audioIn
  repeat' first
    | with_reducible assumption
    | ((try lift_lets); intro t; first | (refine tidy_have (Q := Q) (t := t) ?_ (fun _ => ?_); rotate_left; clear_value t; rotate_left; unfold t; clear t) | clear_value t)
    | with_reducible first
      | refine tidy_foldl (fun _ _ _ => ?_) ?_
      | refine tidy1_foldl (fun _ _ _ => ?_) ?_
      | refine State.audioWord_tidy ?_
    | split

theorem State.ancPktIn_tidy {s : State} {q : Nat} {i : Nat} {e : Nat} {time : Nat} {d : List Byte} (hs : s.Tidy Q) : State.Tidy Q (State.ancPktIn s q i e time d) := by
  unfold State.ancPktIn
  repeat' first
    | with_reducible assumption
    | ((try lift_lets); intro t; first | (refine tidy_have (Q := Q) (t := t) ?_ (fun _ => ?_); rotate_left; clear_value t; rotate_left; unfold t; clear t) | clear_value t)
    | with_reducible first
      | refine tidy_ite ?_ ?_
      | refine State.macCount_tidy ?_
      | refine State.produce_tidy ?_
    | simp only [↓tidy_mk_iff, ↓tidy_parts_iff]

theorem State.sixIn_tidy {s : State} {q : Nat} {k : Nat} {e : Nat} {seq : Nat} {d : List Byte} (hs : s.Tidy Q) : State.Tidy Q (State.sixIn s q k e seq d) := by
  unfold State.sixIn
  repeat' first
    | with_reducible assumption
    | ((try lift_lets); intro t; first | (refine tidy_have (Q := Q) (t := t) ?_ (fun _ => ?_); rotate_left; clear_value t; rotate_left; unfold t; clear t) | clear_value t)
    | with_reducible first
      | refine tidy_ite ?_ ?_
      | refine State.setFlow_tidy ?_
      | refine State.setLane_tidy ?_
    | simp only [↓tidy_mk_iff, ↓tidy_parts_iff]
    | split

theorem State.mediaIn_tidy {s : State} {q : Nat} {i : Nat} {e : Nat} {d : List Byte} (hs : s.Tidy Q) : State.Tidy Q (State.mediaIn s q i e d) := by
  unfold State.mediaIn
  repeat' first
    | with_reducible assumption
    | ((try lift_lets); intro t; first | (refine tidy_have (Q := Q) (t := t) ?_ (fun _ => ?_); rotate_left; clear_value t; rotate_left; unfold t; clear t) | clear_value t)
    | with_reducible first
      | refine tidy_ite ?_ ?_
      | refine tidy_foldl (fun _ _ _ => ?_) ?_
      | refine tidy1_foldl (fun _ _ _ => ?_) ?_
      | refine State.ancPktIn_tidy ?_
      | refine State.audioIn_tidy ?_
      | refine State.macCount_tidy ?_
      | refine State.pktLate_tidy ?_
      | refine State.raise_tidy ?_
      | refine State.rowIn_tidy ?_
      | refine State.seqSeen_tidy ?_
      | refine State.sixIn_tidy ?_
      | refine tidy1_st ?_
    | simp only [↓tidy1_pair_iff]
    | simp only [↓tidy_mk_iff, ↓tidy_parts_iff]
    | split

theorem State.frameDrop_tidy {s : State} {q : Nat} {n : Nat} {cnt : Nat} {i : Nat} {src : Nat} (hs : s.Tidy Q) : State.Tidy Q (State.frameDrop s q n cnt i src) := by
  unfold State.frameDrop
  repeat' first
    | with_reducible assumption
    | with_reducible first
      | refine State.macCount_tidy ?_
      | refine State.macStick_tidy ?_
      | refine State.raise_tidy ?_

theorem State.frameTo_tidy {s : State} {q : Nat} {n : Nat} {k : Nat} {e : Nat} {sec : Bool} {f : List Byte} (hs : s.Tidy Q) : State.Tidy Q (State.frameTo s q n k e sec f) := by
  unfold State.frameTo
  repeat' first
    | with_reducible assumption
    | ((try lift_lets); intro t; first | (refine tidy_have (Q := Q) (t := t) ?_ (fun _ => ?_); rotate_left; clear_value t; rotate_left; unfold t; clear t) | (refine tidyG_have (Q := Q) (t := t) (fun _ _ _ => ?_) (fun _ => ?_); rotate_left; clear_value t; rotate_left; unfold t; clear t) | (refine tidyE_have (Q := Q) (t := t) (fun _ _ => ?_) (fun _ => ?_); rotate_left; clear_value t; rotate_left; unfold t; clear t) | (refine tidyF_have (Q := Q) (t := t) (fun _ => ?_) (fun _ => ?_); rotate_left; clear_value t; rotate_left; unfold t; clear t) | clear_value t)
    | with_reducible first
      | refine tidy_ite ?_ ?_
      | refine State.macCount_tidy ?_
      | refine State.mediaIn_tidy ?_
      | refine State.ringFrame_tidy ?_
      | refine State.watermark_tidy ?_
      | refine tidy1_st ?_
      | refine tidyG_use (by assumption) ?_
      | refine tidyF_use (by assumption)
      | refine tidyE_use (by assumption) ?_
    | simp only [↓tidy1_pair_iff]
    | split

theorem State.frameSteer_tidy {s : State} {q : Nat} {n : Nat} {sec : Bool} {f : List Byte} (hs : s.Tidy Q) : State.Tidy Q (State.frameSteer s q n sec f) := by
  unfold State.frameSteer
  repeat' first
    | with_reducible assumption
    | ((try lift_lets); intro t; first | (refine tidy_have (Q := Q) (t := t) ?_ (fun _ => ?_); rotate_left; clear_value t; rotate_left; unfold t; clear t) | clear_value t)
    | with_reducible first
      | refine tidy_ite ?_ ?_
      | refine State.frameDrop_tidy ?_
      | refine State.frameTo_tidy ?_
    | split

theorem State.frameRx_tidy {s : State} {q : Nat} {n : Nat} {f : List Byte} {bad : Bool} (hs : s.Tidy Q) : State.Tidy Q (State.frameRx s q n f bad) := by
  unfold State.frameRx
  repeat' first
    | with_reducible assumption
    | ((try lift_lets); intro t; first | (refine tidy_have (Q := Q) (t := t) ?_ (fun _ => ?_); rotate_left; clear_value t; rotate_left; unfold t; clear t) | (refine tidy1_have (Q := Q) (t := t) ?_ (fun _ => ?_); rotate_left; clear_value t; rotate_left; unfold t; clear t) | clear_value t)
    | with_reducible first
      | refine tidy_ite ?_ ?_
      | refine State.frameDrop_tidy ?_
      | refine State.frameSteer_tidy ?_
      | refine State.macStick_tidy ?_
      | refine State.unprotect_tidy ?_
      | refine tidy1_eq ?_ (by assumption)
    | split

theorem State.frameIn_tidy {s : State} {q : Nat} {n : Nat} {f : List Byte} {pcsErr : Bool} {fixed : Nat} {lost : Nat} (hs : s.Tidy Q) : State.Tidy Q (State.frameIn s q n f pcsErr fixed lost) := by
  unfold State.frameIn
  repeat' first
    | with_reducible assumption
    | ((try lift_lets); intro t; first | (refine tidy_have (Q := Q) (t := t) ?_ (fun _ => ?_); rotate_left; clear_value t; rotate_left; unfold t; clear t) | clear_value t)
    | with_reducible first
      | refine tidy_ite ?_ ?_
      | refine State.frameRx_tidy ?_
      | refine State.macCount_tidy ?_
      | refine State.raiseIf_tidy ?_

theorem execFrameRx_tidy {q : Nat} {port : Nat} {frame : List Byte} {pcsErr : Bool} {fixed : Nat} {lost : Nat} {s : State} (hs : s.Tidy Q) : TidyOut Q (execFrameRx q port frame pcsErr fixed lost s) := by
  unfold execFrameRx
  repeat' first
    | with_reducible assumption
    | with_reducible first
      | refine tidyOut_next ?_
      | refine State.frameIn_tidy ?_

theorem State.rowClose_tidy {s : State} {q : Nat} {x : RowCell} (hs : s.Tidy Q) : State.Tidy Q (State.rowClose s q x) := by
  unfold State.rowClose
  repeat' first
    | with_reducible assumption
    | ((try lift_lets); intro t; first | (refine tidy_have (Q := Q) (t := t) ?_ (fun _ => ?_); rotate_left; clear_value t; rotate_left; unfold t; clear t) | clear_value t)
    | with_reducible first
      | refine tidy_ite ?_ ?_
      | refine State.produce_tidy ?_
    | simp only [↓tidy_mk_iff, ↓tidy_parts_iff]

theorem State.cellClose_tidy {s : State} {q : Nat} {i : Nat} (hs : s.Tidy Q) : State.Tidy Q (State.cellClose s q i) := by
  unfold State.cellClose
  repeat' first
    | with_reducible assumption
    | ((try lift_lets); intro t; first | (refine tidy_have (Q := Q) (t := t) ?_ (fun _ => ?_); rotate_left; clear_value t; rotate_left; unfold t; clear t) | (refine tidyG_have (Q := Q) (t := t) (fun _ _ _ => ?_) (fun _ => ?_); rotate_left; clear_value t; rotate_left; unfold t; clear t) | (refine tidyE_have (Q := Q) (t := t) (fun _ _ => ?_) (fun _ => ?_); rotate_left; clear_value t; rotate_left; unfold t; clear t) | (refine tidyF_have (Q := Q) (t := t) (fun _ => ?_) (fun _ => ?_); rotate_left; clear_value t; rotate_left; unfold t; clear t) | clear_value t)
    | with_reducible first
      | refine tidy_ite ?_ ?_
      | refine tidy_foldl (fun _ _ _ => ?_) ?_
      | refine tidy1_foldl (fun _ _ _ => ?_) ?_
      | refine State.macCount_tidy ?_
      | refine State.produce_tidy ?_
      | refine State.raise_tidy ?_
      | refine State.rowClose_tidy ?_
      | refine State.setFlow_tidy ?_
      | refine tidy1_st ?_
      | refine tidyG_use (by assumption) ?_
      | refine tidyF_use (by assumption)
      | refine tidyE_use (by assumption) ?_
    | simp only [↓tidy1_pair_iff]
    | simp only [↓tidy_mk_iff, ↓tidy_parts_iff]

theorem execFlowCellClose_tidy {q : Nat} {i : Nat} {s : State} (hs : s.Tidy Q) : TidyOut Q (execFlowCellClose q i s) := by
  unfold execFlowCellClose
  repeat' first
    | with_reducible assumption
    | with_reducible first
      | refine tidyOut_next ?_
      | refine State.cellClose_tidy ?_

theorem State.mergeLeg_tidy {s : State} {q : Nat} {i : Nat} (hs : s.Tidy Q) : State.Tidy Q (State.mergeLeg s q i) := by
  unfold State.mergeLeg
  repeat' first
    | with_reducible assumption
    | ((try lift_lets); intro t; first | (refine tidy_have (Q := Q) (t := t) ?_ (fun _ => ?_); rotate_left; clear_value t; rotate_left; unfold t; clear t) | (refine tidyG_have (Q := Q) (t := t) (fun _ _ _ => ?_) (fun _ => ?_); rotate_left; clear_value t; rotate_left; unfold t; clear t) | (refine tidyE_have (Q := Q) (t := t) (fun _ _ => ?_) (fun _ => ?_); rotate_left; clear_value t; rotate_left; unfold t; clear t) | (refine tidyF_have (Q := Q) (t := t) (fun _ => ?_) (fun _ => ?_); rotate_left; clear_value t; rotate_left; unfold t; clear t) | clear_value t)
    | with_reducible first
      | refine State.raiseIf_tidy ?_
      | refine tidyG_use (by assumption) ?_
      | refine tidyF_use (by assumption)
      | refine tidyE_use (by assumption) ?_
    | split

theorem execMergeLegTimeout_tidy {q : Nat} {i : Nat} {s : State} (hs : s.Tidy Q) : TidyOut Q (execMergeLegTimeout q i s) := by
  unfold execMergeLegTimeout
  repeat' first
    | with_reducible assumption
    | with_reducible first
      | refine tidyOut_next ?_
      | refine State.mergeLeg_tidy ?_

end Sys2Proof.Machine
end

