-- ==== Sys2Proof/Laws/KeepMacTx.lean ====
section
/-! SUPPORT. Every operation of Machine/MacTx.lean keeps a state tidy. -/

set_option Elab.async false

namespace Sys2Proof.Machine

set_option linter.unusedSimpArgs false

variable {Q : Base}

theorem State.setTxFlow_tidy {s : State} {k : Nat} {x : TxFlow} (hs : s.Tidy Q) : State.Tidy Q (State.setTxFlow s k x) := by
  unfold State.setTxFlow
  repeat' first
    | with_reducible assumption
    | ((try lift_lets); intro t; first | (refine tidy_have (Q := Q) (t := t) ?_ (fun _ => ?_); rotate_left; clear_value t; rotate_left; unfold t; clear t) | clear_value t)
    | simp only [↓tidy_mk_iff, ↓tidy_parts_iff]

theorem State.sixUsed_tidy {s : State} {q : Nat} {e : Nat} {n : Nat} (hs : s.Tidy Q) : State.Tidy Q (State.sixUsed s q e n) := by
  unfold State.sixUsed
  repeat' first
    | with_reducible assumption
    | ((try lift_lets); intro t; first | (refine tidy_have (Q := Q) (t := t) ?_ (fun _ => ?_); rotate_left; clear_value t; rotate_left; unfold t; clear t) | clear_value t)
    | with_reducible first
      | refine State.setLane_tidy ?_
    | simp only [↓tidy_mk_iff, ↓tidy_parts_iff]

theorem State.legOut_tidy {s : State} {q : Nat} {i : Nat} {e : Nat} {port : Nat} {dst : Nat} {d : List Byte} (hs : s.Tidy Q) : State.Tidy Q (State.legOut s q i e port dst d) := by
  unfold State.legOut
  repeat' first
    | with_reducible assumption
    | ((try lift_lets); intro t; first | (refine tidy_have (Q := Q) (t := t) ?_ (fun _ => ?_); rotate_left; clear_value t; rotate_left; unfold t; clear t) | (refine tidy1_have (Q := Q) (t := t) ?_ (fun _ => ?_); rotate_left; clear_value t; rotate_left; unfold t; clear t) | clear_value t)
    | with_reducible first
      | refine tidy_ite ?_ ?_
      | refine State.frameOut_tidy ?_
      | refine State.macCount_tidy ?_
      | refine tidy1_st ?_
    | simp only [↓tidy1_pair_iff]

theorem State.legsOut_tidy {s : State} {q : Nat} {i : Nat} {e : Nat} {d : List Byte} (hs : s.Tidy Q) : State.Tidy Q (State.legsOut s q i e d) := by
  unfold State.legsOut
  repeat' first
    | with_reducible assumption
    | ((try lift_lets); intro t; first | (refine tidy_have (Q := Q) (t := t) ?_ (fun _ => ?_); rotate_left; clear_value t; rotate_left; unfold t; clear t) | clear_value t)
    | with_reducible first
      | refine tidy_ite ?_ ?_
      | refine State.legOut_tidy ?_

theorem State.mediaOut_tidy {s : State} {q : Nat} {i : Nat} {n : Nat} (hs : s.Tidy Q) : State.Tidy Q (State.mediaOut s q i n) := by
  unfold State.mediaOut
  repeat' first
    | with_reducible assumption
    | ((try lift_lets); intro t; first | (refine tidy_have (Q := Q) (t := t) ?_ (fun _ => ?_); rotate_left; clear_value t; rotate_left; unfold t; clear t) | clear_value t)
    | with_reducible first
      | refine tidy_ite ?_ ?_
      | refine State.legsOut_tidy ?_
      | refine State.macCount_tidy ?_
      | refine State.raiseIf_tidy ?_
      | refine State.setTxFlow_tidy ?_
      | refine State.sixUsed_tidy ?_
      | refine tidy1_st ?_
    | simp only [↓tidy1_pair_iff]
    | split

theorem execMediaPktTx_tidy {q : Nat} {i : Nat} {n : Nat} {s : State} (hs : s.Tidy Q) : TidyOut Q (execMediaPktTx q i n s) := by
  unfold execMediaPktTx
  repeat' first
    | with_reducible assumption
    | with_reducible first
      | refine tidyOut_next ?_
      | refine State.mediaOut_tidy ?_

theorem State.hostOut_tidy {s : State} {q : Nat} {n : Nat} (hs : s.Tidy Q) : State.Tidy Q (State.hostOut s q n) := by
  unfold State.hostOut
  repeat' first
    | with_reducible assumption
    | ((try lift_lets); intro t; first | (refine tidy_have (Q := Q) (t := t) ?_ (fun _ => ?_); rotate_left; clear_value t; rotate_left; unfold t; clear t) | (refine tidy1_have (Q := Q) (t := t) ?_ (fun _ => ?_); rotate_left; clear_value t; rotate_left; unfold t; clear t) | clear_value t)
    | with_reducible first
      | refine tidy_ite ?_ ?_
      | refine State.frameOut_tidy ?_
      | refine State.macCount_tidy ?_
      | refine State.storeBytes_tidy ?_
      | refine tidy1_st ?_
    | simp only [↓tidy1_pair_iff]

theorem execHostFrameTx_tidy {q : Nat} {port : Nat} {s : State} (hs : s.Tidy Q) : TidyOut Q (execHostFrameTx q port s) := by
  unfold execHostFrameTx
  repeat' first
    | with_reducible assumption
    | with_reducible first
      | refine tidyOut_next ?_
      | refine State.hostOut_tidy ?_

end Sys2Proof.Machine
end

