-- ==== Sys2Proof/Laws/KeepMon.lean ====
section
/-! SUPPORT. Every operation of Machine/Mon.lean keeps a state tidy. -/

set_option Elab.async false

namespace Sys2Proof.Machine

set_option linter.unusedSimpArgs false

variable {Q : Base}

theorem State.mrsCheck_tidy {s : State} (hs : s.Tidy Q) : Tidy1 Q (State.mrsCheck s) := by
  unfold State.mrsCheck
  repeat' first
    | with_reducible assumption
    | ((try lift_lets); intro t; first | (refine tidy_have (Q := Q) (t := t) ?_ (fun _ => ?_); rotate_left; clear_value t; rotate_left; unfold t; clear t) | clear_value t)
    | with_reducible first
      | refine tidy1_ite ?_ ?_
      | refine tidy_ite ?_ ?_
      | refine State.raise_tidy ?_
      | refine State.wrN_tidy ?_
    | simp only [↓tidy1_pair_iff]

theorem State.lbMark_tidy {s : State} (hs : s.Tidy Q) : State.Tidy Q (State.lbMark s) := by
  unfold State.lbMark
  repeat' first
    | with_reducible assumption
    | ((try lift_lets); intro t; first | (refine tidy_have (Q := Q) (t := t) ?_ (fun _ => ?_); rotate_left; clear_value t; rotate_left; unfold t; clear t) | clear_value t)
    | with_reducible first
      | refine tidy_ite ?_ ?_
      | refine State.bump_tidy ?_
      | refine State.raise_tidy ?_
      | refine State.setUrgent_tidy ?_
      | refine State.watermark_tidy ?_

theorem State.lbAsk_tidy {n : Nat} : ∀ {s : State}, s.Tidy Q → (s.lbAsk n).Tidy Q := by
  induction n with
  | zero => intros; assumption
  | succ n ih =>
    intros
    unfold State.lbAsk
    repeat' first
      | with_reducible assumption
      | ((try lift_lets); intro t; first | (refine tidy_have (Q := Q) (t := t) ?_ (fun _ => ?_); rotate_left; clear_value t; rotate_left; unfold t; clear t) | (refine tidy1_have (Q := Q) (t := t) ?_ (fun _ => ?_); rotate_left; clear_value t; rotate_left; unfold t; clear t) | clear_value t)
      | with_reducible refine tidy_ite ?_ ?_
      | with_reducible refine ih ?_
      | with_reducible refine State.poolTake_tidy ?_
      | simp only [↓tidy_mk_iff, ↓tidy_parts_iff]

theorem State.lbLine_tidy {s : State} {ns : Nat} (hs : s.Tidy Q) : State.Tidy Q (State.lbLine s ns) := by
  unfold State.lbLine
  repeat' first
    | with_reducible assumption
    | ((try lift_lets); intro t; first | (refine tidy_have (Q := Q) (t := t) ?_ (fun _ => ?_); rotate_left; clear_value t; rotate_left; unfold t; clear t) | clear_value t)
    | with_reducible first
      | refine tidy_ite ?_ ?_
      | refine State.keepMax_tidy ?_
      | refine State.lbAsk_tidy ?_
      | refine State.lbMark_tidy ?_
      | refine State.poolGive_tidy ?_
      | refine State.stackMove_tidy ?_
    | simp only [↓tidy_mk_iff, ↓tidy_parts_iff]

theorem State.anyReadDone_tidy {s : State} {i : Nat} {ns : Nat} {tok : Nat} {ecc : Ecc} (hs : s.Tidy Q) : State.Tidy Q (State.anyReadDone s i ns tok ecc) := by
  unfold State.anyReadDone
  repeat' first
    | with_reducible assumption
    | ((try lift_lets); intro t; first | (refine tidy_have (Q := Q) (t := t) ?_ (fun _ => ?_); rotate_left; clear_value t; rotate_left; unfold t; clear t) | clear_value t)
    | with_reducible first
      | refine tidy_ite ?_ ?_
      | refine State.eccBad_tidy ?_
      | refine State.eccFixed_tidy ?_
      | refine State.lbLine_tidy ?_
      | refine State.readDone_tidy ?_

theorem execFstReadDone_tidy {i : Nat} {ns : Nat} {tok : Nat} {ecc : Ecc} {s : State} (hs : s.Tidy Q) : TidyOut Q (execFstReadDone i ns tok ecc s) := by
  unfold execFstReadDone
  repeat' first
    | with_reducible assumption
    | with_reducible first
      | refine tidyOut_next ?_
      | refine State.anyReadDone_tidy ?_

theorem State.lbFlush_tidy {s : State} (hs : s.Tidy Q) : State.Tidy Q (State.lbFlush s) := by
  unfold State.lbFlush
  repeat' first
    | with_reducible assumption
    | ((try lift_lets); intro t; first | (refine tidy_have (Q := Q) (t := t) ?_ (fun _ => ?_); rotate_left; clear_value t; rotate_left; unfold t; clear t) | clear_value t)
    | with_reducible first
      | refine State.poolGive_tidy ?_
    | simp only [↓tidy_mk_iff, ↓tidy_parts_iff]

theorem State.mrsHist_tidy {s : State} {kind : Nat} {us : Nat} (hs : s.Tidy Q) : State.Tidy Q (State.mrsHist s kind us) := by
  unfold State.mrsHist
  repeat' first
    | with_reducible assumption
    | ((try lift_lets); intro t; first | (refine tidy_have (Q := Q) (t := t) ?_ (fun _ => ?_); rotate_left; clear_value t; rotate_left; unfold t; clear t) | clear_value t)
    | with_reducible first
      | refine State.wrWords_tidy ?_

theorem State.mrsCrc_tidy {s : State} (hs : s.Tidy Q) : State.Tidy Q (State.mrsCrc s) := by
  unfold State.mrsCrc
  repeat' first
    | with_reducible assumption
    | ((try lift_lets); intro t; first | (refine tidy_have (Q := Q) (t := t) ?_ (fun _ => ?_); rotate_left; clear_value t; rotate_left; unfold t; clear t) | clear_value t)
    | with_reducible first
      | refine tidy_ite ?_ ?_
      | refine State.mrsHist_tidy ?_
      | refine State.wrN_tidy ?_
    | simp only [↓tidy_mk_iff, ↓tidy_parts_iff]

theorem State.mrsStart_tidy {s : State} {new : Bool} (hs : s.Tidy Q) : State.Tidy Q (State.mrsStart s new) := by
  unfold State.mrsStart
  repeat' first
    | with_reducible assumption
    | ((try lift_lets); intro t; first | (refine tidy_have (Q := Q) (t := t) ?_ (fun _ => ?_); rotate_left; clear_value t; rotate_left; unfold t; clear t) | clear_value t)
    | with_reducible first
      | refine tidy_ite ?_ ?_
      | refine State.bump_tidy ?_
      | refine State.lbAsk_tidy ?_
      | refine State.lbFlush_tidy ?_
      | refine State.lbMark_tidy ?_
      | refine State.mrsCrc_tidy ?_
      | refine State.mrsHist_tidy ?_
      | refine State.send_tidy ?_
      | refine State.setFld_tidy ?_
      | refine State.wrN_tidy ?_
      | refine tidyO_getD ?_ ?_
    | simp only [↓tidy_mk_iff, ↓tidy_parts_iff]
    | split

theorem State.mrsFrameStart_tidy {s : State} (hs : s.Tidy Q) : State.Tidy Q (State.mrsFrameStart s) := by
  unfold State.mrsFrameStart
  repeat' first
    | with_reducible assumption
    | ((try lift_lets); intro t; first | (refine tidy_have (Q := Q) (t := t) ?_ (fun _ => ?_); rotate_left; clear_value t; rotate_left; unfold t; clear t) | clear_value t)
    | with_reducible first
      | refine tidy_ite ?_ ?_
      | refine State.mrsStart_tidy ?_
    | split

theorem execMrsFrameStart_tidy {s : State} (hs : s.Tidy Q) : TidyOut Q (execMrsFrameStart s) := by
  unfold execMrsFrameStart
  repeat' first
    | with_reducible assumption
    | with_reducible first
      | refine tidyOut_next ?_
      | refine State.mrsFrameStart_tidy ?_

theorem State.mrsMaxUs_tidy {s : State} (hs : s.Tidy Q) : State.Tidy Q (State.mrsMaxUs s) := by
  unfold State.mrsMaxUs
  repeat' first
    | with_reducible assumption
    | ((try lift_lets); intro t; first | (refine tidy_have (Q := Q) (t := t) ?_ (fun _ => ?_); rotate_left; clear_value t; rotate_left; unfold t; clear t) | clear_value t)
    | with_reducible first
      | refine tidy_ite ?_ ?_
      | refine State.bump_tidy ?_
      | refine State.mrsStart_tidy ?_
      | refine State.raise_tidy ?_
    | split

theorem execMrsMaxUsExpire_tidy {s : State} (hs : s.Tidy Q) : TidyOut Q (execMrsMaxUsExpire s) := by
  unfold execMrsMaxUsExpire
  repeat' first
    | with_reducible assumption
    | with_reducible first
      | refine tidyOut_next ?_
      | refine State.mrsMaxUs_tidy ?_

theorem State.mrsReady_tidy {s : State} {buf : Nat} (hs : s.Tidy Q) : State.Tidy Q (State.mrsReady s buf) := by
  unfold State.mrsReady
  repeat' first
    | with_reducible assumption
    | ((try lift_lets); intro t; first | (refine tidy_have (Q := Q) (t := t) ?_ (fun _ => ?_); rotate_left; clear_value t; rotate_left; unfold t; clear t) | clear_value t)
    | with_reducible first
      | refine tidy_ite ?_ ?_
    | simp only [↓tidy_mk_iff, ↓tidy_parts_iff]

theorem State.mrsHostReady_tidy {s : State} {v : Nat} (hs : s.Tidy Q) : State.Tidy Q (State.mrsHostReady s v) := by
  unfold State.mrsHostReady
  repeat' first
    | with_reducible assumption
    | with_reducible first
      | refine tidy_ite ?_ ?_
      | refine State.mrsReady_tidy ?_

theorem execMrsFrameReadyWrite_tidy {m : Requester} {v : Nat} {s : State} (hs : s.Tidy Q) : TidyOut Q (execMrsFrameReadyWrite m v s) := by
  unfold execMrsFrameReadyWrite
  repeat' first
    | with_reducible assumption
    | with_reducible first
      | refine tidyOut_next ?_
      | refine State.mrsHostReady_tidy ?_
      | refine State.writeAccess_tidy ?_ (fun _ _ => ?_)

theorem State.mrsUnderrun_tidy {s : State} (hs : s.Tidy Q) : State.Tidy Q (State.mrsUnderrun s) := by
  unfold State.mrsUnderrun
  repeat' first
    | with_reducible assumption
    | ((try lift_lets); intro t; first | (refine tidy_have (Q := Q) (t := t) ?_ (fun _ => ?_); rotate_left; clear_value t; rotate_left; unfold t; clear t) | clear_value t)
    | with_reducible first
      | refine tidy_ite ?_ ?_
      | refine State.bump_tidy ?_
      | refine State.lbFlush_tidy ?_
      | refine State.mrsHist_tidy ?_
      | refine State.raise_tidy ?_
    | simp only [↓tidy_mk_iff, ↓tidy_parts_iff]

theorem execMrsUnderrun_tidy {s : State} (hs : s.Tidy Q) : TidyOut Q (execMrsUnderrun s) := by
  unfold execMrsUnderrun
  repeat' first
    | with_reducible assumption
    | with_reducible first
      | refine tidyOut_next ?_
      | refine State.mrsUnderrun_tidy ?_

theorem State.mrsStop_tidy {s : State} (hs : s.Tidy Q) : State.Tidy Q (State.mrsStop s) := by
  unfold State.mrsStop
  repeat' first
    | with_reducible assumption
    | ((try lift_lets); intro t; first | (refine tidy_have (Q := Q) (t := t) ?_ (fun _ => ?_); rotate_left; clear_value t; rotate_left; unfold t; clear t) | clear_value t)
    | with_reducible first
      | refine State.lbFlush_tidy ?_
    | simp only [↓tidy_mk_iff, ↓tidy_parts_iff]

theorem State.auxStatus_tidy {s : State} {st : Nat} {bytes : Nat} (hs : s.Tidy Q) : State.Tidy Q (State.auxStatus s st bytes) := by
  unfold State.auxStatus
  repeat' first
    | with_reducible assumption
    | with_reducible first
      | refine State.wrN_tidy ?_

theorem State.auxSend_tidy {s : State} {cmd : Nat} (hs : s.Tidy Q) : State.Tidy Q (State.auxSend s cmd) := by
  unfold State.auxSend
  repeat' first
    | with_reducible assumption
    | ((try lift_lets); intro t; first | (refine tidy_have (Q := Q) (t := t) ?_ (fun _ => ?_); rotate_left; clear_value t; rotate_left; unfold t; clear t) | clear_value t)
    | with_reducible first
      | refine tidy_ite ?_ ?_
      | refine State.send_tidy ?_
    | simp only [↓tidy_mk_iff, ↓tidy_parts_iff]

theorem State.auxFail_tidy {s : State} (hs : s.Tidy Q) : State.Tidy Q (State.auxFail s) := by
  unfold State.auxFail
  repeat' first
    | with_reducible assumption
    | with_reducible first
      | refine State.bump_tidy ?_
      | refine State.raise_tidy ?_

theorem State.auxEnd_tidy {s : State} {st : Nat} {bytes : Nat} (hs : s.Tidy Q) : State.Tidy Q (State.auxEnd s st bytes) := by
  unfold State.auxEnd
  repeat' first
    | with_reducible assumption
    | ((try lift_lets); intro t; first | (refine tidy_have (Q := Q) (t := t) ?_ (fun _ => ?_); rotate_left; clear_value t; rotate_left; unfold t; clear t) | clear_value t)
    | with_reducible first
      | refine tidy_ite ?_ ?_
      | refine State.auxFail_tidy ?_
      | refine State.auxStatus_tidy ?_
    | simp only [↓tidy_mk_iff, ↓tidy_parts_iff]

theorem State.auxCommand_tidy {s : State} {cmd : Nat} (hs : s.Tidy Q) : State.Tidy Q (State.auxCommand s cmd) := by
  unfold State.auxCommand
  repeat' first
    | with_reducible assumption
    | with_reducible first
      | refine tidy_ite ?_ ?_
      | refine State.auxSend_tidy ?_
      | refine State.bump_tidy ?_
      | refine State.wrN_tidy ?_

theorem State.auxWrite_tidy {s : State} {m : Requester} {req : Nat} {addr : Nat} {len : Nat} (hs : s.Tidy Q) : State.Tidy Q (State.auxWrite s m req addr len) := by
  unfold State.auxWrite
  repeat' first
    | with_reducible assumption
    | ((try lift_lets); intro t; first | (refine tidy_have (Q := Q) (t := t) ?_ (fun _ => ?_); rotate_left; clear_value t; rotate_left; unfold t; clear t) | clear_value t)
    | with_reducible first
      | refine State.auxCommand_tidy ?_
      | refine State.writeAccess_tidy ?_ (fun _ _ => ?_)

theorem execAuxNativeWrite_tidy {m : Requester} {addr : Nat} {len : Nat} {s : State} (hs : s.Tidy Q) : TidyOut Q (execAuxNativeWrite m addr len s) := by
  unfold execAuxNativeWrite
  repeat' first
    | with_reducible assumption
    | with_reducible first
      | refine tidyOut_next ?_
      | refine State.auxWrite_tidy ?_

theorem execAuxNativeRead_tidy {m : Requester} {addr : Nat} {len : Nat} {s : State} (hs : s.Tidy Q) : TidyOut Q (execAuxNativeRead m addr len s) := by
  unfold execAuxNativeRead
  repeat' first
    | with_reducible assumption
    | with_reducible first
      | refine tidyOut_next ?_
      | refine State.auxWrite_tidy ?_

theorem execAuxI2cWrite_tidy {m : Requester} {mot : Bool} {addr : Nat} {len : Nat} {s : State} (hs : s.Tidy Q) : TidyOut Q (execAuxI2cWrite m mot addr len s) := by
  unfold execAuxI2cWrite
  repeat' first
    | with_reducible assumption
    | with_reducible first
      | refine tidy_ite ?_ ?_
      | refine tidyOut_next ?_
      | refine State.auxWrite_tidy ?_

theorem execAuxI2cRead_tidy {m : Requester} {mot : Bool} {addr : Nat} {len : Nat} {s : State} (hs : s.Tidy Q) : TidyOut Q (execAuxI2cRead m mot addr len s) := by
  unfold execAuxI2cRead
  repeat' first
    | with_reducible assumption
    | with_reducible first
      | refine tidy_ite ?_ ?_
      | refine tidyOut_next ?_
      | refine State.auxWrite_tidy ?_

theorem State.auxStore_tidy {s : State} {l : List Byte} (hs : s.Tidy Q) : State.Tidy Q (State.auxStore s l) := by
  unfold State.auxStore
  repeat' first
    | with_reducible assumption
    | ((try lift_lets); intro t; first | (refine tidy_have (Q := Q) (t := t) ?_ (fun _ => ?_); rotate_left; clear_value t; rotate_left; unfold t; clear t) | clear_value t)
    | with_reducible first
      | refine State.wrWords_tidy ?_

theorem State.auxReply_tidy {s : State} {kind : Nat} {data : List Byte} (hs : s.Tidy Q) : State.Tidy Q (State.auxReply s kind data) := by
  unfold State.auxReply
  repeat' first
    | with_reducible assumption
    | ((try lift_lets); intro t; first | (refine tidy_have (Q := Q) (t := t) ?_ (fun _ => ?_); rotate_left; clear_value t; rotate_left; unfold t; clear t) | clear_value t)
    | with_reducible first
      | refine tidy_ite ?_ ?_
      | refine State.auxEnd_tidy ?_
      | refine State.auxStore_tidy ?_
    | simp only [↓tidy_mk_iff, ↓tidy_parts_iff]
    | split

theorem execAuxReply_tidy {kind : Nat} {data : List Byte} {s : State} (hs : s.Tidy Q) : TidyOut Q (execAuxReply kind data s) := by
  unfold execAuxReply
  repeat' first
    | with_reducible assumption
    | with_reducible first
      | refine tidyOut_next ?_
      | refine State.auxReply_tidy ?_

theorem State.auxRetry_tidy {s : State} (hs : s.Tidy Q) : State.Tidy Q (State.auxRetry s) := by
  unfold State.auxRetry
  repeat' first
    | with_reducible assumption
    | ((try lift_lets); intro t; first | (refine tidy_have (Q := Q) (t := t) ?_ (fun _ => ?_); rotate_left; clear_value t; rotate_left; unfold t; clear t) | clear_value t)
    | with_reducible first
      | refine tidy_ite ?_ ?_
      | refine State.auxSend_tidy ?_
      | refine State.bump_tidy ?_
      | refine State.setFld_tidy ?_
    | split

theorem execAuxDeferRetry_tidy {s : State} (hs : s.Tidy Q) : TidyOut Q (execAuxDeferRetry s) := by
  unfold execAuxDeferRetry
  repeat' first
    | with_reducible assumption
    | with_reducible first
      | refine tidyOut_next ?_
      | refine State.auxRetry_tidy ?_

theorem State.auxTimeout_tidy {s : State} (hs : s.Tidy Q) : State.Tidy Q (State.auxTimeout s) := by
  unfold State.auxTimeout
  repeat' first
    | with_reducible assumption
    | ((try lift_lets); intro t; first | (refine tidy_have (Q := Q) (t := t) ?_ (fun _ => ?_); rotate_left; clear_value t; rotate_left; unfold t; clear t) | clear_value t)
    | with_reducible first
      | refine tidy_ite ?_ ?_
      | refine State.auxEnd_tidy ?_
    | split

theorem execAuxTimeout_tidy {s : State} (hs : s.Tidy Q) : TidyOut Q (execAuxTimeout s) := by
  unfold execAuxTimeout
  repeat' first
    | with_reducible assumption
    | with_reducible first
      | refine tidyOut_next ?_
      | refine State.auxTimeout_tidy ?_

theorem State.setHpd_tidy {s : State} {b : Bool} (hs : s.Tidy Q) : State.Tidy Q (State.setHpd s b) := by
  unfold State.setHpd
  repeat' first
    | with_reducible assumption
    | ((try lift_lets); intro t; first | (refine tidy_have (Q := Q) (t := t) ?_ (fun _ => ?_); rotate_left; clear_value t; rotate_left; unfold t; clear t) | clear_value t)
    | simp only [↓tidy_mk_iff, ↓tidy_parts_iff]

theorem State.hpdIrq_tidy {s : State} (hs : s.Tidy Q) : State.Tidy Q (State.hpdIrq s) := by
  unfold State.hpdIrq
  repeat' first
    | with_reducible assumption
    | with_reducible first
      | refine tidy_ite ?_ ?_
      | refine State.bump_tidy ?_
      | refine State.raise_tidy ?_
      | refine State.setHpd_tidy ?_

theorem execHpdIrq_tidy {s : State} (hs : s.Tidy Q) : TidyOut Q (execHpdIrq s) := by
  unfold execHpdIrq
  repeat' first
    | with_reducible assumption
    | with_reducible first
      | refine tidyOut_next ?_
      | refine State.hpdIrq_tidy ?_

theorem State.hpdUnplug_tidy {s : State} (hs : s.Tidy Q) : State.Tidy Q (State.hpdUnplug s) := by
  unfold State.hpdUnplug
  repeat' first
    | with_reducible assumption
    | ((try lift_lets); intro t; first | (refine tidy_have (Q := Q) (t := t) ?_ (fun _ => ?_); rotate_left; clear_value t; rotate_left; unfold t; clear t) | clear_value t)
    | with_reducible first
      | refine tidy_ite ?_ ?_
      | refine State.raise_tidy ?_
      | refine State.setBit_tidy ?_
      | refine State.setHpd_tidy ?_
    | simp only [↓tidy_mk_iff, ↓tidy_parts_iff]

theorem execHpdUnplug_tidy {s : State} (hs : s.Tidy Q) : TidyOut Q (execHpdUnplug s) := by
  unfold execHpdUnplug
  repeat' first
    | with_reducible assumption
    | with_reducible first
      | refine tidyOut_next ?_
      | refine State.hpdUnplug_tidy ?_

theorem State.hpdPlug_tidy {s : State} (hs : s.Tidy Q) : State.Tidy Q (State.hpdPlug s) := by
  unfold State.hpdPlug
  repeat' first
    | with_reducible assumption
    | ((try lift_lets); intro t; first | (refine tidy_have (Q := Q) (t := t) ?_ (fun _ => ?_); rotate_left; clear_value t; rotate_left; unfold t; clear t) | clear_value t)
    | with_reducible first
      | refine tidy_ite ?_ ?_
      | refine State.raise_tidy ?_
      | refine State.setHpd_tidy ?_
    | simp only [↓tidy_mk_iff, ↓tidy_parts_iff]

theorem execHpdPlug_tidy {s : State} (hs : s.Tidy Q) : TidyOut Q (execHpdPlug s) := by
  unfold execHpdPlug
  repeat' first
    | with_reducible assumption
    | with_reducible first
      | refine tidyOut_next ?_
      | refine State.hpdPlug_tidy ?_

theorem State.linkTrain_tidy {s : State} {v : Nat} (hs : s.Tidy Q) : State.Tidy Q (State.linkTrain s v) := by
  unfold State.linkTrain
  repeat' first
    | with_reducible assumption
    | with_reducible first
      | refine tidy_ite ?_ ?_
      | refine State.bump_tidy ?_
      | refine State.wrN_tidy ?_

theorem execLinkTrain_tidy {m : Requester} {v : Nat} {s : State} (hs : s.Tidy Q) : TidyOut Q (execLinkTrain m v s) := by
  unfold execLinkTrain
  repeat' first
    | with_reducible assumption
    | with_reducible first
      | refine tidyOut_next ?_
      | refine State.linkTrain_tidy ?_
      | refine State.writeAccess_tidy ?_ (fun _ _ => ?_)

theorem State.trainDone_tidy {s : State} {result : Nat} {swing : Nat} {preemph : Nat} {lanes : Nat} {dpcd : List Byte} (hs : s.Tidy Q) : State.Tidy Q (State.trainDone s result swing preemph lanes dpcd) := by
  unfold State.trainDone
  repeat' first
    | with_reducible assumption
    | ((try lift_lets); intro t; first | (refine tidy_have (Q := Q) (t := t) ?_ (fun _ => ?_); rotate_left; clear_value t; rotate_left; unfold t; clear t) | clear_value t)
    | with_reducible first
      | refine tidy_ite ?_ ?_
      | refine State.raiseIf_tidy ?_
      | refine State.wrN_tidy ?_
      | refine State.wrWords_tidy ?_

theorem execLinkTrainDone_tidy {result : Nat} {swing : Nat} {preemph : Nat} {lanes : Nat} {dpcd : List Byte} {s : State} (hs : s.Tidy Q) : TidyOut Q (execLinkTrainDone result swing preemph lanes dpcd s) := by
  unfold execLinkTrainDone
  repeat' first
    | with_reducible assumption
    | with_reducible first
      | refine tidyOut_next ?_
      | refine State.trainDone_tidy ?_

end Sys2Proof.Machine
end

