-- ==== Sys2Proof/Laws/KeepComp.lean ====
section
/-! SUPPORT. Every operation of Machine/Comp.lean keeps a state tidy. -/

set_option Elab.async false

namespace Sys2Proof.Machine

set_option linter.unusedSimpArgs false

variable {Q : Base}

theorem State.layerLine_tidy {s : State} {e : Nat} {l : Nat} {ent : Nat} {o : Nat} {k : Nat} {j : Nat} (hs : s.Tidy Q) : Tidy1 Q (State.layerLine s e l ent o k j) := by
  unfold State.layerLine
  repeat' first
    | with_reducible assumption
    | ((try lift_lets); intro t; first | (refine tidy_have (Q := Q) (t := t) ?_ (fun _ => ?_); rotate_left; clear_value t; rotate_left; unfold t; clear t) | clear_value t)
    | with_reducible first
      | refine tidy1_ite ?_ ?_
      | refine tidy_ite ?_ ?_
      | refine State.bump_tidy ?_
      | refine State.raise_tidy ?_
    | simp only [↓tidy1_pair_iff]
    | split

theorem State.engineFrame_tidy {s : State} {e : Nat} {k : Nat} (hs : s.Tidy Q) : State.Tidy Q (State.engineFrame s e k) := by
  unfold State.engineFrame
  repeat' first
    | with_reducible assumption
    | ((try lift_lets); intro t; first | (refine tidy_have (Q := Q) (t := t) ?_ (fun _ => ?_); rotate_left; clear_value t; rotate_left; unfold t; clear t) | clear_value t)
    | with_reducible first
      | refine tidy_ite ?_ ?_
      | refine State.setEngine_tidy ?_
      | refine tidy1_st ?_
    | simp only [↓tidy1_pair_iff]
    | simp only [↓tidy_mk_iff, ↓tidy_parts_iff]

theorem execPxpFrameStart_tidy {e : Nat} {k : Nat} {s : State} (hs : s.Tidy Q) : TidyOut Q (execPxpFrameStart e k s) := by
  unfold execPxpFrameStart
  repeat' first
    | with_reducible assumption
    | with_reducible first
      | refine tidyOut_next ?_
      | refine State.engineFrame_tidy ?_

theorem State.gather_tidy {e o k j : Nat} {l : List (Nat × Nat)} : ∀ {s : State} {acc : List (Nat × LayerLine)}, s.Tidy Q → Tidy1 Q (s.gather e o k j l acc) := by
  induction l with
  | nil => intros; assumption
  | cons x r ih =>
    intros
    unfold State.gather
    repeat' first
      | with_reducible assumption
      | ((try lift_lets); intro t; first | (refine tidy_have (Q := Q) (t := t) ?_ (fun _ => ?_); rotate_left; clear_value t; rotate_left; unfold t; clear t) | (refine tidy1_have (Q := Q) (t := t) ?_ (fun _ => ?_); rotate_left; clear_value t; rotate_left; unfold t; clear t) | clear_value t)
      | with_reducible refine ih ?_
      | with_reducible refine State.layerLine_tidy ?_
      | with_reducible refine tidy1_st ?_

theorem State.lineComposite_tidy {s : State} {e : Nat} {j : Nat} (hs : s.Tidy Q) : State.Tidy Q (State.lineComposite s e j) := by
  unfold State.lineComposite
  repeat' first
    | with_reducible assumption
    | ((try lift_lets); intro t; first | (refine tidy_have (Q := Q) (t := t) ?_ (fun _ => ?_); rotate_left; clear_value t; rotate_left; unfold t; clear t) | (refine tidy1_have (Q := Q) (t := t) ?_ (fun _ => ?_); rotate_left; clear_value t; rotate_left; unfold t; clear t) | clear_value t)
    | with_reducible first
      | refine tidy_ite ?_ ?_
      | refine State.bump_tidy ?_
      | refine State.gather_tidy ?_
      | refine State.granulesGood_tidy ?_
      | refine State.mrsReady_tidy ?_
      | refine State.raise_tidy ?_
      | refine State.setEngine_tidy ?_
      | refine State.stackMove_tidy ?_
      | refine State.wrBytes_tidy ?_
      | refine tidy1_st ?_
    | simp only [↓tidy1_pair_iff]
    | simp only [↓tidy_mk_iff, ↓tidy_parts_iff]
    | split

theorem execPxpLineComposite_tidy {e : Nat} {line : Nat} {s : State} (hs : s.Tidy Q) : TidyOut Q (execPxpLineComposite e line s) := by
  unfold execPxpLineComposite
  repeat' first
    | with_reducible assumption
    | with_reducible first
      | refine tidyOut_next ?_
      | refine State.lineComposite_tidy ?_

theorem State.enginePresent_tidy {s : State} {ep : Nat} {e : Nat} (hs : s.Tidy Q) : State.Tidy Q (State.enginePresent s ep e) := by
  unfold State.enginePresent
  repeat' first
    | with_reducible assumption
    | ((try lift_lets); intro t; first | (refine tidy_have (Q := Q) (t := t) ?_ (fun _ => ?_); rotate_left; clear_value t; rotate_left; unfold t; clear t) | clear_value t)
    | with_reducible first
      | refine tidy_ite ?_ ?_
      | refine tidy_foldl (fun _ _ _ => ?_) ?_
      | refine tidy1_foldl (fun _ _ _ => ?_) ?_
      | refine State.assemble_tidy ?_
      | refine State.bump_tidy ?_
      | refine State.raise_tidy ?_
      | refine tidy1_st ?_
    | simp only [↓tidy1_pair_iff]
    | simp only [↓tidy_mk_iff, ↓tidy_parts_iff]
    | split

theorem State.pxpStart_tidy {s : State} (hs : s.Tidy Q) : State.Tidy Q (State.pxpStart s) := by
  unfold State.pxpStart
  repeat' first
    | with_reducible assumption
    | ((try lift_lets); intro t; first | (refine tidy_have (Q := Q) (t := t) ?_ (fun _ => ?_); rotate_left; clear_value t; rotate_left; unfold t; clear t) | clear_value t)
    | with_reducible first
      | refine tidy_foldl (fun _ _ _ => ?_) ?_
      | refine tidy1_foldl (fun _ _ _ => ?_) ?_
      | refine State.enginePresent_tidy ?_
    | simp only [↓tidy_mk_iff, ↓tidy_parts_iff]

theorem State.pxpStop_tidy {s : State} (hs : s.Tidy Q) : State.Tidy Q (State.pxpStop s) := by
  unfold State.pxpStop
  repeat' first
    | with_reducible assumption
    | ((try lift_lets); intro t; first | (refine tidy_have (Q := Q) (t := t) ?_ (fun _ => ?_); rotate_left; clear_value t; rotate_left; unfold t; clear t) | clear_value t)
    | with_reducible first
      | refine tidy1_st ?_
    | simp only [↓tidy1_pair_iff]
    | simp only [↓tidy_mk_iff, ↓tidy_parts_iff]

theorem State.pxpRefuse_tidy {s : State} {e : Nat} {code : Nat} {l : Nat} (hs : s.Tidy Q) : State.Tidy Q (State.pxpRefuse s e code l) := by
  unfold State.pxpRefuse
  repeat' first
    | with_reducible assumption
    | ((try lift_lets); intro t; first | (refine tidy_have (Q := Q) (t := t) ?_ (fun _ => ?_); rotate_left; clear_value t; rotate_left; unfold t; clear t) | clear_value t)
    | with_reducible first
      | refine tidy_ite ?_ ?_
      | refine State.bump_tidy ?_
      | refine State.raise_tidy ?_
      | refine State.wrN_tidy ?_

theorem State.fenceWrite_tidy {s : State} {n : Nat} {v : Nat} (hs : s.Tidy Q) : State.Tidy Q (State.fenceWrite s n v) := by
  unfold State.fenceWrite
  repeat' first
    | with_reducible assumption
    | with_reducible first
      | refine State.bump_tidy ?_
      | refine State.wrN_tidy ?_

theorem execFenceWrite_tidy {m : Requester} {n : Nat} {v : Nat} {s : State} (hs : s.Tidy Q) : TidyOut Q (execFenceWrite m n v s) := by
  unfold execFenceWrite
  repeat' first
    | with_reducible assumption
    | with_reducible first
      | refine tidyOut_next ?_
      | refine State.fenceWrite_tidy ?_
      | refine State.writeAccess_tidy ?_ (fun _ _ => ?_)

theorem State.fencePoint_tidy {s : State} {e : Nat} (hs : s.Tidy Q) : State.Tidy Q (State.fencePoint s e) := by
  unfold State.fencePoint
  repeat' first
    | with_reducible assumption
    | ((try lift_lets); intro t; first | (refine tidy_have (Q := Q) (t := t) ?_ (fun _ => ?_); rotate_left; clear_value t; rotate_left; unfold t; clear t) | clear_value t)
    | with_reducible first
      | refine tidy_ite ?_ ?_
      | refine State.sendCtl_tidy ?_
      | refine State.setEngine_tidy ?_
      | refine tidy1_st ?_
    | simp only [↓tidy1_pair_iff]
    | simp only [↓tidy_mk_iff, ↓tidy_parts_iff]
    | split

theorem execFencePoint_tidy {e : Nat} {s : State} (hs : s.Tidy Q) : TidyOut Q (execFencePoint e s) := by
  unfold execFencePoint
  repeat' first
    | with_reducible assumption
    | with_reducible first
      | refine tidyOut_next ?_
      | refine State.fencePoint_tidy ?_

theorem State.fenceRx_tidy {s : State} {e : Nat} {ready : Bool} {epoch : Nat} (hs : s.Tidy Q) : State.Tidy Q (State.fenceRx s e ready epoch) := by
  unfold State.fenceRx
  repeat' first
    | with_reducible assumption
    | ((try lift_lets); intro t; first | (refine tidy_have (Q := Q) (t := t) ?_ (fun _ => ?_); rotate_left; clear_value t; rotate_left; unfold t; clear t) | clear_value t)
    | with_reducible first
      | refine State.setEngine_tidy ?_
    | simp only [↓tidy_mk_iff, ↓tidy_parts_iff]

theorem State.fenceHist_tidy {s : State} {kind : Nat} {e : Nat} {fence : Nat} {T : Nat} (hs : s.Tidy Q) : State.Tidy Q (State.fenceHist s kind e fence T) := by
  unfold State.fenceHist
  repeat' first
    | with_reducible assumption
    | with_reducible first
      | refine State.wrWords_tidy ?_

theorem State.flipOver_tidy {s : State} {e : Nat} (hs : s.Tidy Q) : State.Tidy Q (State.flipOver s e) := by
  unfold State.flipOver
  repeat' first
    | with_reducible assumption
    | ((try lift_lets); intro t; first | (refine tidy_have (Q := Q) (t := t) ?_ (fun _ => ?_); rotate_left; clear_value t; rotate_left; unfold t; clear t) | clear_value t)
    | with_reducible first
      | refine State.setEngine_tidy ?_
    | simp only [↓tidy_mk_iff, ↓tidy_parts_iff]

theorem State.moveTarget_tidy {s : State} {p : Nat} {T : Nat} (hs : s.Tidy Q) : State.Tidy Q (State.moveTarget s p T) := by
  unfold State.moveTarget
  repeat' first
    | with_reducible assumption
    | ((try lift_lets); intro t; first | (refine tidy_have (Q := Q) (t := t) ?_ (fun _ => ?_); rotate_left; clear_value t; rotate_left; unfold t; clear t) | clear_value t)
    | with_reducible first
      | refine State.setFld_tidy ?_
      | refine tidy1_st ?_
    | simp only [↓tidy1_pair_iff]
    | simp only [↓tidy_mk_iff, ↓tidy_parts_iff]

theorem State.pxpCommit_tidy {s : State} {e : Nat} {T : Nat} (hs : s.Tidy Q) : Tidy1 Q (State.pxpCommit s e T) := by
  unfold State.pxpCommit
  repeat' first
    | with_reducible assumption
    | ((try lift_lets); intro t; first | (refine tidy_have (Q := Q) (t := t) ?_ (fun _ => ?_); rotate_left; clear_value t; rotate_left; unfold t; clear t) | clear_value t)
    | with_reducible first
      | refine tidy1_ite ?_ ?_
      | refine tidy_ite ?_ ?_
      | refine State.bump_tidy ?_
      | refine State.fenceHist_tidy ?_
      | refine State.flipOver_tidy ?_
      | refine State.moveTarget_tidy ?_
      | refine State.pxpRefuse_tidy ?_
      | refine State.raise_tidy ?_
      | refine State.setEngine_tidy ?_
      | refine State.wrN_tidy ?_
      | refine tidy1_st ?_
    | simp only [↓tidy1_pair_iff]
    | simp only [↓tidy_mk_iff, ↓tidy_parts_iff]
    | split

theorem State.pxpFlip_tidy {s : State} {e : Nat} (hs : s.Tidy Q) : State.Tidy Q (State.pxpFlip s e) := by
  unfold State.pxpFlip
  repeat' first
    | with_reducible assumption
    | with_reducible first
      | refine State.bump_tidy ?_
      | refine State.flipOver_tidy ?_

end Sys2Proof.Machine
end

