-- ==== Sys2Proof/Laws/KeepAud.lean ====
section
/-! SUPPORT. Every operation of Machine/Aud.lean keeps a state tidy. -/

set_option Elab.async false

namespace Sys2Proof.Machine

set_option linter.unusedSimpArgs false

variable {Q : Base}

theorem State.setPort_tidy {s : State} {x : Nat} {p : AudPort} (hs : s.Tidy Q) : State.Tidy Q (State.setPort s x p) := by
  unfold State.setPort
  repeat' first
    | with_reducible assumption
    | ((try lift_lets); intro t; first | (refine tidy_have (Q := Q) (t := t) ?_ (fun _ => ?_); rotate_left; clear_value t; rotate_left; unfold t; clear t) | clear_value t)
    | simp only [↓tidy_mk_iff, ↓tidy_parts_iff]

theorem State.portCount_tidy {s : State} {x : Nat} {c : Nat} (hs : s.Tidy Q) : State.Tidy Q (State.portCount s x c) := by
  unfold State.portCount
  repeat' first
    | with_reducible assumption
    | with_reducible first
      | refine tidy_ite ?_ ?_
      | refine State.bump_tidy ?_

theorem State.portEvent_tidy {s : State} {x : Nat} (hs : s.Tidy Q) : State.Tidy Q (State.portEvent s x) := by
  unfold State.portEvent
  repeat' first
    | with_reducible assumption
    | with_reducible first
      | refine tidy_ite ?_ ?_
      | refine State.stick_tidy ?_

theorem State.slip_tidy {s : State} {x : Nat} {c : Nat} (hs : s.Tidy Q) : State.Tidy Q (State.slip s x c) := by
  unfold State.slip
  repeat' first
    | with_reducible assumption
    | with_reducible first
      | refine State.portCount_tidy ?_
      | refine State.portEvent_tidy ?_
      | refine State.raise_tidy ?_

theorem State.fifoWm_tidy {s : State} {x : Nat} (hs : s.Tidy Q) : State.Tidy Q (State.fifoWm s x) := by
  unfold State.fifoWm
  repeat' first
    | with_reducible assumption
    | ((try lift_lets); intro t; first | (refine tidy_have (Q := Q) (t := t) ?_ (fun _ => ?_); rotate_left; clear_value t; rotate_left; unfold t; clear t) | clear_value t)
    | with_reducible first
      | refine tidy_ite ?_ ?_
      | refine State.watermark_tidy ?_

theorem State.assignPair_tidy {s : State} {x : Nat} {n : Nat} {w0 : Nat} {w1 : Nat} (hs : s.Tidy Q) : State.Tidy Q (State.assignPair s x n w0 w1) := by
  unfold State.assignPair
  repeat' first
    | with_reducible assumption
    | ((try lift_lets); intro t; first | (refine tidy_have (Q := Q) (t := t) ?_ (fun _ => ?_); rotate_left; clear_value t; rotate_left; unfold t; clear t) | clear_value t)
    | with_reducible first
      | refine State.setPort_tidy ?_
      | refine tidy1_st ?_
    | simp only [↓tidy1_pair_iff]
    | simp only [↓tidy_mk_iff, ↓tidy_parts_iff]

theorem State.elasticPut_tidy {s : State} {x : Nat} {f : AudFrame} (hs : s.Tidy Q) : State.Tidy Q (State.elasticPut s x f) := by
  unfold State.elasticPut
  repeat' first
    | with_reducible assumption
    | ((try lift_lets); intro t; first | (refine tidy_have (Q := Q) (t := t) ?_ (fun _ => ?_); rotate_left; clear_value t; rotate_left; unfold t; clear t) | clear_value t)
    | with_reducible first
      | refine tidy_ite ?_ ?_
      | refine State.fifoWm_tidy ?_
      | refine State.setPort_tidy ?_
      | refine State.slip_tidy ?_
    | simp only [↓tidy_mk_iff, ↓tidy_parts_iff]

theorem State.tellSlip_tidy {s : State} {x : Nat} {n : Nat} {stamp : Nat} (hs : s.Tidy Q) : State.Tidy Q (State.tellSlip s x n stamp) := by
  unfold State.tellSlip
  repeat' first
    | with_reducible assumption
    | with_reducible first
      | refine tidy_ite ?_ ?_
      | refine State.sendCtl_tidy ?_

theorem State.takeAlone_tidy {s : State} {x : Nat} {n : Nat} (hs : s.Tidy Q) : State.Tidy Q (State.takeAlone s x n) := by
  unfold State.takeAlone
  repeat' first
    | with_reducible assumption
    | ((try lift_lets); intro t; first | (refine tidy_have (Q := Q) (t := t) ?_ (fun _ => ?_); rotate_left; clear_value t; rotate_left; unfold t; clear t) | clear_value t)
    | with_reducible first
      | refine tidy_ite ?_ ?_
      | refine State.assignPair_tidy ?_
      | refine State.fifoWm_tidy ?_
      | refine State.setPort_tidy ?_
      | refine State.slip_tidy ?_
      | refine State.tellSlip_tidy ?_
    | simp only [↓tidy_mk_iff, ↓tidy_parts_iff]
    | split

theorem State.followMiss_tidy {s : State} {x : Nat} {n : Nat} (hs : s.Tidy Q) : State.Tidy Q (State.followMiss s x n) := by
  unfold State.followMiss
  repeat' first
    | with_reducible assumption
    | with_reducible first
      | refine State.bump_tidy ?_
      | refine State.raise_tidy ?_
      | refine State.takeAlone_tidy ?_

theorem State.takeElastic_tidy {s : State} {x : Nat} {n : Nat} (hs : s.Tidy Q) : State.Tidy Q (State.takeElastic s x n) := by
  unfold State.takeElastic
  repeat' first
    | with_reducible assumption
    | ((try lift_lets); intro t; first | (refine tidy_have (Q := Q) (t := t) ?_ (fun _ => ?_); rotate_left; clear_value t; rotate_left; unfold t; clear t) | (refine tidyG_have (Q := Q) (t := t) (fun _ _ _ => ?_) (fun _ => ?_); rotate_left; clear_value t; rotate_left; unfold t; clear t) | (refine tidyE_have (Q := Q) (t := t) (fun _ _ => ?_) (fun _ => ?_); rotate_left; clear_value t; rotate_left; unfold t; clear t) | (refine tidyF_have (Q := Q) (t := t) (fun _ => ?_) (fun _ => ?_); rotate_left; clear_value t; rotate_left; unfold t; clear t) | clear_value t)
    | with_reducible first
      | refine tidy_ite ?_ ?_
      | refine State.assignPair_tidy ?_
      | refine State.fifoWm_tidy ?_
      | refine State.followMiss_tidy ?_
      | refine State.setPort_tidy ?_
      | refine State.slip_tidy ?_
      | refine State.takeAlone_tidy ?_
      | refine tidy1_st ?_
      | refine tidyG_use (by assumption) ?_
      | refine tidyF_use (by assumption)
      | refine tidyE_use (by assumption) ?_
    | simp only [↓tidy1_pair_iff]
    | simp only [↓tidy_mk_iff, ↓tidy_parts_iff]
    | split

theorem State.csKeep_tidy {s : State} {p : Nat} {sub : Nat} {b : List Byte} (hs : s.Tidy Q) : State.Tidy Q (State.csKeep s p sub b) := by
  unfold State.csKeep
  repeat' first
    | with_reducible assumption
    | with_reducible first
      | refine State.wrWords_tidy ?_

theorem State.csFrame_tidy {s : State} {p : Nat} {z : Bool} {c0 : Bool} {c1 : Bool} (hs : s.Tidy Q) : State.Tidy Q (State.csFrame s p z c0 c1) := by
  unfold State.csFrame
  repeat' first
    | with_reducible assumption
    | ((try lift_lets); intro t; first | (refine tidy_have (Q := Q) (t := t) ?_ (fun _ => ?_); rotate_left; clear_value t; rotate_left; unfold t; clear t) | clear_value t)
    | with_reducible first
      | refine tidy_ite ?_ ?_
      | refine State.csKeep_tidy ?_
      | refine State.portCount_tidy ?_
      | refine State.portEvent_tidy ?_
      | refine State.raise_tidy ?_
      | refine State.setPort_tidy ?_
      | refine tidy1_st ?_
    | simp only [↓tidy1_pair_iff]
    | simp only [↓tidy_mk_iff, ↓tidy_parts_iff]
    | split

theorem State.syncFrame_tidy {s : State} {p : Nat} {w0 : Nat} {w1 : Nat} (hs : s.Tidy Q) : State.Tidy Q (State.syncFrame s p w0 w1) := by
  unfold State.syncFrame
  repeat' first
    | with_reducible assumption
    | ((try lift_lets); intro t; first | (refine tidy_have (Q := Q) (t := t) ?_ (fun _ => ?_); rotate_left; clear_value t; rotate_left; unfold t; clear t) | clear_value t)
    | with_reducible first
      | refine tidy_ite ?_ ?_
      | refine State.assignPair_tidy ?_
      | refine State.portEvent_tidy ?_
      | refine State.raise_tidy ?_
      | refine State.setPort_tidy ?_
      | refine State.slip_tidy ?_
      | refine State.wrN_tidy ?_
      | refine tidy1_st ?_
    | simp only [↓tidy1_pair_iff]
    | simp only [↓tidy_mk_iff, ↓tidy_parts_iff]

theorem State.aesFrame_tidy {s : State} {p : Nat} {w0 : Nat} {w1 : Nat} {par0 : Bool} {par1 : Bool} {bad : Bool} {ppm : Int} (hs : s.Tidy Q) : State.Tidy Q (State.aesFrame s p w0 w1 par0 par1 bad ppm) := by
  unfold State.aesFrame
  repeat' first
    | with_reducible assumption
    | ((try lift_lets); intro t; first | (refine tidy_have (Q := Q) (t := t) ?_ (fun _ => ?_); rotate_left; clear_value t; rotate_left; unfold t; clear t) | clear_value t)
    | with_reducible first
      | refine tidy_ite ?_ ?_
      | refine tidy_foldl (fun _ _ _ => ?_) ?_
      | refine tidy1_foldl (fun _ _ _ => ?_) ?_
      | refine State.csFrame_tidy ?_
      | refine State.elasticPut_tidy ?_
      | refine State.portCount_tidy ?_
      | refine State.portEvent_tidy ?_
      | refine State.raise_tidy ?_
      | refine State.setPort_tidy ?_
      | refine State.syncFrame_tidy ?_
    | simp only [↓tidy_mk_iff, ↓tidy_parts_iff]

theorem execAesFrameRx_tidy {p : Nat} {w0 : Nat} {w1 : Nat} {par0 : Bool} {par1 : Bool} {bad : Bool} {ppm : Int} {s : State} (hs : s.Tidy Q) : TidyOut Q (execAesFrameRx p w0 w1 par0 par1 bad ppm s) := by
  unfold execAesFrameRx
  repeat' first
    | with_reducible assumption
    | with_reducible first
      | refine tidyOut_next ?_
      | refine State.aesFrame_tidy ?_

theorem State.aesLoss_tidy {s : State} {p : Nat} (hs : s.Tidy Q) : State.Tidy Q (State.aesLoss s p) := by
  unfold State.aesLoss
  repeat' first
    | with_reducible assumption
    | ((try lift_lets); intro t; first | (refine tidy_have (Q := Q) (t := t) ?_ (fun _ => ?_); rotate_left; clear_value t; rotate_left; unfold t; clear t) | clear_value t)
    | with_reducible first
      | refine tidy_ite ?_ ?_
      | refine State.fifoWm_tidy ?_
      | refine State.portCount_tidy ?_
      | refine State.portEvent_tidy ?_
      | refine State.raise_tidy ?_
      | refine State.setPort_tidy ?_
    | simp only [↓tidy_mk_iff, ↓tidy_parts_iff]

theorem execAesLossTimeout_tidy {p : Nat} {s : State} (hs : s.Tidy Q) : TidyOut Q (execAesLossTimeout p s) := by
  unfold execAesLossTimeout
  repeat' first
    | with_reducible assumption
    | with_reducible first
      | refine tidyOut_next ?_
      | refine State.aesLoss_tidy ?_

theorem State.sinkJudge_tidy {s : State} {b : Nat} {k : Nat} (hs : s.Tidy Q) : State.Tidy Q (State.sinkJudge s b k) := by
  unfold State.sinkJudge
  repeat' first
    | with_reducible assumption
    | ((try lift_lets); intro t; first | (refine tidy_have (Q := Q) (t := t) ?_ (fun _ => ?_); rotate_left; clear_value t; rotate_left; unfold t; clear t) | clear_value t)
    | with_reducible first
      | refine tidy_ite ?_ ?_
      | refine State.bump_tidy ?_
      | refine State.raise_tidy ?_
    | simp only [↓tidy_mk_iff, ↓tidy_parts_iff]
    | split

theorem State.chanInstant_tidy {s : State} {nonPcm : Bool} {hz : Nat} {n : Nat} {j : Nat} (hs : s.Tidy Q) : State.Tidy Q (State.chanInstant s nonPcm hz n j) := by
  unfold State.chanInstant
  repeat' first
    | with_reducible assumption
    | ((try lift_lets); intro t; first | (refine tidy_have (Q := Q) (t := t) ?_ (fun _ => ?_); rotate_left; clear_value t; rotate_left; unfold t; clear t) | clear_value t)
    | with_reducible first
      | refine tidy_ite ?_ ?_
      | refine State.bump_tidy ?_
      | refine tidyO_getD ?_ ?_
    | simp only [↓tidy_mk_iff, ↓tidy_parts_iff]

theorem State.portInstant_tidy {s : State} {n : Nat} {x : Nat} (hs : s.Tidy Q) : State.Tidy Q (State.portInstant s n x) := by
  unfold State.portInstant
  repeat' first
    | with_reducible assumption
    | ((try lift_lets); intro t; first | (refine tidy_have (Q := Q) (t := t) ?_ (fun _ => ?_); rotate_left; clear_value t; rotate_left; unfold t; clear t) | clear_value t)
    | with_reducible first
      | refine tidy_ite ?_ ?_
      | refine State.assignPair_tidy ?_
      | refine State.elasticPut_tidy ?_
      | refine State.slip_tidy ?_
      | refine State.takeElastic_tidy ?_
      | refine tidy1_st ?_
    | simp only [↓tidy1_pair_iff]

theorem State.sampleInstant_tidy {s : State} {rate : Nat} {n : Nat} (hs : s.Tidy Q) : State.Tidy Q (State.sampleInstant s rate n) := by
  unfold State.sampleInstant
  repeat' first
    | with_reducible assumption
    | ((try lift_lets); intro t; first | (refine tidy_have (Q := Q) (t := t) ?_ (fun _ => ?_); rotate_left; clear_value t; rotate_left; unfold t; clear t) | clear_value t)
    | with_reducible first
      | refine tidy_ite ?_ ?_
      | refine tidy_foldl (fun _ _ _ => ?_) ?_
      | refine tidy1_foldl (fun _ _ _ => ?_) ?_
      | refine State.chanInstant_tidy ?_
      | refine State.portInstant_tidy ?_
      | refine tidy1_st ?_
    | simp only [↓tidy1_pair_iff]
    | simp only [↓tidy_mk_iff, ↓tidy_parts_iff]

theorem execAudSampleInstant_tidy {rate : Nat} {n : Nat} {s : State} (hs : s.Tidy Q) : TidyOut Q (execAudSampleInstant rate n s) := by
  unfold execAudSampleInstant
  repeat' first
    | with_reducible assumption
    | with_reducible first
      | refine tidyOut_next ?_
      | refine State.sampleInstant_tidy ?_

theorem State.audSlipRx_tidy {s : State} {x : Nat} {n : Nat} {stamp : Nat} (hs : s.Tidy Q) : State.Tidy Q (State.audSlipRx s x n stamp) := by
  unfold State.audSlipRx
  repeat' first
    | with_reducible assumption
    | ((try lift_lets); intro t; first | (refine tidy_have (Q := Q) (t := t) ?_ (fun _ => ?_); rotate_left; clear_value t; rotate_left; unfold t; clear t) | clear_value t)
    | with_reducible first
      | refine tidy1_st ?_
    | simp only [↓tidy1_pair_iff]
    | simp only [↓tidy_mk_iff, ↓tidy_parts_iff]

theorem State.audSourceCell_tidy {s : State} {g : Nat} {b : Nat} (hs : s.Tidy Q) : State.Tidy Q (State.audSourceCell s g b) := by
  unfold State.audSourceCell
  repeat' first
    | with_reducible assumption
    | ((try lift_lets); intro t; first | (refine tidy_have (Q := Q) (t := t) ?_ (fun _ => ?_); rotate_left; clear_value t; rotate_left; unfold t; clear t) | (refine tidyG_have (Q := Q) (t := t) (fun _ _ _ => ?_) (fun _ => ?_); rotate_left; clear_value t; rotate_left; unfold t; clear t) | (refine tidyE_have (Q := Q) (t := t) (fun _ _ => ?_) (fun _ => ?_); rotate_left; clear_value t; rotate_left; unfold t; clear t) | (refine tidyF_have (Q := Q) (t := t) (fun _ => ?_) (fun _ => ?_); rotate_left; clear_value t; rotate_left; unfold t; clear t) | clear_value t)
    | with_reducible first
      | refine tidy_ite ?_ ?_
      | refine tidy_foldl (fun _ _ _ => ?_) ?_
      | refine tidy1_foldl (fun _ _ _ => ?_) ?_
      | refine State.assemble_tidy ?_
      | refine State.sinkJudge_tidy ?_
      | refine tidyO_getD ?_ ?_
      | refine tidyG_use (by assumption) ?_
      | refine tidyF_use (by assumption)
      | refine tidyE_use (by assumption) ?_
    | simp only [↓tidy_mk_iff, ↓tidy_parts_iff]

theorem execAudSourceCell_tidy {g : Nat} {b : Nat} {s : State} (hs : s.Tidy Q) : TidyOut Q (execAudSourceCell g b s) := by
  unfold execAudSourceCell
  repeat' first
    | with_reducible assumption
    | with_reducible first
      | refine tidyOut_next ?_
      | refine State.audSourceCell_tidy ?_

theorem State.aesOut_tidy {s : State} {p : Nat} {n : Nat} (hs : s.Tidy Q) : State.Tidy Q (State.aesOut s p n) := by
  unfold State.aesOut
  repeat' first
    | with_reducible assumption
    | ((try lift_lets); intro t; first | (refine tidy_have (Q := Q) (t := t) ?_ (fun _ => ?_); rotate_left; clear_value t; rotate_left; unfold t; clear t) | (refine tidyG_have (Q := Q) (t := t) (fun _ _ _ => ?_) (fun _ => ?_); rotate_left; clear_value t; rotate_left; unfold t; clear t) | (refine tidyE_have (Q := Q) (t := t) (fun _ _ => ?_) (fun _ => ?_); rotate_left; clear_value t; rotate_left; unfold t; clear t) | (refine tidyF_have (Q := Q) (t := t) (fun _ => ?_) (fun _ => ?_); rotate_left; clear_value t; rotate_left; unfold t; clear t) | clear_value t)
    | with_reducible first
      | refine tidy_ite ?_ ?_
      | refine State.portCount_tidy ?_
      | refine State.send_tidy ?_
      | refine tidy1_st ?_
      | refine tidyO_getD ?_ ?_
      | refine tidyG_use (by assumption) ?_
      | refine tidyF_use (by assumption)
      | refine tidyE_use (by assumption) ?_
    | simp only [↓tidy1_pair_iff]
    | simp only [↓tidy_mk_iff, ↓tidy_parts_iff]
    | split

theorem execAesFrameTx_tidy {p : Nat} {n : Nat} {s : State} (hs : s.Tidy Q) : TidyOut Q (execAesFrameTx p n s) := by
  unfold execAesFrameTx
  repeat' first
    | with_reducible assumption
    | with_reducible first
      | refine tidyOut_next ?_
      | refine State.aesOut_tidy ?_

theorem State.wsFrame_tidy {s : State} {w : Nat} {n : Nat} {left : Nat} {right : Nat} {bclks : Nat} {ppm : Int} (hs : s.Tidy Q) : State.Tidy Q (State.wsFrame s w n left right bclks ppm) := by
  unfold State.wsFrame
  repeat' first
    | with_reducible assumption
    | ((try lift_lets); intro t; first | (refine tidy_have (Q := Q) (t := t) ?_ (fun _ => ?_); rotate_left; clear_value t; rotate_left; unfold t; clear t) | (refine tidyG_have (Q := Q) (t := t) (fun _ _ _ => ?_) (fun _ => ?_); rotate_left; clear_value t; rotate_left; unfold t; clear t) | (refine tidyE_have (Q := Q) (t := t) (fun _ _ => ?_) (fun _ => ?_); rotate_left; clear_value t; rotate_left; unfold t; clear t) | (refine tidyF_have (Q := Q) (t := t) (fun _ => ?_) (fun _ => ?_); rotate_left; clear_value t; rotate_left; unfold t; clear t) | clear_value t)
    | with_reducible first
      | refine tidy_ite ?_ ?_
      | refine State.assignPair_tidy ?_
      | refine State.elasticPut_tidy ?_
      | refine State.portCount_tidy ?_
      | refine State.portEvent_tidy ?_
      | refine State.raise_tidy ?_
      | refine State.setPort_tidy ?_
      | refine tidyG_use (by assumption) ?_
      | refine tidyF_use (by assumption)
      | refine tidyE_use (by assumption) ?_
    | simp only [↓tidy_mk_iff, ↓tidy_parts_iff]

theorem execWsFrameRx_tidy {w : Nat} {n : Nat} {left : Nat} {right : Nat} {bclks : Nat} {ppm : Int} {s : State} (hs : s.Tidy Q) : TidyOut Q (execWsFrameRx w n left right bclks ppm s) := by
  unfold execWsFrameRx
  repeat' first
    | with_reducible assumption
    | with_reducible first
      | refine tidyOut_next ?_
      | refine State.wsFrame_tidy ?_

theorem State.wsOut_tidy {s : State} {w : Nat} {n : Nat} (hs : s.Tidy Q) : State.Tidy Q (State.wsOut s w n) := by
  unfold State.wsOut
  repeat' first
    | with_reducible assumption
    | ((try lift_lets); intro t; first | (refine tidy_have (Q := Q) (t := t) ?_ (fun _ => ?_); rotate_left; clear_value t; rotate_left; unfold t; clear t) | (refine tidyG_have (Q := Q) (t := t) (fun _ _ _ => ?_) (fun _ => ?_); rotate_left; clear_value t; rotate_left; unfold t; clear t) | (refine tidyE_have (Q := Q) (t := t) (fun _ _ => ?_) (fun _ => ?_); rotate_left; clear_value t; rotate_left; unfold t; clear t) | (refine tidyF_have (Q := Q) (t := t) (fun _ => ?_) (fun _ => ?_); rotate_left; clear_value t; rotate_left; unfold t; clear t) | clear_value t)
    | with_reducible first
      | refine tidy_ite ?_ ?_
      | refine State.assignPair_tidy ?_
      | refine State.portCount_tidy ?_
      | refine State.send_tidy ?_
      | refine State.takeElastic_tidy ?_
      | refine tidy1_st ?_
      | refine tidyO_getD ?_ ?_
      | refine tidyG_use (by assumption) ?_
      | refine tidyF_use (by assumption)
      | refine tidyE_use (by assumption) ?_
    | simp only [↓tidy1_pair_iff]

theorem execWsFrameTx_tidy {w : Nat} {n : Nat} {s : State} (hs : s.Tidy Q) : TidyOut Q (execWsFrameTx w n s) := by
  unfold execWsFrameTx
  repeat' first
    | with_reducible assumption
    | with_reducible first
      | refine tidyOut_next ?_
      | refine State.wsOut_tidy ?_

theorem State.audCheck_tidy {s : State} (hs : s.Tidy Q) : Tidy1 Q (State.audCheck s) := by
  unfold State.audCheck
  repeat' first
    | with_reducible assumption
    | ((try lift_lets); intro t; first | (refine tidy_have (Q := Q) (t := t) ?_ (fun _ => ?_); rotate_left; clear_value t; rotate_left; unfold t; clear t) | clear_value t)
    | with_reducible first
      | refine tidy1_ite ?_ ?_
      | refine tidy_ite ?_ ?_
      | refine State.raise_tidy ?_
      | refine State.wrN_tidy ?_
      | refine tidy1_st ?_
    | simp only [↓tidy1_pair_iff]

theorem State.audFlip_tidy {s : State} (hs : s.Tidy Q) : State.Tidy Q (State.audFlip s) := by
  unfold State.audFlip
  repeat' first
    | with_reducible assumption
    | ((try lift_lets); intro t; first | (refine tidy_have (Q := Q) (t := t) ?_ (fun _ => ?_); rotate_left; clear_value t; rotate_left; unfold t; clear t) | clear_value t)
    | simp only [↓tidy_mk_iff, ↓tidy_parts_iff]

theorem State.audStop_tidy {s : State} (hs : s.Tidy Q) : State.Tidy Q (State.audStop s) := by
  unfold State.audStop
  repeat' first
    | with_reducible assumption
    | ((try lift_lets); intro t; first | (refine tidy_have (Q := Q) (t := t) ?_ (fun _ => ?_); rotate_left; clear_value t; rotate_left; unfold t; clear t) | clear_value t)
    | simp only [↓tidy_mk_iff, ↓tidy_parts_iff]

end Sys2Proof.Machine
end

