-- ==== Sys2Proof/Laws/KeepRef.lean ====
section
/-! SUPPORT. Every operation of Machine/Ref.lean keeps a state tidy. -/

set_option Elab.async false

namespace Sys2Proof.Machine

set_option linter.unusedSimpArgs false

variable {Q : Base}

theorem State.pushLog_tidy {s : State} {v : Nat} (hs : s.Tidy Q) : State.Tidy Q (State.pushLog s v) := by
  unfold State.pushLog
  repeat' first
    | with_reducible assumption
    | with_reducible first
      | refine tidy_foldl (fun _ _ _ => ?_) ?_
      | refine tidy1_foldl (fun _ _ _ => ?_) ?_
      | refine State.wrN_tidy ?_

theorem State.hist_tidy {s : State} {n : Nat} {c : Nat} (hs : s.Tidy Q) : State.Tidy Q (State.hist s n c) := by
  unfold State.hist
  repeat' first
    | with_reducible assumption
    | ((try lift_lets); intro t; first | (refine tidy_have (Q := Q) (t := t) ?_ (fun _ => ?_); rotate_left; clear_value t; rotate_left; unfold t; clear t) | clear_value t)
    | with_reducible first
      | refine tidy_ite ?_ ?_
      | refine State.bump_tidy ?_
      | refine State.pushLog_tidy ?_
      | refine State.stick_tidy ?_
      | refine State.wr64_tidy ?_

theorem State.qlChange_tidy {s : State} {c : Nat} {old : Nat} (hs : s.Tidy Q) : State.Tidy Q (State.qlChange s c old) := by
  unfold State.qlChange
  repeat' first
    | with_reducible assumption
    | with_reducible first
      | refine tidy_ite ?_ ?_
      | refine State.hist_tidy ?_

theorem State.refSync_tidy {s : State} (hs : s.Tidy Q) : State.Tidy Q (State.refSync s) := by
  unfold State.refSync
  repeat' first
    | with_reducible assumption
    | ((try lift_lets); intro t; first | (refine tidy_have (Q := Q) (t := t) ?_ (fun _ => ?_); rotate_left; clear_value t; rotate_left; unfold t; clear t) | clear_value t)
    | with_reducible first
      | refine tidy_ite ?_ ?_
      | refine State.hist_tidy ?_
      | refine State.wrN_tidy ?_
      | refine tidy1_st ?_
      | refine tidyO_getD ?_ ?_
    | simp only [↓tidy1_pair_iff]
    | simp only [↓tidy_mk_iff, ↓tidy_parts_iff]
    | split

theorem State.leaveHold_tidy {s : State} (hs : s.Tidy Q) : State.Tidy Q (State.leaveHold s) := by
  unfold State.leaveHold
  repeat' first
    | with_reducible assumption
    | ((try lift_lets); intro t; first | (refine tidy_have (Q := Q) (t := t) ?_ (fun _ => ?_); rotate_left; clear_value t; rotate_left; unfold t; clear t) | clear_value t)
    | with_reducible first
      | refine State.hist_tidy ?_
      | refine State.keepMax_tidy ?_
      | refine tidyO_getD ?_ ?_
    | simp only [↓tidy_mk_iff, ↓tidy_parts_iff]

theorem State.dpllTo_tidy {s : State} {new : Nat} (hs : s.Tidy Q) : State.Tidy Q (State.dpllTo s new) := by
  unfold State.dpllTo
  repeat' first
    | with_reducible assumption
    | ((try lift_lets); intro t; first | (refine tidy_have (Q := Q) (t := t) ?_ (fun _ => ?_); rotate_left; clear_value t; rotate_left; unfold t; clear t) | clear_value t)
    | with_reducible first
      | refine tidy_ite ?_ ?_
      | refine State.bump_tidy ?_
      | refine State.hist_tidy ?_
      | refine State.leaveHold_tidy ?_
      | refine State.raise_tidy ?_
      | refine tidy1_st ?_
      | refine tidyO_getD ?_ ?_
    | simp only [↓tidy1_pair_iff]
    | simp only [↓tidy_mk_iff, ↓tidy_parts_iff]
    | split

theorem State.holdReport_tidy {s : State} (hs : s.Tidy Q) : State.Tidy Q (State.holdReport s) := by
  unfold State.holdReport
  repeat' first
    | with_reducible assumption
    | ((try lift_lets); intro t; first | (refine tidy_have (Q := Q) (t := t) ?_ (fun _ => ?_); rotate_left; clear_value t; rotate_left; unfold t; clear t) | clear_value t)
    | with_reducible first
      | refine tidy_ite ?_ ?_
      | refine State.hist_tidy ?_
      | refine State.raise_tidy ?_
    | simp only [↓tidy_mk_iff, ↓tidy_parts_iff]

theorem State.qualify_tidy {s : State} {c : Nat} {reason : Nat} (hs : s.Tidy Q) : State.Tidy Q (State.qualify s c reason) := by
  unfold State.qualify
  repeat' first
    | with_reducible assumption
    | ((try lift_lets); intro t; first | (refine tidy_have (Q := Q) (t := t) ?_ (fun _ => ?_); rotate_left; clear_value t; rotate_left; unfold t; clear t) | clear_value t)
    | with_reducible first
      | refine tidy_ite ?_ ?_
      | refine State.bump_tidy ?_
      | refine State.dpllTo_tidy ?_
      | refine State.hist_tidy ?_
    | simp only [↓tidy_mk_iff, ↓tidy_parts_iff]
    | split

theorem State.noLead_tidy {s : State} (hs : s.Tidy Q) : State.Tidy Q (State.noLead s) := by
  unfold State.noLead
  repeat' first
    | with_reducible assumption
    | ((try lift_lets); intro t; first | (refine tidy_have (Q := Q) (t := t) ?_ (fun _ => ?_); rotate_left; clear_value t; rotate_left; unfold t; clear t) | clear_value t)
    | simp only [↓tidy_mk_iff, ↓tidy_parts_iff]

theorem State.selectLead_tidy {s : State} {b : Nat} {c : Nat} {fell : Bool} {skip : Bool} (hs : s.Tidy Q) : State.Tidy Q (State.selectLead s b c fell skip) := by
  unfold State.selectLead
  repeat' first
    | with_reducible assumption
    | ((try lift_lets); intro t; first | (refine tidy_have (Q := Q) (t := t) ?_ (fun _ => ?_); rotate_left; clear_value t; rotate_left; unfold t; clear t) | clear_value t)
    | with_reducible first
      | refine tidy_ite ?_ ?_
      | refine State.noLead_tidy ?_
      | refine State.qualify_tidy ?_
      | refine tidy1_st ?_
    | simp only [↓tidy1_pair_iff]
    | simp only [↓tidy_mk_iff, ↓tidy_parts_iff]

theorem State.noteSeen_tidy {s : State} (hs : s.Tidy Q) : State.Tidy Q (State.noteSeen s) := by
  unfold State.noteSeen
  repeat' first
    | with_reducible assumption
    | ((try lift_lets); intro t; first | (refine tidy_have (Q := Q) (t := t) ?_ (fun _ => ?_); rotate_left; clear_value t; rotate_left; unfold t; clear t) | clear_value t)
    | with_reducible first
      | refine tidy_foldl (fun _ _ _ => ?_) ?_
      | refine tidy1_foldl (fun _ _ _ => ?_) ?_
      | refine State.setCand_tidy ?_
    | simp only [↓tidy_mk_iff, ↓tidy_parts_iff]

theorem State.dropRef_tidy {s : State} {c : Nat} (hs : s.Tidy Q) : State.Tidy Q (State.dropRef s c) := by
  unfold State.dropRef
  repeat' first
    | with_reducible assumption
    | ((try lift_lets); intro t; first | (refine tidy_have (Q := Q) (t := t) ?_ (fun _ => ?_); rotate_left; clear_value t; rotate_left; unfold t; clear t) | clear_value t)
    | with_reducible first
      | refine tidy_ite ?_ ?_
      | refine State.dpllTo_tidy ?_
      | refine State.hist_tidy ?_
      | refine State.raise_tidy ?_
      | refine State.setCand_tidy ?_
    | simp only [↓tidy_mk_iff, ↓tidy_parts_iff]

theorem State.choose_tidy {s : State} {why : Nat} {fell : Bool} {skip : Bool} (hs : s.Tidy Q) : State.Tidy Q (State.choose s why fell skip) := by
  unfold State.choose
  repeat' first
    | with_reducible assumption
    | ((try lift_lets); intro t; first | (refine tidy_have (Q := Q) (t := t) ?_ (fun _ => ?_); rotate_left; clear_value t; rotate_left; unfold t; clear t) | clear_value t)
    | with_reducible first
      | refine tidy_ite ?_ ?_
      | refine State.dpllTo_tidy ?_
      | refine State.noLead_tidy ?_
      | refine State.qualify_tidy ?_
      | refine State.selectLead_tidy ?_
    | simp only [↓tidy_mk_iff, ↓tidy_parts_iff]
    | split

theorem State.reselect_tidy {s0 : State} {why : Nat} (hs0 : s0.Tidy Q) : State.Tidy Q (State.reselect s0 why) := by
  unfold State.reselect
  repeat' first
    | with_reducible assumption
    | ((try lift_lets); intro t; first | (refine tidy_have (Q := Q) (t := t) ?_ (fun _ => ?_); rotate_left; clear_value t; rotate_left; unfold t; clear t) | clear_value t)
    | with_reducible first
      | refine tidy_ite ?_ ?_
      | refine State.choose_tidy ?_
      | refine State.dropRef_tidy ?_
      | refine State.holdReport_tidy ?_
      | refine State.noteSeen_tidy ?_
      | refine State.refSync_tidy ?_
    | split

theorem State.wtrExpire_tidy {s0 : State} (hs0 : s0.Tidy Q) : State.Tidy Q (State.wtrExpire s0) := by
  unfold State.wtrExpire
  repeat' first
    | with_reducible assumption
    | ((try lift_lets); intro t; first | (refine tidy_have (Q := Q) (t := t) ?_ (fun _ => ?_); rotate_left; clear_value t; rotate_left; unfold t; clear t) | clear_value t)
    | with_reducible first
      | refine tidy_ite ?_ ?_
      | refine State.refSync_tidy ?_
      | refine State.reselect_tidy ?_
      | refine tidy1_st ?_
    | simp only [↓tidy1_pair_iff]
    | simp only [↓tidy_mk_iff, ↓tidy_parts_iff]
    | split

theorem execWtrExpire_tidy {s : State} (hs : s.Tidy Q) : TidyOut Q (execWtrExpire s) := by
  unfold execWtrExpire
  repeat' first
    | with_reducible assumption
    | with_reducible first
      | refine tidyOut_next ?_
      | refine State.wtrExpire_tidy ?_

theorem State.utcFrom_tidy {s : State} {n : Nat} {l : List Byte} (hs : s.Tidy Q) : State.Tidy Q (State.utcFrom s n l) := by
  unfold State.utcFrom
  repeat' first
    | with_reducible assumption
    | ((try lift_lets); intro t; first | (refine tidy_have (Q := Q) (t := t) ?_ (fun _ => ?_); rotate_left; clear_value t; rotate_left; unfold t; clear t) | clear_value t)
    | with_reducible first
      | refine tidy_ite ?_ ?_
      | refine State.hist_tidy ?_
      | refine State.wrN_tidy ?_

theorem State.qmMsg_tidy {s : State} {n : Nat} {l : List Byte} (hs : s.Tidy Q) : State.Tidy Q (State.qmMsg s n l) := by
  unfold State.qmMsg
  repeat' first
    | with_reducible assumption
    | ((try lift_lets); intro t; first | (refine tidy_have (Q := Q) (t := t) ?_ (fun _ => ?_); rotate_left; clear_value t; rotate_left; unfold t; clear t) | clear_value t)
    | with_reducible first
      | refine tidy_ite ?_ ?_
      | refine State.bump_tidy ?_
      | refine State.qlChange_tidy ?_
      | refine State.raise_tidy ?_
      | refine State.reselect_tidy ?_
      | refine State.setCand_tidy ?_
      | refine State.utcFrom_tidy ?_
      | refine State.wrN_tidy ?_
    | simp only [↓tidy_mk_iff, ↓tidy_parts_iff]
    | split

theorem execQmMsgRx_tidy {n : Nat} {bytes : List Byte} {s : State} (hs : s.Tidy Q) : TidyOut Q (execQmMsgRx n bytes s) := by
  unfold execQmMsgRx
  repeat' first
    | with_reducible assumption
    | with_reducible first
      | refine tidyOut_next ?_
      | refine State.qmMsg_tidy ?_

theorem State.qmMissing_tidy {s : State} {n : Nat} (hs : s.Tidy Q) : State.Tidy Q (State.qmMissing s n) := by
  unfold State.qmMissing
  repeat' first
    | with_reducible assumption
    | ((try lift_lets); intro t; first | (refine tidy_have (Q := Q) (t := t) ?_ (fun _ => ?_); rotate_left; clear_value t; rotate_left; unfold t; clear t) | clear_value t)
    | with_reducible first
      | refine tidy_ite ?_ ?_
      | refine State.bump_tidy ?_
      | refine State.raise_tidy ?_
      | refine State.reselect_tidy ?_
      | refine State.setCand_tidy ?_
    | simp only [↓tidy_mk_iff, ↓tidy_parts_iff]

theorem execQmMissing_tidy {n : Nat} {s : State} (hs : s.Tidy Q) : TidyOut Q (execQmMissing n s) := by
  unfold execQmMissing
  repeat' first
    | with_reducible assumption
    | with_reducible first
      | refine tidyOut_next ?_
      | refine State.qmMissing_tidy ?_

theorem State.refLost_tidy {s : State} {c : Nat} (hs : s.Tidy Q) : State.Tidy Q (State.refLost s c) := by
  unfold State.refLost
  repeat' first
    | with_reducible assumption
    | ((try lift_lets); intro t; first | (refine tidy_have (Q := Q) (t := t) ?_ (fun _ => ?_); rotate_left; clear_value t; rotate_left; unfold t; clear t) | clear_value t)
    | with_reducible first
      | refine tidy_ite ?_ ?_
      | refine State.dropRef_tidy ?_
      | refine State.holdReport_tidy ?_
      | refine State.noteSeen_tidy ?_
      | refine State.refSync_tidy ?_
      | refine State.reselect_tidy ?_

theorem State.qualFail_tidy {s : State} {c : Nat} (hs : s.Tidy Q) : State.Tidy Q (State.qualFail s c) := by
  unfold State.qualFail
  repeat' first
    | with_reducible assumption
    | ((try lift_lets); intro t; first | (refine tidy_have (Q := Q) (t := t) ?_ (fun _ => ?_); rotate_left; clear_value t; rotate_left; unfold t; clear t) | clear_value t)
    | with_reducible first
      | refine State.bump_tidy ?_
      | refine State.hist_tidy ?_
      | refine State.raise_tidy ?_
      | refine State.reselect_tidy ?_
      | refine State.setCand_tidy ?_
    | simp only [↓tidy_mk_iff, ↓tidy_parts_iff]

theorem execRefClkLoss_tidy {n : Nat} {s : State} (hs : s.Tidy Q) : TidyOut Q (execRefClkLoss n s) := by
  unfold execRefClkLoss
  repeat' first
    | with_reducible assumption
    | with_reducible first
      | refine tidyOut_next ?_
      | refine State.refLost_tidy ?_

theorem execRefFpMiss_tidy {n : Nat} {s : State} (hs : s.Tidy Q) : TidyOut Q (execRefFpMiss n s) := by
  unfold execRefFpMiss
  repeat' first
    | with_reducible assumption
    | with_reducible first
      | refine tidyOut_next ?_
      | refine State.refLost_tidy ?_

theorem State.disqualExpire_tidy {s : State} {c : Nat} (hs : s.Tidy Q) : State.Tidy Q (State.disqualExpire s c) := by
  unfold State.disqualExpire
  repeat' first
    | with_reducible assumption
    | ((try lift_lets); intro t; first | (refine tidy_have (Q := Q) (t := t) ?_ (fun _ => ?_); rotate_left; clear_value t; rotate_left; unfold t; clear t) | clear_value t)
    | with_reducible first
      | refine State.reselect_tidy ?_
      | refine State.setCand_tidy ?_
    | simp only [↓tidy_mk_iff, ↓tidy_parts_iff]

theorem execDisqualExpire_tidy {c : Nat} {s : State} (hs : s.Tidy Q) : TidyOut Q (execDisqualExpire c s) := by
  unfold execDisqualExpire
  repeat' first
    | with_reducible assumption
    | with_reducible first
      | refine tidyOut_next ?_
      | refine State.disqualExpire_tidy ?_

theorem State.loMeasured_tidy {s : State} {freq : Int} (hs : s.Tidy Q) : State.Tidy Q (State.loMeasured s freq) := by
  unfold State.loMeasured
  repeat' first
    | with_reducible assumption
    | with_reducible first
      | refine State.wrN_tidy ?_

theorem State.candMeasured_tidy {s : State} {c : Nat} {p : Int} {freq : Int} (hs : s.Tidy Q) : State.Tidy Q (State.candMeasured s c p freq) := by
  unfold State.candMeasured
  repeat' first
    | with_reducible assumption
    | with_reducible first
      | refine State.wrN_tidy ?_

theorem State.loopStep_tidy {s : State} {e : Int} {dt : Nat} (hs : s.Tidy Q) : State.Tidy Q (State.loopStep s e dt) := by
  unfold State.loopStep
  repeat' first
    | with_reducible assumption
    | ((try lift_lets); intro t; first | (refine tidy_have (Q := Q) (t := t) ?_ (fun _ => ?_); rotate_left; clear_value t; rotate_left; unfold t; clear t) | clear_value t)
    | with_reducible first
      | refine tidy_ite ?_ ?_
    | simp only [↓tidy_mk_iff, ↓tidy_parts_iff]

theorem State.dpllUpdate_tidy {s0 : State} {phase : Int} {freq : Int} (hs0 : s0.Tidy Q) : State.Tidy Q (State.dpllUpdate s0 phase freq) := by
  unfold State.dpllUpdate
  repeat' first
    | with_reducible assumption
    | ((try lift_lets); intro t; first | (refine tidy_have (Q := Q) (t := t) ?_ (fun _ => ?_); rotate_left; clear_value t; rotate_left; unfold t; clear t) | clear_value t)
    | with_reducible first
      | refine tidy_ite ?_ ?_
      | refine State.candMeasured_tidy ?_
      | refine State.dpllTo_tidy ?_
      | refine State.hist_tidy ?_
      | refine State.loMeasured_tidy ?_
      | refine State.loopStep_tidy ?_
      | refine State.raise_tidy ?_
      | refine State.refSync_tidy ?_
    | simp only [↓tidy_mk_iff, ↓tidy_parts_iff]
    | split

theorem execDpllUpdate_tidy {phase : Int} {freq : Int} {s : State} (hs : s.Tidy Q) : TidyOut Q (execDpllUpdate phase freq s) := by
  unfold execDpllUpdate
  repeat' first
    | with_reducible assumption
    | with_reducible first
      | refine tidyOut_next ?_
      | refine State.dpllUpdate_tidy ?_

theorem State.dpllLock_tidy {s : State} (hs : s.Tidy Q) : State.Tidy Q (State.dpllLock s) := by
  unfold State.dpllLock
  repeat' first
    | with_reducible assumption
    | with_reducible first
      | refine tidy_ite ?_ ?_
      | refine State.dpllTo_tidy ?_
      | refine State.refSync_tidy ?_

theorem execDpllLock_tidy {s : State} (hs : s.Tidy Q) : TidyOut Q (execDpllLock s) := by
  unfold execDpllLock
  repeat' first
    | with_reducible assumption
    | with_reducible first
      | refine tidyOut_next ?_
      | refine State.dpllLock_tidy ?_

theorem State.drawDone_tidy {s0 : State} (hs0 : s0.Tidy Q) : State.Tidy Q (State.drawDone s0) := by
  unfold State.drawDone
  repeat' first
    | with_reducible assumption
    | ((try lift_lets); intro t; first | (refine tidy_have (Q := Q) (t := t) ?_ (fun _ => ?_); rotate_left; clear_value t; rotate_left; unfold t; clear t) | clear_value t)
    | with_reducible first
      | refine tidy_ite ?_ ?_
      | refine State.hist_tidy ?_
      | refine State.refSync_tidy ?_
      | refine tidyO_getD ?_ ?_
    | simp only [↓tidy_mk_iff, ↓tidy_parts_iff]

theorem execPboDrawDone_tidy {s : State} (hs : s.Tidy Q) : TidyOut Q (execPboDrawDone s) := by
  unfold execPboDrawDone
  repeat' first
    | with_reducible assumption
    | with_reducible first
      | refine tidyOut_next ?_
      | refine State.drawDone_tidy ?_

theorem State.holdSpec_tidy {s : State} (hs : s.Tidy Q) : State.Tidy Q (State.holdSpec s) := by
  unfold State.holdSpec
  repeat' first
    | with_reducible assumption
    | ((try lift_lets); intro t; first | (refine tidy_have (Q := Q) (t := t) ?_ (fun _ => ?_); rotate_left; clear_value t; rotate_left; unfold t; clear t) | clear_value t)
    | with_reducible first
      | refine tidy_ite ?_ ?_
      | refine State.raise_tidy ?_
    | simp only [↓tidy_mk_iff, ↓tidy_parts_iff]

theorem execHoldoverSpecExpire_tidy {s : State} (hs : s.Tidy Q) : TidyOut Q (execHoldoverSpecExpire s) := by
  unfold execHoldoverSpecExpire
  repeat' first
    | with_reducible assumption
    | with_reducible first
      | refine tidyOut_next ?_
      | refine State.holdSpec_tidy ?_

theorem State.slewLimit_tidy {s : State} (hs : s.Tidy Q) : State.Tidy Q (State.slewLimit s) := by
  unfold State.slewLimit
  repeat' first
    | with_reducible assumption
    | ((try lift_lets); intro t; first | (refine tidy_have (Q := Q) (t := t) ?_ (fun _ => ?_); rotate_left; clear_value t; rotate_left; unfold t; clear t) | clear_value t)
    | with_reducible first
      | refine tidy_ite ?_ ?_
      | refine State.raise_tidy ?_
      | refine State.refSync_tidy ?_
    | split

theorem execSlewClampLimit_tidy {s : State} (hs : s.Tidy Q) : TidyOut Q (execSlewClampLimit s) := by
  unfold execSlewClampLimit
  repeat' first
    | with_reducible assumption
    | with_reducible first
      | refine tidyOut_next ?_
      | refine State.slewLimit_tidy ?_

theorem State.loFault_tidy {s : State} {present : Bool} {ppb : Int} (hs : s.Tidy Q) : State.Tidy Q (State.loFault s present ppb) := by
  unfold State.loFault
  repeat' first
    | with_reducible assumption
    | ((try lift_lets); intro t; first | (refine tidy_have (Q := Q) (t := t) ?_ (fun _ => ?_); rotate_left; clear_value t; rotate_left; unfold t; clear t) | clear_value t)
    | with_reducible first
      | refine State.raiseIf_tidy ?_
      | refine State.wrN_tidy ?_

theorem execLoClkFault_tidy {present : Bool} {ppb : Int} {s : State} (hs : s.Tidy Q) : TidyOut Q (execLoClkFault present ppb s) := by
  unfold execLoClkFault
  repeat' first
    | with_reducible assumption
    | with_reducible first
      | refine tidyOut_next ?_
      | refine State.loFault_tidy ?_

theorem State.phaseAdj_tidy {s0 : State} {v : Nat} (hs0 : s0.Tidy Q) : State.Tidy Q (State.phaseAdj s0 v) := by
  unfold State.phaseAdj
  repeat' first
    | with_reducible assumption
    | ((try lift_lets); intro t; first | (refine tidy_have (Q := Q) (t := t) ?_ (fun _ => ?_); rotate_left; clear_value t; rotate_left; unfold t; clear t) | clear_value t)
    | with_reducible first
      | refine State.refSync_tidy ?_
    | simp only [↓tidy_mk_iff, ↓tidy_parts_iff]

theorem execPhaseAdjWrite_tidy {m : Requester} {v : Nat} {s : State} (hs : s.Tidy Q) : TidyOut Q (execPhaseAdjWrite m v s) := by
  unfold execPhaseAdjWrite
  repeat' first
    | with_reducible assumption
    | with_reducible first
      | refine tidyOut_next ?_
      | refine State.phaseAdj_tidy ?_
      | refine State.writeAccess_tidy ?_ (fun _ _ => ?_)

theorem State.applyMode_tidy {s : State} (hs : s.Tidy Q) : State.Tidy Q (State.applyMode s) := by
  unfold State.applyMode
  repeat' first
    | with_reducible assumption
    | ((try lift_lets); intro t; first | (refine tidy_have (Q := Q) (t := t) ?_ (fun _ => ?_); rotate_left; clear_value t; rotate_left; unfold t; clear t) | clear_value t)
    | with_reducible first
      | refine tidy_ite ?_ ?_
      | refine State.dpllTo_tidy ?_
      | refine State.holdReport_tidy ?_

theorem State.refRow_tidy {s : State} {m : Requester} {a : Nat} {v : Nat} (hs : s.Tidy Q) : State.Tidy Q (State.refRow s m a v) := by
  unfold State.refRow
  repeat' first
    | with_reducible assumption
    | ((try lift_lets); intro t; first | (refine tidy_have (Q := Q) (t := t) ?_ (fun _ => ?_); rotate_left; clear_value t; rotate_left; unfold t; clear t) | clear_value t)
    | with_reducible first
      | refine State.refSync_tidy ?_
      | refine State.writeRow_tidy ?_
    | split

theorem State.dpllCfg_tidy {s : State} {m : Requester} {v : Nat} (hs : s.Tidy Q) : State.Tidy Q (State.dpllCfg s m v) := by
  unfold State.dpllCfg
  repeat' first
    | with_reducible assumption
    | ((try lift_lets); intro t; first | (refine tidy_have (Q := Q) (t := t) ?_ (fun _ => ?_); rotate_left; clear_value t; rotate_left; unfold t; clear t) | clear_value t)
    | with_reducible first
      | refine tidy_ite ?_ ?_
      | refine State.applyMode_tidy ?_
      | refine State.refRow_tidy ?_
      | refine State.reselect_tidy ?_
    | simp only [↓tidy_mk_iff, ↓tidy_parts_iff]

theorem execDpllModeWrite_tidy {m : Requester} {v : Nat} {s : State} (hs : s.Tidy Q) : TidyOut Q (execDpllModeWrite m v s) := by
  unfold execDpllModeWrite
  repeat' first
    | with_reducible assumption
    | with_reducible first
      | refine tidyOut_next ?_
      | refine State.dpllCfg_tidy ?_
      | refine State.writeAccess_tidy ?_ (fun _ _ => ?_)

theorem State.selCfg_tidy {s : State} {m : Requester} {v : Nat} (hs : s.Tidy Q) : State.Tidy Q (State.selCfg s m v) := by
  unfold State.selCfg
  repeat' first
    | with_reducible assumption
    | ((try lift_lets); intro t; first | (refine tidy_have (Q := Q) (t := t) ?_ (fun _ => ?_); rotate_left; clear_value t; rotate_left; unfold t; clear t) | clear_value t)
    | with_reducible first
      | refine State.refRow_tidy ?_
      | refine State.reselect_tidy ?_
    | simp only [↓tidy_mk_iff, ↓tidy_parts_iff]

theorem execSelForceWrite_tidy {m : Requester} {v : Nat} {s : State} (hs : s.Tidy Q) : TidyOut Q (execSelForceWrite m v s) := by
  unfold execSelForceWrite
  repeat' first
    | with_reducible assumption
    | with_reducible first
      | refine tidyOut_next ?_
      | refine State.selCfg_tidy ?_
      | refine State.writeAccess_tidy ?_ (fun _ _ => ?_)

theorem State.aclkWrite_tidy {s : State} {m : Requester} {v : Nat} (hs : s.Tidy Q) : State.Tidy Q (State.aclkWrite s m v) := by
  unfold State.aclkWrite
  repeat' first
    | with_reducible assumption
    | with_reducible first
      | refine tidy_ite ?_ ?_
      | refine State.refuseState_tidy ?_
      | refine State.wrN_tidy ?_

theorem execAclkFamilyWrite_tidy {m : Requester} {v : Nat} {s : State} (hs : s.Tidy Q) : TidyOut Q (execAclkFamilyWrite m v s) := by
  unfold execAclkFamilyWrite
  repeat' first
    | with_reducible assumption
    | with_reducible first
      | refine tidyOut_next ?_
      | refine State.aclkWrite_tidy ?_
      | refine State.writeAccess_tidy ?_ (fun _ _ => ?_)

theorem State.aclkDone_tidy {s : State} (hs : s.Tidy Q) : State.Tidy Q (State.aclkDone s) := by
  unfold State.aclkDone
  repeat' first
    | with_reducible assumption
    | with_reducible first
      | refine tidy_ite ?_ ?_
      | refine State.setBit_tidy ?_

theorem execAclkSwitchDone_tidy {s : State} (hs : s.Tidy Q) : TidyOut Q (execAclkSwitchDone s) := by
  unfold execAclkSwitchDone
  repeat' first
    | with_reducible assumption
    | with_reducible first
      | refine tidyOut_next ?_
      | refine State.aclkDone_tidy ?_

theorem State.loopLoaded_tidy {s : State} (hs : s.Tidy Q) : State.Tidy Q (State.loopLoaded s) := by
  unfold State.loopLoaded
  repeat' first
    | with_reducible assumption
    | ((try lift_lets); intro t; first | (refine tidy_have (Q := Q) (t := t) ?_ (fun _ => ?_); rotate_left; clear_value t; rotate_left; unfold t; clear t) | clear_value t)
    | with_reducible first
      | refine tidy_ite ?_ ?_
    | simp only [↓tidy_mk_iff, ↓tidy_parts_iff]

theorem execRtuLoopLoadDone_tidy {s : State} (hs : s.Tidy Q) : TidyOut Q (execRtuLoopLoadDone s) := by
  unfold execRtuLoopLoadDone
  repeat' first
    | with_reducible assumption
    | with_reducible first
      | refine tidyOut_next ?_
      | refine State.loopLoaded_tidy ?_

theorem State.refStart_tidy {s : State} (hs : s.Tidy Q) : State.Tidy Q (State.refStart s) := by
  unfold State.refStart
  repeat' first
    | with_reducible assumption
    | ((try lift_lets); intro t; first | (refine tidy_have (Q := Q) (t := t) ?_ (fun _ => ?_); rotate_left; clear_value t; rotate_left; unfold t; clear t) | clear_value t)
    | with_reducible first
      | refine tidy_ite ?_ ?_
      | refine tidy_foldl (fun _ _ _ => ?_) ?_
      | refine tidy1_foldl (fun _ _ _ => ?_) ?_
      | refine State.applyMode_tidy ?_
      | refine State.refSync_tidy ?_
      | refine State.reselect_tidy ?_
      | refine State.wrN_tidy ?_
    | simp only [↓tidy_mk_iff, ↓tidy_parts_iff]

theorem State.refStop_tidy {s : State} (hs : s.Tidy Q) : State.Tidy Q (State.refStop s) := by
  unfold State.refStop
  repeat' first
    | with_reducible assumption
    | ((try lift_lets); intro t; first | (refine tidy_have (Q := Q) (t := t) ?_ (fun _ => ?_); rotate_left; clear_value t; rotate_left; unfold t; clear t) | clear_value t)
    | with_reducible first
      | refine tidy_foldl (fun _ _ _ => ?_) ?_
      | refine tidy1_foldl (fun _ _ _ => ?_) ?_
      | refine State.refSync_tidy ?_
      | refine State.wrN_tidy ?_
    | simp only [↓tidy_mk_iff, ↓tidy_parts_iff]

end Sys2Proof.Machine
end

