-- ==== Sys2Proof/Laws/KeepRefOut.lean ====
section
/-! SUPPORT. Every operation of Machine/RefOut.lean keeps a state tidy. -/

set_option Elab.async false

namespace Sys2Proof.Machine

set_option linter.unusedSimpArgs false

variable {Q : Base}

theorem State.setTout_tidy {s : State} {k : Nat} {x : TimingOut} (hs : s.Tidy Q) : State.Tidy Q (State.setTout s k x) := by
  unfold State.setTout
  repeat' first
    | with_reducible assumption
    | ((try lift_lets); intro t; first | (refine tidy_have (Q := Q) (t := t) ?_ (fun _ => ?_); rotate_left; clear_value t; rotate_left; unfold t; clear t) | clear_value t)
    | simp only [↓tidy_mk_iff, ↓tidy_parts_iff]

theorem State.flywheel_tidy {s : State} {k : Nat} {x : TimingOut} (hs : s.Tidy Q) : State.Tidy Q (State.flywheel s k x) := by
  unfold State.flywheel
  repeat' first
    | with_reducible assumption
    | ((try lift_lets); intro t; first | (refine tidy_have (Q := Q) (t := t) ?_ (fun _ => ?_); rotate_left; clear_value t; rotate_left; unfold t; clear t) | clear_value t)
    | with_reducible first
      | refine tidy_ite ?_ ?_
      | refine State.bumpSat_tidy ?_
      | refine State.setBit_tidy ?_
      | refine State.setTout_tidy ?_
    | simp only [↓tidy_mk_iff, ↓tidy_parts_iff]

theorem State.toutEdge_tidy {s : State} {k : Nat} (hs : s.Tidy Q) : State.Tidy Q (State.toutEdge s k) := by
  unfold State.toutEdge
  repeat' first
    | with_reducible assumption
    | ((try lift_lets); intro t; first | (refine tidy_have (Q := Q) (t := t) ?_ (fun _ => ?_); rotate_left; clear_value t; rotate_left; unfold t; clear t) | clear_value t)
    | with_reducible first
      | refine tidy_ite ?_ ?_
      | refine State.bump_tidy ?_
      | refine State.flywheel_tidy ?_
      | refine State.send_tidy ?_

theorem execToutEdge_tidy {k : Nat} {s : State} (hs : s.Tidy Q) : TidyOut Q (execToutEdge k s) := by
  unfold execToutEdge
  repeat' first
    | with_reducible assumption
    | with_reducible first
      | refine tidyOut_next ?_
      | refine State.toutEdge_tidy ?_

theorem State.toutOffset_tidy {s : State} {k : Nat} {v : Nat} (hs : s.Tidy Q) : State.Tidy Q (State.toutOffset s k v) := by
  unfold State.toutOffset
  repeat' first
    | with_reducible assumption
    | ((try lift_lets); intro t; first | (refine tidy_have (Q := Q) (t := t) ?_ (fun _ => ?_); rotate_left; clear_value t; rotate_left; unfold t; clear t) | clear_value t)
    | with_reducible first
      | refine State.setTout_tidy ?_
      | refine State.wrN_tidy ?_
    | simp only [↓tidy_mk_iff, ↓tidy_parts_iff]

theorem execToutOffsetWrite_tidy {m : Requester} {k : Nat} {v : Nat} {s : State} (hs : s.Tidy Q) : TidyOut Q (execToutOffsetWrite m k v s) := by
  unfold execToutOffsetWrite
  repeat' first
    | with_reducible assumption
    | with_reducible first
      | refine tidyOut_next ?_
      | refine State.toutOffset_tidy ?_
      | refine State.writeAccess_tidy ?_ (fun _ _ => ?_)

theorem State.toutRealign_tidy {s : State} {k : Nat} {v : Nat} (hs : s.Tidy Q) : State.Tidy Q (State.toutRealign s k v) := by
  unfold State.toutRealign
  repeat' first
    | with_reducible assumption
    | ((try lift_lets); intro t; first | (refine tidy_have (Q := Q) (t := t) ?_ (fun _ => ?_); rotate_left; clear_value t; rotate_left; unfold t; clear t) | clear_value t)
    | with_reducible first
      | refine tidy_ite ?_ ?_
      | refine State.setTout_tidy ?_
    | simp only [↓tidy_mk_iff, ↓tidy_parts_iff]

theorem execToutRealign_tidy {m : Requester} {k : Nat} {s : State} (hs : s.Tidy Q) : TidyOut Q (execToutRealign m k s) := by
  unfold execToutRealign
  repeat' first
    | with_reducible assumption
    | with_reducible first
      | refine tidyOut_next ?_
      | refine State.toutRealign_tidy ?_
      | refine State.writeAccess_tidy ?_ (fun _ _ => ?_)

theorem State.pulseOut_tidy {s : State} {n : Nat} {t : Nat} {k : Nat} (hs : s.Tidy Q) : State.Tidy Q (State.pulseOut s n t k) := by
  unfold State.pulseOut
  repeat' first
    | with_reducible assumption
    | ((try lift_lets); intro t; first | (refine tidy_have (Q := Q) (t := t) ?_ (fun _ => ?_); rotate_left; clear_value t; rotate_left; unfold t; clear t) | clear_value t)
    | with_reducible first
      | refine tidy_ite ?_ ?_
      | refine State.raise_tidy ?_
      | refine State.setBit_tidy ?_
      | refine State.setFld_tidy ?_
      | refine State.setTout_tidy ?_
    | simp only [↓tidy_mk_iff, ↓tidy_parts_iff]
    | split

theorem State.fpPulse_tidy {s : State} {n : Nat} {stamp : Nat} (hs : s.Tidy Q) : State.Tidy Q (State.fpPulse s n stamp) := by
  unfold State.fpPulse
  repeat' first
    | with_reducible assumption
    | ((try lift_lets); intro t; first | (refine tidy_have (Q := Q) (t := t) ?_ (fun _ => ?_); rotate_left; clear_value t; rotate_left; unfold t; clear t) | clear_value t)
    | with_reducible first
      | refine tidy_ite ?_ ?_
      | refine tidy_foldl (fun _ _ _ => ?_) ?_
      | refine tidy1_foldl (fun _ _ _ => ?_) ?_
      | refine State.pulseOut_tidy ?_
      | refine State.setCand_tidy ?_
    | simp only [↓tidy_mk_iff, ↓tidy_parts_iff]

theorem execRefFpPulse_tidy {n : Nat} {stamp : Nat} {s : State} (hs : s.Tidy Q) : TidyOut Q (execRefFpPulse n stamp s) := by
  unfold execRefFpPulse
  repeat' first
    | with_reducible assumption
    | with_reducible first
      | refine tidyOut_next ?_
      | refine State.fpPulse_tidy ?_

theorem State.ticWrite_tidy {s : State} {flags : Nat} {d : Int} (hs : s.Tidy Q) : State.Tidy Q (State.ticWrite s flags d) := by
  unfold State.ticWrite
  repeat' first
    | with_reducible assumption
    | ((try lift_lets); intro t; first | (refine tidy_have (Q := Q) (t := t) ?_ (fun _ => ?_); rotate_left; clear_value t; rotate_left; unfold t; clear t) | clear_value t)
    | with_reducible first
      | refine State.wrN_tidy ?_

theorem State.ticRearm_tidy {s : State} (hs : s.Tidy Q) : State.Tidy Q (State.ticRearm s) := by
  unfold State.ticRearm
  repeat' first
    | with_reducible assumption
    | ((try lift_lets); intro t; first | (refine tidy_have (Q := Q) (t := t) ?_ (fun _ => ?_); rotate_left; clear_value t; rotate_left; unfold t; clear t) | clear_value t)
    | simp only [↓tidy_mk_iff, ↓tidy_parts_iff]

theorem State.ticResult_tidy {s : State} {a : Int} {b : Int} (hs : s.Tidy Q) : State.Tidy Q (State.ticResult s a b) := by
  unfold State.ticResult
  repeat' first
    | with_reducible assumption
    | ((try lift_lets); intro t; first | (refine tidy_have (Q := Q) (t := t) ?_ (fun _ => ?_); rotate_left; clear_value t; rotate_left; unfold t; clear t) | clear_value t)
    | with_reducible first
      | refine tidy_ite ?_ ?_
      | refine State.bump_tidy ?_
      | refine State.ticRearm_tidy ?_
      | refine State.ticWrite_tidy ?_

theorem State.ticCapture_tidy {s : State} {source : Nat} {tick : Nat} {bin : Nat} (hs : s.Tidy Q) : State.Tidy Q (State.ticCapture s source tick bin) := by
  unfold State.ticCapture
  repeat' first
    | with_reducible assumption
    | ((try lift_lets); intro t; first | (refine tidy_have (Q := Q) (t := t) ?_ (fun _ => ?_); rotate_left; clear_value t; rotate_left; unfold t; clear t) | clear_value t)
    | with_reducible first
      | refine tidy_ite ?_ ?_
      | refine State.ticResult_tidy ?_
    | simp only [↓tidy_mk_iff, ↓tidy_parts_iff]
    | split

theorem execTicCapture_tidy {source : Nat} {tick : Nat} {bin : Nat} {s : State} (hs : s.Tidy Q) : TidyOut Q (execTicCapture source tick bin s) := by
  unfold execTicCapture
  repeat' first
    | with_reducible assumption
    | with_reducible first
      | refine tidyOut_next ?_
      | refine State.ticCapture_tidy ?_

theorem State.ticCfg_tidy {s : State} {m : Requester} {v : Nat} (hs : s.Tidy Q) : State.Tidy Q (State.ticCfg s m v) := by
  unfold State.ticCfg
  repeat' first
    | with_reducible assumption
    | ((try lift_lets); intro t; first | (refine tidy_have (Q := Q) (t := t) ?_ (fun _ => ?_); rotate_left; clear_value t; rotate_left; unfold t; clear t) | clear_value t)
    | with_reducible first
      | refine tidy_ite ?_ ?_
      | refine State.refRow_tidy ?_
    | simp only [↓tidy_mk_iff, ↓tidy_parts_iff]

theorem execTicArm_tidy {m : Requester} {v : Nat} {s : State} (hs : s.Tidy Q) : TidyOut Q (execTicArm m v s) := by
  unfold execTicArm
  repeat' first
    | with_reducible assumption
    | with_reducible first
      | refine tidyOut_next ?_
      | refine State.ticCfg_tidy ?_
      | refine State.writeAccess_tidy ?_ (fun _ _ => ?_)

theorem State.ticTimeout_tidy {s : State} (hs : s.Tidy Q) : State.Tidy Q (State.ticTimeout s) := by
  unfold State.ticTimeout
  repeat' first
    | with_reducible assumption
    | with_reducible first
      | refine tidy_ite ?_ ?_
      | refine State.ticRearm_tidy ?_
      | refine State.ticWrite_tidy ?_

theorem execTicTimeout_tidy {s : State} (hs : s.Tidy Q) : TidyOut Q (execTicTimeout s) := by
  unfold execTicTimeout
  repeat' first
    | with_reducible assumption
    | with_reducible first
      | refine tidyOut_next ?_
      | refine State.ticTimeout_tidy ?_

theorem State.ticCal_tidy {s : State} {counts : List Nat} (hs : s.Tidy Q) : State.Tidy Q (State.ticCal s counts) := by
  unfold State.ticCal
  repeat' first
    | with_reducible assumption
    | ((try lift_lets); intro t; first | (refine tidy_have (Q := Q) (t := t) ?_ (fun _ => ?_); rotate_left; clear_value t; rotate_left; unfold t; clear t) | clear_value t)
    | with_reducible first
      | refine tidy_ite ?_ ?_
      | refine tidy_foldl (fun _ _ _ => ?_) ?_
      | refine tidy1_foldl (fun _ _ _ => ?_) ?_
      | refine State.bumpSat_tidy ?_
      | refine State.hist_tidy ?_
      | refine State.setFld_tidy ?_

theorem execTicCalUpdate_tidy {counts : List Nat} {s : State} (hs : s.Tidy Q) : TidyOut Q (execTicCalUpdate counts s) := by
  unfold execTicCalUpdate
  repeat' first
    | with_reducible assumption
    | with_reducible first
      | refine tidyOut_next ?_
      | refine State.ticCal_tidy ?_

end Sys2Proof.Machine
end

