-- ==== Sys2Proof/Laws/KeepPtp.lean ====
section
/-! SUPPORT. Every operation of Machine/Ptp.lean keeps a state tidy. -/

set_option Elab.async false

namespace Sys2Proof.Machine

set_option linter.unusedSimpArgs false

variable {Q : Base}

theorem State.setPtpPort_tidy {s : State} {p : Nat} {x : PtpPort} (hs : s.Tidy Q) : State.Tidy Q (State.setPtpPort s p x) := by
  unfold State.setPtpPort
  repeat' first
    | with_reducible assumption
    | ((try lift_lets); intro t; first | (refine tidy_have (Q := Q) (t := t) ?_ (fun _ => ?_); rotate_left; clear_value t; rotate_left; unfold t; clear t) | clear_value t)
    | simp only [↓tidy_mk_iff, ↓tidy_parts_iff]

theorem State.setPortState_tidy {s : State} {p : Nat} {st : Nat} (hs : s.Tidy Q) : State.Tidy Q (State.setPortState s p st) := by
  unfold State.setPortState
  repeat' first
    | with_reducible assumption
    | with_reducible first
      | refine tidy_ite ?_ ?_
      | refine State.hist_tidy ?_
      | refine State.wrN_tidy ?_

theorem State.portTo_tidy {s : State} {p : Nat} {best : Option PtpBest} (hs : s.Tidy Q) : State.Tidy Q (State.portTo s p best) := by
  unfold State.portTo
  repeat' first
    | with_reducible assumption
    | ((try lift_lets); intro t; first | (refine tidy_have (Q := Q) (t := t) ?_ (fun _ => ?_); rotate_left; clear_value t; rotate_left; unfold t; clear t) | clear_value t)
    | with_reducible first
      | refine tidy_ite ?_ ?_
      | refine State.setPortState_tidy ?_
      | refine State.setPtpPort_tidy ?_
      | refine State.wrN_tidy ?_
      | refine tidy1_st ?_
    | simp only [↓tidy1_pair_iff]
    | simp only [↓tidy_mk_iff, ↓tidy_parts_iff]
    | split

theorem State.gmChange_tidy {s : State} {old : Nat} (hs : s.Tidy Q) : State.Tidy Q (State.gmChange s old) := by
  unfold State.gmChange
  repeat' first
    | with_reducible assumption
    | with_reducible first
      | refine tidy_ite ?_ ?_
      | refine State.hist_tidy ?_
      | refine tidyO_getD ?_ ?_

theorem State.ptpBmca_tidy {s : State} (hs : s.Tidy Q) : State.Tidy Q (State.ptpBmca s) := by
  unfold State.ptpBmca
  repeat' first
    | with_reducible assumption
    | ((try lift_lets); intro t; first | (refine tidy_have (Q := Q) (t := t) ?_ (fun _ => ?_); rotate_left; clear_value t; rotate_left; unfold t; clear t) | clear_value t)
    | with_reducible first
      | refine tidy_ite ?_ ?_
      | refine tidy_foldl (fun _ _ _ => ?_) ?_
      | refine tidy1_foldl (fun _ _ _ => ?_) ?_
      | refine State.gmChange_tidy ?_
      | refine State.portTo_tidy ?_
      | refine State.qlChange_tidy ?_
      | refine State.reselect_tidy ?_
      | refine State.sendCtl_tidy ?_
      | refine State.setPortState_tidy ?_

theorem execPtpBmca_tidy {s : State} (hs : s.Tidy Q) : TidyOut Q (execPtpBmca s) := by
  unfold execPtpBmca
  repeat' first
    | with_reducible assumption
    | with_reducible first
      | refine tidyOut_next ?_
      | refine State.ptpBmca_tidy ?_

theorem State.ptpAnnounceRx_tidy {s : State} {p : Nat} {sender : Nat} {port : Nat} {ds : PtpDs} (hs : s.Tidy Q) : State.Tidy Q (State.ptpAnnounceRx s p sender port ds) := by
  unfold State.ptpAnnounceRx
  repeat' first
    | with_reducible assumption
    | ((try lift_lets); intro t; first | (refine tidy_have (Q := Q) (t := t) ?_ (fun _ => ?_); rotate_left; clear_value t; rotate_left; unfold t; clear t) | clear_value t)
    | with_reducible first
      | refine tidy_ite ?_ ?_
      | refine State.bump_tidy ?_
      | refine State.gmChange_tidy ?_
      | refine State.qlChange_tidy ?_
      | refine State.reselect_tidy ?_
      | refine State.setPtpPort_tidy ?_
    | simp only [↓tidy_mk_iff, ↓tidy_parts_iff]

theorem execPtpAnnounceRx_tidy {p : Nat} {sender : Nat} {port : Nat} {ds : PtpDs} {s : State} (hs : s.Tidy Q) : TidyOut Q (execPtpAnnounceRx p sender port ds s) := by
  unfold execPtpAnnounceRx
  repeat' first
    | with_reducible assumption
    | with_reducible first
      | refine tidyOut_next ?_
      | refine State.ptpAnnounceRx_tidy ?_

theorem State.ptpTimeout_tidy {s : State} {p : Nat} (hs : s.Tidy Q) : State.Tidy Q (State.ptpTimeout s p) := by
  unfold State.ptpTimeout
  repeat' first
    | with_reducible assumption
    | ((try lift_lets); intro t; first | (refine tidy_have (Q := Q) (t := t) ?_ (fun _ => ?_); rotate_left; clear_value t; rotate_left; unfold t; clear t) | clear_value t)
    | with_reducible first
      | refine tidy_ite ?_ ?_
      | refine State.bump_tidy ?_
      | refine State.gmChange_tidy ?_
      | refine State.portTo_tidy ?_
      | refine State.raise_tidy ?_
      | refine State.reselect_tidy ?_
      | refine State.setPtpPort_tidy ?_
    | simp only [↓tidy_mk_iff, ↓tidy_parts_iff]

theorem execPtpAnnounceTimeout_tidy {p : Nat} {s : State} (hs : s.Tidy Q) : TidyOut Q (execPtpAnnounceTimeout p s) := by
  unfold execPtpAnnounceTimeout
  repeat' first
    | with_reducible assumption
    | with_reducible first
      | refine tidyOut_next ?_
      | refine State.ptpTimeout_tidy ?_

theorem State.ptpSyncTx_tidy {s : State} {p : Nat} {stamp : Option Nat} (hs : s.Tidy Q) : State.Tidy Q (State.ptpSyncTx s p stamp) := by
  unfold State.ptpSyncTx
  repeat' first
    | with_reducible assumption
    | ((try lift_lets); intro t; first | (refine tidy_have (Q := Q) (t := t) ?_ (fun _ => ?_); rotate_left; clear_value t; rotate_left; unfold t; clear t) | clear_value t)
    | with_reducible first
      | refine tidy_ite ?_ ?_
      | refine State.bump_tidy ?_
      | refine State.send_tidy ?_
      | refine State.setPtpPort_tidy ?_
      | refine tidyO_getD ?_ ?_
    | simp only [↓tidy_mk_iff, ↓tidy_parts_iff]
    | split

theorem execPtpSyncTx_tidy {p : Nat} {stamp : Option Nat} {s : State} (hs : s.Tidy Q) : TidyOut Q (execPtpSyncTx p stamp s) := by
  unfold execPtpSyncTx
  repeat' first
    | with_reducible assumption
    | with_reducible first
      | refine tidyOut_next ?_
      | refine State.ptpSyncTx_tidy ?_

theorem State.ptpAnnounceTx_tidy {s : State} {p : Nat} (hs : s.Tidy Q) : State.Tidy Q (State.ptpAnnounceTx s p) := by
  unfold State.ptpAnnounceTx
  repeat' first
    | with_reducible assumption
    | ((try lift_lets); intro t; first | (refine tidy_have (Q := Q) (t := t) ?_ (fun _ => ?_); rotate_left; clear_value t; rotate_left; unfold t; clear t) | clear_value t)
    | with_reducible first
      | refine tidy_ite ?_ ?_
      | refine State.bump_tidy ?_
      | refine State.send_tidy ?_
      | refine State.setPtpPort_tidy ?_
    | simp only [↓tidy_mk_iff, ↓tidy_parts_iff]

theorem execPtpAnnounceTx_tidy {p : Nat} {s : State} (hs : s.Tidy Q) : TidyOut Q (execPtpAnnounceTx p s) := by
  unfold execPtpAnnounceTx
  repeat' first
    | with_reducible assumption
    | with_reducible first
      | refine tidyOut_next ?_
      | refine State.ptpAnnounceTx_tidy ?_

theorem State.ptpMgmtTx_tidy {s : State} {p : Nat} (hs : s.Tidy Q) : State.Tidy Q (State.ptpMgmtTx s p) := by
  unfold State.ptpMgmtTx
  repeat' first
    | with_reducible assumption
    | ((try lift_lets); intro t; first | (refine tidy_have (Q := Q) (t := t) ?_ (fun _ => ?_); rotate_left; clear_value t; rotate_left; unfold t; clear t) | clear_value t)
    | with_reducible first
      | refine tidy_ite ?_ ?_
      | refine State.send_tidy ?_
      | refine State.setPtpPort_tidy ?_
    | simp only [↓tidy_mk_iff, ↓tidy_parts_iff]

theorem execPtpMgmtTx_tidy {p : Nat} {s : State} (hs : s.Tidy Q) : TidyOut Q (execPtpMgmtTx p s) := by
  unfold execPtpMgmtTx
  repeat' first
    | with_reducible assumption
    | with_reducible first
      | refine tidyOut_next ?_
      | refine State.ptpMgmtTx_tidy ?_

theorem State.ptpDelayReqRx_tidy {s : State} {p : Nat} {sender : Nat} {port : Nat} {seq : Nat} {stamp : Nat} (hs : s.Tidy Q) : State.Tidy Q (State.ptpDelayReqRx s p sender port seq stamp) := by
  unfold State.ptpDelayReqRx
  repeat' first
    | with_reducible assumption
    | with_reducible first
      | refine tidy_ite ?_ ?_
      | refine State.bump_tidy ?_
      | refine State.send_tidy ?_

theorem execPtpDelayReqRx_tidy {p : Nat} {sender : Nat} {port : Nat} {seq : Nat} {stamp : Nat} {s : State} (hs : s.Tidy Q) : TidyOut Q (execPtpDelayReqRx p sender port seq stamp s) := by
  unfold execPtpDelayReqRx
  repeat' first
    | with_reducible assumption
    | with_reducible first
      | refine tidyOut_next ?_
      | refine State.ptpDelayReqRx_tidy ?_

theorem State.stampMiss_tidy {s : State} {p : Nat} (hs : s.Tidy Q) : State.Tidy Q (State.stampMiss s p) := by
  unfold State.stampMiss
  repeat' first
    | with_reducible assumption
    | with_reducible first
      | refine State.bump_tidy ?_
      | refine State.raise_tidy ?_

theorem State.ptpSyncRx_tidy {s : State} {p : Nat} {sender : Nat} {port : Nat} {seq : Nat} {origin : Option Nat} {corr : Int} {stamp : Option Nat} (hs : s.Tidy Q) : State.Tidy Q (State.ptpSyncRx s p sender port seq origin corr stamp) := by
  unfold State.ptpSyncRx
  repeat' first
    | with_reducible assumption
    | ((try lift_lets); intro t; first | (refine tidy_have (Q := Q) (t := t) ?_ (fun _ => ?_); rotate_left; clear_value t; rotate_left; unfold t; clear t) | clear_value t)
    | with_reducible first
      | refine tidy_ite ?_ ?_
      | refine State.bump_tidy ?_
      | refine State.setPtpPort_tidy ?_
      | refine State.stampMiss_tidy ?_
    | simp only [↓tidy_mk_iff, ↓tidy_parts_iff]
    | split

theorem execPtpSyncRx_tidy {p : Nat} {sender : Nat} {port : Nat} {seq : Nat} {origin : Option Nat} {corr : Int} {stamp : Option Nat} {s : State} (hs : s.Tidy Q) : TidyOut Q (execPtpSyncRx p sender port seq origin corr stamp s) := by
  unfold execPtpSyncRx
  repeat' first
    | with_reducible assumption
    | with_reducible first
      | refine tidyOut_next ?_
      | refine State.ptpSyncRx_tidy ?_

theorem State.ptpFollowUp_tidy {s : State} {p : Nat} {sender : Nat} {port : Nat} {seq : Nat} {origin : Nat} {corr : Int} (hs : s.Tidy Q) : State.Tidy Q (State.ptpFollowUp s p sender port seq origin corr) := by
  unfold State.ptpFollowUp
  repeat' first
    | with_reducible assumption
    | ((try lift_lets); intro t; first | (refine tidy_have (Q := Q) (t := t) ?_ (fun _ => ?_); rotate_left; clear_value t; rotate_left; unfold t; clear t) | clear_value t)
    | with_reducible first
      | refine tidy_ite ?_ ?_
      | refine State.setPtpPort_tidy ?_
      | refine tidy1_st ?_
    | simp only [↓tidy1_pair_iff]
    | simp only [↓tidy_mk_iff, ↓tidy_parts_iff]
    | split

theorem execPtpFollowUpRx_tidy {p : Nat} {sender : Nat} {port : Nat} {seq : Nat} {origin : Nat} {corr : Int} {s : State} (hs : s.Tidy Q) : TidyOut Q (execPtpFollowUpRx p sender port seq origin corr s) := by
  unfold execPtpFollowUpRx
  repeat' first
    | with_reducible assumption
    | with_reducible first
      | refine tidyOut_next ?_
      | refine State.ptpFollowUp_tidy ?_

theorem State.ptpDelayReqTx_tidy {s : State} {p : Nat} {stamp : Option Nat} (hs : s.Tidy Q) : State.Tidy Q (State.ptpDelayReqTx s p stamp) := by
  unfold State.ptpDelayReqTx
  repeat' first
    | with_reducible assumption
    | ((try lift_lets); intro t; first | (refine tidy_have (Q := Q) (t := t) ?_ (fun _ => ?_); rotate_left; clear_value t; rotate_left; unfold t; clear t) | clear_value t)
    | with_reducible first
      | refine tidy_ite ?_ ?_
      | refine State.send_tidy ?_
      | refine State.setPtpPort_tidy ?_
      | refine State.stampMiss_tidy ?_
    | simp only [↓tidy_mk_iff, ↓tidy_parts_iff]

theorem execPtpDelayReqTx_tidy {p : Nat} {stamp : Option Nat} {s : State} (hs : s.Tidy Q) : TidyOut Q (execPtpDelayReqTx p stamp s) := by
  unfold execPtpDelayReqTx
  repeat' first
    | with_reducible assumption
    | with_reducible first
      | refine tidyOut_next ?_
      | refine State.ptpDelayReqTx_tidy ?_

theorem State.exchange_tidy {s : State} {delay : Nat} {offset : Int} (hs : s.Tidy Q) : State.Tidy Q (State.exchange s delay offset) := by
  unfold State.exchange
  repeat' first
    | with_reducible assumption
    | ((try lift_lets); intro t; first | (refine tidy_have (Q := Q) (t := t) ?_ (fun _ => ?_); rotate_left; clear_value t; rotate_left; unfold t; clear t) | clear_value t)
    | with_reducible first
      | refine tidy_ite ?_ ?_
      | refine tidy_foldl (fun _ _ _ => ?_) ?_
      | refine tidy1_foldl (fun _ _ _ => ?_) ?_
      | refine State.wrN_tidy ?_
      | refine tidy1_st ?_
    | simp only [↓tidy1_pair_iff]
    | simp only [↓tidy_mk_iff, ↓tidy_parts_iff]

theorem State.ptpDelayResp_tidy {s : State} {p : Nat} {sender : Nat} {port : Nat} {seq : Nat} {receipt : Nat} {corr : Int} (hs : s.Tidy Q) : State.Tidy Q (State.ptpDelayResp s p sender port seq receipt corr) := by
  unfold State.ptpDelayResp
  repeat' first
    | with_reducible assumption
    | ((try lift_lets); intro t; first | (refine tidy_have (Q := Q) (t := t) ?_ (fun _ => ?_); rotate_left; clear_value t; rotate_left; unfold t; clear t) | clear_value t)
    | with_reducible first
      | refine tidy_ite ?_ ?_
      | refine State.bump_tidy ?_
      | refine State.exchange_tidy ?_
      | refine State.setPtpPort_tidy ?_
      | refine State.wrN_tidy ?_
      | refine tidy1_st ?_
    | simp only [↓tidy1_pair_iff]
    | simp only [↓tidy_mk_iff, ↓tidy_parts_iff]
    | split

theorem execPtpDelayRespRx_tidy {p : Nat} {sender : Nat} {port : Nat} {seq : Nat} {receipt : Nat} {corr : Int} {s : State} (hs : s.Tidy Q) : TidyOut Q (execPtpDelayRespRx p sender port seq receipt corr s) := by
  unfold execPtpDelayRespRx
  repeat' first
    | with_reducible assumption
    | with_reducible first
      | refine tidyOut_next ?_
      | refine State.ptpDelayResp_tidy ?_

end Sys2Proof.Machine
end

