-- ==== Sys2Proof/Laws/KeepFlip.lean ====
section
/-! SUPPORT. Every operation of Machine/Flip.lean keeps a state tidy. -/

set_option Elab.async false

namespace Sys2Proof.Machine

set_option linter.unusedSimpArgs false

variable {Q : Base}

theorem State.armPages_tidy {s : State} {l : List Nat} {E : Nat} (hs : s.Tidy Q) : State.Tidy Q (State.armPages s l E) := by
  unfold State.armPages
  repeat' first
    | with_reducible assumption
    | ((try lift_lets); intro t; first | (refine tidy_have (Q := Q) (t := t) ?_ (fun _ => ?_); rotate_left; clear_value t; rotate_left; unfold t; clear t) | clear_value t)
    | with_reducible first
      | refine tidy_foldl (fun _ _ _ => ?_) ?_
      | refine tidy1_foldl (fun _ _ _ => ?_) ?_
      | refine State.wrN_tidy ?_
      | refine tidy1_st ?_
    | simp only [↓tidy1_pair_iff]
    | simp only [↓tidy_mk_iff, ↓tidy_parts_iff]

theorem State.commitPages_tidy {s : State} {l : List Nat} (hs : s.Tidy Q) : State.Tidy Q (State.commitPages s l) := by
  unfold State.commitPages
  repeat' first
    | with_reducible assumption
    | with_reducible first
      | refine tidy_foldl (fun _ _ _ => ?_) ?_
      | refine tidy1_foldl (fun _ _ _ => ?_) ?_
      | refine State.setShadow_tidy ?_

theorem State.endPages_tidy {s : State} {l : List Nat} {st : Nat} (hs : s.Tidy Q) : State.Tidy Q (State.endPages s l st) := by
  unfold State.endPages
  repeat' first
    | with_reducible assumption
    | ((try lift_lets); intro t; first | (refine tidy_have (Q := Q) (t := t) ?_ (fun _ => ?_); rotate_left; clear_value t; rotate_left; unfold t; clear t) | clear_value t)
    | with_reducible first
      | refine tidy_ite ?_ ?_
      | refine tidy_foldl (fun _ _ _ => ?_) ?_
      | refine tidy1_foldl (fun _ _ _ => ?_) ?_
      | refine State.setShadow_tidy ?_
      | refine State.stick_tidy ?_
      | refine tidy1_st ?_
    | simp only [↓tidy1_pair_iff]
    | simp only [↓tidy_mk_iff, ↓tidy_parts_iff]

theorem State.takeShadow_tidy {s : State} {p : Nat} (hs : s.Tidy Q) : State.Tidy Q (State.takeShadow s p) := by
  unfold State.takeShadow
  repeat' first
    | with_reducible assumption
    | with_reducible first
      | refine tidy_foldl (fun _ _ _ => ?_) ?_
      | refine tidy1_foldl (fun _ _ _ => ?_) ?_
      | refine State.wr_tidy ?_

theorem State.flipPage_tidy {s : State} {p : Nat} (hs : s.Tidy Q) : State.Tidy Q (State.flipPage s p) := by
  unfold State.flipPage
  repeat' first
    | with_reducible assumption
    | with_reducible first
      | refine State.setShadow_tidy ?_
      | refine State.stick_tidy ?_
      | refine State.takeShadow_tidy ?_

theorem State.flipPages_tidy {s : State} {l : List Nat} (hs : s.Tidy Q) : State.Tidy Q (State.flipPages s l) := by
  unfold State.flipPages
  repeat' first
    | with_reducible assumption
    | ((try lift_lets); intro t; first | (refine tidy_have (Q := Q) (t := t) ?_ (fun _ => ?_); rotate_left; clear_value t; rotate_left; unfold t; clear t) | clear_value t)
    | with_reducible first
      | refine tidy_foldl (fun _ _ _ => ?_) ?_
      | refine tidy1_foldl (fun _ _ _ => ?_) ?_
      | refine State.flipPage_tidy ?_
      | refine tidy1_st ?_
    | simp only [↓tidy1_pair_iff]
    | simp only [↓tidy_mk_iff, ↓tidy_parts_iff]

theorem State.restoreShadow_tidy {s : State} {l : List Nat} {saved : List (Nat × W)} (hs : s.Tidy Q) : State.Tidy Q (State.restoreShadow s l saved) := by
  unfold State.restoreShadow
  repeat' first
    | with_reducible assumption
    | with_reducible first
      | refine tidy_foldl (fun _ _ _ => ?_) ?_
      | refine tidy1_foldl (fun _ _ _ => ?_) ?_
      | refine State.dropRegs_tidy ?_
      | refine State.wr_tidy ?_
      | refine tidy1_st ?_
    | simp only [↓tidy1_pair_iff]

end Sys2Proof.Machine
end

