-- ==== Sys2Proof/Laws/KeepImage.lean ====
section
/-! SUPPORT. Every operation of Machine/Image.lean keeps a state tidy. -/

set_option Elab.async false

namespace Sys2Proof.Machine

set_option linter.unusedSimpArgs false

variable {Q : Base}

theorem State.patchByte_tidy {s : State} {p : Nat} {o : Nat} {v : Byte} (hs : s.Tidy Q) : State.Tidy Q (State.patchByte s p o v) := by
  unfold State.patchByte
  repeat' first
    | with_reducible assumption
    | ((try lift_lets); intro t; first | (refine tidy_have (Q := Q) (t := t) ?_ (fun _ => ?_); rotate_left; clear_value t; rotate_left; unfold t; clear t) | clear_value t)
    | with_reducible first
      | refine tidy_ite ?_ ?_
      | refine State.setFld_tidy ?_
      | refine State.wrN_tidy ?_
    | split

theorem State.patchBytes_tidy {p : Nat} {l : List Byte} : ∀ {s : State} {o : Nat}, s.Tidy Q → (s.patchBytes p o l).Tidy Q := by
  induction l with
  | nil => intros; assumption
  | cons x r ih =>
    intros
    unfold State.patchBytes
    repeat' first
      | with_reducible assumption
      | ((try lift_lets); intro t; first | (refine tidy_have (Q := Q) (t := t) ?_ (fun _ => ?_); rotate_left; clear_value t; rotate_left; unfold t; clear t) | (refine tidy1_have (Q := Q) (t := t) ?_ (fun _ => ?_); rotate_left; clear_value t; rotate_left; unfold t; clear t) | clear_value t)
      | with_reducible refine ih ?_
      | with_reducible refine State.patchByte_tidy ?_

theorem State.stageFst_tidy {s : State} {A : Nat} (hs : s.Tidy Q) : State.Tidy Q (State.stageFst s A) := by
  unfold State.stageFst
  repeat' first
    | with_reducible assumption
    | ((try lift_lets); intro t; first | (refine tidy_have (Q := Q) (t := t) ?_ (fun _ => ?_); rotate_left; clear_value t; rotate_left; unfold t; clear t) | clear_value t)
    | with_reducible first
      | refine tidy_foldl (fun _ _ _ => ?_) ?_
      | refine tidy1_foldl (fun _ _ _ => ?_) ?_
      | refine State.dropRegs_tidy ?_
      | refine State.wrN_tidy ?_
      | refine State.wrWords_tidy ?_
      | refine tidy1_st ?_
    | simp only [↓tidy1_pair_iff]
    | split

theorem State.stagePxp_tidy {s : State} {A : Nat} (hs : s.Tidy Q) : State.Tidy Q (State.stagePxp s A) := by
  unfold State.stagePxp
  repeat' first
    | with_reducible assumption
    | ((try lift_lets); intro t; first | (refine tidy_have (Q := Q) (t := t) ?_ (fun _ => ?_); rotate_left; clear_value t; rotate_left; unfold t; clear t) | clear_value t)
    | with_reducible first
      | refine tidy_ite ?_ ?_
      | refine tidy_foldl (fun _ _ _ => ?_) ?_
      | refine tidy1_foldl (fun _ _ _ => ?_) ?_
      | refine State.patchBytes_tidy ?_
      | refine State.setBit_tidy ?_
      | refine tidy1_st ?_
      | refine tidyO_getD ?_ ?_
    | simp only [↓tidy1_pair_iff]

theorem State.stagePatches_tidy {s : State} {A : Nat} {ty : Nat} (hs : s.Tidy Q) : State.Tidy Q (State.stagePatches s A ty) := by
  unfold State.stagePatches
  repeat' first
    | with_reducible assumption
    | with_reducible first
      | refine tidy_ite ?_ ?_
      | refine tidy_foldl (fun _ _ _ => ?_) ?_
      | refine tidy1_foldl (fun _ _ _ => ?_) ?_
      | refine State.patchBytes_tidy ?_
      | refine tidy1_st ?_
      | refine tidyO_getD ?_ ?_
    | simp only [↓tidy1_pair_iff]

theorem State.stageOthers_tidy {s : State} {A : Nat} (hs : s.Tidy Q) : State.Tidy Q (State.stageOthers s A) := by
  unfold State.stageOthers
  repeat' first
    | with_reducible assumption
    | with_reducible first
      | refine State.stageFst_tidy ?_
      | refine State.stagePatches_tidy ?_
      | refine State.stagePxp_tidy ?_

theorem State.stageLists_tidy {s : State} {l : List (Nat × List Nat)} (hs : s.Tidy Q) : State.Tidy Q (State.stageLists s l) := by
  unfold State.stageLists
  repeat' first
    | with_reducible assumption
    | ((try lift_lets); intro t; first | (refine tidy_have (Q := Q) (t := t) ?_ (fun _ => ?_); rotate_left; clear_value t; rotate_left; unfold t; clear t) | clear_value t)
    | with_reducible first
      | refine tidy_foldl (fun _ _ _ => ?_) ?_
      | refine tidy1_foldl (fun _ _ _ => ?_) ?_
      | refine State.wrN_tidy ?_
      | refine State.wrWords_tidy ?_
      | refine tidy1_st ?_
      | refine tidyO_getD ?_ ?_
    | simp only [↓tidy1_pair_iff]

theorem State.imgCheck_tidy {s : State} {pages : List Nat} {profile : Nat} {d : ImageDef} {fences : Bool} (hs : s.Tidy Q) : Tidy1 Q (State.imgCheck s pages profile d fences) := by
  unfold State.imgCheck
  repeat' first
    | with_reducible assumption
    | ((try lift_lets); intro t; first | (refine tidy_have (Q := Q) (t := t) ?_ (fun _ => ?_); rotate_left; clear_value t; rotate_left; unfold t; clear t) | (refine tidy1_have (Q := Q) (t := t) ?_ (fun _ => ?_); rotate_left; clear_value t; rotate_left; unfold t; clear t) | (refine tidyG_have (Q := Q) (t := t) (fun _ _ _ => ?_) (fun _ => ?_); rotate_left; clear_value t; rotate_left; unfold t; clear t) | (refine tidyE_have (Q := Q) (t := t) (fun _ _ => ?_) (fun _ => ?_); rotate_left; clear_value t; rotate_left; unfold t; clear t) | (refine tidyF_have (Q := Q) (t := t) (fun _ => ?_) (fun _ => ?_); rotate_left; clear_value t; rotate_left; unfold t; clear t) | clear_value t)
    | with_reducible first
      | refine tidy1_ite ?_ ?_
      | refine tidy_ite ?_ ?_
      | refine State.bump_tidy ?_
      | refine State.fstCheck_tidy ?_
      | refine State.macCheck_tidy ?_
      | refine State.pxpRefuse_tidy ?_
      | refine State.raiseAll_tidy ?_
      | refine State.raise_tidy ?_
      | refine State.wrN_tidy ?_
      | refine tidy1_st ?_
      | refine tidyO_getD ?_ ?_
      | refine tidyG_use (by assumption) ?_
      | refine tidyF_use (by assumption)
      | refine tidyE_use (by assumption) ?_
    | simp only [↓tidy1_pair_iff]
    | split

theorem State.imgShow_tidy {s : State} {st : Nat} {reason : Nat} {E : Option Nat} (hs : s.Tidy Q) : State.Tidy Q (State.imgShow s st reason E) := by
  unfold State.imgShow
  repeat' first
    | with_reducible assumption
    | with_reducible first
      | refine State.wrN_tidy ?_
      | refine tidyO_getD ?_ ?_

theorem State.imgCountRefusal_tidy {s : State} (hs : s.Tidy Q) : State.Tidy Q (State.imgCountRefusal s) := by
  unfold State.imgCountRefusal
  repeat' first
    | with_reducible assumption
    | with_reducible first
      | refine State.bump_tidy ?_
      | refine State.raise_tidy ?_

theorem State.setLoad_tidy {s : State} {l : Option ImageLoad} (hs : s.Tidy Q) : State.Tidy Q (State.setLoad s l) := by
  unfold State.setLoad
  repeat' first
    | with_reducible assumption
    | ((try lift_lets); intro t; first | (refine tidy_have (Q := Q) (t := t) ?_ (fun _ => ?_); rotate_left; clear_value t; rotate_left; unfold t; clear t) | clear_value t)
    | simp only [↓tidy_mk_iff, ↓tidy_parts_iff]

theorem State.freeGroup_tidy {s : State} (hs : s.Tidy Q) : State.Tidy Q (State.freeGroup s) := by
  unfold State.freeGroup
  repeat' first
    | with_reducible assumption
    | ((try lift_lets); intro t; first | (refine tidy_have (Q := Q) (t := t) ?_ (fun _ => ?_); rotate_left; clear_value t; rotate_left; unfold t; clear t) | clear_value t)
    | simp only [↓tidy_mk_iff, ↓tidy_parts_iff]

theorem State.imgDrop_tidy {s : State} {l : ImageLoad} {pageOutcome : Nat} (hs : s.Tidy Q) : State.Tidy Q (State.imgDrop s l pageOutcome) := by
  unfold State.imgDrop
  repeat' first
    | with_reducible assumption
    | ((try lift_lets); intro t; first | (refine tidy_have (Q := Q) (t := t) ?_ (fun _ => ?_); rotate_left; clear_value t; rotate_left; unfold t; clear t) | clear_value t)
    | with_reducible first
      | refine tidy_ite ?_ ?_
      | refine State.endPages_tidy ?_
      | refine State.freeGroup_tidy ?_
      | refine State.restoreShadow_tidy ?_
      | refine State.setLoad_tidy ?_
      | refine State.stage_tidy ?_

theorem State.imgRefuse_tidy {s : State} {l : ImageLoad} {reason : Nat} (hs : s.Tidy Q) : State.Tidy Q (State.imgRefuse s l reason) := by
  unfold State.imgRefuse
  repeat' first
    | with_reducible assumption
    | with_reducible first
      | refine State.imgCountRefusal_tidy ?_
      | refine State.imgDrop_tidy ?_
      | refine State.imgShow_tidy ?_

theorem State.imgCancelled_tidy {s : State} {l : ImageLoad} (hs : s.Tidy Q) : State.Tidy Q (State.imgCancelled s l) := by
  unfold State.imgCancelled
  repeat' first
    | with_reducible assumption
    | with_reducible first
      | refine State.imgDrop_tidy ?_
      | refine State.imgShow_tidy ?_

theorem State.imgCancel_tidy {s : State} (hs : s.Tidy Q) : State.Tidy Q (State.imgCancel s) := by
  unfold State.imgCancel
  repeat' first
    | with_reducible assumption
    | ((try lift_lets); intro t; first | (refine tidy_have (Q := Q) (t := t) ?_ (fun _ => ?_); rotate_left; clear_value t; rotate_left; unfold t; clear t) | clear_value t)
    | with_reducible first
      | refine tidy_ite ?_ ?_
      | refine State.imgCancelled_tidy ?_
      | refine State.imgShow_tidy ?_
      | refine State.stage_tidy ?_
    | split

theorem State.imgLoad_tidy {s : State} {addr : Nat} {target : Option Nat} {next : Bool} {newProfile : Option Nat} {forced : Bool} (hs : s.Tidy Q) : Tidy1 Q (State.imgLoad s addr target next newProfile forced) := by
  unfold State.imgLoad
  repeat' first
    | with_reducible assumption
    | ((try lift_lets); intro t; first | clear_value t)
    | with_reducible first
      | refine tidy1_ite ?_ ?_
      | refine tidy_ite ?_ ?_
      | refine State.imgCountRefusal_tidy ?_
      | refine State.imgShow_tidy ?_
      | refine State.setLoad_tidy ?_
      | refine State.wrN_tidy ?_
    | simp only [↓tidy1_pair_iff]
    | simp only [↓tidy_mk_iff, ↓tidy_parts_iff]

theorem State.imgCmd_tidy {s : State} {v : Nat} (hs : s.Tidy Q) : State.Tidy Q (State.imgCmd s v) := by
  unfold State.imgCmd
  repeat' first
    | with_reducible assumption
    | with_reducible first
      | refine tidy_ite ?_ ?_
      | refine State.imgCancel_tidy ?_
      | refine State.imgLoad_tidy ?_
      | refine tidy1_st ?_
    | simp only [↓tidy1_pair_iff]

theorem State.imgActive_tidy {s : State} {l : ImageLoad} (hs : s.Tidy Q) : State.Tidy Q (State.imgActive s l) := by
  unfold State.imgActive
  repeat' first
    | with_reducible assumption
    | ((try lift_lets); intro t; first | (refine tidy_have (Q := Q) (t := t) ?_ (fun _ => ?_); rotate_left; clear_value t; rotate_left; unfold t; clear t) | clear_value t)
    | with_reducible first
      | refine State.wrN_tidy ?_
    | simp only [↓tidy_mk_iff, ↓tidy_parts_iff]
    | split

theorem State.imgIdle_tidy {s : State} {l : ImageLoad} {d : ImageDef} (hs : s.Tidy Q) : State.Tidy Q (State.imgIdle s l d) := by
  unfold State.imgIdle
  repeat' first
    | with_reducible assumption
    | ((try lift_lets); intro t; first | (refine tidy_have (Q := Q) (t := t) ?_ (fun _ => ?_); rotate_left; clear_value t; rotate_left; unfold t; clear t) | (refine tidy1_have (Q := Q) (t := t) ?_ (fun _ => ?_); rotate_left; clear_value t; rotate_left; unfold t; clear t) | (refine tidyG_have (Q := Q) (t := t) (fun _ _ _ => ?_) (fun _ => ?_); rotate_left; clear_value t; rotate_left; unfold t; clear t) | (refine tidyE_have (Q := Q) (t := t) (fun _ _ => ?_) (fun _ => ?_); rotate_left; clear_value t; rotate_left; unfold t; clear t) | (refine tidyF_have (Q := Q) (t := t) (fun _ => ?_) (fun _ => ?_); rotate_left; clear_value t; rotate_left; unfold t; clear t) | clear_value t)
    | with_reducible first
      | refine tidy_ite ?_ ?_
      | refine tidy_foldl (fun _ _ _ => ?_) ?_
      | refine tidy1_foldl (fun _ _ _ => ?_) ?_
      | refine State.bump_tidy ?_
      | refine State.imgActive_tidy ?_
      | refine State.imgCheck_tidy ?_
      | refine State.imgRefuse_tidy ?_
      | refine State.imgShow_tidy ?_
      | refine State.restoreShadow_tidy ?_
      | refine State.setLoad_tidy ?_
      | refine State.setShadow_tidy ?_
      | refine State.stageLists_tidy ?_
      | refine State.stageOthers_tidy ?_
      | refine State.takeShadow_tidy ?_
      | refine State.wr_tidy ?_
      | refine tidy1_st ?_
      | refine tidyG_use (by assumption) ?_
      | refine tidyF_use (by assumption)
      | refine tidyE_use (by assumption) ?_
    | simp only [↓tidy1_pair_iff]
    | simp only [↓tidy_mk_iff, ↓tidy_parts_iff]

theorem State.imgDiffer_tidy {s : State} (hs : s.Tidy Q) : State.Tidy Q (State.imgDiffer s) := by
  unfold State.imgDiffer
  repeat' first
    | with_reducible assumption
    | with_reducible first
      | refine State.bump_tidy ?_
      | refine State.raise_tidy ?_

theorem State.imgMatch_tidy {s : State} (hs : s.Tidy Q) : State.Tidy Q (State.imgMatch s) := by
  unfold State.imgMatch
  repeat' first
    | with_reducible assumption
    | ((try lift_lets); intro t; first | (refine tidy_have (Q := Q) (t := t) ?_ (fun _ => ?_); rotate_left; clear_value t; rotate_left; unfold t; clear t) | clear_value t)
    | with_reducible first
      | refine tidy_ite ?_ ?_
      | refine State.imgDiffer_tidy ?_
      | refine State.setLoad_tidy ?_
      | refine State.stage_tidy ?_
      | refine tidyO_getD ?_ ?_
    | simp only [↓tidy_mk_iff, ↓tidy_parts_iff]
    | split

theorem State.imgStage_tidy {s : State} {l : ImageLoad} (hs : s.Tidy Q) : State.Tidy Q (State.imgStage s l) := by
  unfold State.imgStage
  repeat' first
    | with_reducible assumption
    | ((try lift_lets); intro t; first | (refine tidy_have (Q := Q) (t := t) ?_ (fun _ => ?_); rotate_left; clear_value t; rotate_left; unfold t; clear t) | clear_value t)
    | with_reducible first
      | refine tidy_ite ?_ ?_
      | refine State.armPages_tidy ?_
      | refine State.bump_tidy ?_
      | refine State.imgMatch_tidy ?_
      | refine State.imgRefuse_tidy ?_
      | refine State.imgShow_tidy ?_
      | refine State.sendCtl_tidy ?_
      | refine State.setLoad_tidy ?_
      | refine State.stageLists_tidy ?_
      | refine State.stage_tidy ?_
      | refine tidyO_getD ?_ ?_
    | simp only [↓tidy_mk_iff, ↓tidy_parts_iff]
    | split

theorem State.imgPoke_tidy {s : State} (hs : s.Tidy Q) : State.Tidy Q (State.imgPoke s) := by
  unfold State.imgPoke
  repeat' first
    | with_reducible assumption
    | ((try lift_lets); intro t; first | (refine tidy_have (Q := Q) (t := t) ?_ (fun _ => ?_); rotate_left; clear_value t; rotate_left; unfold t; clear t) | clear_value t)
    | with_reducible first
      | refine tidy_ite ?_ ?_
      | refine State.imgStage_tidy ?_
      | refine State.stage_tidy ?_
    | split

theorem State.imgCopyDone_tidy {s : State} (hs : s.Tidy Q) : State.Tidy Q (State.imgCopyDone s) := by
  unfold State.imgCopyDone
  repeat' first
    | with_reducible assumption
    | ((try lift_lets); intro t; first | (refine tidy_have (Q := Q) (t := t) ?_ (fun _ => ?_); rotate_left; clear_value t; rotate_left; unfold t; clear t) | clear_value t)
    | with_reducible first
      | refine tidy_ite ?_ ?_
      | refine State.imgIdle_tidy ?_
      | refine State.imgRefuse_tidy ?_
      | refine State.imgShow_tidy ?_
      | refine State.imgStage_tidy ?_
      | refine State.setFld_tidy ?_
      | refine State.setLoad_tidy ?_
      | refine State.stageOthers_tidy ?_
      | refine State.stage_tidy ?_
    | simp only [↓tidy_mk_iff, ↓tidy_parts_iff]
    | split

theorem State.imgCommit_tidy {s : State} (hs : s.Tidy Q) : State.Tidy Q (State.imgCommit s) := by
  unfold State.imgCommit
  repeat' first
    | with_reducible assumption
    | ((try lift_lets); intro t; first | (refine tidy_have (Q := Q) (t := t) ?_ (fun _ => ?_); rotate_left; clear_value t; rotate_left; unfold t; clear t) | (refine tidy1_have (Q := Q) (t := t) ?_ (fun _ => ?_); rotate_left; clear_value t; rotate_left; unfold t; clear t) | clear_value t)
    | with_reducible first
      | refine tidy_ite ?_ ?_
      | refine State.commitPages_tidy ?_
      | refine State.imgCheck_tidy ?_
      | refine State.imgDiffer_tidy ?_
      | refine State.imgRefuse_tidy ?_
      | refine State.imgShow_tidy ?_
      | refine State.setFld_tidy ?_
      | refine State.setLoad_tidy ?_
      | refine State.stage_tidy ?_
      | refine tidy1_st ?_
    | simp only [↓tidy1_pair_iff]
    | simp only [↓tidy_mk_iff, ↓tidy_parts_iff]
    | split

theorem State.flipHooks_tidy {s : State} {l : List Nat} (hs : s.Tidy Q) : State.Tidy Q (State.flipHooks s l) := by
  unfold State.flipHooks
  repeat' first
    | with_reducible assumption
    | ((try lift_lets); intro t; first | (refine tidy_have (Q := Q) (t := t) ?_ (fun _ => ?_); rotate_left; clear_value t; rotate_left; unfold t; clear t) | clear_value t)
    | with_reducible first
      | refine tidy_ite ?_ ?_
      | refine tidy_foldl (fun _ _ _ => ?_) ?_
      | refine tidy1_foldl (fun _ _ _ => ?_) ?_
      | refine State.audFlip_tidy ?_
      | refine State.pxpFlip_tidy ?_

theorem State.imgFlip_tidy {s : State} {l : ImageLoad} (hs : s.Tidy Q) : State.Tidy Q (State.imgFlip s l) := by
  unfold State.imgFlip
  repeat' first
    | with_reducible assumption
    | ((try lift_lets); intro t; first | (refine tidy_have (Q := Q) (t := t) ?_ (fun _ => ?_); rotate_left; clear_value t; rotate_left; unfold t; clear t) | clear_value t)
    | with_reducible first
      | refine State.bump_tidy ?_
      | refine State.flipHooks_tidy ?_
      | refine State.flipPages_tidy ?_
      | refine State.freeGroup_tidy ?_
      | refine State.imgActive_tidy ?_
      | refine State.imgShow_tidy ?_
      | refine State.setLoad_tidy ?_

end Sys2Proof.Machine
end

