-- ==== Sys2Proof/Laws/KeepTake.lean ====
section
/-! SUPPORT. Every operation of Machine/Take.lean keeps a state tidy. -/

set_option Elab.async false

namespace Sys2Proof.Machine

set_option linter.unusedSimpArgs false

variable {Q : Base}

theorem State.setTakes_tidy {s : State} {l : List Take} (hs : s.Tidy Q) : State.Tidy Q (State.setTakes s l) := by
  unfold State.setTakes
  repeat' first
    | with_reducible assumption
    | ((try lift_lets); intro t; first | (refine tidy_have (Q := Q) (t := t) ?_ (fun _ => ?_); rotate_left; clear_value t; rotate_left; unfold t; clear t) | clear_value t)
    | simp only [↓tidy_mk_iff, ↓tidy_parts_iff]

theorem State.setTake_tidy {s : State} {t : Take} (hs : s.Tidy Q) : State.Tidy Q (State.setTake s t) := by
  unfold State.setTake
  repeat' first
    | with_reducible assumption
    | with_reducible first
      | refine State.setTakes_tidy ?_

theorem State.takeSync_tidy {s : State} (hs : s.Tidy Q) : State.Tidy Q (State.takeSync s) := by
  unfold State.takeSync
  repeat' first
    | with_reducible assumption
    | ((try lift_lets); intro t; first | (refine tidy_have (Q := Q) (t := t) ?_ (fun _ => ?_); rotate_left; clear_value t; rotate_left; unfold t; clear t) | clear_value t)
    | with_reducible first
      | refine tidy_foldl (fun _ _ _ => ?_) ?_
      | refine tidy1_foldl (fun _ _ _ => ?_) ?_
      | refine State.imgPoke_tidy ?_
      | refine State.watermark_tidy ?_
      | refine State.wrN_tidy ?_

theorem State.writeSrc_tidy {s : State} {dst : Nat} {f : Nat → Nat → Nat} (hs : s.Tidy Q) : State.Tidy Q (State.writeSrc s dst f) := by
  unfold State.writeSrc
  repeat' first
    | with_reducible assumption
    | ((try lift_lets); intro t; first | (refine tidy_have (Q := Q) (t := t) ?_ (fun _ => ?_); rotate_left; clear_value t; rotate_left; unfold t; clear t) | clear_value t)
    | with_reducible first
      | refine tidy_ite ?_ ?_
      | refine tidy_foldl (fun _ _ _ => ?_) ?_
      | refine tidy1_foldl (fun _ _ _ => ?_) ?_
      | refine State.setFld_tidy ?_

theorem State.shadowSrc_tidy {s : State} {dst : Nat} {src : Nat} (hs : s.Tidy Q) : State.Tidy Q (State.shadowSrc s dst src) := by
  unfold State.shadowSrc
  repeat' first
    | with_reducible assumption
    | with_reducible first
      | refine State.writeSrc_tidy ?_

theorem State.shadowRestore_tidy {s : State} {dst : Nat} (hs : s.Tidy Q) : State.Tidy Q (State.shadowRestore s dst) := by
  unfold State.shadowRestore
  repeat' first
    | with_reducible assumption
    | with_reducible first
      | refine State.writeSrc_tidy ?_

theorem State.discardStaged_tidy {s : State} {m : Member} (hs : s.Tidy Q) : State.Tidy Q (State.discardStaged s m) := by
  unfold State.discardStaged
  repeat' first
    | with_reducible assumption
    | with_reducible first
      | refine tidy_ite ?_ ?_
      | refine State.bumpBy_tidy ?_

theorem State.endMember_tidy {s : State} {m : Member} {st : Nat} {reason : Nat} (hs : s.Tidy Q) : Tidy1 Q (State.endMember s m st reason) := by
  unfold State.endMember
  repeat' first
    | with_reducible assumption
    | ((try lift_lets); intro t; first | (refine tidy_have (Q := Q) (t := t) ?_ (fun _ => ?_); rotate_left; clear_value t; rotate_left; unfold t; clear t) | clear_value t)
    | with_reducible first
      | refine tidy1_ite ?_ ?_
      | refine tidy_ite ?_ ?_
      | refine State.bump_tidy ?_
      | refine State.discardStaged_tidy ?_
      | refine State.shadowRestore_tidy ?_
    | simp only [↓tidy1_pair_iff]
    | simp only [↓tidy_mk_iff, ↓tidy_parts_iff]

theorem State.endMembers_tidy {p : Member → Bool} {st reason : Nat} {l : List Member} : ∀ {s : State}, s.Tidy Q → Tidy1 Q (s.endMembers p st reason l) := by
  induction l with
  | nil => intros; assumption
  | cons x r ih =>
    intros
    unfold State.endMembers
    repeat' first
      | with_reducible assumption
      | ((try lift_lets); intro t; first | (refine tidy_have (Q := Q) (t := t) ?_ (fun _ => ?_); rotate_left; clear_value t; rotate_left; unfold t; clear t) | (refine tidy1_have (Q := Q) (t := t) ?_ (fun _ => ?_); rotate_left; clear_value t; rotate_left; unfold t; clear t) | clear_value t)
      | simp only [↓tidy1_pair_iff]
      | with_reducible refine tidy1_ite ?_ ?_
      | with_reducible refine ih ?_
      | with_reducible refine State.endMember_tidy ?_
      | with_reducible refine tidy1_st ?_

theorem State.endWhere_tidy {s : State} {p : Take → Member → Bool} {st : Nat} {reason : Nat} (hs : s.Tidy Q) : State.Tidy Q (State.endWhere s p st reason) := by
  unfold State.endWhere
  repeat' first
    | with_reducible assumption
    | ((try lift_lets); intro t; first | (refine tidy_have (Q := Q) (t := t) ?_ (fun _ => ?_); rotate_left; clear_value t; rotate_left; unfold t; clear t) | (refine tidy1_have (Q := Q) (t := t) ?_ (fun _ => ?_); rotate_left; clear_value t; rotate_left; unfold t; clear t) | clear_value t)
    | with_reducible first
      | refine tidy_foldl (fun _ _ _ => ?_) ?_
      | refine tidy1_foldl (fun _ _ _ => ?_) ?_
      | refine State.endMembers_tidy ?_
      | refine State.setTake_tidy ?_
      | refine tidy1_st ?_
    | simp only [↓tidy1_pair_iff]
    | simp only [↓tidy_mk_iff, ↓tidy_parts_iff]

theorem State.twinLate_tidy {s : State} (hs : s.Tidy Q) : State.Tidy Q (State.twinLate s) := by
  unfold State.twinLate
  repeat' first
    | with_reducible assumption
    | with_reducible first
      | refine State.bump_tidy ?_
      | refine State.raise_tidy ?_

theorem State.armMember_tidy {s : State} {m : Member} (hs : s.Tidy Q) : Tidy1 Q (State.armMember s m) := by
  unfold State.armMember
  repeat' first
    | with_reducible assumption
    | ((try lift_lets); intro t; first | (refine tidy_have (Q := Q) (t := t) ?_ (fun _ => ?_); rotate_left; clear_value t; rotate_left; unfold t; clear t) | (refine tidy1_have (Q := Q) (t := t) ?_ (fun _ => ?_); rotate_left; clear_value t; rotate_left; unfold t; clear t) | clear_value t)
    | with_reducible first
      | refine tidy1_ite ?_ ?_
      | refine tidy_ite ?_ ?_
      | refine State.armPages_tidy ?_
      | refine State.bump_tidy ?_
      | refine State.endMember_tidy ?_
      | refine State.shadowSrc_tidy ?_
    | simp only [↓tidy1_pair_iff]
    | simp only [↓tidy_mk_iff, ↓tidy_parts_iff]
    | split

theorem State.armMembers_tidy {F : Nat} {l : List Member} : ∀ {s : State}, s.Tidy Q → Tidy1 Q (s.armMembers F l) := by
  induction l with
  | nil => intros; assumption
  | cons x r ih =>
    intros
    unfold State.armMembers
    repeat' first
      | with_reducible assumption
      | ((try lift_lets); intro t; first | (refine tidy_have (Q := Q) (t := t) ?_ (fun _ => ?_); rotate_left; clear_value t; rotate_left; unfold t; clear t) | (refine tidy1_have (Q := Q) (t := t) ?_ (fun _ => ?_); rotate_left; clear_value t; rotate_left; unfold t; clear t) | clear_value t)
      | simp only [↓tidy1_pair_iff]
      | with_reducible refine tidy1_ite ?_ ?_
      | with_reducible refine ih ?_
      | with_reducible refine State.armMember_tidy ?_
      | with_reducible refine tidy1_st ?_

theorem State.armFlip_tidy {s : State} {F : Nat} (hs : s.Tidy Q) : State.Tidy Q (State.armFlip s F) := by
  unfold State.armFlip
  repeat' first
    | with_reducible assumption
    | ((try lift_lets); intro t; first | (refine tidy_have (Q := Q) (t := t) ?_ (fun _ => ?_); rotate_left; clear_value t; rotate_left; unfold t; clear t) | (refine tidy1_have (Q := Q) (t := t) ?_ (fun _ => ?_); rotate_left; clear_value t; rotate_left; unfold t; clear t) | clear_value t)
    | with_reducible first
      | refine tidy_foldl (fun _ _ _ => ?_) ?_
      | refine tidy1_foldl (fun _ _ _ => ?_) ?_
      | refine State.armMembers_tidy ?_
      | refine State.setTake_tidy ?_
      | refine tidy1_st ?_
    | simp only [↓tidy1_pair_iff]
    | simp only [↓tidy_mk_iff, ↓tidy_parts_iff]

theorem State.takeArm_tidy {s : State} (hs : s.Tidy Q) : State.Tidy Q (State.takeArm s) := by
  unfold State.takeArm
  repeat' first
    | with_reducible assumption
    | with_reducible first
      | refine State.armFlip_tidy ?_
      | refine State.takeSync_tidy ?_

theorem State.runAheadRead_tidy {s : State} {src : Nat} (hs : s.Tidy Q) : State.Tidy Q (State.runAheadRead s src) := by
  unfold State.runAheadRead
  split
  · exact hs
  · exact State.stackMove_tidy (State.bumpBy_tidy (State.bumpBy_tidy hs))

theorem State.prefetchDone_tidy {s : State} {src : Nat} (hs : s.Tidy Q) : State.Tidy Q (State.prefetchDone s src) := by
  unfold State.prefetchDone
  repeat' first
    | with_reducible assumption
    | ((try lift_lets); intro t; first | (refine tidy_have (Q := Q) (t := t) ?_ (fun _ => ?_); rotate_left; clear_value t; rotate_left; unfold t; clear t) | (refine tidyG_have (Q := Q) (t := t) (fun _ _ _ => ?_) (fun _ => ?_); rotate_left; clear_value t; rotate_left; unfold t; clear t) | (refine tidyE_have (Q := Q) (t := t) (fun _ _ => ?_) (fun _ => ?_); rotate_left; clear_value t; rotate_left; unfold t; clear t) | (refine tidyF_have (Q := Q) (t := t) (fun _ => ?_) (fun _ => ?_); rotate_left; clear_value t; rotate_left; unfold t; clear t) | clear_value t)
    | with_reducible first
      | refine State.runAheadRead_tidy ?_
      | refine State.bumpBy_tidy ?_
      | refine State.setTake_tidy ?_
      | refine tidyG_use (by assumption) ?_
      | refine tidyF_use (by assumption)
      | refine tidyE_use (by assumption) ?_
    | simp only [↓tidy_mk_iff, ↓tidy_parts_iff]
    | split

theorem execPrefetchDone_tidy {src : Nat} {s : State} (hs : s.Tidy Q) : TidyOut Q (execPrefetchDone src s) := by
  unfold execPrefetchDone
  repeat' first
    | with_reducible assumption
    | with_reducible first
      | refine tidyOut_next ?_
      | refine State.prefetchDone_tidy ?_

theorem State.takeRefused_tidy {s : State} {tag : Nat} {code : Nat} {salvo : Bool} (hs : s.Tidy Q) : State.Tidy Q (State.takeRefused s tag code salvo) := by
  unfold State.takeRefused
  repeat' first
    | with_reducible assumption
    | with_reducible first
      | refine tidy_ite ?_ ?_
      | refine State.setTakes_tidy ?_
      | refine State.wrN_tidy ?_

theorem State.supersede_tidy {s : State} {t : Take} {m : Member} (hs : s.Tidy Q) : Tidy1 Q (State.supersede s t m) := by
  unfold State.supersede
  repeat' first
    | with_reducible assumption
    | ((try lift_lets); intro t; first | (refine tidy_have (Q := Q) (t := t) ?_ (fun _ => ?_); rotate_left; clear_value t; rotate_left; unfold t; clear t) | (refine tidyG_have (Q := Q) (t := t) (fun _ _ _ => ?_) (fun _ => ?_); rotate_left; clear_value t; rotate_left; unfold t; clear t) | (refine tidyE_have (Q := Q) (t := t) (fun _ _ => ?_) (fun _ => ?_); rotate_left; clear_value t; rotate_left; unfold t; clear t) | (refine tidyF_have (Q := Q) (t := t) (fun _ => ?_) (fun _ => ?_); rotate_left; clear_value t; rotate_left; unfold t; clear t) | clear_value t)
    | with_reducible first
      | refine tidy1_ite ?_ ?_
      | refine tidy_ite ?_ ?_
      | refine State.endWhere_tidy ?_
      | refine tidyG_use (by assumption) ?_
      | refine tidyF_use (by assumption)
      | refine tidyE_use (by assumption) ?_
    | simp only [↓tidy1_pair_iff]

theorem State.enterMembers_tidy {k : Take} {l : List Member} : ∀ {s : State}, s.Tidy Q → Tidy1 Q (s.enterMembers k l) := by
  induction l with
  | nil => intros; assumption
  | cons x r ih =>
    intros
    unfold State.enterMembers
    repeat' first
      | with_reducible assumption
      | ((try lift_lets); intro t; first | (refine tidy_have (Q := Q) (t := t) ?_ (fun _ => ?_); rotate_left; clear_value t; rotate_left; unfold t; clear t) | (refine tidy1_have (Q := Q) (t := t) ?_ (fun _ => ?_); rotate_left; clear_value t; rotate_left; unfold t; clear t) | clear_value t)
      | simp only [↓tidy1_pair_iff]
      | with_reducible refine tidy1_ite ?_ ?_
      | with_reducible refine ih ?_
      | with_reducible refine State.endMember_tidy ?_
      | with_reducible refine State.supersede_tidy ?_
      | with_reducible refine tidy1_st ?_

theorem State.takeEnter_tidy {s : State} {t : Take} {moves : Nat} (hs : s.Tidy Q) : State.Tidy Q (State.takeEnter s t moves) := by
  unfold State.takeEnter
  repeat' first
    | with_reducible assumption
    | ((try lift_lets); intro t; first | (refine tidy_have (Q := Q) (t := t) ?_ (fun _ => ?_); rotate_left; clear_value t; rotate_left; unfold t; clear t) | (refine tidy1_have (Q := Q) (t := t) ?_ (fun _ => ?_); rotate_left; clear_value t; rotate_left; unfold t; clear t) | clear_value t)
    | with_reducible first
      | refine tidy_ite ?_ ?_
      | refine tidy_foldl (fun _ _ _ => ?_) ?_
      | refine tidy1_foldl (fun _ _ _ => ?_) ?_
      | refine State.armFlip_tidy ?_
      | refine State.bumpBy_tidy ?_
      | refine State.bump_tidy ?_
      | refine State.enterMembers_tidy ?_
      | refine State.setTakes_tidy ?_
      | refine State.takeSync_tidy ?_
      | refine tidy1_st ?_
    | simp only [↓tidy1_pair_iff]
    | simp only [↓tidy_mk_iff, ↓tidy_parts_iff]

theorem State.takeSubmit_tidy {s : State} {tag : Nat} {salvo : Bool} {count : Nat} {pairs : List (Nat × Nat)} {T : Nat} (hs : s.Tidy Q) : Tidy1 Q (State.takeSubmit s tag salvo count pairs T) := by
  unfold State.takeSubmit
  repeat' first
    | with_reducible assumption
    | ((try lift_lets); intro t; first | (refine tidy_have (Q := Q) (t := t) ?_ (fun _ => ?_); rotate_left; clear_value t; rotate_left; unfold t; clear t) | clear_value t)
    | with_reducible first
      | refine tidy1_ite ?_ ?_
      | refine tidy_ite ?_ ?_
      | refine tidy_foldl (fun _ _ _ => ?_) ?_
      | refine tidy1_foldl (fun _ _ _ => ?_) ?_
      | refine State.sendCtl_tidy ?_
      | refine State.setFld_tidy ?_
      | refine State.takeEnter_tidy ?_
      | refine State.takeRefused_tidy ?_
      | refine tidy1_st ?_
    | simp only [↓tidy1_pair_iff]
    | simp only [↓tidy_mk_iff, ↓tidy_parts_iff]

theorem State.takeCancel_tidy {s : State} {target : Nat} {own : Option Nat} (hs : s.Tidy Q) : Tidy1 Q (State.takeCancel s target own) := by
  unfold State.takeCancel
  repeat' first
    | with_reducible assumption
    | ((try lift_lets); intro t; first | (refine tidy_have (Q := Q) (t := t) ?_ (fun _ => ?_); rotate_left; clear_value t; rotate_left; unfold t; clear t) | (refine tidy1_have (Q := Q) (t := t) ?_ (fun _ => ?_); rotate_left; clear_value t; rotate_left; unfold t; clear t) | clear_value t)
    | with_reducible first
      | refine tidy1_ite ?_ ?_
      | refine tidy_ite ?_ ?_
      | refine State.endMembers_tidy ?_
      | refine State.sendCtl_tidy ?_
      | refine State.setTake_tidy ?_
      | refine State.takeSync_tidy ?_
      | refine tidy1_st ?_
    | simp only [↓tidy1_pair_iff]
    | simp only [↓tidy_mk_iff, ↓tidy_parts_iff]
    | split

theorem State.cancelSubmit_tidy {s : State} {tag : Nat} {target : Nat} (hs : s.Tidy Q) : Tidy1 Q (State.cancelSubmit s tag target) := by
  unfold State.cancelSubmit
  repeat' first
    | with_reducible assumption
    | ((try lift_lets); intro t; first | (refine tidy_have (Q := Q) (t := t) ?_ (fun _ => ?_); rotate_left; clear_value t; rotate_left; unfold t; clear t) | (refine tidy1_have (Q := Q) (t := t) ?_ (fun _ => ?_); rotate_left; clear_value t; rotate_left; unfold t; clear t) | clear_value t)
    | with_reducible first
      | refine tidy1_ite ?_ ?_
      | refine tidy_ite ?_ ?_
      | refine State.setTakes_tidy ?_
      | refine State.takeCancel_tidy ?_
      | refine State.takeRefused_tidy ?_
      | refine State.wrN_tidy ?_
      | refine tidy1_st ?_
    | simp only [↓tidy1_pair_iff]

theorem State.portResult_tidy {s : State} {n : Nat} {tag : Nat} {code : Nat} {moved : Bool} (hs : s.Tidy Q) : State.Tidy Q (State.portResult s n tag code moved) := by
  unfold State.portResult
  repeat' first
    | with_reducible assumption
    | ((try lift_lets); intro t; first | (refine tidy_have (Q := Q) (t := t) ?_ (fun _ => ?_); rotate_left; clear_value t; rotate_left; unfold t; clear t) | clear_value t)
    | with_reducible first
      | refine tidy_ite ?_ ?_
      | refine State.bump_tidy ?_
      | refine State.raiseIf_tidy ?_
      | refine State.wrN_tidy ?_
      | refine State.wrWords_tidy ?_

theorem State.portCmd_tidy {s : State} {n : Nat} {v : Nat} (hs : s.Tidy Q) : State.Tidy Q (State.portCmd s n v) := by
  unfold State.portCmd
  repeat' first
    | with_reducible assumption
    | ((try lift_lets); intro t; first | (refine tidy_have (Q := Q) (t := t) ?_ (fun _ => ?_); rotate_left; clear_value t; rotate_left; unfold t; clear t) | (refine tidy1_have (Q := Q) (t := t) ?_ (fun _ => ?_); rotate_left; clear_value t; rotate_left; unfold t; clear t) | clear_value t)
    | with_reducible first
      | refine tidy_ite ?_ ?_
      | refine State.bump_tidy ?_
      | refine State.cancelSubmit_tidy ?_
      | refine State.portResult_tidy ?_
      | refine State.takeSubmit_tidy ?_
      | refine tidy1_st ?_
    | simp only [↓tidy1_pair_iff]
    | simp only [↓tidy_mk_iff, ↓tidy_parts_iff]

theorem execCreditTick_tidy {s : State} (hs : s.Tidy Q) : TidyOut Q (execCreditTick s) := by
  unfold execCreditTick
  repeat' first
    | with_reducible assumption
    | with_reducible first
      | refine tidyOut_next ?_
      | refine State.setFld_tidy ?_

theorem State.dropUnagreed_tidy {s : State} {F : Nat} (hs : s.Tidy Q) : State.Tidy Q (State.dropUnagreed s F) := by
  unfold State.dropUnagreed
  repeat' first
    | with_reducible assumption
    | ((try lift_lets); intro t; first | (refine tidy_have (Q := Q) (t := t) ?_ (fun _ => ?_); rotate_left; clear_value t; rotate_left; unfold t; clear t) | (refine tidyG_have (Q := Q) (t := t) (fun _ _ _ => ?_) (fun _ => ?_); rotate_left; clear_value t; rotate_left; unfold t; clear t) | (refine tidyE_have (Q := Q) (t := t) (fun _ _ => ?_) (fun _ => ?_); rotate_left; clear_value t; rotate_left; unfold t; clear t) | (refine tidyF_have (Q := Q) (t := t) (fun _ => ?_) (fun _ => ?_); rotate_left; clear_value t; rotate_left; unfold t; clear t) | clear_value t)
    | with_reducible first
      | refine tidy_foldl (fun _ _ _ => ?_) ?_
      | refine tidy1_foldl (fun _ _ _ => ?_) ?_
      | refine State.endWhere_tidy ?_
      | refine State.twinLate_tidy ?_
      | refine tidyG_use (by assumption) ?_
      | refine tidyF_use (by assumption)
      | refine tidyE_use (by assumption) ?_

theorem State.commitStaged_tidy {s : State} {m : Member} (hs : s.Tidy Q) : State.Tidy Q (State.commitStaged s m) := by
  unfold State.commitStaged
  repeat' first
    | with_reducible assumption
    | ((try lift_lets); intro t; first | (refine tidy_have (Q := Q) (t := t) ?_ (fun _ => ?_); rotate_left; clear_value t; rotate_left; unfold t; clear t) | clear_value t)
    | with_reducible first
      | refine tidy_ite ?_ ?_
      | refine State.raiseIf_tidy ?_
      | refine tidy1_st ?_
    | simp only [↓tidy1_pair_iff]
    | simp only [↓tidy_mk_iff, ↓tidy_parts_iff]

theorem State.takeCommitAt_tidy {s : State} {F : Nat} (hs : s.Tidy Q) : State.Tidy Q (State.takeCommitAt s F) := by
  unfold State.takeCommitAt
  repeat' first
    | with_reducible assumption
    | ((try lift_lets); intro t; first | (refine tidy_have (Q := Q) (t := t) ?_ (fun _ => ?_); rotate_left; clear_value t; rotate_left; unfold t; clear t) | (refine tidyG_have (Q := Q) (t := t) (fun _ _ _ => ?_) (fun _ => ?_); rotate_left; clear_value t; rotate_left; unfold t; clear t) | (refine tidyE_have (Q := Q) (t := t) (fun _ _ => ?_) (fun _ => ?_); rotate_left; clear_value t; rotate_left; unfold t; clear t) | (refine tidyF_have (Q := Q) (t := t) (fun _ => ?_) (fun _ => ?_); rotate_left; clear_value t; rotate_left; unfold t; clear t) | clear_value t)
    | with_reducible first
      | refine tidy_ite ?_ ?_
      | refine tidy_foldl (fun _ _ _ => ?_) ?_
      | refine tidy1_foldl (fun _ _ _ => ?_) ?_
      | refine State.commitPages_tidy ?_
      | refine State.commitStaged_tidy ?_
      | refine State.dropUnagreed_tidy ?_
      | refine State.endPages_tidy ?_
      | refine State.endWhere_tidy ?_
      | refine State.freeGroup_tidy ?_
      | refine State.setFld_tidy ?_
      | refine State.setTakes_tidy ?_
      | refine State.takeSync_tidy ?_
      | refine tidyG_use (by assumption) ?_
      | refine tidyF_use (by assumption)
      | refine tidyE_use (by assumption) ?_
    | simp only [↓tidy_mk_iff, ↓tidy_parts_iff]

theorem State.flipMember_tidy {s : State} {before : State} {m : Member} (hs : s.Tidy Q) : Tidy1 Q (State.flipMember s before m) := by
  unfold State.flipMember
  repeat' first
    | with_reducible assumption
    | ((try lift_lets); intro t; first | (refine tidy_have (Q := Q) (t := t) ?_ (fun _ => ?_); rotate_left; clear_value t; rotate_left; unfold t; clear t) | clear_value t)
    | with_reducible first
      | refine tidy1_ite ?_ ?_
      | refine tidy_ite ?_ ?_
      | refine State.bump_tidy ?_
    | simp only [↓tidy1_pair_iff]
    | simp only [↓tidy_mk_iff, ↓tidy_parts_iff]

theorem State.flipMembers_tidy {b : State} {F : Nat} {l : List Member} : ∀ {s : State}, s.Tidy Q → Tidy1 Q (s.flipMembers b F l) := by
  induction l with
  | nil => intros; assumption
  | cons x r ih =>
    intros
    unfold State.flipMembers
    repeat' first
      | with_reducible assumption
      | ((try lift_lets); intro t; first | (refine tidy_have (Q := Q) (t := t) ?_ (fun _ => ?_); rotate_left; clear_value t; rotate_left; unfold t; clear t) | (refine tidy1_have (Q := Q) (t := t) ?_ (fun _ => ?_); rotate_left; clear_value t; rotate_left; unfold t; clear t) | clear_value t)
      | simp only [↓tidy1_pair_iff]
      | with_reducible refine tidy1_ite ?_ ?_
      | with_reducible refine ih ?_
      | with_reducible refine State.flipMember_tidy ?_
      | with_reducible refine tidy1_st ?_

theorem State.takeFlip_tidy {s : State} {F : Nat} (hs : s.Tidy Q) : State.Tidy Q (State.takeFlip s F) := by
  unfold State.takeFlip
  repeat' first
    | with_reducible assumption
    | ((try lift_lets); intro t; first | (refine tidy_have (Q := Q) (t := t) ?_ (fun _ => ?_); rotate_left; clear_value t; rotate_left; unfold t; clear t) | (refine tidy1_have (Q := Q) (t := t) ?_ (fun _ => ?_); rotate_left; clear_value t; rotate_left; unfold t; clear t) | clear_value t)
    | with_reducible first
      | refine tidy_ite ?_ ?_
      | refine tidy1_ite ?_ ?_
      | refine tidy_foldl (fun _ _ _ => ?_) ?_
      | refine tidy1_foldl (fun _ _ _ => ?_) ?_
      | refine State.flipMembers_tidy ?_
      | refine State.flipPages_tidy ?_
      | refine State.freeGroup_tidy ?_
      | refine State.setFld_tidy ?_
      | refine State.setTake_tidy ?_
      | refine State.takeSync_tidy ?_
      | refine State.wrN_tidy ?_
      | refine tidy1_st ?_
    | simp only [↓tidy1_pair_iff]
    | simp only [↓tidy_mk_iff, ↓tidy_parts_iff]

theorem State.groupCommit_tidy {s : State} (hs : s.Tidy Q) : State.Tidy Q (State.groupCommit s) := by
  unfold State.groupCommit
  repeat' first
    | with_reducible assumption
    | ((try lift_lets); intro t; first | (refine tidy_have (Q := Q) (t := t) ?_ (fun _ => ?_); rotate_left; clear_value t; rotate_left; unfold t; clear t) | clear_value t)
    | with_reducible first
      | refine tidy_ite ?_ ?_
      | refine State.imgCommit_tidy ?_
      | refine State.takeCommitAt_tidy ?_
    | split

theorem State.groupFlip_tidy {s : State} {e : Nat} (hs : s.Tidy Q) : State.Tidy Q (State.groupFlip s e) := by
  unfold State.groupFlip
  repeat' first
    | with_reducible assumption
    | ((try lift_lets); intro t; first | (refine tidy_have (Q := Q) (t := t) ?_ (fun _ => ?_); rotate_left; clear_value t; rotate_left; unfold t; clear t) | clear_value t)
    | with_reducible first
      | refine tidy_ite ?_ ?_
      | refine State.groupCommit_tidy ?_
      | refine State.imgFlip_tidy ?_
      | refine State.takeFlip_tidy ?_
      | refine State.takeSync_tidy ?_
    | split

theorem State.twinImagePassed_tidy {s : State} (hs : s.Tidy Q) : State.Tidy Q (State.twinImagePassed s) := by
  unfold State.twinImagePassed
  repeat' first
    | with_reducible assumption
    | ((try lift_lets); intro t; first | (refine tidy_have (Q := Q) (t := t) ?_ (fun _ => ?_); rotate_left; clear_value t; rotate_left; unfold t; clear t) | clear_value t)
    | with_reducible first
      | refine tidy_ite ?_ ?_
      | refine State.imgDiffer_tidy ?_
    | simp only [↓tidy_mk_iff, ↓tidy_parts_iff]
    | split

theorem State.refuseTakesTo_tidy {s : State} {E : Nat} (hs : s.Tidy Q) : State.Tidy Q (State.refuseTakesTo s E) := by
  unfold State.refuseTakesTo
  repeat' first
    | with_reducible assumption
    | with_reducible first
      | refine State.endWhere_tidy ?_
      | refine State.takeSync_tidy ?_

theorem State.cancelTakes_tidy {s : State} (hs : s.Tidy Q) : State.Tidy Q (State.cancelTakes s) := by
  unfold State.cancelTakes
  repeat' first
    | with_reducible assumption
    | with_reducible first
      | refine State.endWhere_tidy ?_
      | refine State.takeSync_tidy ?_

end Sys2Proof.Machine
end

