-- ==== Sys2Proof/Laws/KeepVolt.lean ====
section
/-! SUPPORT. Every operation of Machine/Volt.lean keeps a state tidy. -/

set_option Elab.async false

namespace Sys2Proof.Machine

set_option linter.unusedSimpArgs false

variable {Q : Base}

theorem State.pmbusWrite_tidy {s : State} {k : Nat} {cmd : Nat} {value : Nat} (hs : s.Tidy Q) : State.Tidy Q (State.pmbusWrite s k cmd value) := by
  unfold State.pmbusWrite
  repeat' first
    | with_reducible assumption
    | ((try lift_lets); intro t; first | (refine tidy_have (Q := Q) (t := t) ?_ (fun _ => ?_); rotate_left; clear_value t; rotate_left; unfold t; clear t) | clear_value t)
    | with_reducible first
      | refine State.send_tidy ?_
      | refine tidy1_st ?_
    | simp only [↓tidy1_pair_iff]
    | split

theorem State.stepHist_tidy {s : State} {kind : Nat} {steps : Nat} (hs : s.Tidy Q) : State.Tidy Q (State.stepHist s kind steps) := by
  unfold State.stepHist
  repeat' first
    | with_reducible assumption
    | with_reducible first
      | refine State.wrWords_tidy ?_

theorem State.vMove_tidy {s : State} {kind : Nat} {n : Nat} (hs : s.Tidy Q) : State.Tidy Q (State.vMove s kind n) := by
  unfold State.vMove
  repeat' first
    | with_reducible assumption
    | ((try lift_lets); intro t; first | (refine tidy_have (Q := Q) (t := t) ?_ (fun _ => ?_); rotate_left; clear_value t; rotate_left; unfold t; clear t) | clear_value t)
    | with_reducible first
      | refine tidy_ite ?_ ?_
      | refine State.bump_tidy ?_
      | refine State.pmbusWrite_tidy ?_
      | refine State.setFld_tidy ?_
      | refine State.stepHist_tidy ?_
    | simp only [↓tidy_mk_iff, ↓tidy_parts_iff]
    | split

theorem State.vUp_tidy {s : State} {kind : Nat} {n : Nat} {hi : Nat} (hs : s.Tidy Q) : State.Tidy Q (State.vUp s kind n hi) := by
  unfold State.vUp
  repeat' first
    | with_reducible assumption
    | ((try lift_lets); intro t; first | (refine tidy_have (Q := Q) (t := t) ?_ (fun _ => ?_); rotate_left; clear_value t; rotate_left; unfold t; clear t) | clear_value t)
    | with_reducible first
      | refine tidy_ite ?_ ?_
      | refine State.raiseIf_tidy ?_
      | refine State.vMove_tidy ?_

theorem State.vDown_tidy {s : State} {lo : Nat} (hs : s.Tidy Q) : State.Tidy Q (State.vDown s lo) := by
  unfold State.vDown
  repeat' first
    | with_reducible assumption
    | with_reducible first
      | refine State.vMove_tidy ?_

theorem State.vLimit_tidy {s : State} (hs : s.Tidy Q) : State.Tidy Q (State.vLimit s) := by
  unfold State.vLimit
  repeat' first
    | with_reducible assumption
    | ((try lift_lets); intro t; first | (refine tidy_have (Q := Q) (t := t) ?_ (fun _ => ?_); rotate_left; clear_value t; rotate_left; unfold t; clear t) | clear_value t)
    | with_reducible first
      | refine tidy_ite ?_ ?_
      | refine State.vMove_tidy ?_
      | refine tidy1_st ?_
    | simp only [↓tidy1_pair_iff]

theorem State.rangeReset_tidy {s : State} (hs : s.Tidy Q) : State.Tidy Q (State.rangeReset s) := by
  unfold State.rangeReset
  repeat' first
    | with_reducible assumption
    | with_reducible first
      | refine State.wrN_tidy ?_

theorem State.slackNow_tidy {s : State} {m : Option (Nat × Nat)} (hs : s.Tidy Q) : State.Tidy Q (State.slackNow s m) := by
  unfold State.slackNow
  repeat' first
    | with_reducible assumption
    | ((try lift_lets); intro t; first | (refine tidy_have (Q := Q) (t := t) ?_ (fun _ => ?_); rotate_left; clear_value t; rotate_left; unfold t; clear t) | clear_value t)
    | with_reducible first
      | refine State.bump_tidy ?_
      | refine State.setBit_tidy ?_
      | refine State.wrN_tidy ?_
      | refine tidy1_st ?_
    | simp only [↓tidy1_pair_iff]
    | simp only [↓tidy_mk_iff, ↓tidy_parts_iff]
    | split

theorem State.setSpan_tidy {s : State} {n : Nat} (hs : s.Tidy Q) : State.Tidy Q (State.setSpan s n) := by
  unfold State.setSpan
  repeat' first
    | with_reducible assumption
    | ((try lift_lets); intro t; first | (refine tidy_have (Q := Q) (t := t) ?_ (fun _ => ?_); rotate_left; clear_value t; rotate_left; unfold t; clear t) | clear_value t)
    | simp only [↓tidy_mk_iff, ↓tidy_parts_iff]

theorem State.emergStep_tidy {s : State} (hs : s.Tidy Q) : State.Tidy Q (State.emergStep s) := by
  unfold State.emergStep
  repeat' first
    | with_reducible assumption
    | ((try lift_lets); intro t; first | (refine tidy_have (Q := Q) (t := t) ?_ (fun _ => ?_); rotate_left; clear_value t; rotate_left; unfold t; clear t) | clear_value t)
    | with_reducible first
      | refine State.setSpan_tidy ?_
      | refine State.vUp_tidy ?_
    | simp only [↓tidy_mk_iff, ↓tidy_parts_iff]

theorem State.loopSteer_tidy {s : State} {S : Nat} (hs : s.Tidy Q) : State.Tidy Q (State.loopSteer s S) := by
  unfold State.loopSteer
  repeat' first
    | with_reducible assumption
    | ((try lift_lets); intro t; first | (refine tidy_have (Q := Q) (t := t) ?_ (fun _ => ?_); rotate_left; clear_value t; rotate_left; unfold t; clear t) | clear_value t)
    | with_reducible first
      | refine tidy_ite ?_ ?_
      | refine State.setSpan_tidy ?_
      | refine State.vUp_tidy ?_
    | split

theorem State.loopEpoch_tidy {s : State} (hs : s.Tidy Q) : State.Tidy Q (State.loopEpoch s) := by
  unfold State.loopEpoch
  repeat' first
    | with_reducible assumption
    | ((try lift_lets); intro t; first | (refine tidy_have (Q := Q) (t := t) ?_ (fun _ => ?_); rotate_left; clear_value t; rotate_left; unfold t; clear t) | clear_value t)
    | with_reducible first
      | refine tidy_ite ?_ ?_
      | refine State.bump_tidy ?_
      | refine State.emergStep_tidy ?_
      | refine State.loopSteer_tidy ?_
      | refine State.setSpan_tidy ?_
      | refine State.slackNow_tidy ?_
      | refine tidy1_st ?_
    | simp only [↓tidy1_pair_iff]
    | split

theorem State.slackStale_tidy {s : State} (hs : s.Tidy Q) : State.Tidy Q (State.slackStale s) := by
  unfold State.slackStale
  repeat' first
    | with_reducible assumption
    | ((try lift_lets); intro t; first | (refine tidy_have (Q := Q) (t := t) ?_ (fun _ => ?_); rotate_left; clear_value t; rotate_left; unfold t; clear t) | clear_value t)
    | with_reducible first
      | refine tidy_ite ?_ ?_
      | refine State.raise_tidy ?_
    | simp only [↓tidy_mk_iff, ↓tidy_parts_iff]

theorem execSlackStale_tidy {s : State} (hs : s.Tidy Q) : TidyOut Q (execSlackStale s) := by
  unfold execSlackStale
  repeat' first
    | with_reducible assumption
    | with_reducible first
      | refine tidyOut_next ?_
      | refine State.slackStale_tidy ?_

theorem State.loopDown_tidy {s : State} (hs : s.Tidy Q) : State.Tidy Q (State.loopDown s) := by
  unfold State.loopDown
  repeat' first
    | with_reducible assumption
    | with_reducible first
      | refine tidy_ite ?_ ?_
      | refine State.setSpan_tidy ?_
      | refine State.vDown_tidy ?_
      | refine tidy1_st ?_
    | simp only [↓tidy1_pair_iff]

theorem execLoopDownStep_tidy {s : State} (hs : s.Tidy Q) : TidyOut Q (execLoopDownStep s) := by
  unfold execLoopDownStep
  repeat' first
    | with_reducible assumption
    | with_reducible first
      | refine tidyOut_next ?_
      | refine State.loopDown_tidy ?_

theorem State.setRail_tidy {s : State} {k : Nat} {x : Option (Nat × Nat × Nat)} (hs : s.Tidy Q) : State.Tidy Q (State.setRail s k x) := by
  unfold State.setRail
  repeat' first
    | with_reducible assumption
    | ((try lift_lets); intro t; first | (refine tidy_have (Q := Q) (t := t) ?_ (fun _ => ?_); rotate_left; clear_value t; rotate_left; unfold t; clear t) | clear_value t)
    | simp only [↓tidy_mk_iff, ↓tidy_parts_iff]
    | split

theorem State.txnOk_tidy {s : State} {k : Nat} (hs : s.Tidy Q) : State.Tidy Q (State.txnOk s k) := by
  unfold State.txnOk
  repeat' first
    | with_reducible assumption
    | with_reducible first
      | refine tidy_ite ?_ ?_
      | refine State.setBit_tidy ?_

theorem State.txnFailed_tidy {s : State} {k : Nat} (hs : s.Tidy Q) : State.Tidy Q (State.txnFailed s k) := by
  unfold State.txnFailed
  repeat' first
    | with_reducible assumption
    | ((try lift_lets); intro t; first | (refine tidy_have (Q := Q) (t := t) ?_ (fun _ => ?_); rotate_left; clear_value t; rotate_left; unfold t; clear t) | clear_value t)
    | with_reducible first
      | refine tidy_ite ?_ ?_
      | refine State.bump_tidy ?_
      | refine State.raise_tidy ?_
      | refine State.setBit_tidy ?_

theorem State.railWrite_tidy {s : State} {k : Nat} {v : Nat} (hs : s.Tidy Q) : State.Tidy Q (State.railWrite s k v) := by
  unfold State.railWrite
  repeat' first
    | with_reducible assumption
    | ((try lift_lets); intro t; first | (refine tidy_have (Q := Q) (t := t) ?_ (fun _ => ?_); rotate_left; clear_value t; rotate_left; unfold t; clear t) | clear_value t)
    | with_reducible first
      | refine tidy_ite ?_ ?_
      | refine State.raise_tidy ?_
      | refine State.setBit_tidy ?_
      | refine State.setRail_tidy ?_
      | refine State.txnOk_tidy ?_
      | refine State.wrN_tidy ?_

theorem execRailEnable_tidy {m : Requester} {k : Nat} {v : Nat} {mode : Nat} {s : State} (hs : s.Tidy Q) : TidyOut Q (execRailEnable m k v mode s) := by
  unfold execRailEnable
  repeat' first
    | with_reducible assumption
    | ((try lift_lets); intro t; first | (refine tidy_have (Q := Q) (t := t) ?_ (fun _ => ?_); rotate_left; clear_value t; rotate_left; unfold t; clear t) | clear_value t)
    | with_reducible first
      | refine tidy_ite ?_ ?_
      | refine tidyOut_next ?_
      | refine State.railWrite_tidy ?_
      | refine State.writeAccess_tidy ?_ (fun _ _ => ?_)
    | simp only [↓tidy_mk_iff, ↓tidy_parts_iff]

theorem State.pmbusFail_tidy {s : State} {k : Nat} {n : Nat} {pec : Bool} (hs : s.Tidy Q) : State.Tidy Q (State.pmbusFail s k n pec) := by
  unfold State.pmbusFail
  repeat' first
    | with_reducible assumption
    | with_reducible first
      | refine tidy_ite ?_ ?_
      | refine State.txnFailed_tidy ?_
      | refine State.txnOk_tidy ?_

theorem execPmbusTxnFail_tidy {k : Nat} {attempts : Nat} {pec : Bool} {s : State} (hs : s.Tidy Q) : TidyOut Q (execPmbusTxnFail k attempts pec s) := by
  unfold execPmbusTxnFail
  repeat' first
    | with_reducible assumption
    | with_reducible first
      | refine tidyOut_next ?_
      | refine State.pmbusFail_tidy ?_

theorem State.clkTimeout_tidy {s : State} {k : Nat} {n : Nat} (hs : s.Tidy Q) : State.Tidy Q (State.clkTimeout s k n) := by
  unfold State.clkTimeout
  repeat' first
    | with_reducible assumption
    | ((try lift_lets); intro t; first | (refine tidy_have (Q := Q) (t := t) ?_ (fun _ => ?_); rotate_left; clear_value t; rotate_left; unfold t; clear t) | clear_value t)
    | with_reducible first
      | refine tidy_ite ?_ ?_
      | refine tidy_foldl (fun _ _ _ => ?_) ?_
      | refine tidy1_foldl (fun _ _ _ => ?_) ?_
      | refine State.pmbusFail_tidy ?_
      | refine State.send_tidy ?_
      | refine tidy1_st ?_
    | simp only [↓tidy1_pair_iff]
    | split

theorem execPmbusClkTimeout_tidy {k : Nat} {attempts : Nat} {s : State} (hs : s.Tidy Q) : TidyOut Q (execPmbusClkTimeout k attempts s) := by
  unfold execPmbusClkTimeout
  repeat' first
    | with_reducible assumption
    | with_reducible first
      | refine tidyOut_next ?_
      | refine State.clkTimeout_tidy ?_

theorem State.railLimits_tidy {s : State} {k : Nat} {vout : Nat} (hs : s.Tidy Q) : State.Tidy Q (State.railLimits s k vout) := by
  unfold State.railLimits
  repeat' first
    | with_reducible assumption
    | ((try lift_lets); intro t; first | (refine tidy_have (Q := Q) (t := t) ?_ (fun _ => ?_); rotate_left; clear_value t; rotate_left; unfold t; clear t) | clear_value t)
    | with_reducible first
      | refine State.raiseIf_tidy ?_
      | refine State.watermarkIf_tidy ?_
      | refine State.wrN_tidy ?_

theorem State.railPoll_tidy {s : State} {k : Nat} {vout : Nat} {iout : Nat} {pout : Option Nat} {temp : Int} {status : Nat} (hs : s.Tidy Q) : State.Tidy Q (State.railPoll s k vout iout pout temp status) := by
  unfold State.railPoll
  repeat' first
    | with_reducible assumption
    | ((try lift_lets); intro t; first | (refine tidy_have (Q := Q) (t := t) ?_ (fun _ => ?_); rotate_left; clear_value t; rotate_left; unfold t; clear t) | clear_value t)
    | with_reducible first
      | refine tidy_ite ?_ ?_
      | refine State.railLimits_tidy ?_
      | refine State.setFld_tidy ?_
      | refine State.txnOk_tidy ?_
      | refine tidy1_st ?_
      | refine tidyO_getD ?_ ?_
    | simp only [↓tidy1_pair_iff]
    | simp only [↓tidy_mk_iff, ↓tidy_parts_iff]

theorem execRailPoll_tidy {k : Nat} {vout : Nat} {iout : Nat} {pout : Option Nat} {temp : Int} {status : Nat} {s : State} (hs : s.Tidy Q) : TidyOut Q (execRailPoll k vout iout pout temp status s) := by
  unfold execRailPoll
  repeat' first
    | with_reducible assumption
    | with_reducible first
      | refine tidyOut_next ?_
      | refine State.railPoll_tidy ?_

theorem State.smbAlert_tidy {s : State} {master : Nat} {words : List Nat} (hs : s.Tidy Q) : State.Tidy Q (State.smbAlert s master words) := by
  unfold State.smbAlert
  repeat' first
    | with_reducible assumption
    | ((try lift_lets); intro t; first | (refine tidy_have (Q := Q) (t := t) ?_ (fun _ => ?_); rotate_left; clear_value t; rotate_left; unfold t; clear t) | clear_value t)
    | with_reducible first
      | refine tidy_ite ?_ ?_
      | refine tidy_foldl (fun _ _ _ => ?_) ?_
      | refine tidy1_foldl (fun _ _ _ => ?_) ?_
      | refine State.setFld_tidy ?_
      | refine State.txnOk_tidy ?_
      | refine tidy1_st ?_
    | simp only [↓tidy1_pair_iff]
    | split

theorem execSmbalert_tidy {master : Nat} {words : List Nat} {s : State} (hs : s.Tidy Q) : TidyOut Q (execSmbalert master words s) := by
  unfold execSmbalert
  repeat' first
    | with_reducible assumption
    | with_reducible first
      | refine tidyOut_next ?_
      | refine State.smbAlert_tidy ?_

theorem State.powerAverage_tidy {s : State} (hs : s.Tidy Q) : State.Tidy Q (State.powerAverage s) := by
  unfold State.powerAverage
  repeat' first
    | with_reducible assumption
    | ((try lift_lets); intro t; first | (refine tidy_have (Q := Q) (t := t) ?_ (fun _ => ?_); rotate_left; clear_value t; rotate_left; unfold t; clear t) | clear_value t)
    | with_reducible first
      | refine tidy_ite ?_ ?_
      | refine State.keepMax_tidy ?_
      | refine State.raiseIf_tidy ?_
      | refine State.setFld_tidy ?_
      | refine State.watermark_tidy ?_
    | simp only [↓tidy_mk_iff, ↓tidy_parts_iff]

theorem execPowerAverage_tidy {s : State} (hs : s.Tidy Q) : TidyOut Q (execPowerAverage s) := by
  unfold execPowerAverage
  repeat' first
    | with_reducible assumption
    | with_reducible first
      | refine tidyOut_next ?_
      | refine State.powerAverage_tidy ?_

end Sys2Proof.Machine
end

