-- ==== Sys2Proof/Laws/KeepProf.lean ====
section
/-! SUPPORT. Every operation of Machine/Prof.lean keeps a state tidy. -/

set_option Elab.async false

namespace Sys2Proof.Machine

set_option linter.unusedSimpArgs false

variable {Q : Base}

theorem State.profShow_tidy {s : State} {c : ProfChange} (hs : s.Tidy Q) : State.Tidy Q (State.profShow s c) := by
  unfold State.profShow
  repeat' first
    | with_reducible assumption
    | with_reducible first
      | refine State.wrN_tidy ?_
      | refine tidyO_getD ?_ ?_

theorem State.setProf_tidy {s : State} {c : ProfChange} (hs : s.Tidy Q) : State.Tidy Q (State.setProf s c) := by
  unfold State.setProf
  repeat' first
    | with_reducible assumption
    | ((try lift_lets); intro t; first | (refine tidy_have (Q := Q) (t := t) ?_ (fun _ => ?_); rotate_left; clear_value t; rotate_left; unfold t; clear t) | clear_value t)
    | with_reducible first
      | refine State.profShow_tidy ?_
    | simp only [↓tidy_mk_iff, ↓tidy_parts_iff]

theorem State.profSend_tidy {s : State} {op : Nat} {c : ProfChange} (hs : s.Tidy Q) : State.Tidy Q (State.profSend s op c) := by
  unfold State.profSend
  repeat' first
    | with_reducible assumption
    | with_reducible first
      | refine State.sendCtl_tidy ?_
      | refine tidyO_getD ?_ ?_

theorem State.profForget_tidy {s : State} (hs : s.Tidy Q) : State.Tidy Q (State.profForget s) := by
  unfold State.profForget
  repeat' first
    | with_reducible assumption
    | ((try lift_lets); intro t; first | (refine tidy_have (Q := Q) (t := t) ?_ (fun _ => ?_); rotate_left; clear_value t; rotate_left; unfold t; clear t) | clear_value t)
    | with_reducible first
      | refine State.wrN_tidy ?_
    | simp only [↓tidy_mk_iff, ↓tidy_parts_iff]

theorem State.profDropImage_tidy {s : State} (hs : s.Tidy Q) : State.Tidy Q (State.profDropImage s) := by
  unfold State.profDropImage
  repeat' first
    | with_reducible assumption
    | ((try lift_lets); intro t; first | (refine tidy_have (Q := Q) (t := t) ?_ (fun _ => ?_); rotate_left; clear_value t; rotate_left; unfold t; clear t) | clear_value t)
    | with_reducible first
      | refine tidy_ite ?_ ?_
      | refine State.imgCancel_tidy ?_
    | split

theorem State.profRefuse_tidy {s : State} {c : ProfChange} {code : Nat} (hs : s.Tidy Q) : State.Tidy Q (State.profRefuse s c code) := by
  unfold State.profRefuse
  repeat' first
    | with_reducible assumption
    | ((try lift_lets); intro t; first | (refine tidy_have (Q := Q) (t := t) ?_ (fun _ => ?_); rotate_left; clear_value t; rotate_left; unfold t; clear t) | clear_value t)
    | with_reducible first
      | refine State.bump_tidy ?_
      | refine State.profDropImage_tidy ?_
      | refine State.profForget_tidy ?_
      | refine State.raiseIf_tidy ?_
      | refine State.raise_tidy ?_
      | refine State.setProf_tidy ?_
    | simp only [↓tidy_mk_iff, ↓tidy_parts_iff]

theorem State.forceLost_tidy {s : State} {c : ProfChange} (hs : s.Tidy Q) : State.Tidy Q (State.forceLost s c) := by
  unfold State.forceLost
  repeat' first
    | with_reducible assumption
    | ((try lift_lets); intro t; first | (refine tidy_have (Q := Q) (t := t) ?_ (fun _ => ?_); rotate_left; clear_value t; rotate_left; unfold t; clear t) | clear_value t)
    | with_reducible first
      | refine State.profForget_tidy ?_
      | refine State.raise_tidy ?_
      | refine State.setBit_tidy ?_
      | refine State.setProf_tidy ?_
    | simp only [↓tidy_mk_iff, ↓tidy_parts_iff]

theorem State.profReady_tidy {s : State} {c : ProfChange} (hs : s.Tidy Q) : State.Tidy Q (State.profReady s c) := by
  unfold State.profReady
  repeat' first
    | with_reducible assumption
    | ((try lift_lets); intro t; first | (refine tidy_have (Q := Q) (t := t) ?_ (fun _ => ?_); rotate_left; clear_value t; rotate_left; unfold t; clear t) | clear_value t)
    | with_reducible first
      | refine tidy_ite ?_ ?_
      | refine State.profSend_tidy ?_
      | refine State.setProf_tidy ?_
    | simp only [↓tidy_mk_iff, ↓tidy_parts_iff]

theorem State.profAdvance_tidy {s : State} (hs : s.Tidy Q) : State.Tidy Q (State.profAdvance s) := by
  unfold State.profAdvance
  repeat' first
    | with_reducible assumption
    | ((try lift_lets); intro t; first | (refine tidy_have (Q := Q) (t := t) ?_ (fun _ => ?_); rotate_left; clear_value t; rotate_left; unfold t; clear t) | clear_value t)
    | with_reducible first
      | refine tidy_ite ?_ ?_
      | refine State.profReady_tidy ?_
      | refine State.profRefuse_tidy ?_
      | refine State.setProf_tidy ?_
    | simp only [↓tidy_mk_iff, ↓tidy_parts_iff]
    | split

theorem State.profDeadline_tidy {s : State} (hs : s.Tidy Q) : State.Tidy Q (State.profDeadline s) := by
  unfold State.profDeadline
  repeat' first
    | with_reducible assumption
    | ((try lift_lets); intro t; first | (refine tidy_have (Q := Q) (t := t) ?_ (fun _ => ?_); rotate_left; clear_value t; rotate_left; unfold t; clear t) | clear_value t)
    | with_reducible first
      | refine tidy_ite ?_ ?_
      | refine State.profRefuse_tidy ?_
    | split

theorem State.rampStep_tidy {s : State} (hs : s.Tidy Q) : State.Tidy Q (State.rampStep s) := by
  unfold State.rampStep
  repeat' first
    | with_reducible assumption
    | ((try lift_lets); intro t; first | (refine tidy_have (Q := Q) (t := t) ?_ (fun _ => ?_); rotate_left; clear_value t; rotate_left; unfold t; clear t) | clear_value t)
    | with_reducible first
      | refine tidy_ite ?_ ?_
      | refine State.setProf_tidy ?_
      | refine State.vUp_tidy ?_
    | simp only [↓tidy_mk_iff, ↓tidy_parts_iff]
    | split

theorem execRampStep_tidy {s : State} (hs : s.Tidy Q) : TidyOut Q (execRampStep s) := by
  unfold execRampStep
  repeat' first
    | with_reducible assumption
    | with_reducible first
      | refine tidyOut_next ?_
      | refine State.rampStep_tidy ?_

theorem State.rampEpoch_tidy {s : State} {started : Nat} (hs : s.Tidy Q) : State.Tidy Q (State.rampEpoch s started) := by
  unfold State.rampEpoch
  repeat' first
    | with_reducible assumption
    | ((try lift_lets); intro t; first | (refine tidy_have (Q := Q) (t := t) ?_ (fun _ => ?_); rotate_left; clear_value t; rotate_left; unfold t; clear t) | clear_value t)
    | with_reducible first
      | refine tidy_ite ?_ ?_
      | refine State.profReady_tidy ?_
      | refine State.vUp_tidy ?_
    | split

theorem State.mapEpochs_tidy {s : State} {f : Nat → Nat} (hs : s.Tidy Q) : State.Tidy Q (State.mapEpochs s f) := by
  unfold State.mapEpochs
  repeat' first
    | with_reducible assumption
    | ((try lift_lets); intro t; first | (refine tidy_have (Q := Q) (t := t) ?_ (fun _ => ?_); rotate_left; clear_value t; rotate_left; unfold t; clear t) | clear_value t)
    | with_reducible first
      | refine tidy1_st ?_
    | simp only [↓tidy1_pair_iff]
    | simp only [↓tidy_mk_iff, ↓tidy_parts_iff]

theorem State.setProfile_tidy {s : State} {p : Nat} (hs : s.Tidy Q) : State.Tidy Q (State.setProfile s p) := by
  unfold State.setProfile
  refine State.planeLent_tidy (tidy_mk (tidy_profile ?_ (Nat.mod_lt _ (by decide))))
  exact tidy_ite hs (State.mapEpochs_tidy hs)

theorem State.isolateQuad_tidy {s : State} {q : Nat} (hs : s.Tidy Q) : State.Tidy Q (State.isolateQuad s q) := by
  unfold State.isolateQuad
  repeat' first
    | with_reducible assumption
    | ((try lift_lets); intro t; first | (refine tidy_have (Q := Q) (t := t) ?_ (fun _ => ?_); rotate_left; clear_value t; rotate_left; unfold t; clear t) | clear_value t)
    | with_reducible first
      | refine tidy_ite ?_ ?_
      | refine State.quadStop_tidy ?_
      | refine State.startDrain_tidy ?_

theorem State.profFlip_tidy {s : State} {c : ProfChange} (hs : s.Tidy Q) : State.Tidy Q (State.profFlip s c) := by
  unfold State.profFlip
  repeat' first
    | with_reducible assumption
    | ((try lift_lets); intro t; first | (refine tidy_have (Q := Q) (t := t) ?_ (fun _ => ?_); rotate_left; clear_value t; rotate_left; unfold t; clear t) | clear_value t)
    | with_reducible first
      | refine tidy_ite ?_ ?_
      | refine tidy_foldl (fun _ _ _ => ?_) ?_
      | refine tidy1_foldl (fun _ _ _ => ?_) ?_
      | refine State.bump_tidy ?_
      | refine State.isolateQuad_tidy ?_
      | refine State.profForget_tidy ?_
      | refine State.setBit_tidy ?_
      | refine State.setFld_tidy ?_
      | refine State.setProf_tidy ?_
      | refine State.setProfile_tidy ?_
    | simp only [↓tidy_mk_iff, ↓tidy_parts_iff]

theorem State.profSync_tidy {s : State} (hs : s.Tidy Q) : State.Tidy Q (State.profSync s) := by
  unfold State.profSync
  repeat' first
    | with_reducible assumption
    | ((try lift_lets); intro t; first | (refine tidy_have (Q := Q) (t := t) ?_ (fun _ => ?_); rotate_left; clear_value t; rotate_left; unfold t; clear t) | clear_value t)
    | with_reducible first
      | refine tidy_ite ?_ ?_
      | refine State.forceLost_tidy ?_
      | refine State.profAdvance_tidy ?_
      | refine State.profFlip_tidy ?_
      | refine State.profForget_tidy ?_
      | refine State.profRefuse_tidy ?_
      | refine State.profSend_tidy ?_
      | refine State.setProf_tidy ?_
      | refine State.stage_tidy ?_
    | simp only [↓tidy_mk_iff, ↓tidy_parts_iff]
    | split

theorem State.settleStep_tidy {s : State} (hs : s.Tidy Q) : State.Tidy Q (State.settleStep s) := by
  unfold State.settleStep
  repeat' first
    | with_reducible assumption
    | ((try lift_lets); intro t; first | (refine tidy_have (Q := Q) (t := t) ?_ (fun _ => ?_); rotate_left; clear_value t; rotate_left; unfold t; clear t) | clear_value t)
    | with_reducible first
      | refine tidy_ite ?_ ?_
      | refine State.setProf_tidy ?_
      | refine State.vMove_tidy ?_
    | simp only [↓tidy_mk_iff, ↓tidy_parts_iff]
    | split

theorem execSettleStep_tidy {s : State} (hs : s.Tidy Q) : TidyOut Q (execSettleStep s) := by
  unfold execSettleStep
  repeat' first
    | with_reducible assumption
    | with_reducible first
      | refine tidyOut_next ?_
      | refine State.settleStep_tidy ?_

theorem State.profRequest_tidy {s : State} {profile : Nat} {field : Nat} {next : Bool} (hs : s.Tidy Q) : State.Tidy Q (State.profRequest s profile field next) := by
  unfold State.profRequest
  repeat' first
    | with_reducible assumption
    | ((try lift_lets); intro t; first | (refine tidy_have (Q := Q) (t := t) ?_ (fun _ => ?_); rotate_left; clear_value t; rotate_left; unfold t; clear t) | (refine tidy1_have (Q := Q) (t := t) ?_ (fun _ => ?_); rotate_left; clear_value t; rotate_left; unfold t; clear t) | clear_value t)
    | with_reducible first
      | refine tidy_ite ?_ ?_
      | refine State.bump_tidy ?_
      | refine State.imgLoad_tidy ?_
      | refine State.profAdvance_tidy ?_
      | refine State.profDeadline_tidy ?_
      | refine State.profForget_tidy ?_
      | refine State.profRefuse_tidy ?_
      | refine State.profSend_tidy ?_
      | refine State.raise_tidy ?_
      | refine State.setProf_tidy ?_
      | refine tidy1_st ?_
    | simp only [↓tidy1_pair_iff]
    | simp only [↓tidy_mk_iff, ↓tidy_parts_iff]

theorem State.profCancel_tidy {s : State} {own : Bool} (hs : s.Tidy Q) : State.Tidy Q (State.profCancel s own) := by
  unfold State.profCancel
  repeat' first
    | with_reducible assumption
    | ((try lift_lets); intro t; first | (refine tidy_have (Q := Q) (t := t) ?_ (fun _ => ?_); rotate_left; clear_value t; rotate_left; unfold t; clear t) | clear_value t)
    | with_reducible first
      | refine tidy_ite ?_ ?_
      | refine State.profDropImage_tidy ?_
      | refine State.profForget_tidy ?_
      | refine State.profSend_tidy ?_
      | refine State.setProf_tidy ?_
    | simp only [↓tidy_mk_iff, ↓tidy_parts_iff]
    | split

theorem State.profCmd_tidy {s : State} {v : Nat} (hs : s.Tidy Q) : State.Tidy Q (State.profCmd s v) := by
  unfold State.profCmd
  repeat' first
    | with_reducible assumption
    | with_reducible first
      | refine tidy_ite ?_ ?_
      | refine State.profCancel_tidy ?_
      | refine State.profRequest_tidy ?_

theorem execProfReq_tidy {m : Requester} {profile : Nat} {epoch : Nat} {s : State} (hs : s.Tidy Q) : TidyOut Q (execProfReq m profile epoch s) := by
  unfold execProfReq
  repeat' first
    | with_reducible assumption
    | ((try lift_lets); intro t; first | (refine tidy_have (Q := Q) (t := t) ?_ (fun _ => ?_); rotate_left; clear_value t; rotate_left; unfold t; clear t) | clear_value t)
    | with_reducible first
      | refine tidyOut_next ?_
      | refine State.profCmd_tidy ?_
      | refine State.writeAccess_tidy ?_ (fun _ _ => ?_)

theorem execProfReqNext_tidy {m : Requester} {profile : Nat} {s : State} (hs : s.Tidy Q) : TidyOut Q (execProfReqNext m profile s) := by
  unfold execProfReqNext
  repeat' first
    | with_reducible assumption
    | ((try lift_lets); intro t; first | (refine tidy_have (Q := Q) (t := t) ?_ (fun _ => ?_); rotate_left; clear_value t; rotate_left; unfold t; clear t) | clear_value t)
    | with_reducible first
      | refine tidyOut_next ?_
      | refine State.profCmd_tidy ?_
      | refine State.writeAccess_tidy ?_ (fun _ _ => ?_)

theorem execProfCancel_tidy {m : Requester} {s : State} (hs : s.Tidy Q) : TidyOut Q (execProfCancel m s) := by
  unfold execProfCancel
  repeat' first
    | with_reducible assumption
    | with_reducible first
      | refine tidyOut_next ?_
      | refine State.profCmd_tidy ?_
      | refine State.writeAccess_tidy ?_ (fun _ _ => ?_)

theorem State.profCommit_tidy {s : State} (hs : s.Tidy Q) : State.Tidy Q (State.profCommit s) := by
  unfold State.profCommit
  repeat' first
    | with_reducible assumption
    | ((try lift_lets); intro t; first | (refine tidy_have (Q := Q) (t := t) ?_ (fun _ => ?_); rotate_left; clear_value t; rotate_left; unfold t; clear t) | clear_value t)
    | with_reducible first
      | refine tidy_ite ?_ ?_
      | refine State.groupCommit_tidy ?_
      | refine State.profRefuse_tidy ?_
      | refine State.profSync_tidy ?_
      | refine State.setProf_tidy ?_
    | simp only [↓tidy_mk_iff, ↓tidy_parts_iff]
    | split

theorem execProfCommit_tidy {s : State} (hs : s.Tidy Q) : TidyOut Q (execProfCommit s) := by
  unfold execProfCommit
  repeat' first
    | with_reducible assumption
    | with_reducible first
      | refine tidyOut_next ?_
      | refine State.profCommit_tidy ?_

theorem State.forcedFlag_tidy {s : State} (hs : s.Tidy Q) : State.Tidy Q (State.forcedFlag s) := by
  unfold State.forcedFlag
  repeat' first
    | with_reducible assumption
    | with_reducible first
      | refine State.raise_tidy ?_
      | refine State.setBit_tidy ?_

theorem State.forceStart_tidy {s : State} {twin : Option Nat} (hs : s.Tidy Q) : State.Tidy Q (State.forceStart s twin) := by
  unfold State.forceStart
  repeat' first
    | with_reducible assumption
    | ((try lift_lets); intro t; first | (refine tidy_have (Q := Q) (t := t) ?_ (fun _ => ?_); rotate_left; clear_value t; rotate_left; unfold t; clear t) | (refine tidy1_have (Q := Q) (t := t) ?_ (fun _ => ?_); rotate_left; clear_value t; rotate_left; unfold t; clear t) | clear_value t)
    | with_reducible first
      | refine tidy_ite ?_ ?_
      | refine State.forceLost_tidy ?_
      | refine State.forcedFlag_tidy ?_
      | refine State.imgLoad_tidy ?_
      | refine State.profSend_tidy ?_
      | refine State.refuseTakesTo_tidy ?_
      | refine State.setProf_tidy ?_
      | refine tidy1_st ?_
      | refine tidyO_getD ?_ ?_
    | simp only [↓tidy1_pair_iff]
    | simp only [↓tidy_mk_iff, ↓tidy_parts_iff]

theorem State.profForce_tidy {s : State} {twin : Option Nat} (hs : s.Tidy Q) : State.Tidy Q (State.profForce s twin) := by
  unfold State.profForce
  repeat' first
    | with_reducible assumption
    | ((try lift_lets); intro t; first | (refine tidy_have (Q := Q) (t := t) ?_ (fun _ => ?_); rotate_left; clear_value t; rotate_left; unfold t; clear t) | clear_value t)
    | with_reducible first
      | refine tidy_ite ?_ ?_
      | refine State.forceStart_tidy ?_
      | refine State.forcedFlag_tidy ?_
      | refine State.imgCancel_tidy ?_
      | refine State.profRefuse_tidy ?_
      | refine State.profSend_tidy ?_
      | refine State.stage_tidy ?_
    | simp only [↓tidy_mk_iff, ↓tidy_parts_iff]
    | split

theorem State.forceRetry_tidy {s : State} (hs : s.Tidy Q) : State.Tidy Q (State.forceRetry s) := by
  unfold State.forceRetry
  repeat' first
    | with_reducible assumption
    | ((try lift_lets); intro t; first | (refine tidy_have (Q := Q) (t := t) ?_ (fun _ => ?_); rotate_left; clear_value t; rotate_left; unfold t; clear t) | clear_value t)
    | with_reducible first
      | refine tidy_ite ?_ ?_
      | refine State.profForce_tidy ?_
    | simp only [↓tidy_mk_iff, ↓tidy_parts_iff]
    | split

theorem State.profReqRx_tidy {s : State} {profile : Nat} {epoch : Nat} {imageId : Nat} {hdrCrc : Nat} (hs : s.Tidy Q) : State.Tidy Q (State.profReqRx s profile epoch imageId hdrCrc) := by
  unfold State.profReqRx
  repeat' first
    | with_reducible assumption
    | ((try lift_lets); intro t; first | (refine tidy_have (Q := Q) (t := t) ?_ (fun _ => ?_); rotate_left; clear_value t; rotate_left; unfold t; clear t) | clear_value t)
    | with_reducible first
      | refine tidy_ite ?_ ?_
      | refine State.profAdvance_tidy ?_
      | refine State.wrN_tidy ?_
    | simp only [↓tidy_mk_iff, ↓tidy_parts_iff]

theorem execProfReqRx_tidy {profile : Nat} {epoch : Nat} {imageId : Nat} {hdrCrc : Nat} {s : State} (hs : s.Tidy Q) : TidyOut Q (execProfReqRx profile epoch imageId hdrCrc s) := by
  unfold execProfReqRx
  repeat' first
    | with_reducible assumption
    | with_reducible first
      | refine tidyOut_next ?_
      | refine State.profReqRx_tidy ?_

theorem State.profReadyRx_tidy {s : State} (hs : s.Tidy Q) : State.Tidy Q (State.profReadyRx s) := by
  unfold State.profReadyRx
  repeat' first
    | with_reducible assumption
    | ((try lift_lets); intro t; first | (refine tidy_have (Q := Q) (t := t) ?_ (fun _ => ?_); rotate_left; clear_value t; rotate_left; unfold t; clear t) | clear_value t)
    | with_reducible first
      | refine tidy_ite ?_ ?_
      | refine State.setBit_tidy ?_
    | simp only [↓tidy_mk_iff, ↓tidy_parts_iff]

theorem execProfReadyRx_tidy {s : State} (hs : s.Tidy Q) : TidyOut Q (execProfReadyRx s) := by
  unfold execProfReadyRx
  repeat' first
    | with_reducible assumption
    | with_reducible first
      | refine tidyOut_next ?_
      | refine State.profReadyRx_tidy ?_

theorem State.profCancelRx_tidy {s : State} (hs : s.Tidy Q) : State.Tidy Q (State.profCancelRx s) := by
  unfold State.profCancelRx
  repeat' first
    | with_reducible assumption
    | with_reducible first
      | refine tidy_ite ?_ ?_
      | refine State.profCancel_tidy ?_
      | refine State.profForget_tidy ?_

theorem execProfCancelRx_tidy {s : State} (hs : s.Tidy Q) : TidyOut Q (execProfCancelRx s) := by
  unfold execProfCancelRx
  repeat' first
    | with_reducible assumption
    | with_reducible first
      | refine tidyOut_next ?_
      | refine State.profCancelRx_tidy ?_

theorem State.profForceRx_tidy {s : State} {epoch : Nat} (hs : s.Tidy Q) : State.Tidy Q (State.profForceRx s epoch) := by
  unfold State.profForceRx
  repeat' first
    | with_reducible assumption
    | with_reducible first
      | refine tidy_ite ?_ ?_
      | refine State.profForce_tidy ?_
      | refine tidyO_getD ?_ ?_

theorem execProfForceRx_tidy {epoch : Nat} {s : State} (hs : s.Tidy Q) : TidyOut Q (execProfForceRx epoch s) := by
  unfold execProfForceRx
  repeat' first
    | with_reducible assumption
    | with_reducible first
      | refine tidyOut_next ?_
      | refine State.profForceRx_tidy ?_

theorem execImgLoad_tidy {m : Requester} {epoch : Nat} {s : State} (hs : s.Tidy Q) : TidyOut Q (execImgLoad m epoch s) := by
  unfold execImgLoad
  repeat' first
    | with_reducible assumption
    | ((try lift_lets); intro t; first | (refine tidy_have (Q := Q) (t := t) ?_ (fun _ => ?_); rotate_left; clear_value t; rotate_left; unfold t; clear t) | clear_value t)
    | with_reducible first
      | refine tidyOut_next ?_
      | refine State.imgCmd_tidy ?_
      | refine State.profSync_tidy ?_
      | refine State.writeAccess_tidy ?_ (fun _ _ => ?_)

theorem execImgLoadNext_tidy {m : Requester} {s : State} (hs : s.Tidy Q) : TidyOut Q (execImgLoadNext m s) := by
  unfold execImgLoadNext
  repeat' first
    | with_reducible assumption
    | with_reducible first
      | refine tidyOut_next ?_
      | refine State.imgCmd_tidy ?_
      | refine State.profSync_tidy ?_
      | refine State.writeAccess_tidy ?_ (fun _ _ => ?_)

theorem execImgCancel_tidy {m : Requester} {s : State} (hs : s.Tidy Q) : TidyOut Q (execImgCancel m s) := by
  unfold execImgCancel
  repeat' first
    | with_reducible assumption
    | with_reducible first
      | refine tidyOut_next ?_
      | refine State.imgCmd_tidy ?_
      | refine State.profSync_tidy ?_
      | refine State.writeAccess_tidy ?_ (fun _ _ => ?_)

theorem execImgCopyDone_tidy {s : State} (hs : s.Tidy Q) : TidyOut Q (execImgCopyDone s) := by
  unfold execImgCopyDone
  repeat' first
    | with_reducible assumption
    | with_reducible first
      | refine tidyOut_next ?_
      | refine State.imgCopyDone_tidy ?_
      | refine State.profSync_tidy ?_

theorem execTakeArm_tidy {s : State} (hs : s.Tidy Q) : TidyOut Q (execTakeArm s) := by
  unfold execTakeArm
  repeat' first
    | with_reducible assumption
    | with_reducible first
      | refine tidyOut_next ?_
      | refine State.profSync_tidy ?_
      | refine State.takeArm_tidy ?_

theorem execTakeCmd_tidy {m : Requester} {n : Nat} {next : Bool} {s : State} (hs : s.Tidy Q) : TidyOut Q (execTakeCmd m n next s) := by
  unfold execTakeCmd
  repeat' first
    | with_reducible assumption
    | ((try lift_lets); intro t; first | (refine tidy_have (Q := Q) (t := t) ?_ (fun _ => ?_); rotate_left; clear_value t; rotate_left; unfold t; clear t) | clear_value t)
    | with_reducible first
      | refine tidyOut_next ?_
      | refine State.portCmd_tidy ?_
      | refine State.profSync_tidy ?_
      | refine State.writeAccess_tidy ?_ (fun _ _ => ?_)

theorem execSalvoCmd_tidy {m : Requester} {n : Nat} {count : Nat} {next : Bool} {s : State} (hs : s.Tidy Q) : TidyOut Q (execSalvoCmd m n count next s) := by
  unfold execSalvoCmd
  repeat' first
    | with_reducible assumption
    | ((try lift_lets); intro t; first | (refine tidy_have (Q := Q) (t := t) ?_ (fun _ => ?_); rotate_left; clear_value t; rotate_left; unfold t; clear t) | clear_value t)
    | with_reducible first
      | refine tidyOut_next ?_
      | refine State.portCmd_tidy ?_
      | refine State.profSync_tidy ?_
      | refine State.writeAccess_tidy ?_ (fun _ _ => ?_)

theorem execTakeCancelCmd_tidy {m : Requester} {n : Nat} {tag : Nat} {s : State} (hs : s.Tidy Q) : TidyOut Q (execTakeCancelCmd m n tag s) := by
  unfold execTakeCancelCmd
  repeat' first
    | with_reducible assumption
    | ((try lift_lets); intro t; first | (refine tidy_have (Q := Q) (t := t) ?_ (fun _ => ?_); rotate_left; clear_value t; rotate_left; unfold t; clear t) | clear_value t)
    | with_reducible first
      | refine tidyOut_next ?_
      | refine State.portCmd_tidy ?_
      | refine State.profSync_tidy ?_
      | refine State.writeAccess_tidy ?_ (fun _ _ => ?_)

theorem execTakeCommit_tidy {s : State} (hs : s.Tidy Q) : TidyOut Q (execTakeCommit s) := by
  unfold execTakeCommit
  repeat' first
    | with_reducible assumption
    | with_reducible first
      | refine tidyOut_next ?_
      | refine State.profSync_tidy ?_
      | refine State.takeCommitAt_tidy ?_

end Sys2Proof.Machine
end

