-- ==== Sys2Proof/Laws/KeepCal.lean ====
section
/-! SUPPORT. Every operation of Machine/Cal.lean keeps a state tidy. -/

set_option Elab.async false

namespace Sys2Proof.Machine

set_option linter.unusedSimpArgs false

variable {Q : Base}

theorem State.fillWords_tidy {s : State} {a : Nat} {o : Nat} {n : Nat} {count : Nat} (hs : s.Tidy Q) : State.Tidy Q (State.fillWords s a o n count) := by
  unfold State.fillWords
  repeat' first
    | with_reducible assumption
    | with_reducible first
      | refine State.wrWords_tidy ?_

theorem State.calSection_tidy {s : State} {ty : Nat} {o : Nat} {len : Nat} (hs : s.Tidy Q) : State.Tidy Q (State.calSection s ty o len) := by
  unfold State.calSection
  repeat' first
    | with_reducible assumption
    | ((try lift_lets); intro t; first | (refine tidy_have (Q := Q) (t := t) ?_ (fun _ => ?_); rotate_left; clear_value t; rotate_left; unfold t; clear t) | clear_value t)
    | with_reducible first
      | refine tidy_ite ?_ ?_
      | refine State.fillWords_tidy ?_
    | split

theorem State.calSections_tidy {n : Nat} : ∀ {s : State} {o e : Nat}, s.Tidy Q → (s.calSections n o e).Tidy Q := by
  induction n with
  | zero => intros; assumption
  | succ n ih =>
    intros
    unfold State.calSections
    repeat' first
      | with_reducible assumption
      | ((try lift_lets); intro t; first | (refine tidy_have (Q := Q) (t := t) ?_ (fun _ => ?_); rotate_left; clear_value t; rotate_left; unfold t; clear t) | (refine tidy1_have (Q := Q) (t := t) ?_ (fun _ => ?_); rotate_left; clear_value t; rotate_left; unfold t; clear t) | clear_value t)
      | with_reducible refine tidy_ite ?_ ?_
      | with_reducible refine ih ?_
      | with_reducible refine State.calSection_tidy ?_

theorem State.calShow_tidy {s : State} {st : Nat} {result : Nat} (hs : s.Tidy Q) : State.Tidy Q (State.calShow s st result) := by
  unfold State.calShow
  repeat' first
    | with_reducible assumption
    | with_reducible first
      | refine State.setFld_tidy ?_

theorem State.calRefuse_tidy {s : State} (hs : s.Tidy Q) : State.Tidy Q (State.calRefuse s) := by
  unfold State.calRefuse
  repeat' first
    | with_reducible assumption
    | with_reducible first
      | refine tidy_ite ?_ ?_
      | refine State.calShow_tidy ?_
      | refine State.setFld_tidy ?_

theorem State.calLoad_tidy {s : State} (hs : s.Tidy Q) : State.Tidy Q (State.calLoad s) := by
  unfold State.calLoad
  repeat' first
    | with_reducible assumption
    | ((try lift_lets); intro t; first | (refine tidy_have (Q := Q) (t := t) ?_ (fun _ => ?_); rotate_left; clear_value t; rotate_left; unfold t; clear t) | clear_value t)
    | with_reducible first
      | refine tidy_ite ?_ ?_
      | refine State.calRefuse_tidy ?_
      | refine State.calSections_tidy ?_
      | refine State.calShow_tidy ?_
      | refine State.raise_tidy ?_
      | refine State.setBit_tidy ?_
      | refine State.wrN_tidy ?_
      | refine tidy1_st ?_
    | simp only [↓tidy1_pair_iff]
    | simp only [↓tidy_mk_iff, ↓tidy_parts_iff]
    | split

theorem State.eraseFlash_tidy {s : State} {o : Nat} {n : Nat} (hs : s.Tidy Q) : State.Tidy Q (State.eraseFlash s o n) := by
  unfold State.eraseFlash
  repeat' first
    | with_reducible assumption
    | ((try lift_lets); intro t; first | (refine tidy_have (Q := Q) (t := t) ?_ (fun _ => ?_); rotate_left; clear_value t; rotate_left; unfold t; clear t) | clear_value t)
    | with_reducible first
      | refine tidy1_st ?_
      | refine tidy_mem ?_ (mem_filter _)
    | simp only [↓tidy1_pair_iff]
    | simp only [↓tidy_mk_iff, ↓tidy_parts_iff]

theorem State.programFlash_tidy {s : State} {o : Nat} {l : List Byte} (hs : s.Tidy Q) : State.Tidy Q (State.programFlash s o l) := by
  unfold State.programFlash
  repeat' first
    | with_reducible assumption
    | with_reducible first
      | refine State.wrBytes_tidy ?_

theorem State.writeSlot_tidy {s : State} {o : Nat} {magic : Nat} {sections : Nat} {gen : Nat} {set : Nat} {body : List Byte} (hs : s.Tidy Q) : State.Tidy Q (State.writeSlot s o magic sections gen set body) := by
  unfold State.writeSlot
  repeat' first
    | with_reducible assumption
    | with_reducible first
      | refine State.eraseFlash_tidy ?_
      | refine State.programFlash_tidy ?_

theorem State.calSave_tidy {s : State} (hs : s.Tidy Q) : State.Tidy Q (State.calSave s) := by
  unfold State.calSave
  repeat' first
    | with_reducible assumption
    | ((try lift_lets); intro t; first | (refine tidy_have (Q := Q) (t := t) ?_ (fun _ => ?_); rotate_left; clear_value t; rotate_left; unfold t; clear t) | clear_value t)
    | with_reducible first
      | refine tidy_ite ?_ ?_
      | refine State.calRefuse_tidy ?_
      | refine State.calShow_tidy ?_
      | refine State.eraseFlash_tidy ?_
      | refine tidy1_st ?_
    | simp only [↓tidy1_pair_iff]
    | simp only [↓tidy_mk_iff, ↓tidy_parts_iff]
    | split

theorem State.calCmd_tidy {s : State} {v : Nat} (hs : s.Tidy Q) : State.Tidy Q (State.calCmd s v) := by
  unfold State.calCmd
  repeat' first
    | with_reducible assumption
    | ((try lift_lets); intro t; first | (refine tidy_have (Q := Q) (t := t) ?_ (fun _ => ?_); rotate_left; clear_value t; rotate_left; unfold t; clear t) | clear_value t)
    | with_reducible first
      | refine State.calLoad_tidy ?_
      | refine State.calSave_tidy ?_
    | split

theorem execCalLoad_tidy {m : Requester} {s : State} (hs : s.Tidy Q) : TidyOut Q (execCalLoad m s) := by
  unfold execCalLoad
  repeat' first
    | with_reducible assumption
    | with_reducible first
      | refine tidyOut_next ?_
      | refine State.calCmd_tidy ?_
      | refine State.writeAccess_tidy ?_ (fun _ _ => ?_)

theorem execCalSave_tidy {m : Requester} {s : State} (hs : s.Tidy Q) : TidyOut Q (execCalSave m s) := by
  unfold execCalSave
  repeat' first
    | with_reducible assumption
    | with_reducible first
      | refine tidyOut_next ?_
      | refine State.calCmd_tidy ?_
      | refine State.writeAccess_tidy ?_ (fun _ _ => ?_)

theorem State.calDone_tidy {s : State} {ok : Bool} {left : List Byte} (hs : s.Tidy Q) : State.Tidy Q (State.calDone s ok left) := by
  unfold State.calDone
  repeat' first
    | with_reducible assumption
    | ((try lift_lets); intro t; first | (refine tidy_have (Q := Q) (t := t) ?_ (fun _ => ?_); rotate_left; clear_value t; rotate_left; unfold t; clear t) | clear_value t)
    | with_reducible first
      | refine tidy_ite ?_ ?_
      | refine State.calShow_tidy ?_
      | refine State.eraseFlash_tidy ?_
      | refine State.programFlash_tidy ?_
      | refine State.raise_tidy ?_
      | refine State.setBit_tidy ?_
      | refine State.wrN_tidy ?_
      | refine State.writeSlot_tidy ?_
    | simp only [↓tidy_mk_iff, ↓tidy_parts_iff]
    | split

theorem execCalOpDone_tidy {ok : Bool} {left : List (BitVec 8)} {s : State} (hs : s.Tidy Q) : TidyOut Q (execCalOpDone ok left s) := by
  unfold execCalOpDone
  repeat' first
    | with_reducible assumption
    | with_reducible first
      | refine tidyOut_next ?_
      | refine State.calDone_tidy ?_

end Sys2Proof.Machine
end

