-- ==== Sys2Proof/Laws/KeepShadow.lean ====
section
/-! SUPPORT. Every operation of Machine/Shadow.lean keeps a state tidy. -/

set_option Elab.async false

namespace Sys2Proof.Machine

set_option linter.unusedSimpArgs false

variable {Q : Base}

theorem State.shadowArm_tidy {s : State} {p : Nat} {field : Nat} {next : Bool} (hs : s.Tidy Q) : State.Tidy Q (State.shadowArm s p field next) := by
  unfold State.shadowArm
  repeat' first
    | with_reducible assumption
    | ((try lift_lets); intro t; first | (refine tidy_have (Q := Q) (t := t) ?_ (fun _ => ?_); rotate_left; clear_value t; rotate_left; unfold t; clear t) | clear_value t)
    | with_reducible first
      | refine tidy_foldl (fun _ _ _ => ?_) ?_
      | refine tidy1_foldl (fun _ _ _ => ?_) ?_
      | refine State.armPages_tidy ?_
      | refine State.wrN_tidy ?_
    | split

theorem State.cancelPages_tidy {s : State} {l : List Nat} (hs : s.Tidy Q) : State.Tidy Q (State.cancelPages s l) := by
  unfold State.cancelPages
  repeat' first
    | with_reducible assumption
    | with_reducible first
      | refine tidy_foldl (fun _ _ _ => ?_) ?_
      | refine tidy1_foldl (fun _ _ _ => ?_) ?_
      | refine State.endPages_tidy ?_
      | refine State.flipOver_tidy ?_

theorem State.shadowCancel_tidy {s : State} {m : Requester} {p : Nat} (hs : s.Tidy Q) : State.Tidy Q (State.shadowCancel s m p) := by
  unfold State.shadowCancel
  repeat' first
    | with_reducible assumption
    | ((try lift_lets); intro t; first | (refine tidy_have (Q := Q) (t := t) ?_ (fun _ => ?_); rotate_left; clear_value t; rotate_left; unfold t; clear t) | clear_value t)
    | with_reducible first
      | refine tidy_ite ?_ ?_
      | refine tidy_foldl (fun _ _ _ => ?_) ?_
      | refine tidy1_foldl (fun _ _ _ => ?_) ?_
      | refine State.cancelPages_tidy ?_
      | refine State.endPages_tidy ?_
      | refine State.endWhere_tidy ?_
      | refine State.freeGroup_tidy ?_
      | refine State.imgCancel_tidy ?_
      | refine State.profSync_tidy ?_
      | refine State.refuseState_tidy ?_
      | refine State.setBit_tidy ?_
      | refine State.takeSync_tidy ?_

theorem State.shadowCtrl_tidy {s : State} {m : Requester} {p : Nat} {v : Nat} (hs : s.Tidy Q) : State.Tidy Q (State.shadowCtrl s m p v) := by
  unfold State.shadowCtrl
  repeat' first
    | with_reducible assumption
    | with_reducible first
      | refine tidy_ite ?_ ?_
      | refine State.refuseState_tidy ?_
      | refine State.setFld_tidy ?_
      | refine State.shadowArm_tidy ?_
      | refine State.shadowCancel_tidy ?_

theorem State.shadowWrite_tidy {s : State} {m : Requester} {a : Nat} {v : Nat} (hs : s.Tidy Q) : State.Tidy Q (State.shadowWrite s m a v) := by
  unfold State.shadowWrite
  repeat' first
    | with_reducible assumption
    | with_reducible first
      | refine tidy_ite ?_ ?_
      | refine State.refuseState_tidy ?_
      | refine State.writeShadow_tidy ?_

theorem execShadowArm_tidy {m : Requester} {b : Nat} {k : Nat} {epoch : Nat} {s : State} (hs : s.Tidy Q) : TidyOut Q (execShadowArm m b k epoch s) := by
  unfold execShadowArm
  repeat' first
    | with_reducible assumption
    | ((try lift_lets); intro t; first | (refine tidy_have (Q := Q) (t := t) ?_ (fun _ => ?_); rotate_left; clear_value t; rotate_left; unfold t; clear t) | clear_value t)
    | with_reducible first
      | refine tidyOut_next ?_
      | refine State.shadowCtrl_tidy ?_
      | refine State.writeAccess_tidy ?_ (fun _ _ => ?_)

theorem execShadowArmNext_tidy {m : Requester} {b : Nat} {k : Nat} {s : State} (hs : s.Tidy Q) : TidyOut Q (execShadowArmNext m b k s) := by
  unfold execShadowArmNext
  repeat' first
    | with_reducible assumption
    | ((try lift_lets); intro t; first | (refine tidy_have (Q := Q) (t := t) ?_ (fun _ => ?_); rotate_left; clear_value t; rotate_left; unfold t; clear t) | clear_value t)
    | with_reducible first
      | refine tidyOut_next ?_
      | refine State.shadowCtrl_tidy ?_
      | refine State.writeAccess_tidy ?_ (fun _ _ => ?_)

theorem execShadowCancel_tidy {m : Requester} {b : Nat} {k : Nat} {s : State} (hs : s.Tidy Q) : TidyOut Q (execShadowCancel m b k s) := by
  unfold execShadowCancel
  repeat' first
    | with_reducible assumption
    | ((try lift_lets); intro t; first | (refine tidy_have (Q := Q) (t := t) ?_ (fun _ => ?_); rotate_left; clear_value t; rotate_left; unfold t; clear t) | clear_value t)
    | with_reducible first
      | refine tidyOut_next ?_
      | refine State.shadowCtrl_tidy ?_
      | refine State.writeAccess_tidy ?_ (fun _ _ => ?_)

theorem State.blockCheck_tidy {s : State} {p : Nat} (hs : s.Tidy Q) : Tidy1 Q (State.blockCheck s p) := by
  unfold State.blockCheck
  repeat' first
    | with_reducible assumption
    | ((try lift_lets); intro t; first | (refine tidy_have (Q := Q) (t := t) ?_ (fun _ => ?_); rotate_left; clear_value t; rotate_left; unfold t; clear t) | (refine tidy1_have (Q := Q) (t := t) ?_ (fun _ => ?_); rotate_left; clear_value t; rotate_left; unfold t; clear t) | clear_value t)
    | with_reducible first
      | refine tidy1_ite ?_ ?_
      | refine tidy_ite ?_ ?_
      | refine State.audCheck_tidy ?_
      | refine State.fstCheck_tidy ?_
      | refine State.macCheck_tidy ?_
      | refine State.mrsCheck_tidy ?_
      | refine State.setFld_tidy ?_
    | simp only [↓tidy1_pair_iff]
    | split

theorem State.pageCommit_tidy {s : State} {p : Nat} (hs : s.Tidy Q) : State.Tidy Q (State.pageCommit s p) := by
  unfold State.pageCommit
  repeat' first
    | with_reducible assumption
    | ((try lift_lets); intro t; first | (refine tidy_have (Q := Q) (t := t) ?_ (fun _ => ?_); rotate_left; clear_value t; rotate_left; unfold t; clear t) | (refine tidy1_have (Q := Q) (t := t) ?_ (fun _ => ?_); rotate_left; clear_value t; rotate_left; unfold t; clear t) | clear_value t)
    | with_reducible first
      | refine tidy_ite ?_ ?_
      | refine State.blockCheck_tidy ?_
      | refine State.commitPages_tidy ?_
      | refine State.endPages_tidy ?_
      | refine State.groupCommit_tidy ?_
      | refine State.profCommit_tidy ?_
      | refine State.profSync_tidy ?_
      | refine State.pxpCommit_tidy ?_
      | refine State.stage_tidy ?_
      | refine tidy1_st ?_
      | refine tidyO_getD ?_ ?_
    | simp only [↓tidy1_pair_iff]

theorem execShadowCommit_tidy {b : Nat} {k : Nat} {s : State} (hs : s.Tidy Q) : TidyOut Q (execShadowCommit b k s) := by
  unfold execShadowCommit
  repeat' first
    | with_reducible assumption
    | with_reducible first
      | refine tidyOut_next ?_
      | refine State.pageCommit_tidy ?_

theorem State.pageFlips_tidy {s : State} {e : Nat} (hs : s.Tidy Q) : State.Tidy Q (State.pageFlips s e) := by
  unfold State.pageFlips
  repeat' first
    | with_reducible assumption
    | ((try lift_lets); intro t; first | (refine tidy_have (Q := Q) (t := t) ?_ (fun _ => ?_); rotate_left; clear_value t; rotate_left; unfold t; clear t) | clear_value t)
    | with_reducible first
      | refine tidy_ite ?_ ?_
      | refine tidy_foldl (fun _ _ _ => ?_) ?_
      | refine tidy1_foldl (fun _ _ _ => ?_) ?_
      | refine State.flipHooks_tidy ?_
      | refine State.flipPages_tidy ?_
      | refine State.pageCommit_tidy ?_

theorem State.allFlips_tidy {s : State} {e : Nat} (hs : s.Tidy Q) : State.Tidy Q (State.allFlips s e) := by
  unfold State.allFlips
  repeat' first
    | with_reducible assumption
    | ((try lift_lets); intro t; first | (refine tidy_have (Q := Q) (t := t) ?_ (fun _ => ?_); rotate_left; clear_value t; rotate_left; unfold t; clear t) | clear_value t)
    | with_reducible first
      | refine tidy_ite ?_ ?_
      | refine State.groupFlip_tidy ?_
      | refine State.pageFlips_tidy ?_
      | refine State.profCommit_tidy ?_
      | refine State.profSync_tidy ?_
      | refine State.stage_tidy ?_

theorem State.cancelAll_tidy {s : State} (hs : s.Tidy Q) : State.Tidy Q (State.cancelAll s) := by
  unfold State.cancelAll
  repeat' first
    | with_reducible assumption
    | ((try lift_lets); intro t; first | (refine tidy_have (Q := Q) (t := t) ?_ (fun _ => ?_); rotate_left; clear_value t; rotate_left; unfold t; clear t) | clear_value t)
    | with_reducible first
      | refine tidy_ite ?_ ?_
      | refine tidy_foldl (fun _ _ _ => ?_) ?_
      | refine tidy1_foldl (fun _ _ _ => ?_) ?_
      | refine State.cancelPages_tidy ?_
      | refine State.cancelTakes_tidy ?_
      | refine State.freeGroup_tidy ?_
      | refine State.imgCancelled_tidy ?_
      | refine State.profForget_tidy ?_
      | refine State.setBit_tidy ?_
      | refine State.setProf_tidy ?_
      | refine tidy1_st ?_
    | simp only [↓tidy1_pair_iff]
    | simp only [↓tidy_mk_iff, ↓tidy_parts_iff]
    | split

end Sys2Proof.Machine
end

