-- ==== Sys2Proof/Laws/KeepClock.lean ====
section
/-! SUPPORT. Every operation of Machine/Clock.lean keeps a state tidy. -/

set_option Elab.async false

namespace Sys2Proof.Machine

set_option linter.unusedSimpArgs false

variable {Q : Base}

theorem State.shiftInstants_tidy {s : State} {d : Int} (hs : s.Tidy Q) : State.Tidy Q (State.shiftInstants s d) := by
  unfold State.shiftInstants
  repeat' first
    | with_reducible assumption
    | ((try lift_lets); intro t; first | (refine tidy_have (Q := Q) (t := t) ?_ (fun _ => ?_); rotate_left; clear_value t; rotate_left; unfold t; clear t) | clear_value t)
    | with_reducible first
      | refine tidy1_st ?_
    | simp only [↓tidy1_pair_iff]
    | simp only [↓tidy_mk_iff, ↓tidy_parts_iff]

theorem State.matchPassed_tidy {s : State} {t : Nat} (hs : s.Tidy Q) : State.Tidy Q (State.matchPassed s t) := by
  unfold State.matchPassed
  repeat' first
    | with_reducible assumption
    | ((try lift_lets); intro t; first | (refine tidy_have (Q := Q) (t := t) ?_ (fun _ => ?_); rotate_left; clear_value t; rotate_left; unfold t; clear t) | clear_value t)
    | with_reducible first
      | refine tidy_ite ?_ ?_
    | simp only [↓tidy_mk_iff, ↓tidy_parts_iff]

theorem State.stepTime_tidy {s : State} {t : Nat} (hq : ∀ n, Q.clock n) (hs : s.Tidy Q) : State.Tidy Q (State.stepTime s t) := by
  unfold State.stepTime
  repeat' first
    | with_reducible assumption
    | ((try lift_lets); intro t; first | (refine tidy_have (Q := Q) (t := t) ?_ (fun _ => ?_); rotate_left; clear_value t; rotate_left; unfold t; clear t) | clear_value t)
    | with_reducible first
      | refine State.cancelAll_tidy ?_
      | refine State.hist_tidy ?_
      | refine State.matchPassed_tidy ?_
      | refine State.refSync_tidy ?_
      | refine State.shiftInstants_tidy ?_
      | refine tidy_now hq ?_
      | refine tidyO_getD ?_ ?_
    | simp only [↓tidy_mk_iff, ↓tidy_parts_iff]
    | split

theorem State.timeCmd_tidy {s : State} {m : Requester} {v : Nat} (hq : ∀ n, Q.clock n) (hs : s.Tidy Q) : State.Tidy Q (State.timeCmd s m v) := by
  unfold State.timeCmd
  repeat' first
    | with_reducible assumption
    | ((try lift_lets); intro t; first | (refine tidy_have (Q := Q) (t := t) ?_ (fun _ => ?_); rotate_left; clear_value t; rotate_left; unfold t; clear t) | clear_value t)
    | with_reducible first
      | refine tidy_ite ?_ ?_
      | refine State.refuseState_tidy ?_
      | refine State.stepTime_tidy hq ?_
    | simp only [↓tidy_mk_iff, ↓tidy_parts_iff]
    | split

theorem execTimeStep_tidy {m : Requester} {s : State} (hq : ∀ n, Q.clock n) (hs : s.Tidy Q) : TidyOut Q (execTimeStep m s) := by
  unfold execTimeStep
  repeat' first
    | with_reducible assumption
    | with_reducible first
      | refine tidyOut_next ?_
      | refine State.timeCmd_tidy hq ?_
      | refine State.writeAccess_tidy ?_ (fun _ _ => ?_)

theorem execTimeStepRef_tidy {m : Requester} {s : State} (hq : ∀ n, Q.clock n) (hs : s.Tidy Q) : TidyOut Q (execTimeStepRef m s) := by
  unfold execTimeStepRef
  repeat' first
    | with_reducible assumption
    | with_reducible first
      | refine tidyOut_next ?_
      | refine State.timeCmd_tidy hq ?_
      | refine State.writeAccess_tidy ?_ (fun _ _ => ?_)

theorem State.qualComplete_tidy {s0 : State} {phase : Int} {freq : Int} {pulses : Bool} {exchanges : Nat} {unbroken : Bool} (hq : ∀ n, Q.clock n) (hs0 : s0.Tidy Q) : State.Tidy Q (State.qualComplete s0 phase freq pulses exchanges unbroken) := by
  unfold State.qualComplete
  repeat' first
    | with_reducible assumption
    | ((try lift_lets); intro t; first | (refine tidy_have (Q := Q) (t := t) ?_ (fun _ => ?_); rotate_left; clear_value t; rotate_left; unfold t; clear t) | clear_value t)
    | with_reducible first
      | refine tidy_ite ?_ ?_
      | refine State.dpllTo_tidy ?_
      | refine State.qualFail_tidy ?_
      | refine State.refSync_tidy ?_
      | refine State.setCand_tidy ?_
      | refine State.stepTime_tidy hq ?_
    | simp only [↓tidy_mk_iff, ↓tidy_parts_iff]
    | split

theorem execQualComplete_tidy {phase : Int} {freq : Int} {pulses : Bool} {exchanges : Nat} {unbroken : Bool} {s : State} (hq : ∀ n, Q.clock n) (hs : s.Tidy Q) : TidyOut Q (execQualComplete phase freq pulses exchanges unbroken s) := by
  unfold execQualComplete
  repeat' first
    | with_reducible assumption
    | with_reducible first
      | refine tidyOut_next ?_
      | refine State.qualComplete_tidy hq ?_

end Sys2Proof.Machine
end

