-- ==== Sys2Proof/Laws/KeepTwin.lean ====
section
/-! SUPPORT. Every operation of Machine/Twin.lean keeps a state tidy. -/

set_option Elab.async false

namespace Sys2Proof.Machine

set_option linter.unusedSimpArgs false

variable {Q : Base}

theorem State.setTwin_tidy {s : State} {x : TwinState} (hs : s.Tidy Q) : State.Tidy Q (State.setTwin s x) := by
  unfold State.setTwin
  repeat' first
    | with_reducible assumption
    | ((try lift_lets); intro t; first | (refine tidy_have (Q := Q) (t := t) ?_ (fun _ => ?_); rotate_left; clear_value t; rotate_left; unfold t; clear t) | clear_value t)
    | simp only [↓tidy_mk_iff, ↓tidy_parts_iff]

theorem State.tell_tidy {s : State} {r : CtlRec} (hs : s.Tidy Q) : State.Tidy Q (State.tell s r) := by
  unfold State.tell
  repeat' first
    | with_reducible assumption
    | ((try lift_lets); intro t; first | (refine tidy_have (Q := Q) (t := t) ?_ (fun _ => ?_); rotate_left; clear_value t; rotate_left; unfold t; clear t) | clear_value t)
    | with_reducible first
      | refine tidy_ite ?_ ?_
      | refine State.setTwin_tidy ?_
    | simp only [↓tidy_mk_iff, ↓tidy_parts_iff]

theorem State.setRoles_tidy {s : State} {new : Nat} {reason : Nat} (hs : s.Tidy Q) : State.Tidy Q (State.setRoles s new reason) := by
  unfold State.setRoles
  repeat' first
    | with_reducible assumption
    | with_reducible first
      | refine tidy_ite ?_ ?_
      | refine State.reselect_tidy ?_
      | refine State.setFld_tidy ?_

theorem State.giveRoles_tidy {s : State} {revert : Bool} (hs : s.Tidy Q) : State.Tidy Q (State.giveRoles s revert) := by
  unfold State.giveRoles
  repeat' first
    | with_reducible assumption
    | ((try lift_lets); intro t; first | (refine tidy_have (Q := Q) (t := t) ?_ (fun _ => ?_); rotate_left; clear_value t; rotate_left; unfold t; clear t) | clear_value t)
    | with_reducible first
      | refine tidy_ite ?_ ?_
      | refine State.setTwin_tidy ?_
      | refine State.tell_tidy ?_
    | simp only [↓tidy_mk_iff, ↓tidy_parts_iff]

theorem State.holdSync_tidy {s : State} (hs : s.Tidy Q) : State.Tidy Q (State.holdSync s) := by
  unfold State.holdSync
  repeat' first
    | with_reducible assumption
    | ((try lift_lets); intro t; first | (refine tidy_have (Q := Q) (t := t) ?_ (fun _ => ?_); rotate_left; clear_value t; rotate_left; unfold t; clear t) | clear_value t)
    | with_reducible first
      | refine tidy_ite ?_ ?_
      | refine State.setTwin_tidy ?_
    | simp only [↓tidy_mk_iff, ↓tidy_parts_iff]

theorem State.revert_tidy {s : State} (hs : s.Tidy Q) : State.Tidy Q (State.revert s) := by
  unfold State.revert
  repeat' first
    | with_reducible assumption
    | ((try lift_lets); intro t; first | (refine tidy_have (Q := Q) (t := t) ?_ (fun _ => ?_); rotate_left; clear_value t; rotate_left; unfold t; clear t) | clear_value t)
    | with_reducible first
      | refine tidy_ite ?_ ?_
      | refine State.giveRoles_tidy ?_
      | refine State.holdSync_tidy ?_

theorem execHoldoffExpire_tidy {s : State} (hs : s.Tidy Q) : TidyOut Q (execHoldoffExpire s) := by
  unfold execHoldoffExpire
  repeat' first
    | with_reducible assumption
    | with_reducible first
      | refine tidyOut_next ?_
      | refine State.revert_tidy ?_

theorem State.twinCtrl_tidy {s : State} {v : Nat} (hs : s.Tidy Q) : State.Tidy Q (State.twinCtrl s v) := by
  unfold State.twinCtrl
  repeat' first
    | with_reducible assumption
    | ((try lift_lets); intro t; first | (refine tidy_have (Q := Q) (t := t) ?_ (fun _ => ?_); rotate_left; clear_value t; rotate_left; unfold t; clear t) | clear_value t)
    | with_reducible first
      | refine tidy_ite ?_ ?_
      | refine State.giveRoles_tidy ?_
      | refine State.revert_tidy ?_
      | refine State.setBit_tidy ?_

theorem execSelftestOk_tidy {m : Requester} {s : State} (hs : s.Tidy Q) : TidyOut Q (execSelftestOk m s) := by
  unfold execSelftestOk
  repeat' first
    | with_reducible assumption
    | with_reducible first
      | refine tidyOut_next ?_
      | refine State.twinCtrl_tidy ?_
      | refine State.writeAccess_tidy ?_ (fun _ _ => ?_)

theorem execSelftestClr_tidy {m : Requester} {s : State} (hs : s.Tidy Q) : TidyOut Q (execSelftestClr m s) := by
  unfold execSelftestClr
  repeat' first
    | with_reducible assumption
    | with_reducible first
      | refine tidyOut_next ?_
      | refine State.twinCtrl_tidy ?_
      | refine State.writeAccess_tidy ?_ (fun _ _ => ?_)

theorem execRelease_tidy {m : Requester} {s : State} (hs : s.Tidy Q) : TidyOut Q (execRelease m s) := by
  unfold execRelease
  repeat' first
    | with_reducible assumption
    | with_reducible first
      | refine tidyOut_next ?_
      | refine State.twinCtrl_tidy ?_
      | refine State.writeAccess_tidy ?_ (fun _ _ => ?_)

theorem execRevertNow_tidy {m : Requester} {s : State} (hs : s.Tidy Q) : TidyOut Q (execRevertNow m s) := by
  unfold execRevertNow
  repeat' first
    | with_reducible assumption
    | with_reducible first
      | refine tidyOut_next ?_
      | refine State.twinCtrl_tidy ?_
      | refine State.writeAccess_tidy ?_ (fun _ _ => ?_)

theorem State.roleGiveRx_tidy {s : State} {roles : Nat} {epoch : Nat} (hs : s.Tidy Q) : State.Tidy Q (State.roleGiveRx s roles epoch) := by
  unfold State.roleGiveRx
  repeat' first
    | with_reducible assumption
    | ((try lift_lets); intro t; first | (refine tidy_have (Q := Q) (t := t) ?_ (fun _ => ?_); rotate_left; clear_value t; rotate_left; unfold t; clear t) | clear_value t)
    | with_reducible first
      | refine tidy_ite ?_ ?_
      | refine State.atEpoch_tidy (fun _ => ?_) ?_
      | refine State.revert_tidy ?_
      | refine State.setTwin_tidy ?_
      | refine State.tell_tidy ?_
    | simp only [↓tidy_mk_iff, ↓tidy_parts_iff]

theorem State.roleTakeRx_tidy {s : State} {epoch : Nat} (hs : s.Tidy Q) : State.Tidy Q (State.roleTakeRx s epoch) := by
  unfold State.roleTakeRx
  repeat' first
    | with_reducible assumption
    | ((try lift_lets); intro t; first | (refine tidy_have (Q := Q) (t := t) ?_ (fun _ => ?_); rotate_left; clear_value t; rotate_left; unfold t; clear t) | clear_value t)
    | with_reducible first
      | refine tidy_ite ?_ ?_
      | refine State.setTwin_tidy ?_
    | simp only [↓tidy_mk_iff, ↓tidy_parts_iff]
    | split

theorem State.roleCancelRx_tidy {s : State} {epoch : Nat} (hs : s.Tidy Q) : State.Tidy Q (State.roleCancelRx s epoch) := by
  unfold State.roleCancelRx
  repeat' first
    | with_reducible assumption
    | ((try lift_lets); intro t; first | (refine tidy_have (Q := Q) (t := t) ?_ (fun _ => ?_); rotate_left; clear_value t; rotate_left; unfold t; clear t) | clear_value t)
    | with_reducible first
      | refine tidy_ite ?_ ?_
      | refine State.setTwin_tidy ?_
    | simp only [↓tidy_mk_iff, ↓tidy_parts_iff]
    | split

theorem execRoleGiveRx_tidy {roles : Nat} {epoch : Nat} {s : State} (hs : s.Tidy Q) : TidyOut Q (execRoleGiveRx roles epoch s) := by
  unfold execRoleGiveRx
  repeat' first
    | with_reducible assumption
    | with_reducible first
      | refine tidyOut_next ?_
      | refine State.roleGiveRx_tidy ?_

theorem execRoleTakeRx_tidy {epoch : Nat} {s : State} (hs : s.Tidy Q) : TidyOut Q (execRoleTakeRx epoch s) := by
  unfold execRoleTakeRx
  repeat' first
    | with_reducible assumption
    | with_reducible first
      | refine tidyOut_next ?_
      | refine State.roleTakeRx_tidy ?_

theorem execRoleCancelRx_tidy {epoch : Nat} {s : State} (hs : s.Tidy Q) : TidyOut Q (execRoleCancelRx epoch s) := by
  unfold execRoleCancelRx
  repeat' first
    | with_reducible assumption
    | with_reducible first
      | refine tidyOut_next ?_
      | refine State.roleCancelRx_tidy ?_

theorem State.roleDue_tidy {s : State} (hs : s.Tidy Q) : State.Tidy Q (State.roleDue s) := by
  unfold State.roleDue
  repeat' first
    | with_reducible assumption
    | ((try lift_lets); intro t; first | (refine tidy_have (Q := Q) (t := t) ?_ (fun _ => ?_); rotate_left; clear_value t; rotate_left; unfold t; clear t) | clear_value t)
    | with_reducible first
      | refine tidy_ite ?_ ?_
      | refine State.bump_tidy ?_
      | refine State.setRoles_tidy ?_
      | refine State.setTwin_tidy ?_
    | simp only [↓tidy_mk_iff, ↓tidy_parts_iff]

theorem State.roleDoubled_tidy {s : State} (hs : s.Tidy Q) : State.Tidy Q (State.roleDoubled s) := by
  unfold State.roleDoubled
  repeat' first
    | with_reducible assumption
    | ((try lift_lets); intro t; first | (refine tidy_have (Q := Q) (t := t) ?_ (fun _ => ?_); rotate_left; clear_value t; rotate_left; unfold t; clear t) | clear_value t)
    | with_reducible first
      | refine tidy_ite ?_ ?_
      | refine State.raise_tidy ?_
      | refine State.setRoles_tidy ?_

theorem State.roleEmpty_tidy {s : State} {claims : Nat} (hs : s.Tidy Q) : State.Tidy Q (State.roleEmpty s claims) := by
  unfold State.roleEmpty
  repeat' first
    | with_reducible assumption
    | ((try lift_lets); intro t; first | (refine tidy_have (Q := Q) (t := t) ?_ (fun _ => ?_); rotate_left; clear_value t; rotate_left; unfold t; clear t) | clear_value t)
    | with_reducible first
      | refine tidy_ite ?_ ?_
      | refine State.setRoles_tidy ?_
      | refine State.setTwin_tidy ?_
    | simp only [↓tidy_mk_iff, ↓tidy_parts_iff]

theorem State.roleMoved_tidy {s : State} {new : Nat} {revert : Bool} (hs : s.Tidy Q) : State.Tidy Q (State.roleMoved s new revert) := by
  unfold State.roleMoved
  repeat' first
    | with_reducible assumption
    | ((try lift_lets); intro t; first | (refine tidy_have (Q := Q) (t := t) ?_ (fun _ => ?_); rotate_left; clear_value t; rotate_left; unfold t; clear t) | clear_value t)
    | with_reducible first
      | refine tidy_ite ?_ ?_
      | refine State.bump_tidy ?_
      | refine State.revert_tidy ?_
      | refine State.setRoles_tidy ?_

theorem State.roleGiven_tidy {s : State} (hs : s.Tidy Q) : State.Tidy Q (State.roleGiven s) := by
  unfold State.roleGiven
  repeat' first
    | with_reducible assumption
    | ((try lift_lets); intro t; first | (refine tidy_have (Q := Q) (t := t) ?_ (fun _ => ?_); rotate_left; clear_value t; rotate_left; unfold t; clear t) | clear_value t)
    | with_reducible first
      | refine tidy_ite ?_ ?_
      | refine State.revert_tidy ?_
      | refine State.roleMoved_tidy ?_
      | refine State.setTwin_tidy ?_
      | refine State.tell_tidy ?_
    | simp only [↓tidy_mk_iff, ↓tidy_parts_iff]
    | split

theorem State.roleTaken_tidy {s : State} (hs : s.Tidy Q) : State.Tidy Q (State.roleTaken s) := by
  unfold State.roleTaken
  repeat' first
    | with_reducible assumption
    | ((try lift_lets); intro t; first | (refine tidy_have (Q := Q) (t := t) ?_ (fun _ => ?_); rotate_left; clear_value t; rotate_left; unfold t; clear t) | clear_value t)
    | with_reducible first
      | refine tidy_ite ?_ ?_
      | refine State.revert_tidy ?_
      | refine State.roleMoved_tidy ?_
      | refine State.setTwin_tidy ?_
    | simp only [↓tidy_mk_iff, ↓tidy_parts_iff]
    | split

theorem State.roleStep_tidy {s : State} (hs : s.Tidy Q) : State.Tidy Q (State.roleStep s) := by
  unfold State.roleStep
  repeat' first
    | with_reducible assumption
    | ((try lift_lets); intro t; first | (refine tidy_have (Q := Q) (t := t) ?_ (fun _ => ?_); rotate_left; clear_value t; rotate_left; unfold t; clear t) | clear_value t)
    | with_reducible first
      | refine tidy_ite ?_ ?_
      | refine State.giveRoles_tidy ?_
      | refine State.roleDoubled_tidy ?_
      | refine State.roleDue_tidy ?_
      | refine State.roleEmpty_tidy ?_
      | refine State.roleGiven_tidy ?_
      | refine State.roleTaken_tidy ?_

theorem State.setPairRx_tidy {s : State} {k : Nat} {v : Nat} (hs : s.Tidy Q) : State.Tidy Q (State.setPairRx s k v) := by
  unfold State.setPairRx
  repeat' first
    | with_reducible assumption
    | with_reducible first
      | refine State.setFld_tidy ?_

theorem State.lanesStart_tidy {s : State} (hs : s.Tidy Q) : State.Tidy Q (State.lanesStart s) := by
  unfold State.lanesStart
  repeat' first
    | with_reducible assumption
    | ((try lift_lets); intro t; first | (refine tidy_have (Q := Q) (t := t) ?_ (fun _ => ?_); rotate_left; clear_value t; rotate_left; unfold t; clear t) | clear_value t)
    | with_reducible first
      | refine tidy_ite ?_ ?_
      | refine tidy_foldl (fun _ _ _ => ?_) ?_
      | refine tidy1_foldl (fun _ _ _ => ?_) ?_
      | refine State.setBit_tidy ?_
      | refine State.setFld_tidy ?_
      | refine State.setPairRx_tidy ?_
      | refine State.setTwin_tidy ?_
    | simp only [↓tidy_mk_iff, ↓tidy_parts_iff]

theorem State.setPair_tidy {s : State} {n : Nat} (hs : s.Tidy Q) : State.Tidy Q (State.setPair s n) := by
  unfold State.setPair
  repeat' first
    | with_reducible assumption
    | ((try lift_lets); intro t; first | (refine tidy_have (Q := Q) (t := t) ?_ (fun _ => ?_); rotate_left; clear_value t; rotate_left; unfold t; clear t) | clear_value t)
    | with_reducible first
      | refine State.setFld_tidy ?_
      | refine State.setTwin_tidy ?_
    | simp only [↓tidy_mk_iff, ↓tidy_parts_iff]

theorem State.twinGone_tidy {s : State} (hs : s.Tidy Q) : State.Tidy Q (State.twinGone s) := by
  unfold State.twinGone
  repeat' first
    | with_reducible assumption
    | with_reducible first
      | refine State.refLost_tidy ?_
      | refine State.reselect_tidy ?_

theorem State.noPartner_tidy {s : State} (hs : s.Tidy Q) : State.Tidy Q (State.noPartner s) := by
  unfold State.noPartner
  repeat' first
    | with_reducible assumption
    | ((try lift_lets); intro t; first | (refine tidy_have (Q := Q) (t := t) ?_ (fun _ => ?_); rotate_left; clear_value t; rotate_left; unfold t; clear t) | clear_value t)
    | with_reducible first
      | refine State.lanesStart_tidy ?_
      | refine State.setFld_tidy ?_
      | refine State.setPair_tidy ?_
      | refine State.setTwin_tidy ?_
      | refine State.twinGone_tidy ?_
    | simp only [↓tidy_mk_iff, ↓tidy_parts_iff]

theorem State.partnerLost_tidy {s : State} (hs : s.Tidy Q) : State.Tidy Q (State.partnerLost s) := by
  unfold State.partnerLost
  repeat' first
    | with_reducible assumption
    | ((try lift_lets); intro t; first | (refine tidy_have (Q := Q) (t := t) ?_ (fun _ => ?_); rotate_left; clear_value t; rotate_left; unfold t; clear t) | clear_value t)
    | with_reducible first
      | refine State.noPartner_tidy ?_
      | refine State.raise_tidy ?_
      | refine State.setTwin_tidy ?_
    | simp only [↓tidy_mk_iff, ↓tidy_parts_iff]

theorem State.enterSplit_tidy {s : State} (hs : s.Tidy Q) : State.Tidy Q (State.enterSplit s) := by
  unfold State.enterSplit
  repeat' first
    | with_reducible assumption
    | ((try lift_lets); intro t; first | (refine tidy_have (Q := Q) (t := t) ?_ (fun _ => ?_); rotate_left; clear_value t; rotate_left; unfold t; clear t) | clear_value t)
    | with_reducible first
      | refine State.bump_tidy ?_
      | refine State.raise_tidy ?_
      | refine State.setPair_tidy ?_
      | refine State.setTwin_tidy ?_
      | refine State.twinGone_tidy ?_
    | simp only [↓tidy_mk_iff, ↓tidy_parts_iff]

theorem execHbEdge_tidy {s : State} (hs : s.Tidy Q) : TidyOut Q (execHbEdge s) := by
  unfold execHbEdge
  repeat' first
    | with_reducible assumption
    | with_reducible first
      | refine tidyOut_next ?_
      | refine State.setBit_tidy ?_

theorem State.hbLoss_tidy {s : State} (hs : s.Tidy Q) : State.Tidy Q (State.hbLoss s) := by
  unfold State.hbLoss
  repeat' first
    | with_reducible assumption
    | ((try lift_lets); intro t; first | (refine tidy_have (Q := Q) (t := t) ?_ (fun _ => ?_); rotate_left; clear_value t; rotate_left; unfold t; clear t) | clear_value t)
    | with_reducible first
      | refine tidy_ite ?_ ?_
      | refine State.partnerLost_tidy ?_
      | refine State.setBit_tidy ?_

theorem execHbLoss_tidy {s : State} (hs : s.Tidy Q) : TidyOut Q (execHbLoss s) := by
  unfold execHbLoss
  repeat' first
    | with_reducible assumption
    | with_reducible first
      | refine tidyOut_next ?_
      | refine State.hbLoss_tidy ?_

theorem State.aloneExpire_tidy {s : State} (hs : s.Tidy Q) : State.Tidy Q (State.aloneExpire s) := by
  unfold State.aloneExpire
  repeat' first
    | with_reducible assumption
    | ((try lift_lets); intro t; first | (refine tidy_have (Q := Q) (t := t) ?_ (fun _ => ?_); rotate_left; clear_value t; rotate_left; unfold t; clear t) | clear_value t)
    | with_reducible first
      | refine tidy_ite ?_ ?_
      | refine State.enterSplit_tidy ?_
      | refine State.setRoles_tidy ?_
      | refine State.setTwin_tidy ?_
    | simp only [↓tidy_mk_iff, ↓tidy_parts_iff]

theorem execAloneExpire_tidy {s : State} (hs : s.Tidy Q) : TidyOut Q (execAloneExpire s) := by
  unfold execAloneExpire
  repeat' first
    | with_reducible assumption
    | with_reducible first
      | refine tidyOut_next ?_
      | refine State.aloneExpire_tidy ?_

theorem State.partnerTimeout_tidy {s : State} (hs : s.Tidy Q) : State.Tidy Q (State.partnerTimeout s) := by
  unfold State.partnerTimeout
  repeat' first
    | with_reducible assumption
    | ((try lift_lets); intro t; first | (refine tidy_have (Q := Q) (t := t) ?_ (fun _ => ?_); rotate_left; clear_value t; rotate_left; unfold t; clear t) | clear_value t)
    | with_reducible first
      | refine tidy_ite ?_ ?_
      | refine State.enterSplit_tidy ?_
      | refine State.noPartner_tidy ?_
      | refine State.partnerLost_tidy ?_
    | split

theorem execPartnerTimeout_tidy {s : State} (hs : s.Tidy Q) : TidyOut Q (execPartnerTimeout s) := by
  unfold execPartnerTimeout
  repeat' first
    | with_reducible assumption
    | with_reducible first
      | refine tidyOut_next ?_
      | refine State.partnerTimeout_tidy ?_

theorem State.pairEstablish_tidy {s : State} (hs : s.Tidy Q) : State.Tidy Q (State.pairEstablish s) := by
  unfold State.pairEstablish
  repeat' first
    | with_reducible assumption
    | ((try lift_lets); intro t; first | (refine tidy_have (Q := Q) (t := t) ?_ (fun _ => ?_); rotate_left; clear_value t; rotate_left; unfold t; clear t) | clear_value t)
    | with_reducible first
      | refine tidy_ite ?_ ?_
      | refine State.reselect_tidy ?_
      | refine State.setPair_tidy ?_
      | refine State.setTwin_tidy ?_
    | simp only [↓tidy_mk_iff, ↓tidy_parts_iff]

theorem execPairEstablish_tidy {s : State} (hs : s.Tidy Q) : TidyOut Q (execPairEstablish s) := by
  unfold execPairEstablish
  repeat' first
    | with_reducible assumption
    | with_reducible first
      | refine tidyOut_next ?_
      | refine State.pairEstablish_tidy ?_

theorem State.twinStart_tidy {s : State} (hs : s.Tidy Q) : State.Tidy Q (State.twinStart s) := by
  unfold State.twinStart
  repeat' first
    | with_reducible assumption
    | ((try lift_lets); intro t; first | (refine tidy_have (Q := Q) (t := t) ?_ (fun _ => ?_); rotate_left; clear_value t; rotate_left; unfold t; clear t) | clear_value t)
    | with_reducible first
      | refine State.lanesStart_tidy ?_
      | refine State.setFld_tidy ?_
      | refine State.setPair_tidy ?_
      | refine State.setTwin_tidy ?_
    | simp only [↓tidy_mk_iff, ↓tidy_parts_iff]

theorem State.twinStop_tidy {s : State} (hs : s.Tidy Q) : State.Tidy Q (State.twinStop s) := by
  unfold State.twinStop
  repeat' first
    | with_reducible assumption
    | ((try lift_lets); intro t; first | (refine tidy_have (Q := Q) (t := t) ?_ (fun _ => ?_); rotate_left; clear_value t; rotate_left; unfold t; clear t) | clear_value t)
    | with_reducible first
      | refine tidy_foldl (fun _ _ _ => ?_) ?_
      | refine tidy1_foldl (fun _ _ _ => ?_) ?_
      | refine State.setFld_tidy ?_
      | refine State.setPairRx_tidy ?_
      | refine State.setPair_tidy ?_
      | refine State.setTwin_tidy ?_
      | refine State.twinGone_tidy ?_
    | simp only [↓tidy_mk_iff, ↓tidy_parts_iff]

theorem State.laneFail_tidy {s : State} {k : Nat} (hs : s.Tidy Q) : State.Tidy Q (State.laneFail s k) := by
  unfold State.laneFail
  repeat' first
    | with_reducible assumption
    | ((try lift_lets); intro t; first | (refine tidy_have (Q := Q) (t := t) ?_ (fun _ => ?_); rotate_left; clear_value t; rotate_left; unfold t; clear t) | clear_value t)
    | with_reducible first
      | refine tidy_ite ?_ ?_
      | refine State.raise_tidy ?_
      | refine State.setBit_tidy ?_
      | refine State.setPairRx_tidy ?_
      | refine State.setTwin_tidy ?_
      | refine State.tell_tidy ?_
      | refine tidy1_st ?_
    | simp only [↓tidy1_pair_iff]
    | simp only [↓tidy_mk_iff, ↓tidy_parts_iff]
    | split

theorem execLaneFail_tidy {k : Nat} {s : State} (hs : s.Tidy Q) : TidyOut Q (execLaneFail k s) := by
  unfold execLaneFail
  repeat' first
    | with_reducible assumption
    | with_reducible first
      | refine tidyOut_next ?_
      | refine State.laneFail_tidy ?_

theorem State.laneRx_tidy {s : State} {mask : Nat} {epoch : Nat} (hs : s.Tidy Q) : State.Tidy Q (State.laneRx s mask epoch) := by
  unfold State.laneRx
  repeat' first
    | with_reducible assumption
    | ((try lift_lets); intro t; first | (refine tidy_have (Q := Q) (t := t) ?_ (fun _ => ?_); rotate_left; clear_value t; rotate_left; unfold t; clear t) | clear_value t)
    | with_reducible first
      | refine tidy_ite ?_ ?_
      | refine tidy_foldl (fun _ _ _ => ?_) ?_
      | refine tidy1_foldl (fun _ _ _ => ?_) ?_
      | refine State.atEpoch_tidy (fun _ => ?_) ?_
      | refine State.setPairRx_tidy ?_
      | refine State.setTwin_tidy ?_
    | simp only [↓tidy_mk_iff, ↓tidy_parts_iff]

theorem execLaneRx_tidy {active : Nat} {epoch : Nat} {s : State} (hs : s.Tidy Q) : TidyOut Q (execLaneRx active epoch s) := by
  unfold execLaneRx
  repeat' first
    | with_reducible assumption
    | with_reducible first
      | refine tidy_ite ?_ ?_
      | refine tidyOut_next ?_
      | refine State.laneRx_tidy ?_

theorem State.spareActivate_tidy {s : State} (hs : s.Tidy Q) : State.Tidy Q (State.spareActivate s) := by
  unfold State.spareActivate
  repeat' first
    | with_reducible assumption
    | ((try lift_lets); intro t; first | (refine tidy_have (Q := Q) (t := t) ?_ (fun _ => ?_); rotate_left; clear_value t; rotate_left; unfold t; clear t) | clear_value t)
    | with_reducible first
      | refine tidy_ite ?_ ?_
      | refine tidy_foldl (fun _ _ _ => ?_) ?_
      | refine tidy1_foldl (fun _ _ _ => ?_) ?_
      | refine State.raise_tidy ?_
      | refine State.setBit_tidy ?_
      | refine State.setPairRx_tidy ?_
      | refine State.setTwin_tidy ?_
      | refine tidy1_st ?_
    | simp only [↓tidy1_pair_iff]
    | simp only [↓tidy_mk_iff, ↓tidy_parts_iff]
    | split

theorem execSpareActivate_tidy {s : State} (hs : s.Tidy Q) : TidyOut Q (execSpareActivate s) := by
  unfold execSpareActivate
  repeat' first
    | with_reducible assumption
    | with_reducible first
      | refine tidyOut_next ?_
      | refine State.spareActivate_tidy ?_

theorem State.pairHeaderInvalid_tidy {s : State} {k : Nat} {b : Nat} (hs : s.Tidy Q) : State.Tidy Q (State.pairHeaderInvalid s k b) := by
  unfold State.pairHeaderInvalid
  repeat' first
    | with_reducible assumption
    | ((try lift_lets); intro t; first | (refine tidy_have (Q := Q) (t := t) ?_ (fun _ => ?_); rotate_left; clear_value t; rotate_left; unfold t; clear t) | clear_value t)
    | with_reducible first
      | refine tidy_ite ?_ ?_
      | refine State.setLane_tidy ?_
      | refine State.setPairRx_tidy ?_
    | simp only [↓tidy_mk_iff, ↓tidy_parts_iff]

theorem State.pairLock_tidy {s : State} {k : Nat} (hs : s.Tidy Q) : State.Tidy Q (State.pairLock s k) := by
  unfold State.pairLock
  repeat' first
    | with_reducible assumption
    | ((try lift_lets); intro t; first | (refine tidy_have (Q := Q) (t := t) ?_ (fun _ => ?_); rotate_left; clear_value t; rotate_left; unfold t; clear t) | clear_value t)
    | with_reducible first
      | refine tidy_ite ?_ ?_
      | refine State.setLane_tidy ?_
      | refine State.setPairRx_tidy ?_
    | simp only [↓tidy_mk_iff, ↓tidy_parts_iff]

theorem State.pairRecovery_tidy {s : State} {k : Nat} (hs : s.Tidy Q) : State.Tidy Q (State.pairRecovery s k) := by
  unfold State.pairRecovery
  repeat' first
    | with_reducible assumption
    | ((try lift_lets); intro t; first | (refine tidy_have (Q := Q) (t := t) ?_ (fun _ => ?_); rotate_left; clear_value t; rotate_left; unfold t; clear t) | clear_value t)
    | with_reducible first
      | refine tidy_ite ?_ ?_
      | refine State.setLane_tidy ?_
      | refine State.setPairRx_tidy ?_
    | simp only [↓tidy_mk_iff, ↓tidy_parts_iff]

theorem State.diverge_tidy {s : State} {r : Nat} {d : Nat} (hs : s.Tidy Q) : State.Tidy Q (State.diverge s r d) := by
  unfold State.diverge
  repeat' first
    | with_reducible assumption
    | ((try lift_lets); intro t; first | (refine tidy_have (Q := Q) (t := t) ?_ (fun _ => ?_); rotate_left; clear_value t; rotate_left; unfold t; clear t) | clear_value t)
    | with_reducible first
      | refine tidy_ite ?_ ?_
      | refine State.bump_tidy ?_
      | refine State.raise_tidy ?_
      | refine State.setTwin_tidy ?_
      | refine State.wrWords_tidy ?_
      | refine tidyO_getD ?_ ?_
    | simp only [↓tidy_mk_iff, ↓tidy_parts_iff]

theorem State.compareHash_tidy {s : State} {r : Nat} {d : Nat} (hs : s.Tidy Q) : State.Tidy Q (State.compareHash s r d) := by
  unfold State.compareHash
  repeat' first
    | with_reducible assumption
    | ((try lift_lets); intro t; first | (refine tidy_have (Q := Q) (t := t) ?_ (fun _ => ?_); rotate_left; clear_value t; rotate_left; unfold t; clear t) | clear_value t)
    | with_reducible first
      | refine tidy_ite ?_ ?_
      | refine State.bump_tidy ?_
      | refine State.diverge_tidy ?_
      | refine State.setTwin_tidy ?_
    | simp only [↓tidy_mk_iff, ↓tidy_parts_iff]
    | split

theorem State.hashEnd_tidy {s : State} (hs : s.Tidy Q) : State.Tidy Q (State.hashEnd s) := by
  unfold State.hashEnd
  repeat' first
    | with_reducible assumption
    | ((try lift_lets); intro t; first | (refine tidy_have (Q := Q) (t := t) ?_ (fun _ => ?_); rotate_left; clear_value t; rotate_left; unfold t; clear t) | clear_value t)
    | with_reducible first
      | refine tidy_ite ?_ ?_
      | refine tidy_foldl (fun _ _ _ => ?_) ?_
      | refine tidy1_foldl (fun _ _ _ => ?_) ?_
      | refine State.bumpBy_tidy ?_
      | refine State.compareHash_tidy ?_
      | refine State.raise_tidy ?_
      | refine State.setTwin_tidy ?_
      | refine tidy1_st ?_
      | refine tidy_now hq ?_
    | simp only [↓tidy1_pair_iff]
    | simp only [↓tidy_mk_iff, ↓tidy_parts_iff]

theorem State.hashRx_tidy {s : State} {epoch : Nat} {first : Nat} {hashes : List Nat} (hs : s.Tidy Q) : State.Tidy Q (State.hashRx s epoch first hashes) := by
  unfold State.hashRx
  repeat' first
    | with_reducible assumption
    | ((try lift_lets); intro t; first | (refine tidy_have (Q := Q) (t := t) ?_ (fun _ => ?_); rotate_left; clear_value t; rotate_left; unfold t; clear t) | clear_value t)
    | with_reducible first
      | refine tidy_ite ?_ ?_
      | refine tidy_foldl (fun _ _ _ => ?_) ?_
      | refine tidy1_foldl (fun _ _ _ => ?_) ?_
      | refine State.compareHash_tidy ?_
      | refine State.setTwin_tidy ?_
      | refine tidy1_st ?_
    | simp only [↓tidy1_pair_iff]
    | simp only [↓tidy_mk_iff, ↓tidy_parts_iff]

theorem execHashRx_tidy {epoch : Nat} {first : Nat} {hashes : List Nat} {s : State} (hs : s.Tidy Q) : TidyOut Q (execHashRx epoch first hashes s) := by
  unfold execHashRx
  repeat' first
    | with_reducible assumption
    | with_reducible first
      | refine tidyOut_next ?_
      | refine State.hashRx_tidy ?_

theorem State.partnerDpll_tidy {s : State} {d : Nat} (hs : s.Tidy Q) : State.Tidy Q (State.partnerDpll s d) := by
  unfold State.partnerDpll
  repeat' first
    | with_reducible assumption
    | ((try lift_lets); intro t; first | (refine tidy_have (Q := Q) (t := t) ?_ (fun _ => ?_); rotate_left; clear_value t; rotate_left; unfold t; clear t) | clear_value t)
    | with_reducible first
      | refine tidy_ite ?_ ?_
      | refine State.setTwin_tidy ?_
    | simp only [↓tidy_mk_iff, ↓tidy_parts_iff]

theorem State.statusRx_tidy {s : State} {selftest : Bool} {inhibit : Bool} {dpll : Nat} {valid : Bool} {imageId : Nat} {hdrCrc : Nat} (hs : s.Tidy Q) : State.Tidy Q (State.statusRx s selftest inhibit dpll valid imageId hdrCrc) := by
  unfold State.statusRx
  repeat' first
    | with_reducible assumption
    | ((try lift_lets); intro t; first | (refine tidy_have (Q := Q) (t := t) ?_ (fun _ => ?_); rotate_left; clear_value t; rotate_left; unfold t; clear t) | clear_value t)
    | with_reducible first
      | refine tidy_ite ?_ ?_
      | refine State.holdSync_tidy ?_
      | refine State.partnerDpll_tidy ?_
      | refine State.setBit_tidy ?_
      | refine State.setTwin_tidy ?_
    | simp only [↓tidy_mk_iff, ↓tidy_parts_iff]

theorem execStatusRx_tidy {selftest : Bool} {revertInh : Bool} {profile : Nat} {dpll : Nat} {ql : Nat} {imgValid : Bool} {imageId : Nat} {hdrCrc : Nat} {s : State} (hs : s.Tidy Q) : TidyOut Q (execStatusRx selftest revertInh profile dpll ql imgValid imageId hdrCrc s) := by
  unfold execStatusRx
  repeat' first
    | with_reducible assumption
    | ((try lift_lets); intro t; first | (refine tidy_have (Q := Q) (t := t) ?_ (fun _ => ?_); rotate_left; clear_value t; rotate_left; unfold t; clear t) | clear_value t)
    | with_reducible first
      | refine tidyOut_next ?_
      | refine State.statusRx_tidy ?_

theorem State.twinOffset_tidy {s : State} (hs : s.Tidy Q) : State.Tidy Q (State.twinOffset s) := by
  unfold State.twinOffset
  repeat' first
    | with_reducible assumption
    | ((try lift_lets); intro t; first | (refine tidy_have (Q := Q) (t := t) ?_ (fun _ => ?_); rotate_left; clear_value t; rotate_left; unfold t; clear t) | clear_value t)
    | with_reducible first
      | refine tidy_ite ?_ ?_
      | refine State.keepMax_tidy ?_
      | refine State.raiseIf_tidy ?_
      | refine State.wrN_tidy ?_

theorem State.timeRx_tidy {s : State} {tm : Bool} {dpll : Nat} {ql : Nat} {raw : Int} (hs : s.Tidy Q) : State.Tidy Q (State.timeRx s tm dpll ql raw) := by
  unfold State.timeRx
  repeat' first
    | with_reducible assumption
    | ((try lift_lets); intro t; first | (refine tidy_have (Q := Q) (t := t) ?_ (fun _ => ?_); rotate_left; clear_value t; rotate_left; unfold t; clear t) | clear_value t)
    | with_reducible first
      | refine tidy_ite ?_ ?_
      | refine State.holdSync_tidy ?_
      | refine State.partnerDpll_tidy ?_
      | refine State.qlChange_tidy ?_
      | refine State.reselect_tidy ?_
      | refine State.setBit_tidy ?_
      | refine State.twinOffset_tidy ?_
      | refine State.wrN_tidy ?_
    | simp only [↓tidy_mk_iff, ↓tidy_parts_iff]
    | split

theorem execTimeRx_tidy {tm : Bool} {dpll : Nat} {ql : Nat} {meanRaw : Int} {s : State} (hs : s.Tidy Q) : TidyOut Q (execTimeRx tm dpll ql meanRaw s) := by
  unfold execTimeRx
  repeat' first
    | with_reducible assumption
    | with_reducible first
      | refine tidyOut_next ?_
      | refine State.timeRx_tidy ?_

theorem State.ptpDsRx_tidy {s : State} {ds : PtpDs} (hs : s.Tidy Q) : State.Tidy Q (State.ptpDsRx s ds) := by
  unfold State.ptpDsRx
  repeat' first
    | with_reducible assumption
    | ((try lift_lets); intro t; first | (refine tidy_have (Q := Q) (t := t) ?_ (fun _ => ?_); rotate_left; clear_value t; rotate_left; unfold t; clear t) | clear_value t)
    | with_reducible first
      | refine tidy_ite ?_ ?_
    | simp only [↓tidy_mk_iff, ↓tidy_parts_iff]

theorem execPtpDsRx_tidy {ds : PtpDs} {s : State} (hs : s.Tidy Q) : TidyOut Q (execPtpDsRx ds s) := by
  unfold execPtpDsRx
  repeat' first
    | with_reducible assumption
    | with_reducible first
      | refine tidyOut_next ?_
      | refine State.ptpDsRx_tidy ?_

theorem State.takeOfTwin_tidy {s : State} {tag : Nat} {op : Nat} {S : Nat} {T : Nat} {pairs : List (Nat × Nat)} (hs : s.Tidy Q) : State.Tidy Q (State.takeOfTwin s tag op S T pairs) := by
  unfold State.takeOfTwin
  repeat' first
    | with_reducible assumption
    | ((try lift_lets); intro t; first | (refine tidy_have (Q := Q) (t := t) ?_ (fun _ => ?_); rotate_left; clear_value t; rotate_left; unfold t; clear t) | (refine tidy1_have (Q := Q) (t := t) ?_ (fun _ => ?_); rotate_left; clear_value t; rotate_left; unfold t; clear t) | clear_value t)
    | with_reducible first
      | refine tidy_ite ?_ ?_
      | refine State.takeCancel_tidy ?_
      | refine State.takeEnter_tidy ?_
      | refine State.takeRefused_tidy ?_
      | refine State.tell_tidy ?_
      | refine tidy1_st ?_
    | simp only [↓tidy1_pair_iff]
    | simp only [↓tidy_mk_iff, ↓tidy_parts_iff]
    | split

theorem State.takeRx_tidy {s : State} {tag : Nat} {op : Nat} {S : Nat} {T : Nat} {members : List (Nat × Nat)} {last : Bool} (hs : s.Tidy Q) : State.Tidy Q (State.takeRx s tag op S T members last) := by
  unfold State.takeRx
  repeat' first
    | with_reducible assumption
    | ((try lift_lets); intro t; first | (refine tidy_have (Q := Q) (t := t) ?_ (fun _ => ?_); rotate_left; clear_value t; rotate_left; unfold t; clear t) | clear_value t)
    | with_reducible first
      | refine tidy_ite ?_ ?_
      | refine State.profSync_tidy ?_
      | refine State.takeOfTwin_tidy ?_
      | refine tidy1_st ?_
    | simp only [↓tidy1_pair_iff]
    | simp only [↓tidy_mk_iff, ↓tidy_parts_iff]

theorem execTwinTakeRx_tidy {tag : Nat} {op : Nat} {stamp : Nat} {time : Nat} {members : List (Nat × Nat)} {last : Bool} {s : State} (hs : s.Tidy Q) : TidyOut Q (execTwinTakeRx tag op stamp time members last s) := by
  unfold execTwinTakeRx
  repeat' first
    | with_reducible assumption
    | with_reducible first
      | refine tidyOut_next ?_
      | refine State.takeRx_tidy ?_

theorem State.agreeRx_tidy {s : State} {tag : Nat} {refuse : Bool} {reason : Nat} (hs : s.Tidy Q) : State.Tidy Q (State.agreeRx s tag refuse reason) := by
  unfold State.agreeRx
  repeat' first
    | with_reducible assumption
    | ((try lift_lets); intro t; first | (refine tidy_have (Q := Q) (t := t) ?_ (fun _ => ?_); rotate_left; clear_value t; rotate_left; unfold t; clear t) | (refine tidy1_have (Q := Q) (t := t) ?_ (fun _ => ?_); rotate_left; clear_value t; rotate_left; unfold t; clear t) | clear_value t)
    | with_reducible first
      | refine tidy_ite ?_ ?_
      | refine State.endMembers_tidy ?_
      | refine State.keepMax_tidy ?_
      | refine State.setTake_tidy ?_
      | refine State.takeSync_tidy ?_
      | refine State.twinLate_tidy ?_
      | refine tidy1_st ?_
    | simp only [↓tidy1_pair_iff]
    | simp only [↓tidy_mk_iff, ↓tidy_parts_iff]
    | split

theorem execAgreeRx_tidy {tag : Nat} {refuse : Bool} {reason : Nat} {s : State} (hs : s.Tidy Q) : TidyOut Q (execAgreeRx tag refuse reason s) := by
  unfold execAgreeRx
  repeat' first
    | with_reducible assumption
    | with_reducible first
      | refine tidyOut_next ?_
      | refine State.agreeRx_tidy ?_
      | refine State.profSync_tidy ?_

theorem State.imageArmRx_tidy {s : State} {epoch : Nat} {imageId : Nat} {hdrCrc : Nat} (hs : s.Tidy Q) : State.Tidy Q (State.imageArmRx s epoch imageId hdrCrc) := by
  unfold State.imageArmRx
  repeat' first
    | with_reducible assumption
    | ((try lift_lets); intro t; first | (refine tidy_have (Q := Q) (t := t) ?_ (fun _ => ?_); rotate_left; clear_value t; rotate_left; unfold t; clear t) | clear_value t)
    | with_reducible first
      | refine tidy_ite ?_ ?_
      | refine State.atEpoch_tidy (fun _ => ?_) ?_
      | refine State.imgMatch_tidy ?_
    | simp only [↓tidy_mk_iff, ↓tidy_parts_iff]

theorem execImageArmRx_tidy {epoch : Nat} {imageId : Nat} {hdrCrc : Nat} {s : State} (hs : s.Tidy Q) : TidyOut Q (execImageArmRx epoch imageId hdrCrc s) := by
  unfold execImageArmRx
  repeat' first
    | with_reducible assumption
    | with_reducible first
      | refine tidyOut_next ?_
      | refine State.imageArmRx_tidy ?_

theorem execAudSlipRx_tidy {port : Nat} {instant : Nat} {stamp : Nat} {s : State} (hs : s.Tidy Q) : TidyOut Q (execAudSlipRx port instant stamp s) := by
  unfold execAudSlipRx
  repeat' first
    | with_reducible assumption
    | with_reducible first
      | refine tidyOut_next ?_
      | refine State.audSlipRx_tidy ?_

theorem execFenceRx_tidy {engine : Nat} {ready : Bool} {epoch : Nat} {s : State} (hs : s.Tidy Q) : TidyOut Q (execFenceRx engine ready epoch s) := by
  unfold execFenceRx
  repeat' first
    | with_reducible assumption
    | with_reducible first
      | refine tidyOut_next ?_
      | refine State.fenceRx_tidy ?_

theorem State.snapRx_tidy {s : State} {T : Nat} (hs : s.Tidy Q) : State.Tidy Q (State.snapRx s T) := by
  unfold State.snapRx
  repeat' first
    | with_reducible assumption
    | ((try lift_lets); intro t; first | (refine tidy_have (Q := Q) (t := t) ?_ (fun _ => ?_); rotate_left; clear_value t; rotate_left; unfold t; clear t) | clear_value t)
    | with_reducible first
      | refine tidy_ite ?_ ?_
      | refine State.bump_tidy ?_
      | refine State.raise_tidy ?_
      | refine State.wrN_tidy ?_
    | simp only [↓tidy_mk_iff, ↓tidy_parts_iff]

theorem execSnapRx_tidy {time : Nat} {s : State} (hs : s.Tidy Q) : TidyOut Q (execSnapRx time s) := by
  unfold execSnapRx
  repeat' first
    | with_reducible assumption
    | with_reducible first
      | refine tidyOut_next ?_
      | refine State.snapRx_tidy ?_

theorem State.applyRec_tidy {s : State} {r : CtlRec} (hs : s.Tidy Q) : State.Tidy Q (State.applyRec s r) := by
  unfold State.applyRec
  repeat' first
    | with_reducible assumption
    | ((try lift_lets); intro t; first | (refine tidy_have (Q := Q) (t := t) ?_ (fun _ => ?_); rotate_left; clear_value t; rotate_left; unfold t; clear t) | clear_value t)
    | with_reducible first
      | refine State.agreeRx_tidy ?_
      | refine State.audSlipRx_tidy ?_
      | refine State.fenceRx_tidy ?_
      | refine State.hashRx_tidy ?_
      | refine State.imageArmRx_tidy ?_
      | refine State.laneRx_tidy ?_
      | refine State.profCancelRx_tidy ?_
      | refine State.profForceRx_tidy ?_
      | refine State.profReadyRx_tidy ?_
      | refine State.profReqRx_tidy ?_
      | refine State.profSync_tidy ?_
      | refine State.ptpDsRx_tidy ?_
      | refine State.roleCancelRx_tidy ?_
      | refine State.roleGiveRx_tidy ?_
      | refine State.roleTakeRx_tidy ?_
      | refine State.snapRx_tidy ?_
      | refine State.statusRx_tidy ?_
      | refine State.syncRx_tidy ?_
      | refine State.takeRx_tidy ?_
      | refine State.timeRx_tidy ?_
    | split

theorem State.ctlMark_tidy {s : State} (hs : s.Tidy Q) : State.Tidy Q (State.ctlMark s) := by
  unfold State.ctlMark
  repeat' first
    | with_reducible assumption
    | with_reducible first
      | refine State.watermark_tidy ?_

theorem State.sendSlot_tidy {s : State} {k : Nat} {seq : Nat} {isHash : Bool} {l : List CtlRec} (hs : s.Tidy Q) : State.Tidy Q (State.sendSlot s k seq isHash l) := by
  unfold State.sendSlot
  repeat' first
    | with_reducible assumption
    | with_reducible first
      | refine State.send_tidy ?_

theorem State.sendControl_tidy {s : State} {k : Nat} (hs : s.Tidy Q) : State.Tidy Q (State.sendControl s k) := by
  unfold State.sendControl
  repeat' first
    | with_reducible assumption
    | ((try lift_lets); intro t; first | (refine tidy_have (Q := Q) (t := t) ?_ (fun _ => ?_); rotate_left; clear_value t; rotate_left; unfold t; clear t) | clear_value t)
    | with_reducible first
      | refine tidy_ite ?_ ?_
      | refine State.ctlMark_tidy ?_
      | refine State.sendSlot_tidy ?_
      | refine State.setTwin_tidy ?_
      | refine tidy1_st ?_
    | simp only [↓tidy1_pair_iff]
    | simp only [↓tidy_mk_iff, ↓tidy_parts_iff]

theorem State.sendHash_tidy {s : State} {k : Nat} (hs : s.Tidy Q) : State.Tidy Q (State.sendHash s k) := by
  unfold State.sendHash
  repeat' first
    | with_reducible assumption
    | ((try lift_lets); intro t; first | (refine tidy_have (Q := Q) (t := t) ?_ (fun _ => ?_); rotate_left; clear_value t; rotate_left; unfold t; clear t) | clear_value t)
    | with_reducible first
      | refine State.sendSlot_tidy ?_
      | refine State.setTwin_tidy ?_
      | refine tidy1_st ?_
    | simp only [↓tidy1_pair_iff]
    | simp only [↓tidy_mk_iff, ↓tidy_parts_iff]

theorem State.slotTx_tidy {s : State} (hs : s.Tidy Q) : State.Tidy Q (State.slotTx s) := by
  unfold State.slotTx
  repeat' first
    | with_reducible assumption
    | ((try lift_lets); intro t; first | (refine tidy_have (Q := Q) (t := t) ?_ (fun _ => ?_); rotate_left; clear_value t; rotate_left; unfold t; clear t) | clear_value t)
    | with_reducible first
      | refine tidy_ite ?_ ?_
      | refine tidy_foldl (fun _ _ _ => ?_) ?_
      | refine tidy1_foldl (fun _ _ _ => ?_) ?_
      | refine State.sendControl_tidy ?_
      | refine State.sendHash_tidy ?_
      | refine State.setFld_tidy ?_
      | refine State.setTwin_tidy ?_
    | simp only [↓tidy_mk_iff, ↓tidy_parts_iff]

theorem execSlotTx_tidy {s : State} (hs : s.Tidy Q) : TidyOut Q (execSlotTx s) := by
  unfold execSlotTx
  repeat' first
    | with_reducible assumption
    | with_reducible first
      | refine tidyOut_next ?_
      | refine State.slotTx_tidy ?_

theorem State.ctlResend_tidy {s : State} (hs : s.Tidy Q) : State.Tidy Q (State.ctlResend s) := by
  unfold State.ctlResend
  repeat' first
    | with_reducible assumption
    | ((try lift_lets); intro t; first | (refine tidy_have (Q := Q) (t := t) ?_ (fun _ => ?_); rotate_left; clear_value t; rotate_left; unfold t; clear t) | clear_value t)
    | with_reducible first
      | refine tidy_ite ?_ ?_
      | refine State.bump_tidy ?_
      | refine State.sendSlot_tidy ?_
      | refine State.setTwin_tidy ?_
      | refine tidy1_st ?_
    | simp only [↓tidy1_pair_iff]
    | simp only [↓tidy_mk_iff, ↓tidy_parts_iff]
    | split

theorem execCtlResend_tidy {s : State} (hs : s.Tidy Q) : TidyOut Q (execCtlResend s) := by
  unfold execCtlResend
  repeat' first
    | with_reducible assumption
    | with_reducible first
      | refine tidyOut_next ?_
      | refine State.ctlResend_tidy ?_

theorem State.ackIn_tidy {s : State} {ack : Nat} {nack : Bool} (hs : s.Tidy Q) : State.Tidy Q (State.ackIn s ack nack) := by
  unfold State.ackIn
  repeat' first
    | with_reducible assumption
    | ((try lift_lets); intro t; first | (refine tidy_have (Q := Q) (t := t) ?_ (fun _ => ?_); rotate_left; clear_value t; rotate_left; unfold t; clear t) | clear_value t)
    | with_reducible first
      | refine tidy_ite ?_ ?_
      | refine State.ctlMark_tidy ?_
      | refine State.setTwin_tidy ?_
      | refine tidy1_st ?_
    | simp only [↓tidy1_pair_iff]
    | simp only [↓tidy_mk_iff, ↓tidy_parts_iff]

theorem State.slotDiscard_tidy {s : State} {k : Nat} {control : Bool} (hs : s.Tidy Q) : State.Tidy Q (State.slotDiscard s k control) := by
  unfold State.slotDiscard
  repeat' first
    | with_reducible assumption
    | ((try lift_lets); intro t; first | (refine tidy_have (Q := Q) (t := t) ?_ (fun _ => ?_); rotate_left; clear_value t; rotate_left; unfold t; clear t) | clear_value t)
    | with_reducible first
      | refine tidy_ite ?_ ?_
      | refine State.bump_tidy ?_
      | refine State.setTwin_tidy ?_
    | simp only [↓tidy_mk_iff, ↓tidy_parts_iff]

theorem State.partnerFrame_tidy {s : State} {k : Nat} {m : SlotHead} (hs : s.Tidy Q) : State.Tidy Q (State.partnerFrame s k m) := by
  unfold State.partnerFrame
  repeat' first
    | with_reducible assumption
    | ((try lift_lets); intro t; first | (refine tidy_have (Q := Q) (t := t) ?_ (fun _ => ?_); rotate_left; clear_value t; rotate_left; unfold t; clear t) | clear_value t)
    | with_reducible first
      | refine tidy_ite ?_ ?_
      | refine State.holdSync_tidy ?_
      | refine State.partnerLost_tidy ?_
      | refine State.reselect_tidy ?_
      | refine State.setFld_tidy ?_
      | refine State.setPair_tidy ?_
      | refine State.setTwin_tidy ?_
      | refine State.tell_tidy ?_
      | refine State.wrN_tidy ?_
      | refine tidyO_getD ?_ ?_
    | simp only [↓tidy_mk_iff, ↓tidy_parts_iff]

theorem State.controlRx_tidy {s : State} {k : Nat} {m : SlotHead} {l : List CtlRec} (hs : s.Tidy Q) : State.Tidy Q (State.controlRx s k m l) := by
  unfold State.controlRx
  repeat' first
    | with_reducible assumption
    | ((try lift_lets); intro t; first | (refine tidy_have (Q := Q) (t := t) ?_ (fun _ => ?_); rotate_left; clear_value t; rotate_left; unfold t; clear t) | clear_value t)
    | with_reducible first
      | refine tidy_ite ?_ ?_
      | refine tidy_foldl (fun _ _ _ => ?_) ?_
      | refine tidy1_foldl (fun _ _ _ => ?_) ?_
      | refine State.ackIn_tidy ?_
      | refine State.applyRec_tidy ?_
      | refine State.bump_tidy ?_
      | refine State.setTwin_tidy ?_
      | refine State.slotDiscard_tidy ?_
      | refine tidyO_getD ?_ ?_
    | simp only [↓tidy_mk_iff, ↓tidy_parts_iff]
    | split

theorem State.slotRx_tidy {s : State} {k : Nat} {stamp : Nat} {blocks : List (Bool × Nat)} (hs : s.Tidy Q) : State.Tidy Q (State.slotRx s k stamp blocks) := by
  unfold State.slotRx
  repeat' first
    | with_reducible assumption
    | ((try lift_lets); intro t; first | (refine tidy_have (Q := Q) (t := t) ?_ (fun _ => ?_); rotate_left; clear_value t; rotate_left; unfold t; clear t) | clear_value t)
    | with_reducible first
      | refine tidy_ite ?_ ?_
      | refine tidy_foldl (fun _ _ _ => ?_) ?_
      | refine tidy1_foldl (fun _ _ _ => ?_) ?_
      | refine State.applyRec_tidy ?_
      | refine State.bump_tidy ?_
      | refine State.controlRx_tidy ?_
      | refine State.keepMax_tidy ?_
      | refine State.partnerFrame_tidy ?_
      | refine State.raise_tidy ?_
      | refine State.setTwin_tidy ?_
      | refine State.slotDiscard_tidy ?_
      | refine State.wrN_tidy ?_
    | simp only [↓tidy_mk_iff, ↓tidy_parts_iff]
    | split

theorem execSlotMsgRx_tidy {lane : Nat} {stamp : Nat} {blocks : List (Bool × Nat)} {s : State} (hs : s.Tidy Q) : TidyOut Q (execSlotMsgRx lane stamp blocks s) := by
  unfold execSlotMsgRx
  repeat' first
    | with_reducible assumption
    | with_reducible first
      | refine tidyOut_next ?_
      | refine State.slotRx_tidy ?_

theorem State.twinBoundary_tidy {s : State} (hs : s.Tidy Q) : State.Tidy Q (State.twinBoundary s) := by
  unfold State.twinBoundary
  repeat' first
    | with_reducible assumption
    | ((try lift_lets); intro t; first | (refine tidy_have (Q := Q) (t := t) ?_ (fun _ => ?_); rotate_left; clear_value t; rotate_left; unfold t; clear t) | clear_value t)
    | with_reducible first
      | refine tidy_ite ?_ ?_
      | refine State.bumpSat_tidy ?_
      | refine State.holdSync_tidy ?_
      | refine State.roleStep_tidy ?_
      | refine State.send_tidy ?_
      | refine State.setTwin_tidy ?_
      | refine State.tell_tidy ?_
      | refine State.twinOffset_tidy ?_
      | refine tidyO_getD ?_ ?_
    | simp only [↓tidy_mk_iff, ↓tidy_parts_iff]

end Sys2Proof.Machine
end

