-- ==== Sys2Proof/Laws/KeepUpdate.lean ====
section
/-! SUPPORT. Every operation of Machine/Update.lean keeps a state tidy. -/

set_option Elab.async false

namespace Sys2Proof.Machine

set_option linter.unusedSimpArgs false

variable {Q : Base}

theorem State.setChain_tidy {s : State} {p : Nat} {x : ChainPort} (hs : s.Tidy Q) : State.Tidy Q (State.setChain s p x) := by
  unfold State.setChain
  repeat' first
    | with_reducible assumption
    | ((try lift_lets); intro t; first | (refine tidy_have (Q := Q) (t := t) ?_ (fun _ => ?_); rotate_left; clear_value t; rotate_left; unfold t; clear t) | clear_value t)
    | simp only [↓tidy_mk_iff, ↓tidy_parts_iff]

theorem State.chainCount_tidy {s : State} {p : Nat} {c : Nat} (hs : s.Tidy Q) : State.Tidy Q (State.chainCount s p c) := by
  unfold State.chainCount
  repeat' first
    | with_reducible assumption
    | with_reducible first
      | refine State.bump_tidy ?_

theorem State.setChainRx_tidy {s : State} {p : Nat} {v : Nat} (hs : s.Tidy Q) : State.Tidy Q (State.setChainRx s p v) := by
  unfold State.setChainRx
  repeat' first
    | with_reducible assumption
    | with_reducible first
      | refine State.setFld_tidy ?_

theorem State.chainSync_tidy {s : State} (hs : s.Tidy Q) : State.Tidy Q (State.chainSync s) := by
  unfold State.chainSync
  repeat' first
    | with_reducible assumption
    | with_reducible first
      | refine tidy_ite ?_ ?_
      | refine tidy_foldl (fun _ _ _ => ?_) ?_
      | refine tidy1_foldl (fun _ _ _ => ?_) ?_
      | refine State.setChainRx_tidy ?_

theorem State.chainSend_tidy {s : State} {p : Nat} {l : List (Bool × Nat)} (hs : s.Tidy Q) : State.Tidy Q (State.chainSend s p l) := by
  unfold State.chainSend
  repeat' first
    | with_reducible assumption
    | with_reducible first
      | refine State.send_tidy ?_

theorem State.chunkOut_tidy {s : State} {p : Nat} {session : Nat} {index : Nat} {hops : Nat} {kind : Nat} {data : List Nat} (hs : s.Tidy Q) : State.Tidy Q (State.chunkOut s p session index hops kind data) := by
  unfold State.chunkOut
  repeat' first
    | with_reducible assumption
    | ((try lift_lets); intro t; first | (refine tidy_have (Q := Q) (t := t) ?_ (fun _ => ?_); rotate_left; clear_value t; rotate_left; unfold t; clear t) | clear_value t)
    | with_reducible first
      | refine State.chainCount_tidy ?_
      | refine State.chainSend_tidy ?_
      | refine State.setChain_tidy ?_
    | simp only [↓tidy_mk_iff, ↓tidy_parts_iff]

theorem State.chunkPump_tidy {p : Nat} : ∀ {n : Nat} {s : State}, s.Tidy Q → (State.chunkPump n s p).Tidy Q
  | 0, _, h => h
  | n + 1, s, h => by
    have ih := @State.chunkPump_tidy p n
    unfold State.chunkPump
    dsimp only
    generalize (s.chainPort p).queue = l
    cases l with
    | nil => exact h
    | cons c r =>
      dsimp only
      repeat' first
        | with_reducible assumption
        | with_reducible refine ih ?_
        | with_reducible refine tidy_ite ?_ ?_
        | with_reducible refine State.setChain_tidy ?_
        | with_reducible refine State.chunkOut_tidy ?_
        | with_reducible refine State.bumpBy_tidy ?_

theorem State.chainAnswer_tidy {s : State} {p : Nat} {session : Nat} {status : Nat} {reason : Nat} (hs : s.Tidy Q) : State.Tidy Q (State.chainAnswer s p session status reason) := by
  unfold State.chainAnswer
  repeat' first
    | with_reducible assumption
    | ((try lift_lets); intro t; first | (refine tidy_have (Q := Q) (t := t) ?_ (fun _ => ?_); rotate_left; clear_value t; rotate_left; unfold t; clear t) | clear_value t)
    | with_reducible first
      | refine tidy_ite ?_ ?_
      | refine State.chainCount_tidy ?_
      | refine State.chainSend_tidy ?_
      | refine tidyO_getD ?_ ?_

theorem execChainLockLoss_tidy {port : Nat} {s : State} (hs : s.Tidy Q) : TidyOut Q (execChainLockLoss port s) := by
  unfold execChainLockLoss
  repeat' first
    | with_reducible assumption
    | with_reducible first
      | refine tidyOut_next ?_
      | refine State.raiseIf_tidy ?_

theorem State.chainHeaderInvalid_tidy {s : State} {p : Nat} {b : Nat} (hs : s.Tidy Q) : State.Tidy Q (State.chainHeaderInvalid s p b) := by
  unfold State.chainHeaderInvalid
  repeat' first
    | with_reducible assumption
    | ((try lift_lets); intro t; first | (refine tidy_have (Q := Q) (t := t) ?_ (fun _ => ?_); rotate_left; clear_value t; rotate_left; unfold t; clear t) | clear_value t)
    | with_reducible first
      | refine tidy_ite ?_ ?_
      | refine State.setChainRx_tidy ?_
      | refine State.setLane_tidy ?_
    | simp only [↓tidy_mk_iff, ↓tidy_parts_iff]

theorem State.chainLock_tidy {s : State} {p : Nat} (hs : s.Tidy Q) : State.Tidy Q (State.chainLock s p) := by
  unfold State.chainLock
  repeat' first
    | with_reducible assumption
    | ((try lift_lets); intro t; first | (refine tidy_have (Q := Q) (t := t) ?_ (fun _ => ?_); rotate_left; clear_value t; rotate_left; unfold t; clear t) | clear_value t)
    | with_reducible first
      | refine tidy_ite ?_ ?_
      | refine State.setChainRx_tidy ?_
      | refine State.setLane_tidy ?_
    | simp only [↓tidy_mk_iff, ↓tidy_parts_iff]

theorem execSyncHeaderInvalid_tidy {lane : Nat} {block : Nat} {s : State} (hs : s.Tidy Q) : TidyOut Q (execSyncHeaderInvalid lane block s) := by
  unfold execSyncHeaderInvalid
  repeat' first
    | with_reducible assumption
    | with_reducible first
      | refine tidy_ite ?_ ?_
      | refine tidyOut_next ?_
      | refine State.chainHeaderInvalid_tidy ?_
      | refine State.headerInvalid_tidy ?_
      | refine State.pairHeaderInvalid_tidy ?_

theorem execLaneLock_tidy {lane : Nat} {s : State} (hs : s.Tidy Q) : TidyOut Q (execLaneLock lane s) := by
  unfold execLaneLock
  repeat' first
    | with_reducible assumption
    | with_reducible first
      | refine tidy_ite ?_ ?_
      | refine tidyOut_next ?_
      | refine State.chainLock_tidy ?_
      | refine State.laneLock_tidy ?_
      | refine State.pairLock_tidy ?_

theorem execLockRecoveryTimeout_tidy {lane : Nat} {s : State} (hs : s.Tidy Q) : TidyOut Q (execLockRecoveryTimeout lane s) := by
  unfold execLockRecoveryTimeout
  repeat' first
    | with_reducible assumption
    | with_reducible first
      | refine tidy_ite ?_ ?_
      | refine tidyOut_next ?_
      | refine State.pairRecovery_tidy ?_
      | refine State.recoveryTimeout_tidy ?_

theorem State.flashUnknown_tidy {s : State} {o : Nat} {n : Nat} (hs : s.Tidy Q) : State.Tidy Q (State.flashUnknown s o n) := by
  unfold State.flashUnknown
  repeat' first
    | with_reducible assumption
    | ((try lift_lets); intro t; first | (refine tidy_have (Q := Q) (t := t) ?_ (fun _ => ?_); rotate_left; clear_value t; rotate_left; unfold t; clear t) | clear_value t)
    | with_reducible first
      | refine State.eraseFlash_tidy ?_
      | refine State.programFlash_tidy ?_
    | simp only [↓tidy_mk_iff, ↓tidy_parts_iff]

theorem State.setUpd_tidy {s : State} {st : Nat} (hs : s.Tidy Q) : State.Tidy Q (State.setUpd s st) := by
  unfold State.setUpd
  repeat' first
    | with_reducible assumption
    | with_reducible first
      | refine State.setFld_tidy ?_

theorem State.updBegin_tidy {s : State} {p : Nat} {session : Nat} {hops : Nat} {host : Bool} (hs : s.Tidy Q) : State.Tidy Q (State.updBegin s p session hops host) := by
  unfold State.updBegin
  repeat' first
    | with_reducible assumption
    | ((try lift_lets); intro t; first | (refine tidy_have (Q := Q) (t := t) ?_ (fun _ => ?_); rotate_left; clear_value t; rotate_left; unfold t; clear t) | clear_value t)
    | with_reducible first
      | refine State.setFld_tidy ?_
      | refine State.wrN_tidy ?_
    | simp only [↓tidy_mk_iff, ↓tidy_parts_iff]

theorem State.updRefuse_tidy {s : State} {code : Nat} (hs : s.Tidy Q) : State.Tidy Q (State.updRefuse s code) := by
  unfold State.updRefuse
  repeat' first
    | with_reducible assumption
    | with_reducible first
      | refine State.chainCount_tidy ?_
      | refine State.raise_tidy ?_
      | refine State.setFld_tidy ?_
      | refine State.setUpd_tidy ?_
      | refine tidyO_getD ?_ ?_

theorem State.updFail_tidy {s : State} {outcome : Nat} (hs : s.Tidy Q) : State.Tidy Q (State.updFail s outcome) := by
  unfold State.updFail
  repeat' first
    | with_reducible assumption
    | with_reducible first
      | refine State.chainCount_tidy ?_
      | refine State.setFld_tidy ?_
      | refine State.setUpd_tidy ?_
      | refine tidyO_getD ?_ ?_

theorem State.stagingLeft_tidy {s : State} (hs : s.Tidy Q) : State.Tidy Q (State.stagingLeft s) := by
  unfold State.stagingLeft
  repeat' first
    | with_reducible assumption
    | ((try lift_lets); intro t; first | (refine tidy_have (Q := Q) (t := t) ?_ (fun _ => ?_); rotate_left; clear_value t; rotate_left; unfold t; clear t) | clear_value t)
    | with_reducible first
      | refine tidy_ite ?_ ?_
      | refine State.flashUnknown_tidy ?_
    | simp only [↓tidy_mk_iff, ↓tidy_parts_iff]

theorem State.updAbort_tidy {s : State} {outcome : Nat} (hs : s.Tidy Q) : State.Tidy Q (State.updAbort s outcome) := by
  unfold State.updAbort
  repeat' first
    | with_reducible assumption
    | ((try lift_lets); intro t; first | (refine tidy_have (Q := Q) (t := t) ?_ (fun _ => ?_); rotate_left; clear_value t; rotate_left; unfold t; clear t) | clear_value t)
    | with_reducible first
      | refine tidy_ite ?_ ?_
      | refine State.setFld_tidy ?_
      | refine State.setUpd_tidy ?_
      | refine State.stagingLeft_tidy ?_

theorem State.updJudge_tidy {s : State} {h : List Byte} (hs : s.Tidy Q) : State.Tidy Q (State.updJudge s h) := by
  unfold State.updJudge
  repeat' first
    | with_reducible assumption
    | ((try lift_lets); intro t; first | (refine tidy_have (Q := Q) (t := t) ?_ (fun _ => ?_); rotate_left; clear_value t; rotate_left; unfold t; clear t) | clear_value t)
    | with_reducible first
      | refine tidy_ite ?_ ?_
      | refine State.setUpd_tidy ?_
      | refine State.updRefuse_tidy ?_
    | simp only [↓tidy_mk_iff, ↓tidy_parts_iff]

theorem State.updStore_tidy {s : State} {i : Nat} {l : List Byte} (hs : s.Tidy Q) : State.Tidy Q (State.updStore s i l) := by
  unfold State.updStore
  repeat' first
    | with_reducible assumption
    | ((try lift_lets); intro t; first | (refine tidy_have (Q := Q) (t := t) ?_ (fun _ => ?_); rotate_left; clear_value t; rotate_left; unfold t; clear t) | clear_value t)
    | with_reducible first
      | refine tidy_ite ?_ ?_
      | refine State.bumpSat_tidy ?_
      | refine State.granulesGood_tidy ?_
      | refine State.setUpd_tidy ?_
      | refine State.wrBytes_tidy ?_

theorem State.updSent_tidy {s : State} (hs : s.Tidy Q) : State.Tidy Q (State.updSent s) := by
  unfold State.updSent
  repeat' first
    | with_reducible assumption
    | with_reducible first
      | refine tidy_ite ?_ ?_
      | refine State.setUpd_tidy ?_

theorem State.chainPump_tidy {s : State} {p : Nat} (hs : s.Tidy Q) : State.Tidy Q (State.chainPump s p) := by
  unfold State.chainPump
  repeat' first
    | with_reducible assumption
    | with_reducible first
      | refine State.chunkPump_tidy ?_
      | refine State.updSent_tidy ?_

theorem State.chunkApply_tidy {s : State} {p : Nat} {seq : Nat} {session : Nat} {index : Nat} {hops : Nat} {kind : Nat} {fwd : Bool} {data : List Nat} (hs : s.Tidy Q) : State.Tidy Q (State.chunkApply s p seq session index hops kind fwd data) := by
  unfold State.chunkApply
  repeat' first
    | with_reducible assumption
    | ((try lift_lets); intro t; first | (refine tidy_have (Q := Q) (t := t) ?_ (fun _ => ?_); rotate_left; clear_value t; rotate_left; unfold t; clear t) | clear_value t)
    | with_reducible first
      | refine tidy_ite ?_ ?_
      | refine State.chainCount_tidy ?_
      | refine State.chunkOut_tidy ?_
      | refine State.setChain_tidy ?_
    | simp only [↓tidy_mk_iff, ↓tidy_parts_iff]

theorem State.chunkFirst_tidy {s : State} {p : Nat} {session : Nat} {hops : Nat} {l : List Byte} (hs : s.Tidy Q) : State.Tidy Q (State.chunkFirst s p session hops l) := by
  unfold State.chunkFirst
  repeat' first
    | with_reducible assumption
    | ((try lift_lets); intro t; first | (refine tidy_have (Q := Q) (t := t) ?_ (fun _ => ?_); rotate_left; clear_value t; rotate_left; unfold t; clear t) | clear_value t)
    | with_reducible first
      | refine tidy_ite ?_ ?_
      | refine State.updBegin_tidy ?_
      | refine State.updFail_tidy ?_
      | refine State.updJudge_tidy ?_
      | refine State.updStore_tidy ?_

theorem State.chunkRx_tidy {s : State} {p : Nat} {head : Nat} {data : List Nat} {cend : Nat} (hs : s.Tidy Q) : State.Tidy Q (State.chunkRx s p head data cend) := by
  unfold State.chunkRx
  repeat' first
    | with_reducible assumption
    | ((try lift_lets); intro t; first | (refine tidy_have (Q := Q) (t := t) ?_ (fun _ => ?_); rotate_left; clear_value t; rotate_left; unfold t; clear t) | clear_value t)
    | with_reducible first
      | refine tidy_ite ?_ ?_
      | refine State.chainAnswer_tidy ?_
      | refine State.chainCount_tidy ?_
      | refine State.chunkApply_tidy ?_
      | refine State.chunkFirst_tidy ?_
      | refine State.updAbort_tidy ?_
      | refine State.updStore_tidy ?_
    | split

theorem execChunkRx_tidy {port : Nat} {head : Nat} {data : List Nat} {cend : Nat} {s : State} (hs : s.Tidy Q) : TidyOut Q (execChunkRx port head data cend s) := by
  unfold execChunkRx
  repeat' first
    | with_reducible assumption
    | with_reducible first
      | refine tidyOut_next ?_
      | refine State.chunkRx_tidy ?_

theorem execChunkAbortRx_tidy {port : Nat} {seq : Nat} {session : Nat} {hops : Nat} {cend : Nat} {s : State} (hs : s.Tidy Q) : TidyOut Q (execChunkAbortRx port seq session hops cend s) := by
  unfold execChunkAbortRx
  repeat' first
    | with_reducible assumption
    | with_reducible first
      | refine tidyOut_next ?_
      | refine State.chunkRx_tidy ?_

theorem State.chunkAck_tidy {s : State} {p : Nat} {payload : Nat} (hs : s.Tidy Q) : State.Tidy Q (State.chunkAck s p payload) := by
  unfold State.chunkAck
  repeat' first
    | with_reducible assumption
    | ((try lift_lets); intro t; first | (refine tidy_have (Q := Q) (t := t) ?_ (fun _ => ?_); rotate_left; clear_value t; rotate_left; unfold t; clear t) | (refine tidyG_have (Q := Q) (t := t) (fun _ _ _ => ?_) (fun _ => ?_); rotate_left; clear_value t; rotate_left; unfold t; clear t) | (refine tidyE_have (Q := Q) (t := t) (fun _ _ => ?_) (fun _ => ?_); rotate_left; clear_value t; rotate_left; unfold t; clear t) | (refine tidyF_have (Q := Q) (t := t) (fun _ => ?_) (fun _ => ?_); rotate_left; clear_value t; rotate_left; unfold t; clear t) | clear_value t)
    | with_reducible first
      | refine tidy_ite ?_ ?_
      | refine State.chainPump_tidy ?_
      | refine State.raise_tidy ?_
      | refine State.setChain_tidy ?_
      | refine tidyG_use (by assumption) ?_
      | refine tidyF_use (by assumption)
      | refine tidyE_use (by assumption) ?_
    | simp only [↓tidy_mk_iff, ↓tidy_parts_iff]
    | split

theorem execChunkAckRx_tidy {port : Nat} {payload : Nat} {s : State} (hs : s.Tidy Q) : TidyOut Q (execChunkAckRx port payload s) := by
  unfold execChunkAckRx
  repeat' first
    | with_reducible assumption
    | with_reducible first
      | refine tidyOut_next ?_
      | refine State.chunkAck_tidy ?_

theorem State.chainAbandon_tidy {s : State} {p : Nat} {session : Nat} (hs : s.Tidy Q) : State.Tidy Q (State.chainAbandon s p session) := by
  unfold State.chainAbandon
  repeat' first
    | with_reducible assumption
    | ((try lift_lets); intro t; first | (refine tidy_have (Q := Q) (t := t) ?_ (fun _ => ?_); rotate_left; clear_value t; rotate_left; unfold t; clear t) | clear_value t)
    | with_reducible first
      | refine tidy_ite ?_ ?_
      | refine State.chainPump_tidy ?_
      | refine State.raise_tidy ?_
      | refine State.setChain_tidy ?_
      | refine State.updAbort_tidy ?_
    | simp only [↓tidy_mk_iff, ↓tidy_parts_iff]

theorem State.chunkResend_tidy {s : State} {p : Nat} (hs : s.Tidy Q) : State.Tidy Q (State.chunkResend s p) := by
  unfold State.chunkResend
  repeat' first
    | with_reducible assumption
    | ((try lift_lets); intro t; first | (refine tidy_have (Q := Q) (t := t) ?_ (fun _ => ?_); rotate_left; clear_value t; rotate_left; unfold t; clear t) | clear_value t)
    | with_reducible first
      | refine tidy_ite ?_ ?_
      | refine State.chainAbandon_tidy ?_
      | refine State.chainCount_tidy ?_
      | refine State.chainSend_tidy ?_
      | refine State.setChain_tidy ?_
    | simp only [↓tidy_mk_iff, ↓tidy_parts_iff]
    | split

theorem execChunkResend_tidy {port : Nat} {s : State} (hs : s.Tidy Q) : TidyOut Q (execChunkResend port s) := by
  unfold execChunkResend
  repeat' first
    | with_reducible assumption
    | with_reducible first
      | refine tidyOut_next ?_
      | refine State.chunkResend_tidy ?_

theorem State.chunkRepeat_tidy {s : State} {p : Nat} (hs : s.Tidy Q) : State.Tidy Q (State.chunkRepeat s p) := by
  unfold State.chunkRepeat
  repeat' first
    | with_reducible assumption
    | ((try lift_lets); intro t; first | (refine tidy_have (Q := Q) (t := t) ?_ (fun _ => ?_); rotate_left; clear_value t; rotate_left; unfold t; clear t) | clear_value t)
    | with_reducible first
      | refine tidy_ite ?_ ?_
      | refine State.chainSend_tidy ?_
    | split

theorem execChunkWaitRepeat_tidy {port : Nat} {s : State} (hs : s.Tidy Q) : TidyOut Q (execChunkWaitRepeat port s) := by
  unfold execChunkWaitRepeat
  repeat' first
    | with_reducible assumption
    | with_reducible first
      | refine tidyOut_next ?_
      | refine State.chunkRepeat_tidy ?_

theorem State.chainQueue_tidy {s : State} {p : Nat} {c : ChunkSource} (hs : s.Tidy Q) : State.Tidy Q (State.chainQueue s p c) := by
  unfold State.chainQueue
  repeat' first
    | with_reducible assumption
    | ((try lift_lets); intro t; first | (refine tidy_have (Q := Q) (t := t) ?_ (fun _ => ?_); rotate_left; clear_value t; rotate_left; unfold t; clear t) | clear_value t)
    | with_reducible first
      | refine State.chainPump_tidy ?_
      | refine State.setChain_tidy ?_
    | simp only [↓tidy_mk_iff, ↓tidy_parts_iff]

theorem State.updLoad_tidy {s : State} {p : Nat} {hops : Nat} (hs : s.Tidy Q) : State.Tidy Q (State.updLoad s p hops) := by
  unfold State.updLoad
  repeat' first
    | with_reducible assumption
    | ((try lift_lets); intro t; first | (refine tidy_have (Q := Q) (t := t) ?_ (fun _ => ?_); rotate_left; clear_value t; rotate_left; unfold t; clear t) | clear_value t)
    | with_reducible first
      | refine tidy_ite ?_ ?_
      | refine State.chainCount_tidy ?_
      | refine State.chainQueue_tidy ?_
      | refine State.drawn_tidy ?_
      | refine State.setFld_tidy ?_
      | refine State.updBegin_tidy ?_
      | refine State.updFail_tidy ?_
      | refine State.updJudge_tidy ?_
      | refine State.updSent_tidy ?_
    | simp only [↓tidy_mk_iff, ↓tidy_parts_iff]

theorem State.abortOnward_tidy {s : State} (hs : s.Tidy Q) : State.Tidy Q (State.abortOnward s) := by
  unfold State.abortOnward
  repeat' first
    | with_reducible assumption
    | ((try lift_lets); intro t; first | (refine tidy_have (Q := Q) (t := t) ?_ (fun _ => ?_); rotate_left; clear_value t; rotate_left; unfold t; clear t) | clear_value t)
    | with_reducible first
      | refine tidy_ite ?_ ?_
      | refine State.chainQueue_tidy ?_
      | refine State.setChain_tidy ?_
      | refine tidyO_getD ?_ ?_
    | simp only [↓tidy_mk_iff, ↓tidy_parts_iff]

theorem State.updActivate_tidy {s : State} (hs : s.Tidy Q) : State.Tidy Q (State.updActivate s) := by
  unfold State.updActivate
  repeat' first
    | with_reducible assumption
    | ((try lift_lets); intro t; first | (refine tidy_have (Q := Q) (t := t) ?_ (fun _ => ?_); rotate_left; clear_value t; rotate_left; unfold t; clear t) | clear_value t)
    | with_reducible first
      | refine tidy_ite ?_ ?_
      | refine State.setBit_tidy ?_
      | refine State.setFld_tidy ?_
      | refine State.setUpd_tidy ?_
      | refine State.warmRestart_tidy ?_
      | refine State.writeSlot_tidy ?_
      | refine tidy1_st ?_
      | refine tidyO_getD ?_ ?_
    | simp only [↓tidy1_pair_iff]
    | simp only [↓tidy_mk_iff, ↓tidy_parts_iff]
    | split

theorem State.sendEp16_tidy {s : State} (hs : s.Tidy Q) : State.Tidy Q (State.sendEp16 s) := by
  unfold State.sendEp16
  repeat' first
    | with_reducible assumption
    | ((try lift_lets); intro t; first | (refine tidy_have (Q := Q) (t := t) ?_ (fun _ => ?_); rotate_left; clear_value t; rotate_left; unfold t; clear t) | clear_value t)
    | with_reducible first
      | refine tidy_foldl (fun _ _ _ => ?_) ?_
      | refine tidy1_foldl (fun _ _ _ => ?_) ?_
      | refine State.chainQueue_tidy ?_
      | refine State.drawn_tidy ?_
    | simp only [↓tidy_mk_iff, ↓tidy_parts_iff]

theorem State.pauseEnd_tidy {s : State} (hs : s.Tidy Q) : State.Tidy Q (State.pauseEnd s) := by
  unfold State.pauseEnd
  repeat' first
    | with_reducible assumption
    | ((try lift_lets); intro t; first | (refine tidy_have (Q := Q) (t := t) ?_ (fun _ => ?_); rotate_left; clear_value t; rotate_left; unfold t; clear t) | clear_value t)
    | with_reducible first
      | refine tidy_ite ?_ ?_
      | refine State.eraseFlash_tidy ?_
      | refine State.sendEp16_tidy ?_
      | refine State.setBit_tidy ?_
      | refine State.setFld_tidy ?_
      | refine State.setUpd_tidy ?_
      | refine tidyO_getD ?_ ?_
    | simp only [↓tidy_mk_iff, ↓tidy_parts_iff]
    | split

theorem State.updCmd_tidy {s : State} {m : Requester} {p : Nat} {v : Nat} (hs : s.Tidy Q) : State.Tidy Q (State.updCmd s m p v) := by
  unfold State.updCmd
  repeat' first
    | with_reducible assumption
    | ((try lift_lets); intro t; first | (refine tidy_have (Q := Q) (t := t) ?_ (fun _ => ?_); rotate_left; clear_value t; rotate_left; unfold t; clear t) | clear_value t)
    | with_reducible first
      | refine tidy_ite ?_ ?_
      | refine State.abortOnward_tidy ?_
      | refine State.pauseEnd_tidy ?_
      | refine State.refuseState_tidy ?_
      | refine State.updAbort_tidy ?_
      | refine State.updActivate_tidy ?_
      | refine State.updLoad_tidy ?_
    | split

theorem State.updWrite_tidy {s : State} {m : Requester} {p : Nat} {v : Nat} (hs : s.Tidy Q) : State.Tidy Q (State.updWrite s m p v) := by
  unfold State.updWrite
  repeat' first
    | with_reducible assumption
    | with_reducible first
      | refine State.updCmd_tidy ?_
      | refine State.writeAccess_tidy ?_ (fun _ _ => ?_)

theorem execUpdLoad_tidy {m : Requester} {port : Nat} {hops : Nat} {s : State} (hs : s.Tidy Q) : TidyOut Q (execUpdLoad m port hops s) := by
  unfold execUpdLoad
  repeat' first
    | with_reducible assumption
    | with_reducible first
      | refine tidyOut_next ?_
      | refine State.updWrite_tidy ?_

theorem execUpdActivate_tidy {m : Requester} {port : Nat} {s : State} (hs : s.Tidy Q) : TidyOut Q (execUpdActivate m port s) := by
  unfold execUpdActivate
  repeat' first
    | with_reducible assumption
    | with_reducible first
      | refine tidyOut_next ?_
      | refine State.updWrite_tidy ?_

theorem execUpdAbort_tidy {m : Requester} {port : Nat} {s : State} (hs : s.Tidy Q) : TidyOut Q (execUpdAbort m port s) := by
  unfold execUpdAbort
  repeat' first
    | with_reducible assumption
    | with_reducible first
      | refine tidyOut_next ?_
      | refine State.updWrite_tidy ?_

theorem execUpdResume_tidy {m : Requester} {port : Nat} {s : State} (hs : s.Tidy Q) : TidyOut Q (execUpdResume m port s) := by
  unfold execUpdResume
  repeat' first
    | with_reducible assumption
    | with_reducible first
      | refine tidyOut_next ?_
      | refine State.updWrite_tidy ?_

theorem State.verifyDone_tidy {s : State} (hs : s.Tidy Q) : State.Tidy Q (State.verifyDone s) := by
  unfold State.verifyDone
  repeat' first
    | with_reducible assumption
    | ((try lift_lets); intro t; first | (refine tidy_have (Q := Q) (t := t) ?_ (fun _ => ?_); rotate_left; clear_value t; rotate_left; unfold t; clear t) | clear_value t)
    | with_reducible first
      | refine tidy_ite ?_ ?_
      | refine State.eraseFlash_tidy ?_
      | refine State.raise_tidy ?_
      | refine State.setFld_tidy ?_
      | refine State.setUpd_tidy ?_
      | refine State.updFail_tidy ?_
      | refine tidyO_getD ?_ ?_
    | simp only [↓tidy_mk_iff, ↓tidy_parts_iff]

theorem execUpdVerifyDone_tidy {s : State} (hs : s.Tidy Q) : TidyOut Q (execUpdVerifyDone s) := by
  unfold execUpdVerifyDone
  repeat' first
    | with_reducible assumption
    | with_reducible first
      | refine tidyOut_next ?_
      | refine State.verifyDone_tidy ?_

theorem State.stagingDone_tidy {s : State} {ok : Bool} (hs : s.Tidy Q) : State.Tidy Q (State.stagingDone s ok) := by
  unfold State.stagingDone
  repeat' first
    | with_reducible assumption
    | ((try lift_lets); intro t; first | (refine tidy_have (Q := Q) (t := t) ?_ (fun _ => ?_); rotate_left; clear_value t; rotate_left; unfold t; clear t) | (refine tidy1_have (Q := Q) (t := t) ?_ (fun _ => ?_); rotate_left; clear_value t; rotate_left; unfold t; clear t) | clear_value t)
    | with_reducible first
      | refine tidy_ite ?_ ?_
      | refine tidy1_ite ?_ ?_
      | refine tidy_foldl (fun _ _ _ => ?_) ?_
      | refine tidy1_foldl (fun _ _ _ => ?_) ?_
      | refine State.programFlash_tidy ?_
      | refine State.setUpd_tidy ?_
      | refine State.stagingLeft_tidy ?_
      | refine State.updFail_tidy ?_
      | refine tidy1_st ?_
    | simp only [↓tidy1_pair_iff]
    | simp only [↓tidy_mk_iff, ↓tidy_parts_iff]
    | split

theorem execUpdStagingDone_tidy {ok : Bool} {s : State} (hs : s.Tidy Q) : TidyOut Q (execUpdStagingDone ok s) := by
  unfold execUpdStagingDone
  repeat' first
    | with_reducible assumption
    | with_reducible first
      | refine tidyOut_next ?_
      | refine State.stagingDone_tidy ?_

theorem execUpdPauseTimeout_tidy {s : State} (hs : s.Tidy Q) : TidyOut Q (execUpdPauseTimeout s) := by
  unfold execUpdPauseTimeout
  repeat' first
    | with_reducible assumption
    | with_reducible first
      | refine tidy_ite ?_ ?_
      | refine tidyOut_next ?_
      | refine State.pauseEnd_tidy ?_

theorem State.ucodeDone_tidy {s : State} {pxp : Bool} (hs : s.Tidy Q) : State.Tidy Q (State.ucodeDone s pxp) := by
  unfold State.ucodeDone
  repeat' first
    | with_reducible assumption
    | ((try lift_lets); intro t; first | (refine tidy_have (Q := Q) (t := t) ?_ (fun _ => ?_); rotate_left; clear_value t; rotate_left; unfold t; clear t) | clear_value t)
    | with_reducible first
      | refine tidy_ite ?_ ?_
      | refine tidy_foldl (fun _ _ _ => ?_) ?_
      | refine tidy1_foldl (fun _ _ _ => ?_) ?_
      | refine State.setFld_tidy ?_
    | simp only [↓tidy_mk_iff, ↓tidy_parts_iff]
    | split

theorem execUcodeLoadDone_tidy {pxp : Bool} {s : State} (hs : s.Tidy Q) : TidyOut Q (execUcodeLoadDone pxp s) := by
  unfold execUcodeLoadDone
  repeat' first
    | with_reducible assumption
    | with_reducible first
      | refine tidyOut_next ?_
      | refine State.ucodeDone_tidy ?_

theorem State.primaryDone_tidy {s : State} (hs : s.Tidy Q) : State.Tidy Q (State.primaryDone s) := by
  unfold State.primaryDone
  repeat' first
    | with_reducible assumption
    | with_reducible first
      | refine tidy_ite ?_ ?_
      | refine State.programFlash_tidy ?_
      | refine State.sendEp16_tidy ?_
      | refine State.setUpd_tidy ?_

theorem execUpdPrimaryDone_tidy {s : State} (hs : s.Tidy Q) : TidyOut Q (execUpdPrimaryDone s) := by
  unfold execUpdPrimaryDone
  repeat' first
    | with_reducible assumption
    | with_reducible first
      | refine tidyOut_next ?_
      | refine State.primaryDone_tidy ?_

end Sys2Proof.Machine
end

