-- ==== Sys2Proof/Laws/KeepBlocks.lean ====
section
/-! SUPPORT. Every operation of Machine/Blocks.lean keeps a state tidy. -/

set_option Elab.async false

namespace Sys2Proof.Machine

set_option linter.unusedSimpArgs false

variable {Q : Base}

theorem State.gseStop_tidy {s : State} (hs : s.Tidy Q) : State.Tidy Q (State.gseStop s) := by
  unfold State.gseStop
  repeat' first
    | with_reducible assumption
    | ((try lift_lets); intro t; first | (refine tidy_have (Q := Q) (t := t) ?_ (fun _ => ?_); rotate_left; clear_value t; rotate_left; unfold t; clear t) | clear_value t)
    | with_reducible first
      | refine tidy_ite ?_ ?_
      | refine State.endWhere_tidy ?_
      | refine State.imgCancelled_tidy ?_
      | refine State.profSync_tidy ?_
      | refine State.stage_tidy ?_
      | refine State.takeSync_tidy ?_
    | split

theorem State.leaveRun_tidy {s : State} {b : Nat} {k : Nat} (hs : s.Tidy Q) : State.Tidy Q (State.leaveRun s b k) := by
  unfold State.leaveRun
  repeat' first
    | with_reducible assumption
    | ((try lift_lets); intro t; first | (refine tidy_have (Q := Q) (t := t) ?_ (fun _ => ?_); rotate_left; clear_value t; rotate_left; unfold t; clear t) | clear_value t)
    | with_reducible first
      | refine tidy_ite ?_ ?_
      | refine State.audStop_tidy ?_
      | refine State.chainSync_tidy ?_
      | refine State.gseStop_tidy ?_
      | refine State.macStop_tidy ?_
      | refine State.mrsStop_tidy ?_
      | refine State.pxpStop_tidy ?_
      | refine State.quadStop_tidy ?_
      | refine State.refStop_tidy ?_
      | refine State.twinStop_tidy ?_
    | simp only [↓tidy_mk_iff, ↓tidy_parts_iff]
    | split

theorem State.enterRun_tidy {s : State} {b : Nat} {k : Nat} (hs : s.Tidy Q) : State.Tidy Q (State.enterRun s b k) := by
  unfold State.enterRun
  repeat' first
    | with_reducible assumption
    | ((try lift_lets); intro t; first | (refine tidy_have (Q := Q) (t := t) ?_ (fun _ => ?_); rotate_left; clear_value t; rotate_left; unfold t; clear t) | clear_value t)
    | with_reducible first
      | refine tidy_ite ?_ ?_
      | refine State.chainSync_tidy ?_
      | refine State.quadStart_tidy ?_
      | refine State.refStart_tidy ?_
      | refine State.setBit_tidy ?_
      | refine State.twinStart_tidy ?_
    | split

theorem State.stopDrained_tidy {s : State} {before : State} (hs : s.Tidy Q) : State.Tidy Q (State.stopDrained s before) := by
  unfold State.stopDrained
  repeat' first
    | with_reducible assumption
    | with_reducible first
      | refine tidy1_ite ?_ ?_
      | refine tidy_foldl (fun _ _ _ => ?_) ?_
      | refine tidy1_foldl (fun _ _ _ => ?_) ?_
      | refine State.leaveRun_tidy ?_
      | refine tidy1_st ?_
    | simp only [↓tidy1_pair_iff]

theorem State.runBarred_tidy {s : State} {b : Nat} {k : Nat} (hs : s.Tidy Q) : Tidy1 Q (State.runBarred s b k) := by
  unfold State.runBarred
  repeat' first
    | with_reducible assumption
    | ((try lift_lets); intro t; first | (refine tidy_have (Q := Q) (t := t) ?_ (fun _ => ?_); rotate_left; clear_value t; rotate_left; unfold t; clear t) | clear_value t)
    | with_reducible first
      | refine tidy1_ite ?_ ?_
      | refine tidy_ite ?_ ?_
      | refine State.setFld_tidy ?_
    | simp only [↓tidy1_pair_iff]
    | split

theorem State.blockReset_tidy {s : State} {b : Nat} {k : Nat} (hq : ∀ n, Q.clock n) (hs : s.Tidy Q) : State.Tidy Q (State.blockReset s b k) := by
  unfold State.blockReset
  repeat' first
    | with_reducible assumption
    | ((try lift_lets); intro t; first | (refine tidy_have (Q := Q) (t := t) ?_ (fun _ => ?_); rotate_left; clear_value t; rotate_left; unfold t; clear t) | clear_value t)
    | with_reducible first
      | refine tidy_ite ?_ ?_
      | refine State.resetBlock_tidy ?_
      | refine State.restartTime_tidy hq ?_

theorem State.openCollar_tidy {s : State} {b : Nat} {p : Nat} (hs : s.Tidy Q) : State.Tidy Q (State.openCollar s b p) := by
  unfold State.openCollar
  repeat' first
    | with_reducible assumption
    | ((try lift_lets); intro t; first | (refine tidy_have (Q := Q) (t := t) ?_ (fun _ => ?_); rotate_left; clear_value t; rotate_left; unfold t; clear t) | clear_value t)
    | with_reducible first
      | refine State.setBit_tidy ?_
      | refine State.setCur_tidy ?_
      | refine State.setFld_tidy ?_
    | simp only [↓tidy_mk_iff, ↓tidy_parts_iff]
    | split

theorem State.awaitState_tidy {s : State} {p : Nat} {c : Nat} (hs : s.Tidy Q) : State.Tidy Q (State.awaitState s p c) := by
  unfold State.awaitState
  repeat' first
    | with_reducible assumption
    | ((try lift_lets); intro t; first | (refine tidy_have (Q := Q) (t := t) ?_ (fun _ => ?_); rotate_left; clear_value t; rotate_left; unfold t; clear t) | clear_value t)
    | with_reducible first
      | refine State.setBit_tidy ?_
      | refine tidy1_st ?_
    | simp only [↓tidy1_pair_iff]
    | simp only [↓tidy_mk_iff, ↓tidy_parts_iff]

theorem State.transition_tidy {s : State} {b : Nat} {k : Nat} {c : Nat} {r : Nat} (hq : ∀ n, Q.clock n) (hs : s.Tidy Q) : TidyO Q (State.transition s b k c r) := by
  unfold State.transition
  repeat' first
    | with_reducible assumption
    | ((try lift_lets); intro t; first | (refine tidy_have (Q := Q) (t := t) ?_ (fun _ => ?_); rotate_left; clear_value t; rotate_left; unfold t; clear t) | clear_value t)
    | with_reducible first
      | refine tidyO_ite ?_ ?_
      | refine tidy_ite ?_ ?_
      | refine tidyO_some ?_
      | exact tidyO_none
      | refine State.awaitState_tidy ?_
      | refine State.blockReset_tidy hq ?_
      | refine State.enterRun_tidy ?_
      | refine State.leaveRun_tidy ?_
      | refine State.openCollar_tidy ?_
      | refine State.resetBlock_tidy ?_
      | refine State.setCur_tidy ?_
      | refine State.startDrain_tidy ?_
    | split

theorem State.ctrlWrite_tidy {s : State} {m : Requester} {b : Nat} {k : Nat} {v : Nat} (hq : ∀ n, Q.clock n) (hs : s.Tidy Q) : State.Tidy Q (State.ctrlWrite s m b k v) := by
  unfold State.ctrlWrite
  repeat' first
    | with_reducible assumption
    | ((try lift_lets); intro t; first | (refine tidy_have (Q := Q) (t := t) ?_ (fun _ => ?_); rotate_left; clear_value t; rotate_left; unfold t; clear t) | (refine tidy1_have (Q := Q) (t := t) ?_ (fun _ => ?_); rotate_left; clear_value t; rotate_left; unfold t; clear t) | clear_value t)
    | with_reducible first
      | refine tidy_ite ?_ ?_
      | refine State.refuseState_tidy ?_
      | refine State.runBarred_tidy ?_
      | refine State.transition_tidy hq ?_
      | refine tidyO_get (State.transition_tidy hq ?_) (by assumption)
      | refine tidy1_st ?_
    | simp only [↓tidy1_pair_iff]
    | split

theorem State.request_tidy {s : State} {m : Requester} {b : Nat} {k : Nat} {r : Nat} (hq : ∀ n, Q.clock n) (hs : s.Tidy Q) : State.Tidy Q (State.request s m b k r) := by
  unfold State.request
  repeat' first
    | with_reducible assumption
    | with_reducible first
      | refine State.ctrlWrite_tidy hq ?_
      | refine State.writeAccess_tidy ?_ (fun _ _ => ?_)

theorem execReqOff_tidy {m : Requester} {b : Nat} {k : Nat} {s : State} (hq : ∀ n, Q.clock n) (hs : s.Tidy Q) : TidyOut Q (execReqOff m b k s) := by
  unfold execReqOff
  repeat' first
    | with_reducible assumption
    | with_reducible first
      | refine tidyOut_next ?_
      | refine State.request_tidy hq ?_

theorem execReqIsolated_tidy {m : Requester} {b : Nat} {k : Nat} {s : State} (hq : ∀ n, Q.clock n) (hs : s.Tidy Q) : TidyOut Q (execReqIsolated m b k s) := by
  unfold execReqIsolated
  repeat' first
    | with_reducible assumption
    | with_reducible first
      | refine tidyOut_next ?_
      | refine State.request_tidy hq ?_

theorem execReqIdle_tidy {m : Requester} {b : Nat} {k : Nat} {s : State} (hq : ∀ n, Q.clock n) (hs : s.Tidy Q) : TidyOut Q (execReqIdle m b k s) := by
  unfold execReqIdle
  repeat' first
    | with_reducible assumption
    | with_reducible first
      | refine tidyOut_next ?_
      | refine State.request_tidy hq ?_

theorem execReqRun_tidy {m : Requester} {b : Nat} {k : Nat} {s : State} (hq : ∀ n, Q.clock n) (hs : s.Tidy Q) : TidyOut Q (execReqRun m b k s) := by
  unfold execReqRun
  repeat' first
    | with_reducible assumption
    | with_reducible first
      | refine tidyOut_next ?_
      | refine State.request_tidy hq ?_

theorem State.awaitEnd_tidy {s : State} {x : Nat × Nat} (hs : s.Tidy Q) : State.Tidy Q (State.awaitEnd s x) := by
  unfold State.awaitEnd
  repeat' first
    | with_reducible assumption
    | ((try lift_lets); intro t; first | (refine tidy_have (Q := Q) (t := t) ?_ (fun _ => ?_); rotate_left; clear_value t; rotate_left; unfold t; clear t) | clear_value t)
    | with_reducible first
      | refine tidy_ite ?_ ?_
      | refine State.enterRun_tidy ?_
      | refine State.leaveRun_tidy ?_
      | refine State.setBit_tidy ?_
      | refine State.setCur_tidy ?_
      | refine tidy1_st ?_
    | simp only [↓tidy1_pair_iff]
    | simp only [↓tidy_mk_iff, ↓tidy_parts_iff]

theorem State.awaitAll_tidy {s : State} (hs : s.Tidy Q) : State.Tidy Q (State.awaitAll s) := by
  unfold State.awaitAll
  repeat' first
    | with_reducible assumption
    | with_reducible first
      | refine tidy_foldl (fun _ _ _ => ?_) ?_
      | refine tidy1_foldl (fun _ _ _ => ?_) ?_
      | refine State.awaitEnd_tidy ?_

theorem State.endDrain_tidy {s : State} {b : Nat} {k : Nat} (hs : s.Tidy Q) : State.Tidy Q (State.endDrain s b k) := by
  unfold State.endDrain
  repeat' first
    | with_reducible assumption
    | ((try lift_lets); intro t; first | (refine tidy_have (Q := Q) (t := t) ?_ (fun _ => ?_); rotate_left; clear_value t; rotate_left; unfold t; clear t) | clear_value t)
    | with_reducible first
      | refine tidy_ite ?_ ?_
      | refine State.abandonCarry_tidy ?_
      | refine State.drainEnd_tidy ?_
      | refine State.setInUse_tidy ?_

theorem execDrainEnd_tidy {b : Nat} {k : Nat} {s : State} (hs : s.Tidy Q) : TidyOut Q (execDrainEnd b k s) := by
  unfold execDrainEnd
  repeat' first
    | with_reducible assumption
    | with_reducible first
      | refine tidyOut_next ?_
      | refine State.endDrain_tidy ?_

theorem execFcrWindowEnd_tidy {s : State} (hs : s.Tidy Q) : TidyOut Q (execFcrWindowEnd s) := by
  unfold execFcrWindowEnd
  repeat' first
    | with_reducible assumption
    | with_reducible first | refine State.stopDrained_tidy ?_
    | with_reducible first
      | refine tidyOut_next ?_
      | refine State.windowEnd_tidy ?_

theorem State.ackWrite_tidy {s : State} {v : Nat} (hs : s.Tidy Q) : State.Tidy Q (State.ackWrite s v) := by
  unfold State.ackWrite
  repeat' first
    | with_reducible assumption
    | with_reducible first | refine State.stopDrained_tidy ?_
    | with_reducible first
      | refine State.fcrAck_tidy ?_

theorem execFcrAck_tidy {m : Requester} {v : Nat} {s : State} (hs : s.Tidy Q) : TidyOut Q (execFcrAck m v s) := by
  unfold execFcrAck
  repeat' first
    | with_reducible assumption
    | with_reducible first
      | refine tidyOut_next ?_
      | refine State.ackWrite_tidy ?_
      | refine State.writeAccess_tidy ?_ (fun _ _ => ?_)

end Sys2Proof.Machine
end

