-- ==== Sys2Proof/Laws/KeepTherm.lean ====
section
/-! SUPPORT. Every operation of Machine/Therm.lean keeps a state tidy. -/

set_option Elab.async false

namespace Sys2Proof.Machine

set_option linter.unusedSimpArgs false

variable {Q : Base}

theorem State.sensorRead_tidy {s : State} {first : Bool} {i : Nat} {v : Int} (hs : s.Tidy Q) : State.Tidy Q (State.sensorRead s first i v) := by
  unfold State.sensorRead
  repeat' first
    | with_reducible assumption
    | ((try lift_lets); intro t; first | (refine tidy_have (Q := Q) (t := t) ?_ (fun _ => ?_); rotate_left; clear_value t; rotate_left; unfold t; clear t) | clear_value t)
    | with_reducible first
      | refine tidy_ite ?_ ?_
      | refine State.wrN_tidy ?_
    | simp only [↓tidy_mk_iff, ↓tidy_parts_iff]

theorem State.sensorMarks_tidy {s : State} (hs : s.Tidy Q) : State.Tidy Q (State.sensorMarks s) := by
  unfold State.sensorMarks
  repeat' first
    | with_reducible assumption
    | with_reducible first
      | refine tidy_foldl (fun _ _ _ => ?_) ?_
      | refine tidy1_foldl (fun _ _ _ => ?_) ?_
      | refine State.raise_tidy ?_
      | refine State.setBit_tidy ?_

theorem State.thermShow_tidy {s : State} {i : Nat} {j : Int} (hs : s.Tidy Q) : State.Tidy Q (State.thermShow s i j) := by
  unfold State.thermShow
  repeat' first
    | with_reducible assumption
    | ((try lift_lets); intro t; first | (refine tidy_have (Q := Q) (t := t) ?_ (fun _ => ?_); rotate_left; clear_value t; rotate_left; unfold t; clear t) | clear_value t)
    | with_reducible first
      | refine State.watermark_tidy ?_
      | refine State.wrN_tidy ?_

theorem State.stopPage_tidy {s : State} {x : Nat × Nat} (hs : s.Tidy Q) : State.Tidy Q (State.stopPage s x) := by
  unfold State.stopPage
  repeat' first
    | with_reducible assumption
    | ((try lift_lets); intro t; first | (refine tidy_have (Q := Q) (t := t) ?_ (fun _ => ?_); rotate_left; clear_value t; rotate_left; unfold t; clear t) | clear_value t)
    | with_reducible first
      | refine tidy_ite ?_ ?_
      | refine State.abandonCarry_tidy ?_
      | refine State.dropRequest_tidy ?_
      | refine State.leaveRun_tidy ?_
      | refine State.resetBlock_tidy ?_
      | refine State.setCur_tidy ?_
      | refine tidy1_st ?_
    | simp only [↓tidy1_pair_iff]
    | simp only [↓tidy_mk_iff, ↓tidy_parts_iff]

theorem State.thermTrip_tidy {s : State} {i : Nat} {j : Int} (hs : s.Tidy Q) : State.Tidy Q (State.thermTrip s i j) := by
  unfold State.thermTrip
  repeat' first
    | with_reducible assumption
    | ((try lift_lets); intro t; first | (refine tidy_have (Q := Q) (t := t) ?_ (fun _ => ?_); rotate_left; clear_value t; rotate_left; unfold t; clear t) | clear_value t)
    | with_reducible first
      | refine tidy_foldl (fun _ _ _ => ?_) ?_
      | refine tidy1_foldl (fun _ _ _ => ?_) ?_
      | refine State.raise_tidy ?_
      | refine State.send_tidy ?_
      | refine State.setBit_tidy ?_
      | refine State.stopPage_tidy ?_
      | refine State.wrN_tidy ?_
    | simp only [↓tidy_mk_iff, ↓tidy_parts_iff]

theorem State.sensorSample_tidy {s : State} {readings : List Int} (hs : s.Tidy Q) : State.Tidy Q (State.sensorSample s readings) := by
  unfold State.sensorSample
  repeat' first
    | with_reducible assumption
    | ((try lift_lets); intro t; first | (refine tidy_have (Q := Q) (t := t) ?_ (fun _ => ?_); rotate_left; clear_value t; rotate_left; unfold t; clear t) | (refine tidyG_have (Q := Q) (t := t) (fun _ _ _ => ?_) (fun _ => ?_); rotate_left; clear_value t; rotate_left; unfold t; clear t) | (refine tidyE_have (Q := Q) (t := t) (fun _ _ => ?_) (fun _ => ?_); rotate_left; clear_value t; rotate_left; unfold t; clear t) | (refine tidyF_have (Q := Q) (t := t) (fun _ => ?_) (fun _ => ?_); rotate_left; clear_value t; rotate_left; unfold t; clear t) | clear_value t)
    | with_reducible first
      | refine tidy_ite ?_ ?_
      | refine tidy_foldl (fun _ _ _ => ?_) ?_
      | refine tidy1_foldl (fun _ _ _ => ?_) ?_
      | refine State.profForce_tidy ?_
      | refine State.raiseIf_tidy ?_
      | refine State.sensorMarks_tidy ?_
      | refine State.sensorRead_tidy ?_
      | refine State.thermShow_tidy ?_
      | refine State.thermTrip_tidy ?_
      | refine tidy1_st ?_
      | refine tidyG_use (by assumption) ?_
      | refine tidyF_use (by assumption)
      | refine tidyE_use (by assumption) ?_
    | simp only [↓tidy1_pair_iff]
    | simp only [↓tidy_mk_iff, ↓tidy_parts_iff]

theorem execSensorSample_tidy {readings : List Int} {s : State} (hs : s.Tidy Q) : TidyOut Q (execSensorSample readings s) := by
  unfold execSensorSample
  repeat' first
    | with_reducible assumption
    | with_reducible first
      | refine tidyOut_next ?_
      | refine State.sensorSample_tidy ?_

end Sys2Proof.Machine
end

