-- ==== Sys2Proof/Laws/KeepEpoch.lean ====
section
/-! SUPPORT. Every operation of Machine/Epoch.lean keeps a state tidy. -/

set_option Elab.async false

namespace Sys2Proof.Machine

set_option linter.unusedSimpArgs false

variable {Q : Base}

theorem State.epochEnd_tidy {s : State} (hs : s.Tidy Q) : State.Tidy Q (State.epochEnd s) := by
  unfold State.epochEnd
  repeat' first
    | with_reducible assumption
    | ((try lift_lets); intro t; first | (refine tidy_have (Q := Q) (t := t) ?_ (fun _ => ?_); rotate_left; clear_value t; rotate_left; unfold t; clear t) | clear_value t)
    | with_reducible first
      | refine tidy_ite ?_ ?_
      | refine tidy_foldl (fun _ _ _ => ?_) ?_
      | refine tidy1_foldl (fun _ _ _ => ?_) ?_
      | refine State.assemblyEnd_tidy ?_
      | refine State.bandwidthEnd_tidy ?_
      | refine State.hashEnd_tidy ?_
      | refine State.loopEpoch_tidy ?_
      | refine State.planeEnd_tidy ?_
      | refine State.rampEpoch_tidy ?_
      | refine State.readsEnd_tidy ?_
      | refine State.releaseEnd_tidy ?_
      | refine State.slackWorst_tidy ?_

theorem State.planesStart_tidy {s : State} (hs : s.Tidy Q) : State.Tidy Q (State.planesStart s) := by
  unfold State.planesStart
  repeat' first
    | with_reducible assumption
    | with_reducible first
      | refine tidy_ite ?_ ?_
      | refine tidy_foldl (fun _ _ _ => ?_) ?_
      | refine tidy1_foldl (fun _ _ _ => ?_) ?_
      | refine State.planeStart_tidy ?_

theorem State.epochStarted_tidy {s : State} (hs : s.Tidy Q) : State.Tidy Q (State.epochStarted s) := by
  unfold State.epochStarted
  repeat' first
    | with_reducible assumption
    | ((try lift_lets); intro t; first | (refine tidy_have (Q := Q) (t := t) ?_ (fun _ => ?_); rotate_left; clear_value t; rotate_left; unfold t; clear t) | clear_value t)
    | with_reducible first
      | refine tidy_ite ?_ ?_
      | refine State.allFlips_tidy ?_
      | refine State.awaitAll_tidy ?_
      | refine State.forceRetry_tidy ?_
      | refine State.fstStart_tidy ?_
      | refine State.planesStart_tidy ?_
      | refine State.profDeadline_tidy ?_
      | refine State.pxpStart_tidy ?_
      | refine State.sfeBoundary_tidy ?_
      | refine State.twinBoundary_tidy ?_
      | refine State.twinImagePassed_tidy ?_

theorem State.epochBoundary_tidy {s : State} (hq : ∀ n, Q.clock n) (hs : s.Tidy Q) : State.Tidy Q (State.epochBoundary s) := by
  unfold State.epochBoundary
  repeat' first
    | with_reducible assumption
    | ((try lift_lets); intro t; first | (refine tidy_have (Q := Q) (t := t) ?_ (fun _ => ?_); rotate_left; clear_value t; rotate_left; unfold t; clear t) | clear_value t)
    | with_reducible first
      | refine State.epochEnd_tidy ?_
      | refine State.epochStarted_tidy ?_
      | refine tidy_now hq ?_
    | simp only [↓tidy_mk_iff, ↓tidy_parts_iff]

theorem execEpochBoundary_tidy {s : State} (hq : ∀ n, Q.clock n) (hs : s.Tidy Q) : TidyOut Q (execEpochBoundary s) := by
  unfold execEpochBoundary
  repeat' first
    | with_reducible assumption
    | with_reducible first
      | refine tidy_ite ?_ ?_
      | refine tidyOut_next ?_
      | refine State.epochBoundary_tidy hq ?_

theorem State.tick_tidy {s : State} (hq : ∀ n, Q.clock n) (hs : s.Tidy Q) : State.Tidy Q (State.tick s) := by
  unfold State.tick
  repeat' first
    | with_reducible assumption
    | ((try lift_lets); intro t; first | (refine tidy_have (Q := Q) (t := t) ?_ (fun _ => ?_); rotate_left; clear_value t; rotate_left; unfold t; clear t) | clear_value t)
    | with_reducible first
      | refine tidy_ite ?_ ?_
      | refine State.epochBoundary_tidy hq ?_
      | refine tidy_now hq ?_
    | simp only [↓tidy_mk_iff, ↓tidy_parts_iff]

end Sys2Proof.Machine
end

