-- ==== Sys2Proof/Laws/KeepRoute.lean ====
section
/-! SUPPORT. Every operation of Machine/Route.lean keeps a state tidy. -/

set_option Elab.async false

namespace Sys2Proof.Machine

set_option linter.unusedSimpArgs false

variable {Q : Base}

theorem State.eoi_tidy {s : State} {v : Nat} (hs : s.Tidy Q) : State.Tidy Q (State.eoi s v) := by
  unfold State.eoi
  repeat' first
    | with_reducible assumption
    | with_reducible first
      | refine tidy_ite ?_ ?_
      | refine State.notifyVector_tidy ?_

theorem State.msixWrite_tidy {s : State} {a : Nat} {v : Nat} (hs : s.Tidy Q) : State.Tidy Q (State.msixWrite s a v) := by
  unfold State.msixWrite
  repeat' first
    | with_reducible assumption
    | ((try lift_lets); intro t; first | (refine tidy_have (Q := Q) (t := t) ?_ (fun _ => ?_); rotate_left; clear_value t; rotate_left; unfold t; clear t) | clear_value t)
    | with_reducible first
      | refine tidy_ite ?_ ?_
      | refine State.notifyVector_tidy ?_
      | refine State.setBit_tidy ?_
      | refine State.wrN_tidy ?_

theorem State.notifyNew_tidy {t : State} {before : State} {p : Nat} (ht : t.Tidy Q) : State.Tidy Q (State.notifyNew t before p) := by
  unfold State.notifyNew
  repeat' first
    | with_reducible assumption
    | ((try lift_lets); intro t; first | (refine tidy_have (Q := Q) (t := t) ?_ (fun _ => ?_); rotate_left; clear_value t; rotate_left; unfold t; clear t) | clear_value t)
    | with_reducible first
      | refine tidy_ite ?_ ?_
      | refine State.notifyVector_tidy ?_
    | split

theorem State.routeEntry_tidy {s : State} {a : Nat} {v : Nat} (hs : s.Tidy Q) : State.Tidy Q (State.routeEntry s a v) := by
  unfold State.routeEntry
  repeat' first
    | with_reducible assumption
    | ((try lift_lets); intro t; first | (refine tidy_have (Q := Q) (t := t) ?_ (fun _ => ?_); rotate_left; clear_value t; rotate_left; unfold t; clear t) | clear_value t)
    | with_reducible first
      | refine State.notifyNew_tidy ?_
      | refine State.wrN_tidy ?_

theorem State.dbWrite_tidy {s : State} {n : Nat} {v : Nat} (hs : s.Tidy Q) : State.Tidy Q (State.dbWrite s n v) := by
  unfold State.dbWrite
  repeat' first
    | with_reducible assumption
    | ((try lift_lets); intro t; first | (refine tidy_have (Q := Q) (t := t) ?_ (fun _ => ?_); rotate_left; clear_value t; rotate_left; unfold t; clear t) | clear_value t)
    | with_reducible first
      | refine tidy_ite ?_ ?_
      | refine State.notifyVector_tidy ?_
      | refine State.wrN_tidy ?_

theorem State.plainWrite_tidy {s : State} {m : Requester} {a : Nat} {v : Nat} {hw : Nat} (hs : s.Tidy Q) : State.Tidy Q (State.plainWrite s m a v hw) := by
  unfold State.plainWrite
  repeat' first
    | with_reducible assumption
    | ((try lift_lets); intro t; first | (refine tidy_have (Q := Q) (t := t) ?_ (fun _ => ?_); rotate_left; clear_value t; rotate_left; unfold t; clear t) | clear_value t)
    | with_reducible first
      | refine tidy_ite ?_ ?_
      | refine State.writeRow_tidy ?_
      | refine State.writeWatermark_tidy ?_
    | split

theorem State.plainThen_tidy {s : State} {m : Requester} {a : Nat} {v : Nat} {hw : Nat} {f : State → State} (hs : s.Tidy Q) (hf : ∀ x, x.Tidy Q → (f x).Tidy Q) : State.Tidy Q (State.plainThen s m a v hw f) := by
  unfold State.plainThen
  repeat' first
    | with_reducible assumption
    | ((try lift_lets); intro t; first | (refine tidy_have (Q := Q) (t := t) ?_ (fun _ => ?_); rotate_left; clear_value t; rotate_left; unfold t; clear t) | clear_value t)
    | with_reducible first
      | refine tidy_ite ?_ ?_
      | refine State.plainWrite_tidy ?_
      | refine hf _ ?_

theorem State.hartCtrl_tidy {s : State} {h : Nat} {v : Nat} (hs : s.Tidy Q) : State.Tidy Q (State.hartCtrl s h v) := by
  unfold State.hartCtrl
  repeat' first
    | with_reducible assumption
    | ((try lift_lets); intro t; first | (refine tidy_have (Q := Q) (t := t) ?_ (fun _ => ?_); rotate_left; clear_value t; rotate_left; unfold t; clear t) | clear_value t)
    | with_reducible first
      | refine tidy_ite ?_ ?_
      | refine State.nmiHart_tidy ?_
      | refine State.restartHart_tidy ?_

theorem State.writeCpc_tidy {s : State} {m : Requester} {a : Nat} {v : Nat} (hs : s.Tidy Q) : TidyO Q (State.writeCpc s m a v) := by
  unfold State.writeCpc
  repeat' first
    | with_reducible assumption
    | ((try lift_lets); intro t; first | (refine tidy_have (Q := Q) (t := t) ?_ (fun _ => ?_); rotate_left; clear_value t; rotate_left; unfold t; clear t) | clear_value t)
    | with_reducible first
      | refine tidyO_ite ?_ ?_
      | refine tidy_ite ?_ ?_
      | refine tidyO_some ?_
      | exact tidyO_none
      | refine State.hartCtrl_tidy ?_
      | refine State.hartRun_tidy ?_
      | refine State.kickWdt_tidy ?_
      | refine State.mboxWrite_tidy ?_
      | refine State.plicComplete_tidy ?_
      | refine State.warmRestart_tidy ?_

theorem State.writeBmx_tidy {s : State} {m : Requester} {a : Nat} {v : Nat} (hs : s.Tidy Q) : TidyO Q (State.writeBmx s m a v) := by
  unfold State.writeBmx
  repeat' first
    | with_reducible assumption
    | ((try lift_lets); intro t; first | (refine tidy_have (Q := Q) (t := t) ?_ (fun _ => ?_); rotate_left; clear_value t; rotate_left; unfold t; clear t) | clear_value t)
    | with_reducible first
      | refine tidyO_ite ?_ ?_
      | refine tidy_ite ?_ ?_
      | refine tidyO_some ?_
      | exact tidyO_none
      | refine State.dbWrite_tidy ?_
      | refine State.eoi_tidy ?_
      | refine State.msixWrite_tidy ?_
      | refine State.routeEntry_tidy ?_
      | refine State.seal_tidy ?_
      | refine State.writeMap_tidy ?_

theorem State.slotCmd_tidy {s : State} {m : Requester} {v : Nat} (hs : s.Tidy Q) : State.Tidy Q (State.slotCmd s m v) := by
  unfold State.slotCmd
  repeat' first
    | with_reducible assumption
    | ((try lift_lets); intro t; first | (refine tidy_have (Q := Q) (t := t) ?_ (fun _ => ?_); rotate_left; clear_value t; rotate_left; unfold t; clear t) | clear_value t)
    | with_reducible first
      | refine State.slotClear_tidy ?_
      | refine State.slotLock_tidy ?_
      | refine State.slotWrite_tidy ?_
    | split

theorem State.lcCmd_tidy {s : State} {m : Requester} {v : Nat} (hs : s.Tidy Q) : State.Tidy Q (State.lcCmd s m v) := by
  unfold State.lcCmd
  repeat' first
    | with_reducible assumption
    | ((try lift_lets); intro t; first | (refine tidy_have (Q := Q) (t := t) ?_ (fun _ => ?_); rotate_left; clear_value t; rotate_left; unfold t; clear t) | clear_value t)
    | with_reducible first
      | refine State.fuseCommand_tidy ?_
      | refine State.writeWB_tidy ?_ (fun _ _ => ?_)
    | split

theorem State.writeKsu_tidy {s : State} {m : Requester} {a : Nat} {v : Nat} (hs : s.Tidy Q) : TidyO Q (State.writeKsu s m a v) := by
  unfold State.writeKsu
  repeat' first
    | with_reducible assumption
    | ((try lift_lets); intro t; first | (refine tidy_have (Q := Q) (t := t) ?_ (fun _ => ?_); rotate_left; clear_value t; rotate_left; unfold t; clear t) | clear_value t)
    | with_reducible first
      | refine tidyO_ite ?_ ?_
      | refine tidy_ite ?_ ?_
      | refine tidyO_some ?_
      | exact tidyO_none
      | refine State.engineCommand_tidy ?_
      | refine State.lcCmd_tidy ?_
      | refine State.slotCmd_tidy ?_
      | refine State.wrN_tidy ?_

theorem State.writeFcr_tidy {s : State} {m : Requester} {a : Nat} {v : Nat} {hw : Nat} (hs : s.Tidy Q) : TidyO Q (State.writeFcr s m a v hw) := by
  unfold State.writeFcr
  repeat' first
    | with_reducible assumption
    | with_reducible first
      | refine tidyO_ite ?_ ?_
      | refine tidy_ite ?_ ?_
      | refine tidyO_some ?_
      | exact tidyO_none
      | refine State.ackWrite_tidy ?_
      | refine State.fcrCtrl_tidy ?_
      | refine State.plainThen_tidy ?_ (fun _ _ => ?_)
      | refine State.ringCfg_tidy ?_
      | refine State.ringMark_tidy ?_
      | refine State.sevWrite_tidy ?_
      | refine State.snapCmd_tidy ?_

theorem State.writePtm_tidy {s : State} {m : Requester} {a : Nat} {v : Nat} {hw : Nat} (hs : s.Tidy Q) : TidyO Q (State.writePtm s m a v hw) := by
  unfold State.writePtm
  repeat' first
    | with_reducible assumption
    | ((try lift_lets); intro t; first | (refine tidy_have (Q := Q) (t := t) ?_ (fun _ => ?_); rotate_left; clear_value t; rotate_left; unfold t; clear t) | clear_value t)
    | with_reducible first
      | refine tidyO_ite ?_ ?_
      | refine tidy_ite ?_ ?_
      | refine tidyO_some ?_
      | exact tidyO_none
      | refine State.calCmd_tidy ?_
      | refine State.plainThen_tidy ?_ (fun _ _ => ?_)
      | refine State.profCmd_tidy ?_
      | refine State.railWrite_tidy ?_
      | refine State.rangeReset_tidy ?_
      | refine State.vLimit_tidy ?_
      | refine State.wrN_tidy ?_

theorem State.writeRtu_tidy {s : State} {m : Requester} {a : Nat} {v : Nat} (hq : ∀ n, Q.clock n) (hs : s.Tidy Q) : State.Tidy Q (State.writeRtu s m a v) := by
  unfold State.writeRtu
  repeat' first
    | with_reducible assumption
    | ((try lift_lets); intro t; first | (refine tidy_have (Q := Q) (t := t) ?_ (fun _ => ?_); rotate_left; clear_value t; rotate_left; unfold t; clear t) | clear_value t)
    | with_reducible first
      | refine tidy_ite ?_ ?_
      | refine State.aclkWrite_tidy ?_
      | refine State.dpllCfg_tidy ?_
      | refine State.phaseAdj_tidy ?_
      | refine State.plainWrite_tidy ?_
      | refine State.refSync_tidy ?_
      | refine State.reselect_tidy ?_
      | refine State.selCfg_tidy ?_
      | refine State.ticCfg_tidy ?_
      | refine State.timeCmd_tidy hq ?_
      | refine State.toutOffset_tidy ?_
      | refine State.toutRealign_tidy ?_
      | refine State.wrN_tidy ?_

theorem State.writeSlc_tidy {s : State} {a : Nat} {v : Nat} (hs : s.Tidy Q) : TidyO Q (State.writeSlc s a v) := by
  unfold State.writeSlc
  repeat' first
    | with_reducible assumption
    | ((try lift_lets); intro t; first | (refine tidy_have (Q := Q) (t := t) ?_ (fun _ => ?_); rotate_left; clear_value t; rotate_left; unfold t; clear t) | clear_value t)
    | with_reducible first
      | refine tidyO_ite ?_ ?_
      | refine tidy_ite ?_ ?_
      | refine tidyO_some ?_
      | exact tidyO_none
      | refine State.alignWrite_tidy ?_
      | refine State.eyeWrite_tidy ?_
      | refine State.sleepWrite_tidy ?_

theorem State.writeSfe_tidy {s : State} {m : Requester} {a : Nat} {v : Nat} (hs : s.Tidy Q) : TidyO Q (State.writeSfe s m a v) := by
  unfold State.writeSfe
  repeat' first
    | with_reducible assumption
    | ((try lift_lets); intro t; first | (refine tidy_have (Q := Q) (t := t) ?_ (fun _ => ?_); rotate_left; clear_value t; rotate_left; unfold t; clear t) | clear_value t)
    | with_reducible first
      | refine tidyO_ite ?_ ?_
      | refine tidy_ite ?_ ?_
      | refine tidyO_some ?_
      | exact tidyO_none
      | refine State.ctxWrite_tidy ?_

theorem State.writeMac_tidy {s : State} {a : Nat} {v : Nat} (hs : s.Tidy Q) : TidyO Q (State.writeMac s a v) := by
  unfold State.writeMac
  repeat' first
    | with_reducible assumption
    | ((try lift_lets); intro t; first | (refine tidy_have (Q := Q) (t := t) ?_ (fun _ => ?_); rotate_left; clear_value t; rotate_left; unfold t; clear t) | clear_value t)
    | with_reducible first
      | refine tidyO_ite ?_ ?_
      | refine tidy_ite ?_ ?_
      | refine tidyO_some ?_
      | exact tidyO_none
      | refine State.ptpAdjWrite_tidy ?_
      | refine State.txAnWrite_tidy ?_

theorem State.writeGse_tidy {s : State} {a : Nat} {v : Nat} (hs : s.Tidy Q) : TidyO Q (State.writeGse s a v) := by
  unfold State.writeGse
  repeat' first
    | with_reducible assumption
    | ((try lift_lets); intro t; first | (refine tidy_have (Q := Q) (t := t) ?_ (fun _ => ?_); rotate_left; clear_value t; rotate_left; unfold t; clear t) | clear_value t)
    | with_reducible first
      | refine tidyO_ite ?_ ?_
      | refine tidy_ite ?_ ?_
      | refine tidyO_some ?_
      | exact tidyO_none
      | refine State.imgCmd_tidy ?_
      | refine State.portCmd_tidy ?_
      | refine State.profSync_tidy ?_

theorem State.writeMrs_tidy {s : State} {a : Nat} {v : Nat} (hs : s.Tidy Q) : TidyO Q (State.writeMrs s a v) := by
  unfold State.writeMrs
  repeat' first
    | with_reducible assumption
    | with_reducible first
      | refine tidyO_ite ?_ ?_
      | refine tidy_ite ?_ ?_
      | refine tidyO_some ?_
      | exact tidyO_none
      | refine State.auxCommand_tidy ?_
      | refine State.linkTrain_tidy ?_
      | refine State.mrsHostReady_tidy ?_

theorem State.writeTwn_tidy {s : State} {m : Requester} {a : Nat} {v : Nat} {hw : Nat} (hs : s.Tidy Q) : TidyO Q (State.writeTwn s m a v hw) := by
  unfold State.writeTwn
  repeat' first
    | with_reducible assumption
    | ((try lift_lets); intro t; first | (refine tidy_have (Q := Q) (t := t) ?_ (fun _ => ?_); rotate_left; clear_value t; rotate_left; unfold t; clear t) | clear_value t)
    | with_reducible first
      | refine tidyO_ite ?_ ?_
      | refine tidy_ite ?_ ?_
      | refine tidyO_some ?_
      | exact tidyO_none
      | refine State.chainSync_tidy ?_
      | refine State.plainThen_tidy ?_ (fun _ _ => ?_)
      | refine State.twinCtrl_tidy ?_
      | refine State.updCmd_tidy ?_

theorem State.ownWrite_tidy {s : State} {m : Requester} {a : Nat} {v : Nat} {hw : Nat} (hq : ∀ n, Q.clock n) (hs : s.Tidy Q) : TidyO Q (State.ownWrite s m a v hw) := by
  unfold State.ownWrite
  repeat' first
    | with_reducible assumption
    | ((try lift_lets); intro t; first | (refine tidy_have (Q := Q) (t := t) ?_ (fun _ => ?_); rotate_left; clear_value t; rotate_left; unfold t; clear t) | clear_value t)
    | with_reducible first
      | refine tidyO_ite ?_ ?_
      | refine tidy_ite ?_ ?_
      | refine tidyO_some ?_
      | exact tidyO_none
      | refine State.fenceWrite_tidy ?_
      | refine State.wrN_tidy ?_
      | refine State.writeBmx_tidy ?_
      | refine State.writeCpc_tidy ?_
      | refine State.writeFcr_tidy ?_
      | refine State.writeGse_tidy ?_
      | refine State.writeKsu_tidy ?_
      | refine State.writeMac_tidy ?_
      | refine State.writeMrs_tidy ?_
      | refine State.writePtm_tidy ?_
      | refine State.writeRtu_tidy hq ?_
      | refine State.writeSfe_tidy ?_
      | refine State.writeSlc_tidy ?_
      | refine State.writeTwn_tidy ?_
      | refine tidyO_get (State.writeBmx_tidy ?_) (by assumption)
      | refine tidyO_get (State.writeCpc_tidy ?_) (by assumption)
      | refine tidyO_get (State.writeFcr_tidy ?_) (by assumption)
      | refine tidyO_get (State.writeGse_tidy ?_) (by assumption)
      | refine tidyO_get (State.writeKsu_tidy ?_) (by assumption)
      | refine tidyO_get (State.writeMac_tidy ?_) (by assumption)
      | refine tidyO_get (State.writeMrs_tidy ?_) (by assumption)
      | refine tidyO_get (State.writePtm_tidy ?_) (by assumption)
      | refine tidyO_get (State.writeSfe_tidy ?_) (by assumption)
      | refine tidyO_get (State.writeSlc_tidy ?_) (by assumption)
      | refine tidyO_get (State.writeTwn_tidy ?_) (by assumption)
    | split

theorem State.pairAfter_tidy {s : State} {lo : Nat} (hs : s.Tidy Q) : State.Tidy Q (State.pairAfter s lo) := by
  unfold State.pairAfter
  repeat' first
    | with_reducible assumption
    | with_reducible first
      | refine tidy_ite ?_ ?_
      | refine State.mtimecmpSet_tidy ?_

theorem State.pairSet_tidy {s : State} {m : Requester} {lo : Nat} {hi : Nat} {vlo : Nat} {vhi : Nat} (hs : s.Tidy Q) : State.Tidy Q (State.pairSet s m lo hi vlo vhi) := by
  unfold State.pairSet
  repeat' first
    | with_reducible assumption
    | ((try lift_lets); intro t; first | (refine tidy_have (Q := Q) (t := t) ?_ (fun _ => ?_); rotate_left; clear_value t; rotate_left; unfold t; clear t) | clear_value t)
    | with_reducible first
      | refine tidy_ite ?_ ?_
      | refine State.pairAfter_tidy ?_
      | refine State.plainWrite_tidy ?_
      | refine tidy1_st ?_
    | simp only [↓tidy1_pair_iff]
    | simp only [↓tidy_mk_iff, ↓tidy_parts_iff]

theorem State.pairHold_tidy {s : State} {m : Requester} {lo : Nat} {v : Nat} (hs : s.Tidy Q) : State.Tidy Q (State.pairHold s m lo v) := by
  unfold State.pairHold
  repeat' first
    | with_reducible assumption
    | ((try lift_lets); intro t; first | (refine tidy_have (Q := Q) (t := t) ?_ (fun _ => ?_); rotate_left; clear_value t; rotate_left; unfold t; clear t) | clear_value t)
    | with_reducible first
      | refine tidy_ite ?_ ?_
      | refine State.refuseLocked_tidy ?_
    | simp only [↓tidy_mk_iff, ↓tidy_parts_iff]
    | split

theorem State.headerWrite_tidy {s : State} {m : Requester} {a : Nat} {v : Nat} {hw : Nat} (hq : ∀ n, Q.clock n) (hs : s.Tidy Q) : State.Tidy Q (State.headerWrite s m a v hw) := by
  unfold State.headerWrite
  repeat' first
    | with_reducible assumption
    | ((try lift_lets); intro t; first | (refine tidy_have (Q := Q) (t := t) ?_ (fun _ => ?_); rotate_left; clear_value t; rotate_left; unfold t; clear t) | clear_value t)
    | with_reducible first
      | refine State.clearSticky_tidy ?_
      | refine State.ctrlWrite_tidy hq ?_
      | refine State.shadowCtrl_tidy ?_
      | refine State.writeForce_tidy ?_
      | refine State.writeIrqEn_tidy ?_
      | refine State.writeLock_tidy ?_
    | split

theorem State.routeWrite_tidy {s : State} {m : Requester} {a : Nat} {v : Nat} {hw : Nat} (hq : ∀ n, Q.clock n) (hs : s.Tidy Q) : State.Tidy Q (State.routeWrite s m a v hw) := by
  unfold State.routeWrite
  repeat' first
    | with_reducible assumption
    | ((try lift_lets); intro t; first | (refine tidy_have (Q := Q) (t := t) ?_ (fun _ => ?_); rotate_left; clear_value t; rotate_left; unfold t; clear t) | clear_value t)
    | with_reducible first
      | refine tidy_ite ?_ ?_
      | refine State.headerWrite_tidy hq ?_
      | refine State.ownWrite_tidy hq ?_
      | refine State.pairHold_tidy ?_
      | refine State.pairSet_tidy ?_
      | refine State.plainWrite_tidy ?_
      | refine State.refSync_tidy ?_
      | refine State.shadowWrite_tidy ?_
      | refine tidyO_get (State.ownWrite_tidy hq ?_) (by assumption)
      | refine tidyO_getD ?_ ?_
    | split

theorem State.readTime_tidy {s : State} {a : Nat} (hs : s.Tidy Q) : State.Tidy Q (State.readTime s a) := by
  unfold State.readTime
  repeat' first
    | with_reducible assumption
    | ((try lift_lets); intro t; first | (refine tidy_have (Q := Q) (t := t) ?_ (fun _ => ?_); rotate_left; clear_value t; rotate_left; unfold t; clear t) | (refine tidy1_have (Q := Q) (t := t) ?_ (fun _ => ?_); rotate_left; clear_value t; rotate_left; unfold t; clear t) | (refine tidyG_have (Q := Q) (t := t) (fun _ _ _ => ?_) (fun _ => ?_); rotate_left; clear_value t; rotate_left; unfold t; clear t) | (refine tidyE_have (Q := Q) (t := t) (fun _ _ => ?_) (fun _ => ?_); rotate_left; clear_value t; rotate_left; unfold t; clear t) | (refine tidyF_have (Q := Q) (t := t) (fun _ => ?_) (fun _ => ?_); rotate_left; clear_value t; rotate_left; unfold t; clear t) | clear_value t)
    | with_reducible first
      | refine tidy_ite ?_ ?_
      | refine tidy1_ite ?_ ?_
      | refine State.withData_tidy ?_
      | refine tidy1_st ?_
      | refine tidyG_use (by assumption) ?_
      | refine tidyF_use (by assumption)
      | refine tidyE_use (by assumption) ?_
    | simp only [↓tidy1_pair_iff]
    | simp only [↓tidy_mk_iff, ↓tidy_parts_iff]

theorem State.ownRead_tidy {s : State} {a : Nat} (hs : s.Tidy Q) : TidyO Q (State.ownRead s a) := by
  unfold State.ownRead
  repeat' first
    | with_reducible assumption
    | ((try lift_lets); intro t; first | (refine tidy_have (Q := Q) (t := t) ?_ (fun _ => ?_); rotate_left; clear_value t; rotate_left; unfold t; clear t) | clear_value t)
    | with_reducible first
      | refine tidyO_ite ?_ ?_
      | refine tidy_ite ?_ ?_
      | refine tidyO_some ?_
      | exact tidyO_none
      | refine State.plicClaim_tidy ?_
      | refine State.readTime_tidy ?_
      | refine State.setFld_tidy ?_
      | refine State.withData_tidy ?_
      | refine State.wrN_tidy ?_

theorem State.routeRead_tidy {s : State} {a : Nat} (hs : s.Tidy Q) : State.Tidy Q (State.routeRead s a) := by
  unfold State.routeRead
  repeat' first
    | with_reducible assumption
    | ((try lift_lets); intro t; first | (refine tidy_have (Q := Q) (t := t) ?_ (fun _ => ?_); rotate_left; clear_value t; rotate_left; unfold t; clear t) | clear_value t)
    | with_reducible first
      | refine State.ownRead_tidy ?_
      | refine State.withData_tidy ?_
      | refine tidyO_get (State.ownRead_tidy ?_) (by assumption)
      | refine tidy1_st ?_
    | simp only [↓tidy1_pair_iff]
    | simp only [↓tidy_mk_iff, ↓tidy_parts_iff]
    | split

theorem State.routePair_tidy {s : State} {m : Requester} {lo : Nat} {write : Bool} {v : Nat} (hs : s.Tidy Q) : State.Tidy Q (State.routePair s m lo write v) := by
  unfold State.routePair
  repeat' first
    | with_reducible assumption
    | ((try lift_lets); intro t; first | (refine tidy_have (Q := Q) (t := t) ?_ (fun _ => ?_); rotate_left; clear_value t; rotate_left; unfold t; clear t) | clear_value t)
    | with_reducible first
      | refine tidy_ite ?_ ?_
      | refine State.pairSet_tidy ?_
      | refine State.refSync_tidy ?_
      | refine State.withData_tidy ?_

theorem State.breakResv_tidy {s : State} {m : Nat} {a : Nat} {len : Nat} (hs : s.Tidy Q) : State.Tidy Q (State.breakResv s m a len) := by
  unfold State.breakResv
  repeat' first
    | with_reducible assumption
    | ((try lift_lets); intro t; first | (refine tidy_have (Q := Q) (t := t) ?_ (fun _ => ?_); rotate_left; clear_value t; rotate_left; unfold t; clear t) | (refine tidy1_have (Q := Q) (t := t) ?_ (fun _ => ?_); rotate_left; clear_value t; rotate_left; unfold t; clear t) | (refine tidyG_have (Q := Q) (t := t) (fun _ _ _ => ?_) (fun _ => ?_); rotate_left; clear_value t; rotate_left; unfold t; clear t) | (refine tidyE_have (Q := Q) (t := t) (fun _ _ => ?_) (fun _ => ?_); rotate_left; clear_value t; rotate_left; unfold t; clear t) | (refine tidyF_have (Q := Q) (t := t) (fun _ => ?_) (fun _ => ?_); rotate_left; clear_value t; rotate_left; unfold t; clear t) | clear_value t)
    | with_reducible first
      | refine tidy_ite ?_ ?_
      | refine tidy1_ite ?_ ?_
      | refine State.bumpBy_tidy ?_
      | refine tidy1_st ?_
      | refine tidyG_use (by assumption) ?_
      | refine tidyF_use (by assumption)
      | refine tidyE_use (by assumption) ?_
    | simp only [↓tidy1_pair_iff]
    | simp only [↓tidy_mk_iff, ↓tidy_parts_iff]

theorem State.hostTouch_tidy {s : State} {a : Nat} {len : Nat} {write : Bool} (hs : s.Tidy Q) : State.Tidy Q (State.hostTouch s a len write) := by
  unfold State.hostTouch
  repeat' first
    | with_reducible assumption
    | ((try lift_lets); intro t; first | (refine tidy_have (Q := Q) (t := t) ?_ (fun _ => ?_); rotate_left; clear_value t; rotate_left; unfold t; clear t) | clear_value t)
    | with_reducible first
      | refine tidy_ite ?_ ?_
      | refine State.bumpBy_tidy ?_
      | refine State.stackMove_tidy ?_

theorem State.memWrite_tidy {s : State} {m : Requester} {a : Nat} {len : Nat} {data : Nat} (hs : s.Tidy Q) : State.Tidy Q (State.memWrite s m a len data) := by
  unfold State.memWrite
  repeat' first
    | with_reducible assumption
    | ((try lift_lets); intro t; first | (refine tidy_have (Q := Q) (t := t) ?_ (fun _ => ?_); rotate_left; clear_value t; rotate_left; unfold t; clear t) | clear_value t)
    | with_reducible first
      | refine tidy_ite ?_ ?_
      | refine State.breakResv_tidy ?_
      | refine State.granulesGood_tidy ?_
      | refine State.hostTouch_tidy ?_
      | refine State.wrBytes_tidy ?_

theorem State.memRead_tidy {s : State} {a : Nat} {len : Nat} {e : Ecc} (hs : s.Tidy Q) : State.Tidy Q (State.memRead s a len e) := by
  unfold State.memRead
  repeat' first
    | with_reducible assumption
    | ((try lift_lets); intro t; first | (refine tidy_have (Q := Q) (t := t) ?_ (fun _ => ?_); rotate_left; clear_value t; rotate_left; unfold t; clear t) | (refine tidyG_have (Q := Q) (t := t) (fun _ _ _ => ?_) (fun _ => ?_); rotate_left; clear_value t; rotate_left; unfold t; clear t) | (refine tidyE_have (Q := Q) (t := t) (fun _ _ => ?_) (fun _ => ?_); rotate_left; clear_value t; rotate_left; unfold t; clear t) | (refine tidyF_have (Q := Q) (t := t) (fun _ => ?_) (fun _ => ?_); rotate_left; clear_value t; rotate_left; unfold t; clear t) | clear_value t)
    | with_reducible first
      | refine tidy_ite ?_ ?_
      | refine State.drawn_tidy ?_
      | refine State.eccBad_tidy ?_
      | refine State.eccFixed_tidy ?_
      | refine State.hostTouch_tidy ?_
      | refine State.sramEcc_tidy ?_
      | refine State.withData_tidy ?_
      | refine tidyG_use (by assumption) ?_
      | refine tidyF_use (by assumption)
      | refine tidyE_use (by assumption) ?_
    | simp only [↓tidy_mk_iff, ↓tidy_parts_iff]
    | split

theorem State.lrPerform_tidy {s : State} {m : Requester} {a : Nat} {len : Nat} {e : Ecc} (hs : s.Tidy Q) : State.Tidy Q (State.lrPerform s m a len e) := by
  unfold State.lrPerform
  repeat' first
    | with_reducible assumption
    | ((try lift_lets); intro t; first | (refine tidy_have (Q := Q) (t := t) ?_ (fun _ => ?_); rotate_left; clear_value t; rotate_left; unfold t; clear t) | clear_value t)
    | with_reducible first
      | refine tidy_ite ?_ ?_
      | refine State.dropResv_tidy ?_
      | refine State.memRead_tidy ?_
    | simp only [↓tidy_mk_iff, ↓tidy_parts_iff]

theorem State.scPerform_tidy {s : State} {m : Requester} {a : Nat} {len : Nat} {data : Nat} (hs : s.Tidy Q) : State.Tidy Q (State.scPerform s m a len data) := by
  unfold State.scPerform
  repeat' first
    | with_reducible assumption
    | ((try lift_lets); intro t; first | (refine tidy_have (Q := Q) (t := t) ?_ (fun _ => ?_); rotate_left; clear_value t; rotate_left; unfold t; clear t) | clear_value t)
    | with_reducible first
      | refine tidy_ite ?_ ?_
      | refine State.bump_tidy ?_
      | refine State.dropResv_tidy ?_
      | refine State.memWrite_tidy ?_
      | refine State.withData_tidy ?_

theorem State.amoPerform_tidy {s : State} {m : Requester} {op : AmoOp} {a : Nat} {len : Nat} {data : Nat} {e : Ecc} (hs : s.Tidy Q) : State.Tidy Q (State.amoPerform s m op a len data e) := by
  unfold State.amoPerform
  repeat' first
    | with_reducible assumption
    | ((try lift_lets); intro t; first | (refine tidy_have (Q := Q) (t := t) ?_ (fun _ => ?_); rotate_left; clear_value t; rotate_left; unfold t; clear t) | clear_value t)
    | with_reducible first
      | refine State.memRead_tidy ?_
      | refine State.memWrite_tidy ?_

theorem State.perform_tidy {s : State} {m : Requester} {kind : TxnKind} {a : Nat} {len : Nat} {data : Nat} {e : Ecc} (hq : ∀ n, Q.clock n) (hs : s.Tidy Q) : State.Tidy Q (State.perform s m kind a len data e) := by
  unfold State.perform
  repeat' first
    | with_reducible assumption
    | ((try lift_lets); intro t; first | (refine tidy_have (Q := Q) (t := t) ?_ (fun _ => ?_); rotate_left; clear_value t; rotate_left; unfold t; clear t) | clear_value t)
    | with_reducible first
      | refine tidy_ite ?_ ?_
      | refine State.amoPerform_tidy ?_
      | refine State.lrPerform_tidy ?_
      | refine State.memRead_tidy ?_
      | refine State.memWrite_tidy ?_
      | refine State.refuseState_tidy ?_
      | refine State.routePair_tidy ?_
      | refine State.routeRead_tidy ?_
      | refine State.routeWrite_tidy hq ?_
      | refine State.scPerform_tidy ?_
    | split

theorem State.regWrite_tidy {s : State} {m : Requester} {a : Nat} {v : Nat} {hw : Nat} (hq : ∀ n, Q.clock n) (hs : s.Tidy Q) : State.Tidy Q (State.regWrite s m a v hw) := by
  unfold State.regWrite
  repeat' first
    | with_reducible assumption
    | with_reducible first
      | refine tidy_ite ?_ ?_
      | refine State.accessWord_tidy ?_ (fun _ _ => ?_)
      | refine State.memWrite_tidy ?_
      | refine State.routeWrite_tidy hq ?_

theorem execRegWrite_tidy {m : Requester} {addr : Nat} {v : Nat} {s : State} (hq : ∀ n, Q.clock n) (hs : s.Tidy Q) : TidyOut Q (execRegWrite m addr v s) := by
  unfold execRegWrite
  repeat' first
    | with_reducible assumption
    | with_reducible first
      | refine tidyOut_next ?_
      | refine State.regWrite_tidy hq ?_

theorem execPairLoWrite_tidy {m : Requester} {addr : Nat} {v : Nat} {s : State} (hq : ∀ n, Q.clock n) (hs : s.Tidy Q) : TidyOut Q (execPairLoWrite m addr v s) := by
  unfold execPairLoWrite
  repeat' first
    | with_reducible assumption
    | with_reducible first
      | refine tidyOut_next ?_
      | refine State.regWrite_tidy hq ?_

theorem execPairHiWrite_tidy {m : Requester} {addr : Nat} {v : Nat} {s : State} (hq : ∀ n, Q.clock n) (hs : s.Tidy Q) : TidyOut Q (execPairHiWrite m addr v s) := by
  unfold execPairHiWrite
  repeat' first
    | with_reducible assumption
    | with_reducible first
      | refine tidyOut_next ?_
      | refine State.regWrite_tidy hq ?_

theorem execPairLoRead_tidy {m : Requester} {addr : Nat} {s : State} (hs : s.Tidy Q) : TidyOut Q (execPairLoRead m addr s) := by
  unfold execPairLoRead
  repeat' first
    | with_reducible assumption
    | with_reducible first
      | refine tidy_ite ?_ ?_
      | refine tidyOut_next ?_
      | refine State.memRead_tidy ?_
      | refine State.readAccess_tidy ?_ (fun _ _ => ?_)
      | refine State.routeRead_tidy ?_

theorem execStickyClear_tidy {m : Requester} {addr : Nat} {v : Nat} {hw : Nat} {s : State} (hq : ∀ n, Q.clock n) (hs : s.Tidy Q) : TidyOut Q (execStickyClear m addr v hw s) := by
  unfold execStickyClear
  repeat' first
    | with_reducible assumption
    | with_reducible first
      | refine tidyOut_next ?_
      | refine State.regWrite_tidy hq ?_

theorem execForceWrite_tidy {m : Requester} {b : Nat} {k : Nat} {v : Nat} {s : State} (hq : ∀ n, Q.clock n) (hs : s.Tidy Q) : TidyOut Q (execForceWrite m b k v s) := by
  unfold execForceWrite
  repeat' first
    | with_reducible assumption
    | with_reducible first
      | refine tidyOut_next ?_
      | refine State.regWrite_tidy hq ?_

theorem execLockWrite_tidy {m : Requester} {b : Nat} {k : Nat} {v : Nat} {s : State} (hq : ∀ n, Q.clock n) (hs : s.Tidy Q) : TidyOut Q (execLockWrite m b k v s) := by
  unfold execLockWrite
  repeat' first
    | with_reducible assumption
    | with_reducible first
      | refine tidyOut_next ?_
      | refine State.regWrite_tidy hq ?_

theorem execWmClrCount_tidy {m : Requester} {addr : Nat} {s : State} (hq : ∀ n, Q.clock n) (hs : s.Tidy Q) : TidyOut Q (execWmClrCount m addr s) := by
  unfold execWmClrCount
  repeat' first
    | with_reducible assumption
    | with_reducible first
      | refine tidyOut_next ?_
      | refine State.regWrite_tidy hq ?_

theorem execShadowWrite_tidy {m : Requester} {addr : Nat} {v : Nat} {s : State} (hq : ∀ n, Q.clock n) (hs : s.Tidy Q) : TidyOut Q (execShadowWrite m addr v s) := by
  unfold execShadowWrite
  repeat' first
    | with_reducible assumption
    | with_reducible first
      | refine tidyOut_next ?_
      | refine State.regWrite_tidy hq ?_

theorem execMsixEoi_tidy {m : Requester} {v : Nat} {s : State} (hq : ∀ n, Q.clock n) (hs : s.Tidy Q) : TidyOut Q (execMsixEoi m v s) := by
  unfold execMsixEoi
  repeat' first
    | with_reducible assumption
    | with_reducible first
      | refine tidyOut_next ?_
      | refine State.regWrite_tidy hq ?_

theorem execMsixUnmask_tidy {m : Requester} {n : Nat} {s : State} (hq : ∀ n, Q.clock n) (hs : s.Tidy Q) : TidyOut Q (execMsixUnmask m n s) := by
  unfold execMsixUnmask
  repeat' first
    | with_reducible assumption
    | with_reducible first
      | refine tidyOut_next ?_
      | refine State.regWrite_tidy hq ?_

theorem execHostDbWrite_tidy {m : Requester} {n : Nat} {v : Nat} {s : State} (hq : ∀ n, Q.clock n) (hs : s.Tidy Q) : TidyOut Q (execHostDbWrite m n v s) := by
  unfold execHostDbWrite
  repeat' first
    | with_reducible assumption
    | with_reducible first
      | refine tidyOut_next ?_
      | refine State.regWrite_tidy hq ?_

end Sys2Proof.Machine
end

