-- ==== Sys2Proof/Laws/KeepBus.lean ====
section
/-! SUPPORT. Every operation of Machine/Bus.lean keeps a state tidy. -/

set_option Elab.async false

namespace Sys2Proof.Machine

set_option linter.unusedSimpArgs false

variable {Q : Base}

theorem State.accessNow_tidy {s : State} {m : Requester} {kind : TxnKind} {a : Nat} {len : Nat} {data : Nat} {e : Ecc} (hq : ∀ n, Q.clock n) (hs : s.Tidy Q) : State.Tidy Q (State.accessNow s m kind a len data e) := by
  unfold State.accessNow
  repeat' first
    | with_reducible assumption
    | ((try lift_lets); intro t; first | (refine tidy_have (Q := Q) (t := t) ?_ (fun _ => ?_); rotate_left; clear_value t; rotate_left; unfold t; clear t) | clear_value t)
    | with_reducible first
      | refine tidy_ite ?_ ?_
      | refine State.coreFault_tidy ?_
      | refine State.deny_tidy ?_
      | refine State.grantNow_tidy ?_
      | refine State.perform_tidy hq ?_
      | refine State.settle_tidy ?_
      | refine tidy1_st ?_
    | simp only [↓tidy1_pair_iff]
    | simp only [↓tidy_mk_iff, ↓tidy_parts_iff]
    | split

theorem State.queueMark_tidy {s : State} {t : Nat} (hs : s.Tidy Q) : State.Tidy Q (State.queueMark s t) := by
  unfold State.queueMark
  repeat' first
    | with_reducible assumption
    | with_reducible first
      | refine State.watermark_tidy ?_

theorem State.enqueue_tidy {s : State} {m : Requester} {kind : TxnKind} {a : Nat} {len : Nat} {data : Nat} (hs : s.Tidy Q) : State.Tidy Q (State.enqueue s m kind a len data) := by
  unfold State.enqueue
  repeat' first
    | with_reducible assumption
    | ((try lift_lets); intro t; first | (refine tidy_have (Q := Q) (t := t) ?_ (fun _ => ?_); rotate_left; clear_value t; rotate_left; unfold t; clear t) | clear_value t)
    | with_reducible first
      | refine tidy_ite ?_ ?_
      | refine State.poolTake_tidy ?_
      | refine State.queueMark_tidy ?_
    | simp only [↓tidy_mk_iff, ↓tidy_parts_iff]

theorem State.submit_tidy {s : State} {m : Requester} {kind : TxnKind} {a : Nat} {len : Nat} {data : Nat} (hs : s.Tidy Q) : State.Tidy Q (State.submit s m kind a len data) := by
  unfold State.submit
  repeat' first
    | with_reducible assumption
    | ((try lift_lets); intro t; first | (refine tidy_have (Q := Q) (t := t) ?_ (fun _ => ?_); rotate_left; clear_value t; rotate_left; unfold t; clear t) | clear_value t)
    | with_reducible first
      | refine tidy_ite ?_ ?_
      | refine State.deny_tidy ?_
      | refine State.dropResv_tidy ?_
      | refine State.enqueue_tidy ?_
      | refine tidy1_st ?_
    | simp only [↓tidy1_pair_iff]
    | split

theorem execBmxTransaction_tidy {m : Requester} {kind : TxnKind} {addr : Nat} {len : Nat} {data : Nat} {s : State} (hs : s.Tidy Q) : TidyOut Q (execBmxTransaction m kind addr len data s) := by
  unfold execBmxTransaction
  repeat' first
    | with_reducible assumption
    | with_reducible first
      | refine tidyOut_next ?_
      | refine State.submit_tidy ?_

theorem State.complete_tidy {s : State} {x : Txn} {late : Bool} (hs : s.Tidy Q) : State.Tidy Q (State.complete s x late) := by
  unfold State.complete
  repeat' first
    | with_reducible assumption
    | ((try lift_lets); intro t; first | (refine tidy_have (Q := Q) (t := t) ?_ (fun _ => ?_); rotate_left; clear_value t; rotate_left; unfold t; clear t) | clear_value t)
    | with_reducible first
      | refine tidy_ite ?_ ?_
      | refine State.bump_tidy ?_
      | refine State.coreFault_tidy ?_
      | refine State.raise_tidy ?_
    | simp only [↓tidy_mk_iff, ↓tidy_parts_iff]

theorem State.grantTxn_tidy {s : State} {t : Nat} {x : Txn} {e : Ecc} (hq : ∀ n, Q.clock n) (hs : s.Tidy Q) : State.Tidy Q (State.grantTxn s t x e) := by
  unfold State.grantTxn
  repeat' first
    | with_reducible assumption
    | ((try lift_lets); intro t; first | (refine tidy_have (Q := Q) (t := t) ?_ (fun _ => ?_); rotate_left; clear_value t; rotate_left; unfold t; clear t) | clear_value t)
    | with_reducible first
      | refine tidy_ite ?_ ?_
      | refine State.complete_tidy ?_
      | refine State.grantNow_tidy ?_
      | refine State.keepMax_tidy ?_
      | refine State.perform_tidy hq ?_
      | refine State.poolGive_tidy ?_
      | refine State.queueMark_tidy ?_
    | simp only [↓tidy_mk_iff, ↓tidy_parts_iff]

theorem State.grant_tidy {s : State} {t : Nat} {e : Ecc} (hq : ∀ n, Q.clock n) (hs : s.Tidy Q) : State.Tidy Q (State.grant s t e) := by
  unfold State.grant
  repeat' first
    | with_reducible assumption
    | ((try lift_lets); intro t; first | (refine tidy_have (Q := Q) (t := t) ?_ (fun _ => ?_); rotate_left; clear_value t; rotate_left; unfold t; clear t) | clear_value t)
    | with_reducible first
      | refine tidy_ite ?_ ?_
      | refine State.grantTxn_tidy hq ?_
    | split

theorem execBmxGrant_tidy {t : Nat} {e : Ecc} {s : State} (hq : ∀ n, Q.clock n) (hs : s.Tidy Q) : TidyOut Q (execBmxGrant t e s) := by
  unfold execBmxGrant
  repeat' first
    | with_reducible assumption
    | with_reducible first
      | refine tidyOut_next ?_
      | refine State.grant_tidy hq ?_

theorem State.subburstNext_tidy {s : State} {m : Nat} (hs : s.Tidy Q) : State.Tidy Q (State.subburstNext s m) := by
  unfold State.subburstNext
  repeat' first
    | with_reducible assumption
    | ((try lift_lets); intro t; first | (refine tidy_have (Q := Q) (t := t) ?_ (fun _ => ?_); rotate_left; clear_value t; rotate_left; unfold t; clear t) | clear_value t)
    | with_reducible first
      | refine tidy_ite ?_ ?_
      | refine State.queueMark_tidy ?_
    | simp only [↓tidy_mk_iff, ↓tidy_parts_iff]
    | split

theorem execBmxSubburstNext_tidy {m : Nat} {s : State} (hs : s.Tidy Q) : TidyOut Q (execBmxSubburstNext m s) := by
  unfold execBmxSubburstNext
  repeat' first
    | with_reducible assumption
    | with_reducible first
      | refine tidyOut_next ?_
      | refine State.subburstNext_tidy ?_

theorem State.retryAgain_tidy {s : State} {x : Txn} {n : Nat} {reason : Nat} (hs : s.Tidy Q) : State.Tidy Q (State.retryAgain s x n reason) := by
  unfold State.retryAgain
  repeat' first
    | with_reducible assumption
    | ((try lift_lets); intro t; first | (refine tidy_have (Q := Q) (t := t) ?_ (fun _ => ?_); rotate_left; clear_value t; rotate_left; unfold t; clear t) | clear_value t)
    | with_reducible first
      | refine tidy_ite ?_ ?_
      | refine State.coreFault_tidy ?_
      | refine State.deny_tidy ?_
      | refine tidy1_st ?_
    | simp only [↓tidy1_pair_iff]
    | simp only [↓tidy_mk_iff, ↓tidy_parts_iff]

theorem State.coreRetry_tidy {s : State} {m : Nat} (hs : s.Tidy Q) : State.Tidy Q (State.coreRetry s m) := by
  unfold State.coreRetry
  repeat' first
    | with_reducible assumption
    | ((try lift_lets); intro t; first | (refine tidy_have (Q := Q) (t := t) ?_ (fun _ => ?_); rotate_left; clear_value t; rotate_left; unfold t; clear t) | clear_value t)
    | with_reducible first
      | refine State.deny_tidy ?_
      | refine State.enqueue_tidy ?_
      | refine State.retryAgain_tidy ?_
      | refine tidy1_st ?_
    | simp only [↓tidy1_pair_iff]
    | simp only [↓tidy_mk_iff, ↓tidy_parts_iff]
    | split

theorem execLrReserve_tidy {m : Requester} {addr : Nat} {len : Nat} {s : State} (hq : ∀ n, Q.clock n) (hs : s.Tidy Q) : TidyOut Q (execLrReserve m addr len s) := by
  unfold execLrReserve
  repeat' first
    | with_reducible assumption
    | with_reducible first
      | refine tidyOut_next ?_
      | refine State.accessNow_tidy hq ?_

theorem execScAttempt_tidy {m : Requester} {addr : Nat} {len : Nat} {data : Nat} {s : State} (hq : ∀ n, Q.clock n) (hs : s.Tidy Q) : TidyOut Q (execScAttempt m addr len data s) := by
  unfold execScAttempt
  repeat' first
    | with_reducible assumption
    | with_reducible first
      | refine tidyOut_next ?_
      | refine State.accessNow_tidy hq ?_

theorem execAmoExec_tidy {m : Requester} {op : AmoOp} {addr : Nat} {len : Nat} {data : Nat} {s : State} (hq : ∀ n, Q.clock n) (hs : s.Tidy Q) : TidyOut Q (execAmoExec m op addr len data s) := by
  unfold execAmoExec
  repeat' first
    | with_reducible assumption
    | with_reducible first
      | refine tidyOut_next ?_
      | refine State.accessNow_tidy hq ?_

theorem execResvExpire_tidy {h : Nat} {s : State} (hs : s.Tidy Q) : TidyOut Q (execResvExpire h s) := by
  unfold execResvExpire
  repeat' first
    | with_reducible assumption
    | with_reducible first
      | refine tidyOut_next ?_
      | refine State.dropResv_tidy ?_

end Sys2Proof.Machine
end

