-- ==== Sys2Proof/Laws/KeepHost.lean ====
section
/-! SUPPORT. Every operation of Machine/Host.lean keeps a state tidy. -/

set_option Elab.async false

namespace Sys2Proof.Machine

set_option linter.unusedSimpArgs false

variable {Q : Base}

theorem State.pcieEnd_tidy {s : State} {write : Bool} {status : Nat} {data : Nat} (hs : s.Tidy Q) : State.Tidy Q (State.pcieEnd s write status data) := by
  unfold State.pcieEnd
  repeat' first
    | with_reducible assumption
    | with_reducible first
      | refine tidy_ite ?_ ?_
      | refine State.send_tidy ?_

theorem State.hostKeep_tidy {s : State} {write : Bool} {a : Nat} {len : Nat} {data : Nat} {done : Nat} {n : Nat} (hs : s.Tidy Q) : State.Tidy Q (State.hostKeep s write a len data done n) := by
  unfold State.hostKeep
  repeat' first
    | with_reducible assumption
    | ((try lift_lets); intro t; first | (refine tidy_have (Q := Q) (t := t) ?_ (fun _ => ?_); rotate_left; clear_value t; rotate_left; unfold t; clear t) | clear_value t)
    | with_reducible first
      | refine tidy_ite ?_ ?_
      | refine tidy1_st ?_
    | simp only [↓tidy1_pair_iff]
    | simp only [↓tidy_mk_iff, ↓tidy_parts_iff]

theorem State.hostRun_tidy {write : Bool} {n : Nat} {l : List (Nat × Nat)} (hq : ∀ n, Q.clock n) : ∀ {s : State} {data done : Nat}, s.Tidy Q → (s.hostRun write n l data done).Tidy Q := by
  induction l with
  | nil => intros; exact State.pcieEnd_tidy (by assumption)
  | cons x r ih =>
    intros
    unfold State.hostRun
    repeat' first
      | with_reducible assumption
      | ((try lift_lets); intro t; first | (refine tidy_have (Q := Q) (t := t) ?_ (fun _ => ?_); rotate_left; clear_value t; rotate_left; unfold t; clear t) | (refine tidy1_have (Q := Q) (t := t) ?_ (fun _ => ?_); rotate_left; clear_value t; rotate_left; unfold t; clear t) | clear_value t)
      | with_reducible refine tidy_ite ?_ ?_
      | with_reducible refine ih ?_
      | with_reducible refine State.pcieEnd_tidy ?_
      | with_reducible refine State.deny_tidy ?_
      | with_reducible refine State.hostKeep_tidy ?_
      | with_reducible refine State.accessNow_tidy hq ?_
      | split

theorem State.pcieAccess_tidy {s : State} {bar2 : Bool} {write : Bool} {offset : Nat} {len : Nat} {data : Nat} (hq : ∀ n, Q.clock n) (hs : s.Tidy Q) : State.Tidy Q (State.pcieAccess s bar2 write offset len data) := by
  unfold State.pcieAccess
  repeat' first
    | with_reducible assumption
    | ((try lift_lets); intro t; first | (refine tidy_have (Q := Q) (t := t) ?_ (fun _ => ?_); rotate_left; clear_value t; rotate_left; unfold t; clear t) | clear_value t)
    | with_reducible first
      | refine tidy_ite ?_ ?_
      | refine State.hostRun_tidy hq ?_

theorem execPcieAccess_tidy {bar2 : Bool} {write : Bool} {offset : Nat} {len : Nat} {data : Nat} {s : State} (hq : ∀ n, Q.clock n) (hs : s.Tidy Q) : TidyOut Q (execPcieAccess bar2 write offset len data s) := by
  unfold execPcieAccess
  repeat' first
    | with_reducible assumption
    | with_reducible first
      | refine tidyOut_next ?_
      | refine State.pcieAccess_tidy hq ?_

theorem State.hostRetry_tidy {s : State} (hq : ∀ n, Q.clock n) (hs : s.Tidy Q) : State.Tidy Q (State.hostRetry s) := by
  unfold State.hostRetry
  repeat' first
    | with_reducible assumption
    | ((try lift_lets); intro t; first | (refine tidy_have (Q := Q) (t := t) ?_ (fun _ => ?_); rotate_left; clear_value t; rotate_left; unfold t; clear t) | clear_value t)
    | with_reducible first
      | refine State.hostRun_tidy hq ?_
      | refine tidy1_st ?_
    | simp only [↓tidy1_pair_iff]
    | simp only [↓tidy_mk_iff, ↓tidy_parts_iff]
    | split

theorem execCoreRetry_tidy {m : Nat} {s : State} (hq : ∀ n, Q.clock n) (hs : s.Tidy Q) : TidyOut Q (execCoreRetry m s) := by
  unfold execCoreRetry
  repeat' first
    | with_reducible assumption
    | with_reducible first
      | refine tidy_ite ?_ ?_
      | refine tidyOut_next ?_
      | refine State.coreRetry_tidy ?_
      | refine State.hostRetry_tidy hq ?_

theorem State.endpointReset_tidy {s : State} (hs : s.Tidy Q) : State.Tidy Q (State.endpointReset s) := by
  unfold State.endpointReset
  repeat' first
    | with_reducible assumption
    | with_reducible first
      | refine State.orphanTxns_tidy ?_

theorem execPerst_tidy {s : State} (hs : s.Tidy Q) : TidyOut Q (execPerst s) := by
  unfold execPerst
  repeat' first
    | with_reducible assumption
    | ((try lift_lets); intro t; first | (refine tidy_have (Q := Q) (t := t) ?_ (fun _ => ?_); rotate_left; clear_value t; rotate_left; unfold t; clear t) | clear_value t)
    | with_reducible first
      | refine tidyOut_next ?_
      | refine State.endpointReset_tidy ?_
    | simp only [↓tidy_mk_iff, ↓tidy_parts_iff]

theorem execFlr_tidy {s : State} (hs : s.Tidy Q) : TidyOut Q (execFlr s) := by
  unfold execFlr
  repeat' first
    | with_reducible assumption
    | with_reducible first
      | refine tidyOut_next ?_
      | refine State.endpointReset_tidy ?_

theorem State.linkChange_tidy {s : State} {up : Bool} {width : Nat} {rate : Nat} (hs : s.Tidy Q) : State.Tidy Q (State.linkChange s up width rate) := by
  unfold State.linkChange
  repeat' first
    | with_reducible assumption
    | ((try lift_lets); intro t; first | (refine tidy_have (Q := Q) (t := t) ?_ (fun _ => ?_); rotate_left; clear_value t; rotate_left; unfold t; clear t) | clear_value t)
    | with_reducible first
      | refine tidy_ite ?_ ?_
      | refine State.endpointReset_tidy ?_
    | simp only [↓tidy_mk_iff, ↓tidy_parts_iff]

theorem execPcieLinkChange_tidy {up : Bool} {width : Nat} {rate : Nat} {s : State} (hs : s.Tidy Q) : TidyOut Q (execPcieLinkChange up width rate s) := by
  unfold execPcieLinkChange
  repeat' first
    | with_reducible assumption
    | with_reducible first
      | refine tidyOut_next ?_
      | refine State.linkChange_tidy ?_

theorem State.mspiShift_tidy {s : State} (hs : s.Tidy Q) : State.Tidy Q (State.mspiShift s) := by
  unfold State.mspiShift
  repeat' first
    | with_reducible assumption
    | ((try lift_lets); intro t; first | (refine tidy_have (Q := Q) (t := t) ?_ (fun _ => ?_); rotate_left; clear_value t; rotate_left; unfold t; clear t) | clear_value t)
    | simp only [↓tidy_mk_iff, ↓tidy_parts_iff]

theorem State.mspiShort_tidy {s : State} {n : Nat} (hs : s.Tidy Q) : State.Tidy Q (State.mspiShort s n) := by
  unfold State.mspiShort
  repeat' first
    | with_reducible assumption
    | ((try lift_lets); intro t; first | (refine tidy_have (Q := Q) (t := t) ?_ (fun _ => ?_); rotate_left; clear_value t; rotate_left; unfold t; clear t) | clear_value t)
    | with_reducible first
      | refine tidy_ite ?_ ?_
      | refine State.bump_tidy ?_
      | refine State.raise_tidy ?_
      | refine State.stick_tidy ?_
    | simp only [↓tidy_mk_iff, ↓tidy_parts_iff]

theorem State.mspiSurplus_tidy {s : State} {n : Nat} (hs : s.Tidy Q) : State.Tidy Q (State.mspiSurplus s n) := by
  unfold State.mspiSurplus
  repeat' first
    | with_reducible assumption
    | with_reducible first
      | refine tidy_ite ?_ ?_
      | refine State.bump_tidy ?_

theorem State.mspiApply_tidy {s : State} {seq : Nat} {edges : Nat} {busy : Bool} {f : State → State} (hs : s.Tidy Q) (hf : ∀ x, x.Tidy Q → (f x).Tidy Q) : State.Tidy Q (State.mspiApply s seq edges busy f) := by
  unfold State.mspiApply
  repeat' first
    | with_reducible assumption
    | ((try lift_lets); intro t; first | (refine tidy_have (Q := Q) (t := t) ?_ (fun _ => ?_); rotate_left; clear_value t; rotate_left; unfold t; clear t) | clear_value t)
    | with_reducible first
      | refine tidy_ite ?_ ?_
      | refine State.bump_tidy ?_
      | refine State.mspiSurplus_tidy ?_
      | refine State.wrN_tidy ?_
      | refine hf _ ?_
    | simp only [↓tidy_mk_iff, ↓tidy_parts_iff]

theorem State.mspiWord_tidy {s : State} {n : Nat} {f : State → State} (hs : s.Tidy Q) (hf : ∀ x, x.Tidy Q → (f x).Tidy Q) : State.Tidy Q (State.mspiWord s n f) := by
  unfold State.mspiWord
  repeat' first
    | with_reducible assumption
    | with_reducible first
      | refine tidy_ite ?_ ?_
      | refine State.mspiShift_tidy ?_
      | refine State.mspiShort_tidy ?_
      | refine hf _ ?_

theorem execMspiRead_tidy {seq : Nat} {waddr : Nat} {edges : Nat} {busy : Bool} {s : State} (hq : ∀ n, Q.clock n) (hs : s.Tidy Q) : TidyOut Q (execMspiRead seq waddr edges busy s) := by
  unfold execMspiRead
  repeat' first
    | with_reducible assumption
    | with_reducible first
      | refine tidyOut_next ?_
      | refine State.accessNow_tidy hq ?_
      | refine State.mspiApply_tidy ?_ (fun _ _ => ?_)
      | refine State.mspiWord_tidy ?_ (fun _ _ => ?_)

theorem execMspiWrite_tidy {seq : Nat} {waddr : Nat} {data : Nat} {edges : Nat} {busy : Bool} {s : State} (hq : ∀ n, Q.clock n) (hs : s.Tidy Q) : TidyOut Q (execMspiWrite seq waddr data edges busy s) := by
  unfold execMspiWrite
  repeat' first
    | with_reducible assumption
    | with_reducible first
      | refine tidyOut_next ?_
      | refine State.accessNow_tidy hq ?_
      | refine State.mspiApply_tidy ?_ (fun _ _ => ?_)
      | refine State.mspiWord_tidy ?_ (fun _ _ => ?_)

theorem execMspiNop_tidy {edges : Nat} {s : State} (hs : s.Tidy Q) : TidyOut Q (execMspiNop edges s) := by
  unfold execMspiNop
  repeat' first
    | with_reducible assumption
    | ((try lift_lets); intro t; first | (refine tidy_have (Q := Q) (t := t) ?_ (fun _ => ?_); rotate_left; clear_value t; rotate_left; unfold t; clear t) | clear_value t)
    | with_reducible first
      | refine tidyOut_next ?_
      | refine State.mspiSurplus_tidy ?_
      | refine State.mspiWord_tidy ?_ (fun _ _ => ?_)
    | simp only [↓tidy_mk_iff, ↓tidy_parts_iff]

theorem execMspiWordDiscard_tidy {edges : Nat} {s : State} (hs : s.Tidy Q) : TidyOut Q (execMspiWordDiscard edges s) := by
  unfold execMspiWordDiscard
  repeat' first
    | with_reducible assumption
    | ((try lift_lets); intro t; first | (refine tidy_have (Q := Q) (t := t) ?_ (fun _ => ?_); rotate_left; clear_value t; rotate_left; unfold t; clear t) | clear_value t)
    | with_reducible first
      | refine tidyOut_next ?_
      | refine State.mspiWord_tidy ?_ (fun _ _ => ?_)
    | simp only [↓tidy_mk_iff, ↓tidy_parts_iff]

end Sys2Proof.Machine
end

