-- ==== Sys2Proof/Laws/KeepExec.lean ====
section
/-! SUPPORT. Every command keeps a state tidy, and so does a step that takes it. -/

set_option Elab.async false

namespace Sys2Proof.Machine

variable {Q : Base}

/-- Whatever a command does, the waiting commands stay, the stores stay canonical, the profile stays legal and no programmed fuse is taken back. -/
theorem exec_tidy (c : Instr) {s : State} (hq : ∀ n, Q.clock n) (h : s.Tidy Q) : TidyOut Q (exec c s) := by
  cases c with
  | powerOnReset => exact execPowerOnReset_tidy hq h
  | coldReset _ => exact execColdReset_tidy hq h
  | glitchTrip _ _ _ => exact execGlitchTrip_tidy hq h
  | bootRom _ => exact execBootRom_tidy h
  | pmapSeal _ _ => exact execPmapSeal_tidy h
  | pmapWrite _ _ _ => exact execPmapWrite_tidy h
  | hartRunWrite _ _ => exact execHartRunWrite_tidy h
  | reqOff _ _ _ => exact execReqOff_tidy hq h
  | reqIsolated _ _ _ => exact execReqIsolated_tidy hq h
  | reqIdle _ _ _ => exact execReqIdle_tidy hq h
  | reqRun _ _ _ => exact execReqRun_tidy hq h
  | drainEnd _ _ => exact execDrainEnd_tidy h
  | regWrite _ _ _ => exact execRegWrite_tidy hq h
  | pairLoWrite _ _ _ => exact execPairLoWrite_tidy hq h
  | pairHiWrite _ _ _ => exact execPairHiWrite_tidy hq h
  | pairLoRead _ _ => exact execPairLoRead_tidy h
  | stickyClear _ _ _ _ => exact execStickyClear_tidy hq h
  | forceWrite _ _ _ _ => exact execForceWrite_tidy hq h
  | lockWrite _ _ _ _ => exact execLockWrite_tidy hq h
  | wmClrCount _ _ => exact execWmClrCount_tidy hq h
  | shadowWrite _ _ _ => exact execShadowWrite_tidy hq h
  | shadowArm _ _ _ _ => exact execShadowArm_tidy h
  | shadowArmNext _ _ _ => exact execShadowArmNext_tidy h
  | shadowCancel _ _ _ => exact execShadowCancel_tidy h
  | shadowCommit _ _ => exact execShadowCommit_tidy h
  | epochBoundary => exact execEpochBoundary_tidy hq h
  | slackStale => exact execSlackStale_tidy h
  | loopDownStep => exact execLoopDownStep_tidy h
  | runDescExec _ _ => exact execRunDescExec_tidy h
  | gapExec _ _ => exact execGapExec_tidy h
  | planeListDone _ _ => exact execPlaneListDone_tidy h
  | carryDone _ => exact execCarryDone_tidy h
  | cellAssemble _ _ _ => exact execCellAssemble_tidy h
  | cellRelease _ _ => exact execCellRelease_tidy h
  | lateCellRelease _ => exact execLateCellRelease_tidy h
  | imgLoad _ _ => exact execImgLoad_tidy h
  | imgLoadNext _ => exact execImgLoadNext_tidy h
  | imgCancel _ => exact execImgCancel_tidy h
  | imgCopyDone => exact execImgCopyDone_tidy h
  | takeCmd _ _ _ => exact execTakeCmd_tidy h
  | salvoCmd _ _ _ _ => exact execSalvoCmd_tidy h
  | takeCancelCmd _ _ _ => exact execTakeCancelCmd_tidy h
  | takeArm => exact execTakeArm_tidy h
  | takeCommit => exact execTakeCommit_tidy h
  | prefetchDone _ => exact execPrefetchDone_tidy h
  | creditTick => exact execCreditTick_tidy h
  | profReq _ _ _ => exact execProfReq_tidy h
  | profReqNext _ _ => exact execProfReqNext_tidy h
  | profCancel _ => exact execProfCancel_tidy h
  | rampStep => exact execRampStep_tidy h
  | profCommit => exact execProfCommit_tidy h
  | settleStep => exact execSettleStep_tidy h
  | sensorSample _ => exact execSensorSample_tidy h
  | railPoll _ _ _ _ _ _ => exact execRailPoll_tidy h
  | railEnable _ _ _ _ => exact execRailEnable_tidy h
  | pmbusTxnFail _ _ _ => exact execPmbusTxnFail_tidy h
  | pmbusClkTimeout _ _ => exact execPmbusClkTimeout_tidy h
  | smbalert _ _ => exact execSmbalert_tidy h
  | powerAverage => exact execPowerAverage_tidy h
  | calLoad _ => exact execCalLoad_tidy h
  | calSave _ => exact execCalSave_tidy h
  | calOpDone _ _ => exact execCalOpDone_tidy h
  | pllLock _ _ => exact execPllLock_tidy h
  | pllLockTimeout _ => exact execPllLockTimeout_tidy h
  | pllUnlock _ _ => exact execPllUnlock_tidy h
  | syncHeaderInvalid _ _ => exact execSyncHeaderInvalid_tidy h
  | laneLock _ => exact execLaneLock_tidy h
  | lockRecoveryTimeout _ => exact execLockRecoveryTimeout_tidy h
  | alignSlip _ _ _ => exact execAlignSlip_tidy h
  | slfBurstRx _ _ _ => exact execSlfBurstRx_tidy h
  | slfMarkerRx _ _ => exact execSlfMarkerRx_tidy h
  | slfSleepRx _ => exact execSlfSleepRx_tidy h
  | rxWake _ _ => exact execRxWake_tidy h
  | rxRetrainDone _ => exact execRxRetrainDone_tidy h
  | slfBurstTx _ _ => exact execSlfBurstTx_tidy h
  | slfMarkerTx _ => exact execSlfMarkerTx_tidy h
  | txSleepSet _ _ _ => exact execTxSleepSet_tidy h
  | txSleepClear _ _ _ => exact execTxSleepClear_tidy h
  | eyeScanStart _ _ _ => exact execEyeScanStart_tidy h
  | eyeScanDone _ _ => exact execEyeScanDone_tidy h
  | adaptStep _ _ _ _ _ => exact execAdaptStep_tidy h
  | sfeCtxWrite _ _ _ _ _ _ => exact execSfeCtxWrite_tidy h
  | sfeLineRx _ _ _ => exact execSfeLineRx_tidy h
  | sfeInputLossTimeout _ _ => exact execSfeInputLossTimeout_tidy h
  | sfeLineTx _ _ _ _ => exact execSfeLineTx_tidy h
  | frameRx _ _ _ _ _ _ => exact execFrameRx_tidy h
  | flowCellClose _ _ => exact execFlowCellClose_tidy h
  | mergeLegTimeout _ _ => exact execMergeLegTimeout_tidy h
  | mediaPktTx _ _ _ => exact execMediaPktTx_tidy h
  | hostFrameTx _ _ => exact execHostFrameTx_tidy h
  | portLinkChange _ _ _ _ _ _ _ => exact execPortLinkChange_tidy h
  | secTxAnWrite _ _ _ => exact execSecTxAnWrite_tidy h
  | fstZeroFillDone _ => exact execFstZeroFillDone_tidy h
  | fstReadDone _ _ _ _ => exact execFstReadDone_tidy h
  | stackPowerDown _ => exact execStackPowerDown_tidy h
  | stackWake _ _ => exact execStackWake_tidy h
  | scrubRead _ _ => exact execScrubRead_tidy h
  | pxpFrameStart _ _ => exact execPxpFrameStart_tidy h
  | pxpLineComposite _ _ => exact execPxpLineComposite_tidy h
  | fenceWrite _ _ _ => exact execFenceWrite_tidy h
  | fencePoint _ => exact execFencePoint_tidy h
  | mrsFrameStart => exact execMrsFrameStart_tidy h
  | mrsMaxUsExpire => exact execMrsMaxUsExpire_tidy h
  | mrsFrameReadyWrite _ _ => exact execMrsFrameReadyWrite_tidy h
  | mrsUnderrun => exact execMrsUnderrun_tidy h
  | auxNativeWrite _ _ _ => exact execAuxNativeWrite_tidy h
  | auxNativeRead _ _ _ => exact execAuxNativeRead_tidy h
  | auxI2cWrite _ _ _ _ => exact execAuxI2cWrite_tidy h
  | auxI2cRead _ _ _ _ => exact execAuxI2cRead_tidy h
  | auxReply _ _ => exact execAuxReply_tidy h
  | auxDeferRetry => exact execAuxDeferRetry_tidy h
  | auxTimeout => exact execAuxTimeout_tidy h
  | hpdIrq => exact execHpdIrq_tidy h
  | hpdUnplug => exact execHpdUnplug_tidy h
  | hpdPlug => exact execHpdPlug_tidy h
  | linkTrain _ _ => exact execLinkTrain_tidy h
  | linkTrainDone _ _ _ _ _ => exact execLinkTrainDone_tidy h
  | aesFrameRx _ _ _ _ _ _ _ => exact execAesFrameRx_tidy h
  | aesLossTimeout _ => exact execAesLossTimeout_tidy h
  | audSampleInstant _ _ => exact execAudSampleInstant_tidy h
  | audSourceCell _ _ => exact execAudSourceCell_tidy h
  | aesFrameTx _ _ => exact execAesFrameTx_tidy h
  | wsFrameRx _ _ _ _ _ _ => exact execWsFrameRx_tidy h
  | wsFrameTx _ _ => exact execWsFrameTx_tidy h
  | qmMsgRx _ _ => exact execQmMsgRx_tidy h
  | qmMissing _ => exact execQmMissing_tidy h
  | refClkLoss _ => exact execRefClkLoss_tidy h
  | refFpMiss _ => exact execRefFpMiss_tidy h
  | dpllUpdate _ _ => exact execDpllUpdate_tidy h
  | dpllLock => exact execDpllLock_tidy h
  | wtrExpire => exact execWtrExpire_tidy h
  | qualComplete _ _ _ _ _ => exact execQualComplete_tidy hq h
  | disqualExpire _ => exact execDisqualExpire_tidy h
  | pboDrawDone => exact execPboDrawDone_tidy h
  | holdoverSpecExpire => exact execHoldoverSpecExpire_tidy h
  | slewClampLimit => exact execSlewClampLimit_tidy h
  | loClkFault _ _ => exact execLoClkFault_tidy h
  | timeStep _ => exact execTimeStep_tidy hq h
  | timeStepRef _ => exact execTimeStepRef_tidy hq h
  | phaseAdjWrite _ _ => exact execPhaseAdjWrite_tidy h
  | dpllModeWrite _ _ => exact execDpllModeWrite_tidy h
  | selForceWrite _ _ => exact execSelForceWrite_tidy h
  | aclkFamilyWrite _ _ => exact execAclkFamilyWrite_tidy h
  | toutEdge _ => exact execToutEdge_tidy h
  | toutOffsetWrite _ _ _ => exact execToutOffsetWrite_tidy h
  | toutRealign _ _ => exact execToutRealign_tidy h
  | refFpPulse _ _ => exact execRefFpPulse_tidy h
  | ticArm _ _ => exact execTicArm_tidy h
  | ticCapture _ _ _ => exact execTicCapture_tidy h
  | ticTimeout => exact execTicTimeout_tidy h
  | ticCalUpdate _ => exact execTicCalUpdate_tidy h
  | ptpSyncTx _ _ => exact execPtpSyncTx_tidy h
  | ptpAnnounceTx _ => exact execPtpAnnounceTx_tidy h
  | ptpDelayReqTx _ _ => exact execPtpDelayReqTx_tidy h
  | ptpMgmtTx _ => exact execPtpMgmtTx_tidy h
  | ptpSyncRx _ _ _ _ _ _ _ => exact execPtpSyncRx_tidy h
  | ptpFollowUpRx _ _ _ _ _ _ => exact execPtpFollowUpRx_tidy h
  | ptpDelayReqRx _ _ _ _ _ => exact execPtpDelayReqRx_tidy h
  | ptpDelayRespRx _ _ _ _ _ _ => exact execPtpDelayRespRx_tidy h
  | ptpAnnounceRx _ _ _ _ => exact execPtpAnnounceRx_tidy h
  | ptpBmca => exact execPtpBmca_tidy h
  | ptpAnnounceTimeout _ => exact execPtpAnnounceTimeout_tidy h
  | hbEdge => exact execHbEdge_tidy h
  | hbLoss => exact execHbLoss_tidy h
  | aloneExpire => exact execAloneExpire_tidy h
  | slotTx => exact execSlotTx_tidy h
  | slotMsgRx _ _ _ => exact execSlotMsgRx_tidy h
  | partnerTimeout => exact execPartnerTimeout_tidy h
  | pairEstablish => exact execPairEstablish_tidy h
  | ctlResend => exact execCtlResend_tidy h
  | laneFail _ => exact execLaneFail_tidy h
  | spareActivate => exact execSpareActivate_tidy h
  | statusRx _ _ p _ ql _ _ _ => exact execStatusRx_tidy (profile := p) (ql := ql) h
  | timeRx _ _ _ _ => exact execTimeRx_tidy h
  | ptpDsRx _ => exact execPtpDsRx_tidy h
  | twinTakeRx _ _ _ _ _ _ => exact execTwinTakeRx_tidy h
  | agreeRx _ _ _ => exact execAgreeRx_tidy h
  | imageArmRx _ _ _ => exact execImageArmRx_tidy h
  | profReqRx _ _ _ _ => exact execProfReqRx_tidy h
  | profReadyRx => exact execProfReadyRx_tidy h
  | profCancelRx => exact execProfCancelRx_tidy h
  | profForceRx _ => exact execProfForceRx_tidy h
  | syncRx _ _ _ => exact execSyncRx_tidy h
  | audSlipRx _ _ _ => exact execAudSlipRx_tidy h
  | fenceRx _ _ _ => exact execFenceRx_tidy h
  | hashRx _ _ _ => exact execHashRx_tidy h
  | roleGiveRx _ _ => exact execRoleGiveRx_tidy h
  | roleTakeRx _ => exact execRoleTakeRx_tidy h
  | roleCancelRx _ => exact execRoleCancelRx_tidy h
  | laneRx _ _ => exact execLaneRx_tidy h
  | snapRx _ => exact execSnapRx_tidy h
  | holdoffExpire => exact execHoldoffExpire_tidy h
  | selftestOk _ => exact execSelftestOk_tidy h
  | selftestClr _ => exact execSelftestClr_tidy h
  | release _ => exact execRelease_tidy h
  | revertNow _ => exact execRevertNow_tidy h
  | cpcRestartAll _ => exact execCpcRestartAll_tidy h
  | hartRestart _ _ => exact execHartRestart_tidy h
  | hartNmi _ _ => exact execHartNmi_tidy h
  | wdtKick _ _ => exact execWdtKick_tidy h
  | wdtExpire => exact execWdtExpire_tidy h
  | plicClaim _ _ => exact execPlicClaim_tidy h
  | plicComplete _ _ _ => exact execPlicComplete_tidy h
  | mtimecmpMatch _ => exact execMtimecmpMatch_tidy h
  | mboxWrite _ _ _ => exact execMboxWrite_tidy h
  | sramScrub _ => exact execSramScrub_tidy h
  | bmxTransaction _ _ _ _ _ => exact execBmxTransaction_tidy h
  | bmxGrant _ _ => exact execBmxGrant_tidy hq h
  | bmxSubburstNext _ => exact execBmxSubburstNext_tidy h
  | coreRetry _ => exact execCoreRetry_tidy hq h
  | lrReserve _ _ _ => exact execLrReserve_tidy hq h
  | scAttempt _ _ _ _ => exact execScAttempt_tidy hq h
  | amoExec _ _ _ _ _ => exact execAmoExec_tidy hq h
  | resvExpire _ => exact execResvExpire_tidy h
  | lcAdvance _ => exact execLcAdvance_tidy h
  | svnInc _ => exact execSvnInc_tidy h
  | revoke0 _ => exact execRevoke0_tidy h
  | revoke1 _ => exact execRevoke1_tidy h
  | fuseProgDone => exact execFuseProgDone_tidy h
  | slotWrite _ _ => exact execSlotWrite_tidy h
  | slotClear _ _ => exact execSlotClear_tidy h
  | slotLock _ _ => exact execSlotLock_tidy h
  | ksuSha384 _ _ _ => exact execKsuSha384_tidy h
  | ksuHmac _ _ _ => exact execKsuHmac_tidy h
  | ksuKdf _ _ => exact execKsuKdf_tidy h
  | ksuGcmEncrypt _ _ => exact execKsuGcmEncrypt_tidy h
  | ksuGcmDecrypt _ _ => exact execKsuGcmDecrypt_tidy h
  | ksuEcdsaSign _ _ => exact execKsuEcdsaSign_tidy h
  | ksuEcdsaVerify _ _ => exact execKsuEcdsaVerify_tidy h
  | ksuEcdh _ _ => exact execKsuEcdh_tidy h
  | ksuGenerate _ _ => exact execKsuGenerate_tidy h
  | ksuOpDone _ _ => exact execKsuOpDone_tidy h
  | trngHealthFail => exact execTrngHealthFail_tidy h
  | chainLockLoss _ => exact execChainLockLoss_tidy h
  | chunkRx _ _ _ _ => exact execChunkRx_tidy h
  | chunkAbortRx _ _ _ _ _ => exact execChunkAbortRx_tidy h
  | chunkAckRx _ _ => exact execChunkAckRx_tidy h
  | chunkResend _ => exact execChunkResend_tidy h
  | chunkWaitRepeat _ => exact execChunkWaitRepeat_tidy h
  | updLoad _ _ _ => exact execUpdLoad_tidy h
  | updActivate _ _ => exact execUpdActivate_tidy h
  | updAbort _ _ => exact execUpdAbort_tidy h
  | updResume _ _ => exact execUpdResume_tidy h
  | updVerifyDone => exact execUpdVerifyDone_tidy h
  | updStagingDone _ => exact execUpdStagingDone_tidy h
  | updPauseTimeout => exact execUpdPauseTimeout_tidy h
  | ucodeLoadDone _ => exact execUcodeLoadDone_tidy h
  | updPrimaryDone => exact execUpdPrimaryDone_tidy h
  | faultRaise _ _ _ => exact execFaultRaise_tidy h
  | fcrWindowEnd => exact execFcrWindowEnd_tidy h
  | deviceWarmReset => exact execDeviceWarmReset_tidy hq h
  | fcrLateRecords => exact execFcrLateRecords_tidy h
  | fcrAck _ _ => exact execFcrAck_tidy h
  | faultAssert _ => exact execFaultAssert_tidy h
  | faultRelease _ => exact execFaultRelease_tidy h
  | sevWrite _ _ _ => exact execSevWrite_tidy h
  | ringEnable _ _ => exact execRingEnable_tidy h
  | snapSwTrigger _ => exact execSnapSwTrigger_tidy h
  | snapArmTime _ => exact execSnapArmTime_tidy h
  | snapDisarmTime _ => exact execSnapDisarmTime_tidy h
  | snapTimeMatch _ => exact execSnapTimeMatch_tidy h
  | snapInPulse _ => exact execSnapInPulse_tidy h
  | pcieSnapMsg _ _ => exact execPcieSnapMsg_tidy h
  | snapLatch _ _ => exact execSnapLatch_tidy h
  | pcieAccess _ _ _ _ _ => exact execPcieAccess_tidy hq h
  | perst => exact execPerst_tidy h
  | flr => exact execFlr_tidy h
  | msixEoi _ _ => exact execMsixEoi_tidy hq h
  | msixUnmask _ _ => exact execMsixUnmask_tidy hq h
  | hostDbWrite _ _ _ => exact execHostDbWrite_tidy hq h
  | mspiRead _ _ _ _ => exact execMspiRead_tidy hq h
  | mspiWrite _ _ _ _ _ => exact execMspiWrite_tidy hq h
  | mspiNop _ => exact execMspiNop_tidy h
  | mspiWordDiscard _ => exact execMspiWordDiscard_tidy h
  | jtagExtest => exact execJtagExtest_tidy hq h
  | jtagTestLogicReset => exact execJtagTestLogicReset_tidy h
  | jtagDebug => exact execJtagDebug_tidy h
  | jtagFuseProg _ _ _ _ => exact execJtagFuseProg_tidy h
  | faultNExternalLow _ => exact execFaultNExternalLow_tidy h
  | pcieLinkChange _ _ _ => exact execPcieLinkChange_tidy h
  | aclkSwitchDone => exact execAclkSwitchDone_tidy h
  | rtuLoopLoadDone => exact execRtuLoopLoadDone_tidy h

end Sys2Proof.Machine
end

