-- ==== Sys2Proof/Tests/Slice0.lean ====
section
/-! SUPPORT. Tests of the model: ill-formed commands refused, worked examples of the spec, and a state and operands that meet the hypotheses of each statement, clause by clause. -/

set_option Elab.async false

namespace Sys2Proof.Tests
open Machine

/-- The boot core in machine mode. -/
def boot : Requester := ⟨0, .machine⟩

/-- The state after reset. -/
def S0 : State := State.reset

/-- Registers take values. -/
def at' (l : List (Nat × Nat)) (s : State) : State := l.foldl (fun u x => u.wrN x.1 x.2) s

/-- Pages (block, page) take states. -/
def inSt (l : List (Nat × Nat × Nat)) (s : State) : State := l.foldl (fun u x => u.setFld (hSTATE (pageAddr x.1 x.2.1)) 3 0 x.2.2) s

/-- The row of a register by block, page and offset. -/
def rowOf (b k o : Nat) : RegRow := (rowAt b k o).getD ⟨0, 0, 0, 0, 0, 0, 0, 0, 0, 0, 0⟩

theorem passes_of {s : State} {m : Requester} {a : Nat} {k : TxnKind}
    (h : m.num < 12 ∧ s.inHold = false ∧ s.gate m a 4 k = none ∧ s.pauseBars m a k = false) : s.Passes m a k := h

theorem legal_of {s : State} (h : Registers.wf s.regs = true ∧ Memory.wf s.mem = true ∧ Tcm.wf s.tcm = true ∧ s.profile < 4 ∧
    s.keys.programmed.lc ≤ 3 ∧ s.keys.programmed.svn ≤ 64) : s.Legal := h

/-- What holds of the value there is holds of every value there is. -/
theorem all_some {α : Type} {o : Option α} {P : α → Prop} (v : α) (h : o = some v) (p : P v) : ∀ x, o = some x → P x := by
  intro x e
  cases h.symm.trans e
  exact p

theorem all_none {α : Type} {o : Option α} {P : α → Prop} (h : o = none) : ∀ x, o = some x → P x := by
  intro x e
  cases h.symm.trans e

theorem some_getD {α : Type} {o : Option α} {d : α} (h : o.isSome = true) : o = some (o.getD d) := by
  cases o with
  | none => cases h
  | some x => rfl

theorem cutFree_of {s : State} (h : ∀ x ∈ s.fcr.lastTrigger, x + 8000 ≤ s.now) : s.cutFree := fun x e => h x e

/-- A CEND or END payload made with another CRC fails the CRC check. -/
theorem crc_wrong (l : List Nat) : ((blocksCrc l + 1) % 2 ^ 32 * 2 ^ 16 + 0xC3) / 2 ^ 16 % 2 ^ 32 ≠ blocksCrc l := by
  have := blocksCrc_lt l
  omega

theorem crc_right (l : List Nat) : (blocksCrc l * 2 ^ 16 + 0xC3) / 2 ^ 16 % 2 ^ 32 = blocksCrc l := crcField (blocksCrc_lt l) (by decide)

theorem crc_low (c : Nat) : (c * 2 ^ 16 + 0xC3) % 256 = 0xC3 := by omega

/-- A region entry that opens the frame store to every master. -/
def storeRegion : Nat := 2 ^ 127 + 0x1000000 * 2 ^ 99 + 0x1FFFFFF * 2 ^ 71 + 0xFFF * 2 ^ 59 + 0xFFF * 2 ^ 47

theorem region_has_of {e a : Nat} (h : e.testBit 127 = true) (h1 : (e >>> 99) % 2 ^ 28 ≤ a / 4096) (h2 : a / 4096 ≤ (e >>> 71) % 2 ^ 28) :
    regionHas e a = true := by
  unfold regionHas
  rw [h, decide_eq_true h1, decide_eq_true h2]; rfl

theorem region_on : storeRegion.testBit 127 = true := by decide +kernel

theorem region_top : 0x1FFFFFF ≤ storeRegion >>> 71 % 2 ^ 28 := by decide +kernel

theorem region_base : storeRegion >>> 99 % 2 ^ 28 = 0x1000000 := by decide +kernel

theorem page_low (i : Nat) : 0x1000000 ≤ (0x1000000000 + 4096 * i) / 4096 := by omega

theorem page_high {i : Nat} (h : i < 4096) : (0x1000000000 + 4096 * i) / 4096 ≤ 0x1FFFFFF := by omega

theorem region_has {i : Nat} (h : i < 4096) : regionHas storeRegion (0x1000000000 + 4096 * i) = true :=
  region_has_of region_on (Nat.le_trans (Nat.le_of_eq region_base) (page_low i)) (Nat.le_trans (page_high h) region_top)

theorem find_zero {p : Nat → Bool} (h : p 0 = true) : (List.range 32).find? p = some 0 := by
  rw [show List.range 32 = 0 :: (List.range 32).tail from by decide, List.find?_cons, h]

theorem first_region {s : State} {a : Nat} (h : regionHas (s.region 0) a = true) :
   (List.range 32).find? (fun r => regionHas (s.region r) a) = some 0 := find_zero (p := fun r => regionHas (s.region r) a) h

theorem admits_of {s : State} {m : Requester} {a : Nat} {kind : TxnKind} (h : regionHas (s.region 0) a = true)
    (hg : regionGrants (s.region 0) m.num kind = true) : s.regionAdmits m a kind = true := by
  unfold State.regionAdmits
  rw [first_region h]
  simp only [hg, ite_self]

theorem staging_all {n : Nat} {f : Nat → Bool} (h : ∀ i, i < n → f i = true) : (List.range n).all f = true :=
  List.all_eq_true.2 (fun i hi => h i (List.mem_range.1 hi))

/-- One region entry over the whole frame store admits the update engine to a staging area at its foot. -/
theorem staging_of {s : State} {p : Nat} (hb : s.stagingBase p = 0x1000000000) (ho : s.storeOpen = true) (hr : s.region 0 = storeRegion) :
    s.stagingOk p = true := by
  have hw : regionGrants storeRegion twnReq.num .write = true := by decide +kernel
  have hd : regionGrants storeRegion twnReq.num .read = true := by decide +kernel
  have h1 : isStore 0x1000000000 = true := by decide +kernel
  have h2 : decide (0x1000000000 + 0x1000000 ≤ 0x2000000000) = true := by decide +kernel
  have hall := staging_all (n := 4096) (f := fun i => s.regionAdmits twnReq (0x1000000000 + 4096 * i) .write && s.regionAdmits twnReq (0x1000000000 + 4096 * i) .read)
    (fun i hi => by
      have h := region_has hi
      rw [← hr] at h hw hd
      simp only [admits_of h hw, admits_of h hd, Bool.and_self])
  unfold State.stagingOk
  simp only [hb, ho, h1, h2, Bool.true_and]
  exact hall

/-- A cell of audio essence 0x1000. -/
def cell1 : LineCell := ⟨0x1000, 16384, 0, 0, false, 0, 0, 0, 0x9000, 1, [], 0, 0⟩

/-- An image that defines one audio output and pools for it. -/
def img1 : ImageDef := ⟨7, 9, 0, [⟨0x9000, 16384, 2, 0, 0xFFFF, 0⟩], [(16384, 0)], [⟨0x1000, 0, 0, 2, 10⟩, ⟨0x9000, 1, 0, 2, 10⟩]⟩

/-- The fabric works with that image. -/
def withImage (s : State) : State := { s with fabric := { s.fabric with image := some img1 } }

/-- The header of a smallest image up to HDR_CRC: four empty sections (R92, R93). -/
def imageHead (profile : Nat) : List Byte :=
  bytesLE 4 0x314C5456 ++ bytesLE 2 1 ++ bytesLE 2 0x80 ++ bytesLE 4 192 ++ bytesLE 4 7 ++ bytesLE 1 profile ++ bytesLE 1 4 ++ List.replicate 106 0#8

/-- A smallest image. -/
def image (profile : Nat) : List Byte :=
  imageHead profile ++ bytesLE 4 (crc32c (imageHead profile)) ++
    [1, 2, 3, 4].flatMap (fun ty => bytesLE 2 ty ++ bytesLE 2 0 ++ bytesLE 4 0xC0 ++ bytesLE 4 0 ++ bytesLE 4 (crc32c []))

/-- A region entry lets the GSE read the SRAM, where a smallest image stands. -/
def imageState (profile : Nat) (s : State) : State :=
  (at' [(0x41421000, 0), (0x41421004, 0), (0x41421008, 0x103FF * 2 ^ 7 + 8), (0x4142100C, 2 ^ 31 + 0x10000 * 8)] s).wrBytes 0x10000000 (image profile)

/-- A load of that image. -/
def load1 (stage : Nat) (target : Option Nat) : ImageLoad := { addr := 0x10000000, len := 192, started := 0, target := target, stage := stage }

/-- The head of an empty calibration record of generation 1, up to its own CRC (Table 5.14). -/
def calHead : List Byte :=
  bytesLE 4 calMagic ++ bytesLE 2 1 ++ bytesLE 2 0 ++ bytesLE 4 1 ++ bytesLE 4 64 ++ bytesLE 8 0 ++ bytesLE 8 5 ++ List.replicate 24 0#8 ++ bytesLE 4 (crc32c [])

/-- Calibration slot A holds that record. -/
def calState (s : State) : State :=
  (s.wrBytes (0x20000000 + s.calSlot 0) (calHead ++ bytesLE 4 (crc32c calHead))).wrBytes (0x20000000 + s.calSlot 0 + 0x3FFFC) (bytesLE 4 cmitMark)

/-- A table entry of n words takes a value. -/
def ent (a v n : Nat) (s : State) : State := at' ((List.range n).map (fun i => (a + 4 * i, v / 2 ^ (32 * i) % 2 ^ 32))) s

/-- A frame of 64 bytes with its FCS. -/
def frame1 : List Byte := withFcs (List.replicate 60 0x55#8)

/-- MAC q runs in mode 0 with its ports enabled and up. -/
def macUp (q : Nat) (s : State) : State :=
  at' [(Reg.FMAC_M_CFG (q + 1), 15 * 2 ^ 22 + 1522), (Reg.FMAC_M_STATUS (q + 1), 15 * 2 ^ 28)] (inSt [(8, 0, 4), (8, q + 1, 4)] s)

/-- A region entry lets the four application cores read and write the SRAM. -/
def coreState (s : State) : State :=
  at' [(0x41421000, 0), (0x41421004, 0xF80F8000), (0x41421008, 0x103FF * 2 ^ 7), (0x4142100C, 2 ^ 31 + 0x10000 * 8)] s

/-- An application core in machine mode. -/
def app : Requester := ⟨4, .machine⟩

/-- A transaction of the boot core on the SRAM. -/
def txn1 (kind : TxnKind) (len : Nat) : Txn := ⟨4, boot, kind, 0x10300FF8, len, 0x0807060504030201, 0, false, 0, false, 0⟩

/-- A quality message of QL 11 (Table 13.2). -/
def qm1 : List Byte :=
  let l := [0x11#8, 11#8, 9#8] ++ List.replicate 13 1#8
  0x7E#8 :: l ++ [BitVec.ofNat 8 (crc8 l)]

/-- A region entry opens the frame store, which runs beside the twin unit, to every master. -/
def storeState (s : State) : State :=
  ent 0x41421000 (2 ^ 127 + 0x1000000 * 2 ^ 99 + 0x1FFFFFF * 2 ^ 71 + 0xFFF * 2 ^ 59 + 0xFFF * 2 ^ 47) 4 (inSt [(15, 0, 4), (11, 0, 4)] s)

/-- The header of an update image of 4,097 bytes with one part of a type (R411, R412). -/
def updHead (ty : Nat) : List Byte :=
  bytesLE 4 0x44505558 ++ [1#8, 0#8, 1#8, 0#8, 0#8, 0x10#8, 1#8, 0#8] ++ bytesLE 4 4097 ++ List.replicate 240 0#8 ++ [BitVec.ofNat 8 ty]

/-- That image at an address. -/
def updImage (a ty : Nat) (s : State) : State := s.wrBytes a (updHead ty)

/-- A session of the update engine on chain port 1 in a state of Table 17.6, with its staging area at the foot of the frame store. -/
def updSt (st : Nat) (s : State) : State :=
  let t := at' [(Reg.TWN_CH_UPD_ADDR_LO 18, 0), (Reg.TWN_CH_UPD_ADDR_HI 18, 0x10), (Reg.TWN_CH_UPD_STATUS 18, st * 2 ^ 28)] s
  { t with upd := { t.upd with port := some 1, session := 7 } }

/-- Chain port 1 is on and in LOCK. -/
def chainUp (s : State) : State :=
  at' [(Reg.TWN_CH_CFG 18, 2 ^ 31 + 2 ^ 29), (Reg.TWN_CH_STATUS 18, 2 * 2 ^ 29)] (inSt [(15, 0, 4)] s)

/-- Chain port 1 has an unacknowledged chunk. -/
def withChunk (x : ChainPort) (s : State) : State :=
  { chainUp s with upd := { s.upd with ports := [{}, { x with unacked := [⟨65535, chunkHead 65535 7 0 3 1, []⟩] }] } }

/-- The twin unit runs with pair state n; a mask of lane pairs is active and in LOCK. -/
def pairSt (n mask : Nat) (s : State) : State :=
  let t := at' ((Reg.TWN_STATUS, n * 2 ^ 30 + 2 ^ 28) :: (Reg.TWN_LANE_STATUS, 0xFFFF * 2 ^ 16) :: ((List.range 16).filter (fun k => mask.testBit k)).map (fun k => (Reg.TWN_L_STATUS (k + 1), 4 * 2 ^ 29))) (inSt [(15, 0, 4)] s)
  { t with twin := { t.twin with active := mask } }

/-- A header of the partner's slot messages. -/
def head1 (k : Nat) (isHash : Bool) : SlotHead := ⟨9, 3, false, 0, 2, 2, true, k, isHash, 0xFFFF, 5, 0⟩

/-- The boot core, an application core, and a master that does not exist. -/
def b0 : Requester := ⟨0, .machine⟩
def b1 : Requester := ⟨1, .machine⟩
def b12 : Requester := ⟨12, .machine⟩

/-- A line cell in range, and one that is not; the same for a PTP dataset and a received line. -/
def c0 : LineCell := ⟨0, 0, 0, 0, false, 0, 0, 0, 0, 0, [], 0, 0⟩
def c1 : LineCell := { c0 with essence := 16384 }
def d0 : PtpDs := ⟨0, 0, 0, 0, 0, 0, 0, 0, 0⟩
def d1 : PtpDs := { d0 with steps := 65536 }
def l0 : SdiLine := ⟨.inPlace, true, 0, false, [1023], true, true, [], [], []⟩
def l1 : SdiLine := { l0 with video := [4096] }

/-- Commands with operands in range are well formed (part 1). -/
theorem smoke_well_1 : (([.glitchTrip 0 false false,
    .pmapSeal b0 0,
    .pmapWrite b0 0 0,
    .hartRunWrite b0 0,
    .reqOff b0 0 0,
    .reqIsolated b0 0 0,
    .reqIdle b0 0 0,
    .reqRun b0 0 0,
    .drainEnd 0 0,
    .regWrite b0 0x40000000 0,
    .pairLoWrite b0 0x40000000 0,
    .pairHiWrite b0 0x40000000 0,
    .pairLoRead b0 0x40000000,
    .stickyClear b0 0x40000000 0 0,
    .forceWrite b0 0 0 0,
    .lockWrite b0 0 0 0,
    .wmClrCount b0 0x40000000,
    .shadowWrite b0 0x40000000 0,
    .shadowArm b0 0 0 0,
    .shadowArmNext b0 0 0,
    .shadowCancel b0 0 0,
    .shadowCommit 0 0,
    .runDescExec 0 [],
    .gapExec 0 0,
    .planeListDone 0 0] : List Instr).all fun i => i.wf) = true := by decide +kernel

/-- Commands with operands in range are well formed (part 2). -/
theorem smoke_well_2 : (([.carryDone 0,
    .cellAssemble 0 c0 false,
    .cellRelease 0 0,
    .lateCellRelease 0,
    .imgLoad b0 0,
    .imgLoadNext b0,
    .imgCancel b0,
    .takeCmd b0 0 false,
    .salvoCmd b0 0 0 false,
    .takeCancelCmd b0 0 0,
    .prefetchDone 0,
    .profReq b0 0 0,
    .profReqNext b0 0,
    .profCancel b0,
    .sensorSample (List.replicate 28 0),
    .railPoll 1 0 0 none 0 0,
    .railEnable b0 1 0 0,
    .pmbusTxnFail 1 0 false,
    .pmbusClkTimeout 1 0,
    .smbalert 0 [],
    .calLoad b0,
    .calSave b0,
    .pllLock 0 false,
    .pllLockTimeout 0,
    .pllUnlock 0 false] : List Instr).all fun i => i.wf) = true := by decide +kernel

/-- Commands with operands in range are well formed (part 3). -/
theorem smoke_well_3 : (([.syncHeaderInvalid 0 0,
    .laneLock 0,
    .lockRecoveryTimeout 0,
    .alignSlip b0 0 0,
    .slfBurstRx 0 0 [],
    .slfMarkerRx 0 0,
    .slfSleepRx 0,
    .rxWake 0 0,
    .rxRetrainDone 0,
    .slfBurstTx 0 0,
    .slfMarkerTx 0,
    .txSleepSet b0 0 0,
    .txSleepClear b0 0 0,
    .eyeScanStart b0 0 0,
    .eyeScanDone 0 0,
    .adaptStep 0 0 false 0 0,
    .sfeCtxWrite b0 0 0 0 0 0,
    .sfeLineRx 0 0 l0,
    .sfeInputLossTimeout 0 0,
    .sfeLineTx 0 0 0 0,
    .frameRx 0 0 [] false 0 0,
    .flowCellClose 0 0,
    .mergeLegTimeout 0 0,
    .mediaPktTx 0 0 0,
    .hostFrameTx 0 0] : List Instr).all fun i => i.wf) = true := by decide +kernel

/-- Commands with operands in range are well formed (part 4). -/
theorem smoke_well_4 : (([.portLinkChange 0 0 false false false false false,
    .secTxAnWrite b0 0 0,
    .fstReadDone 0 0 0 .clean,
    .stackPowerDown 0,
    .stackWake 0 0,
    .scrubRead 0 .clean,
    .pxpFrameStart 0 0,
    .pxpLineComposite 0 0,
    .fenceWrite b0 0 0,
    .fencePoint 0,
    .mrsFrameReadyWrite b0 0,
    .auxNativeWrite b0 0 0,
    .auxNativeRead b0 0 0,
    .auxI2cWrite b0 false 0 0,
    .auxI2cRead b0 false 0 0,
    .auxReply 0 [],
    .linkTrain b0 0,
    .linkTrainDone 1 0 0 0 [],
    .aesFrameRx 0 0 0 false false false 0,
    .aesLossTimeout 0,
    .audSampleInstant 0 0,
    .audSourceCell 0 0,
    .aesFrameTx 0 0,
    .wsFrameRx 0 0 0 0 0 0,
    .wsFrameTx 0 0] : List Instr).all fun i => i.wf) = true := by decide +kernel

/-- Commands with operands in range are well formed (part 5). -/
theorem smoke_well_5 : (([.qmMsgRx 0 [],
    .qmMissing 0,
    .refClkLoss 0,
    .refFpMiss 0,
    .disqualExpire 0,
    .timeStep b0,
    .timeStepRef b0,
    .phaseAdjWrite b0 0,
    .dpllModeWrite b0 0,
    .selForceWrite b0 0,
    .aclkFamilyWrite b0 0,
    .toutEdge 0,
    .toutOffsetWrite b0 0 0,
    .toutRealign b0 0,
    .refFpPulse 0 0,
    .ticArm b0 0,
    .ticCapture 0 0 0,
    .ticCalUpdate (List.replicate 250 0),
    .ptpSyncTx 0 none,
    .ptpAnnounceTx 0,
    .ptpDelayReqTx 0 none,
    .ptpMgmtTx 0,
    .ptpSyncRx 0 0 0 0 none 0 none,
    .ptpFollowUpRx 0 0 0 0 0 0,
    .ptpDelayReqRx 0 0 0 0 0] : List Instr).all fun i => i.wf) = true := by decide +kernel

/-- Commands with operands in range are well formed (part 6). -/
theorem smoke_well_6 : (([.ptpDelayRespRx 0 0 0 0 0 0,
    .ptpAnnounceRx 0 0 0 d0,
    .ptpAnnounceTimeout 0,
    .slotMsgRx 0 0 [],
    .laneFail 0,
    .statusRx false false 0 0 0 false 0 0,
    .timeRx false 0 0 0,
    .ptpDsRx d0,
    .twinTakeRx 0 0 0 0 [] false,
    .agreeRx 0 false 0,
    .imageArmRx 0 0 0,
    .profReqRx 0 0 0 0,
    .profForceRx 0,
    .syncRx 0 0 0,
    .audSlipRx 0 0 0,
    .fenceRx 0 false 0,
    .hashRx 0 0 [],
    .roleGiveRx 0 0,
    .roleTakeRx 0,
    .roleCancelRx 0,
    .laneRx 0 0,
    .snapRx 0,
    .selftestOk b0,
    .selftestClr b0,
    .release b0] : List Instr).all fun i => i.wf) = true := by decide +kernel

/-- Commands with operands in range are well formed (part 7). -/
theorem smoke_well_7 : (([.revertNow b0,
    .cpcRestartAll b0,
    .hartRestart b0 0,
    .hartNmi b0 0,
    .wdtKick b0 0,
    .plicClaim b0 0,
    .plicComplete b0 0 0,
    .mtimecmpMatch 0,
    .mboxWrite b0 0 0,
    .bmxTransaction b0 .read 0 0 0,
    .bmxGrant 0 .clean,
    .bmxSubburstNext 0,
    .coreRetry 0,
    .lrReserve b1 0 4,
    .scAttempt b1 0 4 0,
    .amoExec b1 .add 0 4 0,
    .resvExpire 0,
    .lcAdvance b0,
    .svnInc b0,
    .revoke0 b0,
    .revoke1 b0,
    .slotWrite b0 0,
    .slotClear b0 0,
    .slotLock b0 0,
    .ksuSha384 b0 0 0] : List Instr).all fun i => i.wf) = true := by decide +kernel

/-- Commands with operands in range are well formed (part 8). -/
theorem smoke_well_8 : (([.ksuHmac b0 0 0,
    .ksuKdf b0 0,
    .ksuGcmEncrypt b0 0,
    .ksuGcmDecrypt b0 0,
    .ksuEcdsaSign b0 0,
    .ksuEcdsaVerify b0 0,
    .ksuEcdh b0 0,
    .ksuGenerate b0 0,
    .chainLockLoss 0,
    .chunkRx 0 0 [] 0,
    .chunkAbortRx 0 0 0 0 0,
    .chunkAckRx 0 0,
    .chunkResend 0,
    .chunkWaitRepeat 0,
    .updLoad b0 0 0,
    .updActivate b0 0,
    .updAbort b0 0,
    .updResume b0 0,
    .faultRaise 0 0 0,
    .fcrAck b0 0,
    .faultAssert b0,
    .faultRelease b0,
    .sevWrite b0 0 0,
    .ringEnable b0 0,
    .snapSwTrigger b0] : List Instr).all fun i => i.wf) = true := by decide +kernel

/-- Commands with operands in range are well formed (part 9). -/
theorem smoke_well_9 : (([.snapArmTime b0,
    .snapDisarmTime b0,
    .pcieSnapMsg 0 0,
    .snapLatch 0 0,
    .pcieAccess false false 0 0 0,
    .msixEoi b0 0,
    .msixUnmask b0 0,
    .hostDbWrite b0 0 0,
    .mspiRead 0 0 0 false,
    .mspiWrite 0 0 0 0 false,
    .jtagFuseProg false 0 0 0] : List Instr).all fun i => i.wf) = true := by decide +kernel

/-- Each check of Instr.wf refuses a command that fails it alone (part 1). -/
theorem smoke_ill_1 : (([.glitchTrip 4 false false,
    .pmapSeal b12 0,
    .pmapSeal b0 (2 ^ 32),
    .pmapWrite b12 0 0,
    .pmapWrite b0 640 0,
    .pmapWrite b0 0 (2 ^ 32),
    .hartRunWrite b12 0,
    .hartRunWrite b0 (2 ^ 32),
    .reqOff b12 0 0,
    .reqOff b0 16 0,
    .reqOff b0 0 256,
    .reqIsolated b12 0 0,
    .reqIsolated b0 16 0,
    .reqIsolated b0 0 256,
    .reqIdle b12 0 0,
    .reqIdle b0 16 0,
    .reqIdle b0 0 256,
    .reqRun b12 0 0,
    .reqRun b0 16 0,
    .reqRun b0 0 256,
    .drainEnd 16 0,
    .drainEnd 0 256,
    .regWrite b12 0x40000000 0,
    .regWrite b0 0x40000002 0,
    .regWrite b0 0x50000000 0] : List Instr).all fun i => !i.wf) = true := by decide +kernel

/-- Each check of Instr.wf refuses a command that fails it alone (part 2). -/
theorem smoke_ill_2 : (([.regWrite b0 0x40000000 (2 ^ 32),
    .pairLoWrite b12 0x40000000 0,
    .pairLoWrite b0 0x40000002 0,
    .pairLoWrite b0 0x50000000 0,
    .pairLoWrite b0 0x40000000 (2 ^ 32),
    .pairHiWrite b12 0x40000000 0,
    .pairHiWrite b0 0x40000002 0,
    .pairHiWrite b0 0x50000000 0,
    .pairHiWrite b0 0x40000000 (2 ^ 32),
    .pairLoRead b12 0x40000000,
    .pairLoRead b0 0x40000002,
    .pairLoRead b0 0x50000000,
    .stickyClear b12 0x40000000 0 0,
    .stickyClear b0 0x40000002 0 0,
    .stickyClear b0 0x50000000 0 0,
    .stickyClear b0 0x40000000 (2 ^ 32) 0,
    .stickyClear b0 0x40000000 0 (2 ^ 32),
    .forceWrite b12 0 0 0,
    .forceWrite b0 16 0 0,
    .forceWrite b0 0 256 0,
    .forceWrite b0 0 0 (2 ^ 32),
    .lockWrite b12 0 0 0,
    .lockWrite b0 16 0 0,
    .lockWrite b0 0 256 0,
    .lockWrite b0 0 0 (2 ^ 32)] : List Instr).all fun i => !i.wf) = true := by decide +kernel

/-- Each check of Instr.wf refuses a command that fails it alone (part 3). -/
theorem smoke_ill_3 : (([.wmClrCount b12 0x40000000,
    .wmClrCount b0 0x40000002,
    .wmClrCount b0 0x50000000,
    .shadowWrite b12 0x40000000 0,
    .shadowWrite b0 0x40000002 0,
    .shadowWrite b0 0x50000000 0,
    .shadowWrite b0 0x40000000 (2 ^ 32),
    .shadowArm b12 0 0 0,
    .shadowArm b0 16 0 0,
    .shadowArm b0 0 256 0,
    .shadowArm b0 0 0 (2 ^ 24),
    .shadowArmNext b12 0 0,
    .shadowArmNext b0 16 0,
    .shadowArmNext b0 0 256,
    .shadowCancel b12 0 0,
    .shadowCancel b0 16 0,
    .shadowCancel b0 0 256,
    .shadowCommit 16 0,
    .shadowCommit 0 256,
    .runDescExec 16 [],
    .gapExec 16 0,
    .planeListDone 16 0,
    .carryDone 16,
    .cellAssemble 2 c0 false,
    .cellAssemble 0 c1 false] : List Instr).all fun i => !i.wf) = true := by decide +kernel

/-- Each check of Instr.wf refuses a command that fails it alone (part 4). -/
theorem smoke_ill_4 : (([.cellRelease (2 ^ 14) 0,
    .cellRelease 0 (2 ^ 16),
    .lateCellRelease (2 ^ 14),
    .imgLoad b12 0,
    .imgLoad b0 (2 ^ 24),
    .imgLoadNext b12,
    .imgCancel b12,
    .takeCmd b12 0 false,
    .takeCmd b0 8 false,
    .salvoCmd b12 0 0 false,
    .salvoCmd b0 8 0 false,
    .salvoCmd b0 0 (2 ^ 14) false,
    .takeCancelCmd b12 0 0,
    .takeCancelCmd b0 8 0,
    .takeCancelCmd b0 0 (2 ^ 14),
    .prefetchDone (2 ^ 14),
    .profReq b12 0 0,
    .profReq b0 4 0,
    .profReq b0 0 (2 ^ 24),
    .profReqNext b12 0,
    .profReqNext b0 4,
    .profCancel b12,
    .sensorSample (List.replicate 27 0),
    .railPoll 0 0 0 none 0 0,
    .railPoll 9 0 0 none 0 0] : List Instr).all fun i => !i.wf) = true := by decide +kernel

/-- Each check of Instr.wf refuses a command that fails it alone (part 5). -/
theorem smoke_ill_5 : (([.railPoll 1 65536 0 none 0 0,
    .railPoll 1 0 65536 none 0 0,
    .railPoll 1 0 0 none 0 65536,
    .railEnable b12 1 0 0,
    .railEnable b0 0 0 0,
    .railEnable b0 9 0 0,
    .railEnable b0 1 (2 ^ 32) 0,
    .railEnable b0 1 0 256,
    .pmbusTxnFail 0 0 false,
    .pmbusTxnFail 9 0 false,
    .pmbusClkTimeout 0 0,
    .pmbusClkTimeout 9 0,
    .smbalert 2 [],
    .smbalert 0 [65536],
    .calLoad b12,
    .calSave b12,
    .pllLock 128 false,
    .pllLockTimeout 128,
    .pllUnlock 128 false,
    .syncHeaderInvalid 530 0,
    .laneLock 530,
    .lockRecoveryTimeout 530,
    .alignSlip b12 0 0,
    .alignSlip b0 128 0,
    .alignSlip b0 0 (2 ^ 32)] : List Instr).all fun i => !i.wf) = true := by decide +kernel

/-- Each check of Instr.wf refuses a command that fails it alone (part 6). -/
theorem smoke_ill_6 : (([.slfBurstRx 512 0 [],
    .slfBurstRx 0 (2 ^ 64) [],
    .slfBurstRx 0 0 [(false, 2 ^ 64)],
    .slfMarkerRx 512 0,
    .slfMarkerRx 0 (2 ^ 56),
    .slfSleepRx 512,
    .rxWake 512 0,
    .rxRetrainDone 512,
    .slfBurstTx 512 0,
    .slfBurstTx 0 8,
    .slfMarkerTx 512,
    .txSleepSet b12 0 0,
    .txSleepSet b0 128 0,
    .txSleepSet b0 0 (2 ^ 32),
    .txSleepClear b12 0 0,
    .txSleepClear b0 128 0,
    .txSleepClear b0 0 (2 ^ 32),
    .eyeScanStart b12 0 0,
    .eyeScanStart b0 128 0,
    .eyeScanStart b0 0 (2 ^ 32),
    .eyeScanDone 128 0,
    .adaptStep 528 0 false 0 0,
    .adaptStep 0 5 false 0 0,
    .adaptStep 0 0 false 256 0,
    .adaptStep 0 0 false 0 256] : List Instr).all fun i => !i.wf) = true := by decide +kernel

/-- Each check of Instr.wf refuses a command that fails it alone (part 7). -/
theorem smoke_ill_7 : (([.sfeCtxWrite b12 0 0 0 0 0,
    .sfeCtxWrite b0 128 0 0 0 0,
    .sfeCtxWrite b0 0 2 0 0 0,
    .sfeCtxWrite b0 0 0 32 0 0,
    .sfeCtxWrite b0 0 0 0 4 0,
    .sfeCtxWrite b0 0 0 0 0 (2 ^ 32),
    .sfeLineRx 512 0 l0,
    .sfeLineRx 0 8 l0,
    .sfeLineRx 0 0 l1,
    .sfeInputLossTimeout 128 0,
    .sfeInputLossTimeout 0 32,
    .sfeLineTx 512 0 0 0,
    .sfeLineTx 0 8 0 0,
    .sfeLineTx 0 0 (2 ^ 16) 0,
    .sfeLineTx 0 0 0 (2 ^ 16),
    .frameRx 128 0 [] false 0 0,
    .frameRx 0 4 [] false 0 0,
    .flowCellClose 128 0,
    .flowCellClose 0 256,
    .mergeLegTimeout 128 0,
    .mergeLegTimeout 0 256,
    .mediaPktTx 128 0 0,
    .mediaPktTx 0 256 0,
    .hostFrameTx 128 0,
    .hostFrameTx 0 4] : List Instr).all fun i => !i.wf) = true := by decide +kernel

/-- Each check of Instr.wf refuses a command that fails it alone (part 8). -/
theorem smoke_ill_8 : (([.portLinkChange 128 0 false false false false false,
    .portLinkChange 0 4 false false false false false,
    .secTxAnWrite b12 0 0,
    .secTxAnWrite b0 128 0,
    .secTxAnWrite b0 0 (2 ^ 32),
    .fstReadDone 0 0 (2 ^ 512) .clean,
    .stackPowerDown 4,
    .stackWake 4 0,
    .scrubRead 4 .clean,
    .pxpFrameStart 64 0,
    .pxpLineComposite 64 0,
    .pxpLineComposite 0 (2 ^ 16),
    .fenceWrite b12 0 0,
    .fenceWrite b0 256 0,
    .fenceWrite b0 0 (2 ^ 32),
    .fencePoint 64,
    .mrsFrameReadyWrite b12 0,
    .mrsFrameReadyWrite b0 (2 ^ 32),
    .auxNativeWrite b12 0 0,
    .auxNativeWrite b0 (2 ^ 20) 0,
    .auxNativeWrite b0 0 16,
    .auxNativeRead b12 0 0,
    .auxNativeRead b0 (2 ^ 20) 0,
    .auxNativeRead b0 0 16,
    .auxI2cWrite b12 false 0 0] : List Instr).all fun i => !i.wf) = true := by decide +kernel

/-- Each check of Instr.wf refuses a command that fails it alone (part 9). -/
theorem smoke_ill_9 : (([.auxI2cWrite b0 false (2 ^ 20) 0,
    .auxI2cWrite b0 false 0 16,
    .auxI2cRead b12 false 0 0,
    .auxI2cRead b0 false (2 ^ 20) 0,
    .auxI2cRead b0 false 0 16,
    .auxReply 3 [],
    .auxReply 0 (List.replicate 17 0#8),
    .linkTrain b12 0,
    .linkTrain b0 (2 ^ 32),
    .linkTrainDone 0 0 0 0 [],
    .linkTrainDone 4 0 0 0 [],
    .linkTrainDone 1 16 0 0 [],
    .linkTrainDone 1 0 16 0 [],
    .linkTrainDone 1 0 0 16 [],
    .aesFrameRx 64 0 0 false false false 0,
    .aesFrameRx 0 (2 ^ 32) 0 false false false 0,
    .aesFrameRx 0 0 (2 ^ 32) false false false 0,
    .aesLossTimeout 64,
    .audSampleInstant 7 0,
    .audSourceCell 512 0,
    .aesFrameTx 64 0,
    .wsFrameRx 4 0 0 0 0 0,
    .wsFrameRx 0 0 (2 ^ 32) 0 0 0,
    .wsFrameRx 0 0 0 (2 ^ 32) 0 0,
    .wsFrameTx 4 0] : List Instr).all fun i => !i.wf) = true := by decide +kernel

/-- Each check of Instr.wf refuses a command that fails it alone (part 10). -/
theorem smoke_ill_10 : (([.qmMsgRx 2 [],
    .qmMissing 2,
    .refClkLoss 2,
    .refFpMiss 2,
    .disqualExpire 4,
    .timeStep b12,
    .timeStepRef b12,
    .phaseAdjWrite b12 0,
    .phaseAdjWrite b0 (2 ^ 32),
    .dpllModeWrite b12 0,
    .dpllModeWrite b0 (2 ^ 32),
    .selForceWrite b12 0,
    .selForceWrite b0 (2 ^ 32),
    .aclkFamilyWrite b12 0,
    .aclkFamilyWrite b0 (2 ^ 32),
    .toutEdge 8,
    .toutOffsetWrite b12 0 0,
    .toutOffsetWrite b0 8 0,
    .toutOffsetWrite b0 0 (2 ^ 32),
    .toutRealign b12 0,
    .toutRealign b0 8,
    .refFpPulse 2 0,
    .ticArm b12 0,
    .ticArm b0 (2 ^ 32),
    .ticCapture 16 0 0] : List Instr).all fun i => !i.wf) = true := by decide +kernel

/-- Each check of Instr.wf refuses a command that fails it alone (part 11). -/
theorem smoke_ill_11 : (([.ticCapture 0 0 250,
    .ticCalUpdate (List.replicate 249 0),
    .ptpSyncTx 8 none,
    .ptpAnnounceTx 8,
    .ptpDelayReqTx 8 none,
    .ptpMgmtTx 8,
    .ptpSyncRx 8 0 0 0 none 0 none,
    .ptpSyncRx 0 (2 ^ 64) 0 0 none 0 none,
    .ptpSyncRx 0 0 65536 0 none 0 none,
    .ptpSyncRx 0 0 0 (2 ^ 16) none 0 none,
    .ptpFollowUpRx 8 0 0 0 0 0,
    .ptpFollowUpRx 0 (2 ^ 64) 0 0 0 0,
    .ptpFollowUpRx 0 0 65536 0 0 0,
    .ptpFollowUpRx 0 0 0 (2 ^ 16) 0 0,
    .ptpDelayReqRx 8 0 0 0 0,
    .ptpDelayReqRx 0 (2 ^ 64) 0 0 0,
    .ptpDelayReqRx 0 0 65536 0 0,
    .ptpDelayReqRx 0 0 0 (2 ^ 16) 0,
    .ptpDelayRespRx 8 0 0 0 0 0,
    .ptpDelayRespRx 0 (2 ^ 64) 0 0 0 0,
    .ptpDelayRespRx 0 0 65536 0 0 0,
    .ptpDelayRespRx 0 0 0 (2 ^ 16) 0 0,
    .ptpAnnounceRx 8 0 0 d0,
    .ptpAnnounceRx 0 (2 ^ 64) 0 d0,
    .ptpAnnounceRx 0 0 65536 d0] : List Instr).all fun i => !i.wf) = true := by decide +kernel

/-- Each check of Instr.wf refuses a command that fails it alone (part 12). -/
theorem smoke_ill_12 : (([.ptpAnnounceRx 0 0 0 d1,
    .ptpAnnounceTimeout 8,
    .slotMsgRx 16 0 [],
    .slotMsgRx 0 0 [(false, 2 ^ 64)],
    .laneFail 16,
    .statusRx false false 4 0 0 false 0 0,
    .statusRx false false 0 8 0 false 0 0,
    .statusRx false false 0 0 16 false 0 0,
    .statusRx false false 0 0 0 false (2 ^ 32) 0,
    .statusRx false false 0 0 0 false 0 (2 ^ 32),
    .timeRx false 8 0 0,
    .timeRx false 0 16 0,
    .ptpDsRx d1,
    .twinTakeRx (2 ^ 14) 0 0 0 [] false,
    .twinTakeRx 0 4 0 0 [] false,
    .twinTakeRx 0 0 (2 ^ 64) 0 [] false,
    .twinTakeRx 0 0 0 (2 ^ 64) [] false,
    .twinTakeRx 0 0 0 0 [(0, 2 ^ 14)] false,
    .agreeRx (2 ^ 14) false 0,
    .agreeRx 0 false 16,
    .imageArmRx (2 ^ 24) 0 0,
    .imageArmRx 0 (2 ^ 32) 0,
    .imageArmRx 0 0 (2 ^ 32),
    .profReqRx 4 0 0 0,
    .profReqRx 0 (2 ^ 24) 0 0] : List Instr).all fun i => !i.wf) = true := by decide +kernel

/-- Each check of Instr.wf refuses a command that fails it alone (part 13). -/
theorem smoke_ill_13 : (([.profReqRx 0 0 (2 ^ 32) 0,
    .profReqRx 0 0 0 (2 ^ 32),
    .profForceRx (2 ^ 24),
    .syncRx 8192 0 0,
    .syncRx 0 (2 ^ 24) 0,
    .syncRx 0 0 (2 ^ 64),
    .audSlipRx 128 0 0,
    .audSlipRx 0 (2 ^ 64) 0,
    .audSlipRx 0 0 (2 ^ 64),
    .fenceRx 64 false 0,
    .fenceRx 0 false (2 ^ 24),
    .hashRx (2 ^ 24) 0 [],
    .hashRx 0 (2 ^ 16) [],
    .hashRx 0 0 [(2 ^ 64)],
    .roleGiveRx 4 0,
    .roleGiveRx 0 (2 ^ 24),
    .roleTakeRx (2 ^ 24),
    .roleCancelRx (2 ^ 24),
    .laneRx 65536 0,
    .laneRx 0 (2 ^ 24),
    .snapRx (2 ^ 64),
    .selftestOk b12,
    .selftestClr b12,
    .release b12,
    .revertNow b12] : List Instr).all fun i => !i.wf) = true := by decide +kernel

/-- Each check of Instr.wf refuses a command that fails it alone (part 14). -/
theorem smoke_ill_14 : (([.cpcRestartAll b12,
    .hartRestart b12 0,
    .hartRestart b0 4,
    .hartNmi b12 0,
    .hartNmi b0 4,
    .wdtKick b12 0,
    .wdtKick b0 (2 ^ 32),
    .plicClaim b12 0,
    .plicClaim b0 9,
    .plicComplete b12 0 0,
    .plicComplete b0 9 0,
    .plicComplete b0 0 32,
    .mtimecmpMatch 5,
    .mboxWrite b12 0 0,
    .mboxWrite b0 4 0,
    .mboxWrite b0 0 (2 ^ 32),
    .bmxTransaction b12 .read 0 0 0,
    .bmxTransaction b0 .read (2 ^ 40) 0 0,
    .bmxTransaction b0 .read 0 4097 0,
    .bmxGrant 24 .clean,
    .bmxSubburstNext 12,
    .coreRetry 6,
    .lrReserve b12 0 4,
    .lrReserve b0 0 4,
    .lrReserve b1 (2 ^ 40) 4] : List Instr).all fun i => !i.wf) = true := by decide +kernel

/-- Each check of Instr.wf refuses a command that fails it alone (part 15). -/
theorem smoke_ill_15 : (([.lrReserve b1 0 6,
    .scAttempt b12 0 4 0,
    .scAttempt b0 0 4 0,
    .scAttempt b1 (2 ^ 40) 4 0,
    .scAttempt b1 0 6 0,
    .scAttempt b1 0 4 (2 ^ 64),
    .amoExec b12 .add 0 4 0,
    .amoExec b0 .add 0 4 0,
    .amoExec b1 .add (2 ^ 40) 4 0,
    .amoExec b1 .add 0 6 0,
    .amoExec b1 .add 0 4 (2 ^ 64),
    .resvExpire 4,
    .lcAdvance b12,
    .svnInc b12,
    .revoke0 b12,
    .revoke1 b12,
    .slotWrite b12 0,
    .slotWrite b0 64,
    .slotClear b12 0,
    .slotClear b0 64,
    .slotLock b12 0,
    .slotLock b0 64,
    .ksuSha384 b12 0 0,
    .ksuSha384 b0 4 0,
    .ksuSha384 b0 0 4] : List Instr).all fun i => !i.wf) = true := by decide +kernel

/-- Each check of Instr.wf refuses a command that fails it alone (part 16). -/
theorem smoke_ill_16 : (([.ksuHmac b12 0 0,
    .ksuHmac b0 4 0,
    .ksuHmac b0 0 4,
    .ksuKdf b12 0,
    .ksuKdf b0 4,
    .ksuGcmEncrypt b12 0,
    .ksuGcmEncrypt b0 4,
    .ksuGcmDecrypt b12 0,
    .ksuGcmDecrypt b0 4,
    .ksuEcdsaSign b12 0,
    .ksuEcdsaSign b0 4,
    .ksuEcdsaVerify b12 0,
    .ksuEcdsaVerify b0 4,
    .ksuEcdh b12 0,
    .ksuEcdh b0 4,
    .ksuGenerate b12 0,
    .ksuGenerate b0 4,
    .chainLockLoss 2,
    .chunkRx 2 0 [] 0,
    .chunkRx 0 (2 ^ 56) [] 0,
    .chunkRx 0 0 [(2 ^ 64)] 0,
    .chunkRx 0 0 [] (2 ^ 56),
    .chunkAbortRx 2 0 0 0 0,
    .chunkAbortRx 0 (2 ^ 16) 0 0 0,
    .chunkAbortRx 0 0 (2 ^ 16) 0 0] : List Instr).all fun i => !i.wf) = true := by decide +kernel

/-- Each check of Instr.wf refuses a command that fails it alone (part 17). -/
theorem smoke_ill_17 : (([.chunkAbortRx 0 0 0 16 0,
    .chunkAbortRx 0 0 0 0 (2 ^ 56),
    .chunkAckRx 2 0,
    .chunkAckRx 0 (2 ^ 56),
    .chunkResend 2,
    .chunkWaitRepeat 2,
    .updLoad b12 0 0,
    .updLoad b0 2 0,
    .updLoad b0 0 16,
    .updActivate b12 0,
    .updActivate b0 2,
    .updAbort b12 0,
    .updAbort b0 2,
    .updResume b12 0,
    .updResume b0 2,
    .faultRaise 31 0 0,
    .fcrAck b12 0,
    .fcrAck b0 (2 ^ 32),
    .faultAssert b12,
    .faultRelease b12,
    .sevWrite b12 0 0,
    .sevWrite b0 248 0,
    .sevWrite b0 0 (2 ^ 32),
    .ringEnable b12 0,
    .ringEnable b0 (2 ^ 32)] : List Instr).all fun i => !i.wf) = true := by decide +kernel

/-- Each check of Instr.wf refuses a command that fails it alone (part 18). -/
theorem smoke_ill_18 : (([.snapSwTrigger b12,
    .snapArmTime b12,
    .snapDisarmTime b12,
    .pcieSnapMsg 65536 0,
    .pcieSnapMsg 0 (2 ^ 32),
    .snapLatch 16 0,
    .pcieAccess false false (2 ^ 28) 0 0,
    .msixEoi b12 0,
    .msixEoi b0 (2 ^ 32),
    .msixUnmask b12 0,
    .msixUnmask b0 512,
    .hostDbWrite b12 0 0,
    .hostDbWrite b0 16 0,
    .hostDbWrite b0 0 (2 ^ 32),
    .mspiRead 65536 0 0 false,
    .mspiRead 0 (2 ^ 26) 0 false,
    .mspiWrite 65536 0 0 0 false,
    .mspiWrite 0 (2 ^ 26) 0 0 false,
    .mspiWrite 0 0 (2 ^ 32) 0 false,
    .jtagFuseProg false (2 ^ 256) 0 0,
    .jtagFuseProg false 0 (2 ^ 384) 0,
    .jtagFuseProg false 0 0 (2 ^ 64)] : List Instr).all fun i => !i.wf) = true := by decide +kernel

/-! Check values and the worked examples of the spec. -/

/-- What a step leaves. -/
def after (o : Host.Outcome State Fault Refusal) (P : State → Bool) : Bool := match o with | .next t => P t | _ => false

/-- Run A of the Tarrow Fell example. -/
def runA : Nat := descOfWords 0#32 0#32 0x00084B00#32 0x10128800#32

/-- The Velmar Street core: FMAC page 5 runs in epoch 0x352A17F40. -/
def velmar : State := { inSt [(5, 0, 4), (8, 0, 4), (8, 5, 4)] S0 with now := 125000 * 0x352A17F40 + 5 }

/-- The Pellow Green core after the word of SEQ 0x0123. -/
def pellow : State := { S0 with board := { S0.board with mspiSeq := some 0x0123 } }

/-- The published check value of CRC-32C over "123456789" (R473 names the CRC). -/
theorem test_crc32c : crc32c [0x31#8, 0x32#8, 0x33#8, 0x34#8, 0x35#8, 0x36#8, 0x37#8, 0x38#8, 0x39#8] = 0xE3069283 := by decide +kernel

/-- Worked example "the election graphics at Saltcombe": layers 1 and 3 of one sample, and the clamp. -/
theorem test_composite_sample : [blend true 600 500 620, blend true 600 300 448, blend true 600 310 580, blend false 509 940 756, blend false 509 512 485,
    blend false 509 512 550, blend true 100 1000 1000] = [756, 485, 550, 848, 498, 531, 1019] := by decide +kernel

/-- Worked example "1,024 UHD outputs at the Tarrow Fell broadcast centre": format 0x2407 and the claims of runs A and B. -/
theorem test_format_cells : videoTokens 0x2407 = 150 ∧ fmtRaster 0x2407 = 4 ∧ fmtRate 0x2407 = 8 := by decide +kernel

theorem test_run_claims : dKind runA = 1 ∧ dSrc runA = 0x0128 ∧ dDst runA = 0x8000 ∧ dFirst runA = 0 ∧ dCount runA = 9 ∧ dClaim runA = 1360 := by decide +kernel

/-- A take to source 0x0131 rewrites word 3 of run A as 0x10131800 and no other word. -/
theorem test_run_take : dWithSrc runA 0x0131 = descOfWords 0#32 0#32 0x00084B00#32 0x10131800#32 := by decide +kernel

/-- SEQ of the cell of index 5 released in epoch 0x352A17F48 (the same example). -/
theorem test_seq : seqOf (125000 * 0x352A17F48) 5 = 0xA85FD205 := by decide +kernel

/-- Worked example "a 3G-SDI feed at the Carrack Bay regional centre": 75 payload tokens a line. -/
theorem test_3g_tokens : videoTokens 0x1B84 = 75 := by decide +kernel

/-- Worked example "a shadowed change on the Velmar Street core": the write makes the shadow DIRTY. -/
theorem test_shadow_dirty : after (exec (.shadowWrite boot 0x4805904C 0x80000123) velmar) (fun t => decide (t.rd 0x4805904C = 0x80000123#32 ∧ t.fld (hSHADOW 0x48050000) 28 26 = 1)) = true := by decide +kernel

/-- ARM for 0xA17F48 reads back 0x08A17F48. -/
theorem test_shadow_armed : after (exec (.shadowArm boot 8 5 0xA17F48) velmar) (fun t => decide (t.rd 0x48050030 = 0x08A17F48#32)) = true := by decide +kernel

/-- Worked example "a snapshot through the management SPI at Pellow Green": a word repeated with its SEQ is not applied and sets DUP. -/
theorem test_mspi_duplicate : after (exec (.mspiWrite 0x0123 0x00C00055 0x80000000 96 false) pellow)
    (fun t => decide (t.board.mspiDup = true ∧ t.rdN Reg.BMX_MSPI_DUP_CNT = 1 ∧ t.rdN Reg.FCR_SNAP_STATUS = pellow.rdN Reg.FCR_SNAP_STATUS)) = true := by decide +kernel

/-- A word released after 44 edges is discarded and counts as a frame error. -/
theorem test_mspi_44_edges : after (exec (.mspiWordDiscard 44) pellow) (fun t => decide (t.board.mspiDiscarded = true ∧ t.rdN Reg.BMX_MSPI_FRAME_CNT = 1)) = true := by decide +kernel

/-- 104 edges: the word is applied and SURPLUS sets. -/
theorem test_mspi_104_edges : after (exec (.mspiRead 0x0124 0x00C00056 104 false) pellow)
    (fun t => decide (t.board.mspiSeq = some 0x0124 ∧ t.board.mspiSurplus = true ∧ t.rdN Reg.BMX_MSPI_SURPLUS_CNT = 1)) = true := by decide +kernel

/-- No row of the opcode table gives bits, so no word spells a command and withFetchWord changes nothing. -/
theorem test_decode_none : decodeTableWord 32 0xFFFFFFFF = none ∧ decodeTableWord 0 0 = none := by decide

theorem test_fetch_unchanged : State.withFetchWord S0 32 0 = S0 := rfl

/-- The front command runs and leaves the queue. -/
theorem test_step_front : after (step { S0 with pending := [.hbEdge, .hbLoss] }) (fun t => decide (t.pending = [.hbLoss] ∧ t.bit Reg.TWN_STATUS 28 = true)) = true := by decide +kernel

/-- A register access to a block in OFF is answered ABSENT (R40). -/
theorem test_off_absent : after (exec (.regWrite boot (Reg.FMAC_M_CFG 1) 1) S0) (fun t => decide (t.answer.resp = .absent)) = true := by decide +kernel

/-- A write outside the address map is answered DECODE (R25). -/
theorem test_decode : after (exec (.regWrite boot 0x50000000 1) S0) (fun t => decide (t.answer.resp = .decode)) = true := by decide +kernel


/-- The pair CXF_EPOCH reads the epoch number of the Velmar Street core (R10). -/
theorem test_epoch_pair : velmar.view Reg.CXF_EPOCH_LO = 0x52A17F40#32 ∧ velmar.view Reg.CXF_EPOCH_HI = 3#32 := by decide +kernel

/-- KSU_STATUS counts the VALID slots (Table 16.7). -/
theorem test_ksu_status : (at' [(slotAddr 0, 0x40000000), (slotAddr 63, 0x40000000), (slotAddr 5, 0x80000000)] S0).view Reg.KSU_STATUS = 2#32 := by decide +kernel

/-- A cache error of hart 2 counts on its page (R365). -/
theorem test_cache_error : after (exec (.faultRaise Src.CPC_CACHE_ECC 2 0) S0)
    (fun t => decide (t.rdN (Reg.CPC_H_CACHE_ECC_CNT 3) = 1 ∧ t.bit (hSTICKY 0x40000000) 19 = true)) = true := by decide +kernel

/-! Witnesses of the statements over every command. -/

theorem witness_StepRunsFrontCommand : ∃ (c : Instr) (r : List Instr) (s : State), s.pending = c :: r :=
  ⟨.hbEdge, [.hbLoss], { S0 with pending := [.hbEdge, .hbLoss] }, rfl⟩

theorem witness_StepKeepsLegal : ∃ (s t : State), s.Legal ∧ step s = .next t :=
  ⟨{ S0 with pending := [.hbEdge] }, _, legal_of (by decide +kernel), rfl⟩

theorem witness_CommandsLeaveTheQueue : ∃ (c : Instr) (s t : State), s.Legal ∧ exec c s = .next t :=
  ⟨.hbEdge, { S0 with pending := [.hbLoss] }, _, legal_of (by decide +kernel), rfl⟩

theorem witness_FusesNeverGoBack : ∃ (c : Instr) (s t : State), s.Legal ∧ exec c s = .next t :=
  ⟨.fuseProgDone, { S0 with keys := { S0.keys with programmed := { S0.keys.programmed with svn := 63 }, programming := some .svnInc } }, _,
    legal_of (by decide +kernel), rfl⟩

theorem witness_TimescaleMovesOnly : ∃ (c : Instr) (s t : State), s.Legal ∧ movesTime c = false ∧ exec c s = .next t :=
  ⟨.hbEdge, S0, _, legal_of (by decide +kernel), rfl, rfl⟩

theorem witness_FramesOfControlCommands : ∃ (c : Instr) (s t : State), exec c s = .next t := ⟨.hbEdge, S0, _, rfl⟩

theorem witness_FramesOfMediaCommands : ∃ (c : Instr) (s t : State), exec c s = .next t := ⟨.slfSleepRx 511, S0, _, rfl⟩

/-- Each of the five answers of the way to a page is given to some access: DECODE, SECURE, RETRY, ABSENT, and none. -/
theorem witness_GateAnswersInOrder_answers :
    (∃ (a len : Nat) (k : TxnKind) (s : State), s.decodes a len k = false) ∧
    (∃ (m : Requester) (a len : Nat) (k : TxnKind) (s : State), s.decodes a len k = true ∧ s.secureOk m a k = false) ∧
    (∃ (m : Requester) (a len : Nat) (k : TxnKind) (s : State), s.decodes a len k = true ∧ s.secureOk m a k = true ∧ s.retryReason a ≠ 0) ∧
    (∃ (m : Requester) (a len : Nat) (k : TxnKind) (s : State),
      s.decodes a len k = true ∧ s.secureOk m a k = true ∧ s.retryReason a = 0 ∧ s.isAbsent a = true) ∧
    (∃ (m : Requester) (a len : Nat) (k : TxnKind) (s : State),
      s.decodes a len k = true ∧ s.secureOk m a k = true ∧ s.retryReason a = 0 ∧ s.isAbsent a = false) :=
  ⟨⟨0x20000, 4, .read, S0, by decide +kernel⟩,
    ⟨app, 0x10000000, 4, .read, S0, by decide +kernel, by decide +kernel⟩,
    ⟨boot, 0x10300FF8, 8, .write, { S0 with bus := { S0.bus with queue := List.replicate 32 (txn1 .read 4) } }, by decide +kernel, by decide +kernel, by decide +kernel⟩,
    ⟨boot, 0x48010100, 4, .write, S0, by decide +kernel, by decide +kernel, by decide +kernel, by decide +kernel⟩,
    ⟨boot, 0x103FFFF8, 8, .write, S0, by decide +kernel, by decide +kernel, by decide +kernel, by decide +kernel⟩⟩

/-- A message at the bounds of its fields, with a record of the largest body. -/
theorem witness_SlotMessagesRoundTrip :
    ∃ (m : SlotHead) (l : List CtlRec), m.Fits ∧ (∀ r ∈ l, recFits r) ∧ (l.flatMap recWords).length ≤ 317 :=
  ⟨⟨65535, 65535, true, 3, 3, 3, true, 15, true, 65535, 2 ^ 24 - 1, 2 ^ 24 - 1⟩,
    [.hash (2 ^ 24 - 1) 65535 (List.replicate 255 (2 ^ 64 - 1)), .snap (2 ^ 64 - 1), .time true 7 15 (-(2 ^ 31))], by unfold SlotHead.Fits; decide +kernel, by
      intro r h
      simp only [List.mem_cons, List.not_mem_nil, or_false] at h
      rcases h with rfl | rfl | rfl <;> (unfold recFits; decide +kernel), by decide +kernel⟩


/-! Witnesses of the completion statements. -/

/-- The hypotheses of each clause of IdleStepIsOneTick are met. -/
theorem witness_IdleStepIsOneTick :
    (∃ (s : State), s.pending = [] ∧ s.clockRuns = false) ∧
    (∃ (s : State), s.pending = [] ∧ s.clockRuns = true ∧ (s.now + 1) % s.epochNs ≠ 0) ∧
    (∃ (s : State), s.pending = [] ∧ s.clockRuns = true ∧ (s.now + 1) % s.epochNs = 0) ∧
    (∃ (s : State), s.clockRuns = false) :=
    ⟨⟨inSt [(5, 0, 0)] S0, (by decide +kernel), (by decide +kernel)⟩,
    ⟨{ inSt [(5, 0, 4)] S0 with now := 5 }, (by decide +kernel), (by decide +kernel), (by decide +kernel)⟩,
    ⟨{ inSt [(5, 0, 4)] S0 with now := 124999 }, (by decide +kernel), (by decide +kernel), (by decide +kernel)⟩,
    ⟨inSt [(5, 0, 0)] S0, (by decide +kernel)⟩⟩

/-- The hypotheses of each clause of EpochBoundaryCompletes are met. -/
theorem witness_EpochBoundaryCompletes :
    (∃ (s : State), s.Legal) ∧
    (∃ (s : State), s.Legal) ∧
    (∃ (s : State), s.Legal ∧ s.clockRuns = true) :=
    ⟨⟨{ S0 with profile := 1 }, (legal_of (by decide +kernel))⟩,
    ⟨{ S0 with profile := 1, now := 93749 }, (legal_of (by decide +kernel))⟩,
    ⟨inSt [(5, 0, 4)] S0, (legal_of (by decide +kernel)), (by decide +kernel)⟩⟩

/-- The hypotheses of each clause of RestartsComplete are met. -/
theorem witness_RestartsComplete :
    (∃ (m : Requester) (s : State), s.Passes m Reg.CPC_RESTART .write) ∧
    (∃ (m : Requester) (h : Nat) (s : State), h < 4 ∧ s.released h = true ∧ s.Passes m (Reg.CPC_H_CTRL (h + 1)) .write) ∧
    (∃ (m : Requester) (h : Nat) (s : State), h < 4 ∧ s.released h = true ∧ s.Passes m (Reg.CPC_H_CTRL (h + 1)) .write) ∧
    (∃ (m : Requester) (s : State), s.Passes m Reg.CPC_WDT_KICK .write) ∧
    (∃ (s : State), s.bit Reg.CPC_WDT_CFG 31 = true) ∧
    (∃ (slot : Nat), slot < 64) ∧
    (∃ (n : Nat) (slot : Nat), 1000 ≤ n ∧ slot < 64) ∧
    (∃ (die : Nat) (slot : Nat), die < 4 ∧ slot < 64) ∧
    (∃ (m : Requester) (s : State) (slot : Nat), s.Passes m Reg.CPC_RESTART .write ∧ slot < 64) ∧
    (∃ (slot : Nat), slot < 64) :=
    ⟨⟨boot, S0, (passes_of (by decide +kernel))⟩,
    ⟨boot, 3, at' [(Reg.CPC_HART_RUN, 15)] S0, (by decide +kernel), (by decide +kernel), (passes_of (by decide +kernel))⟩,
    ⟨boot, 3, at' [(Reg.CPC_HART_RUN, 15)] S0, (by decide +kernel), (by decide +kernel), (passes_of (by decide +kernel))⟩,
    ⟨boot, S0, (passes_of (by decide +kernel))⟩,
    ⟨at' [(Reg.CPC_WDT_CFG, 2 ^ 31)] S0, (by decide +kernel)⟩,
    ⟨63, (by decide +kernel)⟩,
    ⟨1000, 63, (by decide +kernel), (by decide +kernel)⟩,
    ⟨3, 63, (by decide +kernel), (by decide +kernel)⟩,
    ⟨boot, at' [(slotAddr 63, 0x40000020)] S0, 63, (passes_of (by decide +kernel)), (by decide +kernel)⟩,
    ⟨63, (by decide +kernel)⟩⟩

/-- The hypotheses of each clause of InterruptsComplete are met. -/
theorem witness_InterruptsComplete :
    (∃ (m : Requester) (c : Nat) (s : State), c < 9 ∧ s.Passes m (Reg.CPC_PLIC_CLAIM c) .read) ∧
    (∃ (m : Requester) (c : Nat) (n : Nat) (s : State), c < 9 ∧ 0 < n ∧ n < 32 ∧ s.bit (Reg.CPC_PLIC_EN c) n = true ∧ s.ctl.plicClaimed.testBit n = true ∧ s.Passes m (Reg.CPC_PLIC_CLAIM c) .write) ∧
    (∃ (h : Nat) (s : State), h < 5 ∧ s.mtimecmp h ≤ s.now % 2 ^ 64) ∧
    (∃ (m : Requester) (n : Nat) (s : State), n < 4 ∧ s.Passes m (Reg.CPC_MBOX n) .write) ∧
    (∃ (s : State), s.bit Reg.CPC_SCRUB_CFG 31 = false) :=
    ⟨⟨boot, 8, { at' [(Reg.CPC_PLIC_EN 8, 0xFFFFFFFF)] S0 with ctl := { plicPend := 32 } }, (by decide +kernel), (passes_of (by decide +kernel))⟩,
    ⟨boot, 8, 31, { at' [(Reg.CPC_PLIC_EN 8, 0xFFFFFFFF)] S0 with ctl := { plicClaimed := 0x80000000 } }, (by decide +kernel), (by decide +kernel), (by decide +kernel), (by decide +kernel), (by decide +kernel), (passes_of (by decide +kernel))⟩,
    ⟨4, { S0 with now := 2 ^ 64 - 1 }, (by decide +kernel), (by decide +kernel)⟩,
    ⟨boot, 3, S0, (by decide +kernel), (passes_of (by decide +kernel))⟩,
    ⟨{ S0 with ctl := { scrubAddr := 0x3FFFF8 } }, (by decide +kernel)⟩⟩

/-- The hypotheses of each clause of ResetsComplete are met. -/
theorem witness_ResetsComplete :
    (∃ (n : Nat), 1000 ≤ n) ∧
    (∃ (n : Nat), n < 1000) ∧
    (∃ (die : Nat), die < 4) :=
    ⟨⟨1000, (by decide +kernel)⟩,
    ⟨999, (by decide +kernel)⟩,
    ⟨3, (by decide +kernel)⟩⟩

/-- The hypotheses of each clause of WarmResetAndBootComplete are met. -/
theorem witness_WarmResetAndBootComplete :
    (∃ (s : State) (d : Nat), s.fcr.resetDue = some d) ∧
    (∃ (s : State), s.fcr.resetDue = none) ∧
    (∃ (s : State), s.fcr.inReset = true) ∧
    (∃ (s : State), s.inHold = false ∧ s.keys.booted = false ∧ s.rdN Reg.KSU_GLITCH_LOG = 0) ∧
    (∃ (s : State), (s.inHold = true ∨ s.keys.booted = true)) :=
    ⟨⟨{ S0 with fcr := { S0.fcr with resetDue := some 5 } }, 5, (by decide +kernel)⟩,
    ⟨S0, (by decide +kernel)⟩,
    ⟨{ S0 with fcr := { S0.fcr with inReset := true, lateRaises := [(1, true)] } }, (by decide +kernel)⟩,
    ⟨S0, (by decide +kernel), (by decide +kernel), (by decide +kernel)⟩,
    ⟨{ S0 with keys := { booted := true } }, (by decide +kernel)⟩⟩

/-- The hypotheses of each clause of MapSealAndJtagComplete are met. -/
theorem witness_MapSealAndJtagComplete :
    (∃ (m : Requester) (n : Nat) (s : State), s.Passes m (mapAddr n) .write ∧ s.isSealed = false) ∧
    (∃ (m : Requester) (n : Nat) (s : State), s.Passes m (mapAddr n) .write ∧ s.isSealed = true) ∧
    (∃ (m : Requester) (s : State), s.Passes m Reg.BMX_PMAP_SEAL .write ∧ s.isSealed = false) ∧
    (∃ (m : Requester) (s : State), s.Passes m Reg.CPC_HART_RUN .write ∧ s.isSealed = true) ∧
    (∃ (m : Requester) (s : State), s.Passes m Reg.CPC_HART_RUN .write ∧ s.isSealed = false) ∧
    (∃ (s : State), s.keys.fuses.lc = 0 ∧ s.keys.programmed.lc = 0) ∧
    (∃ (s : State), s.keys.fuses.lc = 1 ∧ s.keys.programmed.lc = 1) ∧
    (∃ (s : State), 2 ≤ s.keys.fuses.lc) :=
    ⟨⟨boot, 639, S0, (passes_of (by decide +kernel)), (by decide +kernel)⟩,
    ⟨boot, 639, at' [(Reg.BMX_PMAP_SEAL, 1)] S0, (passes_of (by decide +kernel)), (by decide +kernel)⟩,
    ⟨boot, S0, (passes_of (by decide +kernel)), (by decide +kernel)⟩,
    ⟨boot, at' [(Reg.BMX_PMAP_SEAL, 1)] S0, (passes_of (by decide +kernel)), (by decide +kernel)⟩,
    ⟨boot, S0, (passes_of (by decide +kernel)), (by decide +kernel)⟩,
    ⟨S0, (by decide +kernel), (by decide +kernel)⟩,
    ⟨{ S0 with keys := { fuses := { lc := 1 }, programmed := { lc := 1 } } }, (by decide +kernel), (by decide +kernel)⟩,
    ⟨{ S0 with keys := { fuses := { lc := 2 }, programmed := { lc := 2 } } }, (by decide +kernel)⟩⟩

/-- The hypotheses of each clause of RaiseCompletes are met. -/
theorem witness_RaiseCompletes :
    (∃ (src : Nat), sourceExists src = true ∧ (srcBlock src = 3 → 1 ≤ srcPage src → elementHas (srcPage src) (srcBit src) = true)) ∧
    (∃ (src : Nat) (detail : Nat) (addr : Nat) (s : State) (t : State) (a : Nat), exec (.faultRaise src detail addr) s = .next t ∧ (¬ (s.fcr.ringBase ≤ a ∧ a < s.fcr.ringBase + 32 * s.ringSlots))) :=
    ⟨⟨Src.PTM_PMBUS_ERR, (by decide +kernel), (by decide +kernel)⟩,
    ⟨Src.PTM_PMBUS_ERR, 7, 0x40000000, S0, match exec (.faultRaise Src.PTM_PMBUS_ERR 7 0x40000000) S0 with | .next t => t | _ => S0, 0x10000000, (by rfl), (by decide +kernel)⟩⟩

/-- The hypotheses of each clause of RecordsComplete are met. -/
theorem witness_RecordsComplete :
    (∃ (m : Requester) (v : Nat) (s : State), s.Passes m Reg.FCR_ACK .write ∧ s.fcr.isOpen = true ∧ s.fld (recA 6) 31 16 = v % 65536 ∧ (∀ w, s.fcr.winEnd = some w → s.now < w)) ∧
    (∃ (m : Requester) (v : Nat) (s : State), s.Passes m Reg.FCR_ACK .write ∧ s.fcr.isOpen = false ∧ (∃ e ∈ s.fcr.escalations, e.seq = v % 65536)) ∧
    (∃ (s : State), s.fcr.isOpen = true ∧ s.fcr.winEnd ≠ none ∧ s.fcr.escSev = 3) ∧
    (∃ (s : State), s.fcr.isOpen = true ∧ s.fcr.winEnd ≠ none ∧ s.fcr.escSev < 2) ∧
    (∃ (s : State), (s.fcr.isOpen = false ∨ s.fcr.winEnd = none)) :=
    ⟨⟨boot, 0x1234D, { at' [(recA 6, 0x234D0000)] S0 with now := 4, fcr := { S0.fcr with isOpen := true, winEnd := some 5 } }, (passes_of (by decide +kernel)), (by decide +kernel), (by decide +kernel), (all_some 5 (by decide +kernel) (by decide +kernel))⟩,
    ⟨boot, 7, { S0 with fcr := { S0.fcr with isOpen := false, escalations := [⟨7, [0x44000000], false⟩] } }, (passes_of (by decide +kernel)), (by decide +kernel), (by decide +kernel)⟩,
    ⟨{ S0 with fcr := { S0.fcr with isOpen := true, winEnd := some 5, escSev := 3 } }, (by decide +kernel), (by decide +kernel), (by decide +kernel)⟩,
    ⟨{ S0 with fcr := { S0.fcr with isOpen := true, winEnd := some 5, escSev := 1 } }, (by decide +kernel), (by decide +kernel), (by decide +kernel)⟩,
    ⟨S0, (by decide +kernel)⟩⟩

/-- The hypotheses of each clause of FaultPinAndRingComplete are met. -/
theorem witness_FaultPinAndRingComplete :
    (∃ (m : Requester) (s : State), s.Passes m Reg.FCR_CTRL .write) ∧
    (∃ (m : Requester) (s : State), s.Passes m Reg.FCR_CTRL .write) ∧
    (∃ (m : Requester) (n : Nat) (s : State), n < 248 ∧ s.Passes m (0x43201000 + 4 * n) .write ∧ s.bit (hLOCK (pageAddr 3 0x20)) 0 = false) ∧
    (∃ (m : Requester) (n : Nat) (s : State), n < 248 ∧ s.Passes m (0x43201000 + 4 * n) .write ∧ s.bit (hLOCK (pageAddr 3 0x20)) 0 = true) ∧
    (∃ (m : Requester) (v : Nat) (s : State), s.Passes m Reg.FCR_RING_CFG .write ∧ s.bit Reg.FCR_RING_CFG 31 = false ∧ v.testBit 31 = true) :=
    ⟨⟨boot, S0, (passes_of (by decide +kernel))⟩,
    ⟨boot, S0, (passes_of (by decide +kernel))⟩,
    ⟨boot, 247, S0, (by decide +kernel), (passes_of (by decide +kernel)), (by decide +kernel)⟩,
    ⟨boot, 247, at' [(hLOCK (pageAddr 3 0x20), 1)] S0, (by decide +kernel), (passes_of (by decide +kernel)), (by decide +kernel)⟩,
    ⟨boot, 2 ^ 31 + 31, at' [(Reg.FCR_RING_CFG, 0)] S0, (passes_of (by decide +kernel)), (by decide +kernel), (by decide +kernel)⟩⟩

/-- The hypotheses of each clause of SnapshotsComplete are met. -/
theorem witness_SnapshotsComplete :
    (∃ (m : Requester) (s : State), s.Passes m Reg.FCR_SNAP_CMD .write ∧ s.bit Reg.FCR_SNAP_CFG 0 = true ∧ s.defers 0 = false ∧ s.cutFree) ∧
    (∃ (m : Requester) (s : State) (x : Nat), s.Passes m Reg.FCR_SNAP_CMD .write ∧ s.bit Reg.FCR_SNAP_CFG 0 = true ∧ s.defers 0 = false ∧ s.fcr.lastTrigger = some x ∧ s.now < x + 8000) ∧
    (∃ (m : Requester) (s : State), s.Passes m Reg.FCR_SNAP_CMD .write) ∧
    (∃ (m : Requester) (s : State), s.Passes m Reg.FCR_SNAP_CMD .write) ∧
    (∃ (s : State), s.fcr.timeArmed = true ∧ s.rd64 Reg.FCR_SNAP_TIME_LO Reg.FCR_SNAP_TIME_HI ≤ s.now % 2 ^ 64 ∧ s.bit Reg.FCR_SNAP_CFG 2 = true ∧ s.cutFree) ∧
    (∃ (s : State), s.fcr.time2Armed = true ∧ s.rd64 Reg.FCR_SNAP_TIME2_LO Reg.FCR_SNAP_TIME2_HI ≤ s.now % 2 ^ 64 ∧ s.bit Reg.FCR_SNAP_CFG 2 = true ∧ s.cutFree) ∧
    (∃ (ns : Nat) (s : State), 20 ≤ ns ∧ s.bit Reg.FCR_SNAP_CFG 3 = true ∧ s.defers 3 = false ∧ s.cutFree) ∧
    (∃ (ns : Nat), ns < 20) ∧
    (∃ (s : State), s.board.pcieUp = true ∧ s.bit Reg.FCR_SNAP_CFG 5 = true ∧ s.defers 5 = false ∧ s.cutFree) ∧
    (∃ (v : Nat) (w : Nat), (v ≠ 0x1E5A ∨ w ≠ 0x534E4150)) ∧
    (∃ (b : Nat) (seq : Nat) (time : Nat) (s : State), b < 16 ∧ s.fcr.cut = some (seq, time) ∧ b ∉ s.fcr.latched) ∧
    (∃ (b : Nat) (s : State), b < 16 ∧ (s.fcr.cut = none ∨ b ∈ s.fcr.latched)) ∧
    (∃ (seq : Nat) (b : Nat) (k : Nat) (s : State), b < 16 ∧ k < 256 ∧ seq < 65536 ∧ s.curOf b k ≠ sOFF) :=
    ⟨⟨boot, { at' [(Reg.FCR_SNAP_CFG, 1), (Reg.TWN_CFG, 0)] S0 with now := 8005, fcr := { S0.fcr with lastTrigger := some 5 } }, (passes_of (by decide +kernel)), (by decide +kernel), (by decide +kernel), (cutFree_of (by decide +kernel))⟩,
    ⟨boot, { at' [(Reg.FCR_SNAP_CFG, 1), (Reg.TWN_CFG, 0)] S0 with now := 8005, fcr := { S0.fcr with lastTrigger := some 6 } }, 6, (passes_of (by decide +kernel)), (by decide +kernel), (by decide +kernel), (by decide +kernel), (by decide +kernel)⟩,
    ⟨boot, S0, (passes_of (by decide +kernel))⟩,
    ⟨boot, S0, (passes_of (by decide +kernel))⟩,
    ⟨at' [(Reg.FCR_SNAP_TIME_LO, 8005), (Reg.FCR_SNAP_TIME_HI, 0)] ({ at' [(Reg.FCR_SNAP_CFG, 4), (Reg.TWN_CFG, 0)] S0 with now := 8005, fcr := { S0.fcr with lastTrigger := some 5, timeArmed := true } }), (by decide +kernel), (by decide +kernel), (by decide +kernel), (cutFree_of (by decide +kernel))⟩,
    ⟨at' [(Reg.FCR_SNAP_TIME2_LO, 8005), (Reg.FCR_SNAP_TIME2_HI, 0)] ({ at' [(Reg.FCR_SNAP_CFG, 4), (Reg.TWN_CFG, 0)] S0 with now := 8005, fcr := { S0.fcr with lastTrigger := some 5, time2Armed := true } }), (by decide +kernel), (by decide +kernel), (by decide +kernel), (cutFree_of (by decide +kernel))⟩,
    ⟨20, { at' [(Reg.FCR_SNAP_CFG, 8), (Reg.TWN_CFG, 0)] S0 with now := 8005, fcr := { S0.fcr with lastTrigger := some 5 } }, (by decide +kernel), (by decide +kernel), (by decide +kernel), (cutFree_of (by decide +kernel))⟩,
    ⟨19, (by decide +kernel)⟩,
    ⟨{ at' [(Reg.FCR_SNAP_CFG, 32), (Reg.TWN_CFG, 0)] S0 with now := 8005, fcr := { S0.fcr with lastTrigger := some 5 } , board := { S0.board with pcieUp := true } }, (by decide +kernel), (by decide +kernel), (by decide +kernel), (cutFree_of (by decide +kernel))⟩,
    ⟨0x1E5A, 5, (by decide +kernel)⟩,
    ⟨15, 9, 77, { S0 with fcr := { S0.fcr with cut := some (9, 77), latched := [0, 1] } }, (by decide +kernel), (by decide +kernel), (by decide +kernel)⟩,
    ⟨15, S0, (by decide +kernel), (by decide +kernel)⟩,
    ⟨65535, 15, 16, inSt [(15, 16, 4)] (inSt [(15, 0, 4)] S0), (by decide +kernel), (by decide +kernel), (by decide +kernel), (by decide +kernel)⟩⟩

/-- The hypotheses of each clause of PlainWriteCompletes are met. -/
theorem witness_PlainWriteCompletes :
    (∃ (m : Requester) (a : Nat) (v : Nat) (r : RegRow) (s : State), s.Passes m a .write ∧ isRegAddr a = true ∧ PlainAt a v ∧ s.Accepts a (v % 2 ^ 32) r ∧ a ≠ Reg.BMX_M_SERVED (m.num + 1) ∧ a ≠ Reg.BMX_T_GRANTS (0x11 + targetNo a) ∧ a ≠ Reg.BMX_T_STATUS (0x11 + targetNo a) ∧ clearsTo a = none) :=
    ⟨boot, Reg.AUD_CFG + 16, 2 ^ 32 - 1, rowOf 14 0 0x110, inSt [(14, 0, 4)] S0, (passes_of (by decide +kernel)), (by decide +kernel), ⟨by decide +kernel, by decide +kernel, by decide +kernel, by decide +kernel, by decide +kernel, fun _ _ => rfl⟩, ⟨by decide +kernel, by decide +kernel, by decide +kernel, fun _ => by decide +kernel⟩, (by decide +kernel), (by decide +kernel), (by decide +kernel), (by decide +kernel)⟩

/-- The hypotheses of each clause of RefusedWrites are met. -/
theorem witness_RefusedWrites :
    (∃ (m : Requester) (a : Nat) (v : Nat) (r : RegRow) (s : State), s.Passes m a .write ∧ isRegAddr a = true ∧ PlainAt a v ∧ blockOf a ≠ 1 ∧ masksAt (blockOf a) (pageNo a) (offOf a) = some r ∧ isWatermark r = false ∧ s.isLocked a r.lock = true) ∧
    (∃ (m : Requester) (a : Nat) (v : Nat) (r : RegRow) (s : State), s.Passes m a .write ∧ isRegAddr a = true ∧ PlainAt a v ∧ blockOf a ≠ 1 ∧ masksAt (blockOf a) (pageNo a) (offOf a) = some r ∧ isWatermark r = false ∧ s.isLocked a r.lock = false ∧ s.curOf (blockOf a) (pageNo a) = sRUN ∧ ((s.rdN a ^^^ (v % 2 ^ 32)) &&& (r.rwi ||| r.rws)) ≠ 0) :=
    ⟨⟨boot, 0x44000150, 5, rowOf 4 0 0x150, at' [(hLOCK (pageAddr 4 0), 2)] S0, (passes_of (by decide +kernel)), (by decide +kernel), ⟨by decide +kernel, by decide +kernel, by decide +kernel, by decide +kernel, by decide +kernel, fun _ _ => rfl⟩, (by decide +kernel), (by decide +kernel), (by decide +kernel), (by decide +kernel)⟩,
    ⟨boot, Reg.AUD_CFG, 2, rowOf 14 0 0x100, at' [(Reg.AUD_CFG, 1)] (inSt [(14, 0, 4)] S0), (passes_of (by decide +kernel)), (by decide +kernel), ⟨by decide +kernel, by decide +kernel, by decide +kernel, by decide +kernel, by decide +kernel, fun _ _ => rfl⟩, (by decide +kernel), (by decide +kernel), (by decide +kernel), (by decide +kernel), (by decide +kernel), (by decide +kernel)⟩⟩

/-- The hypotheses of each clause of GateAnswersInOrder are met. -/
theorem witness_GateAnswersInOrder :
    (∃ (m : Requester) (a : Nat) (n : Nat) (r : Resp) (s : State), s.inHold = false ∧ s.gate m a 4 .write = some (r, n)) ∧
    (∃ (m : Requester) (a : Nat) (n : Nat) (r : Resp) (s : State), s.inHold = false ∧ s.gate m a 4 .read = some (r, n)) ∧
    (∃ (s : State), s.inHold = true) :=
    ⟨⟨boot, 0x4E000100, 0, .absent, inSt [(14, 0, 0)] S0, (by decide +kernel), (by decide +kernel)⟩,
    ⟨boot, 0x4E000100, 0, .absent, inSt [(14, 0, 0)] S0, (by decide +kernel), (by decide +kernel)⟩,
    ⟨{ S0 with board := { S0.board with resetHeld := true } }, (by decide +kernel)⟩⟩

/-- The hypotheses of each clause of PairsComplete are met. -/
theorem witness_PairsComplete :
    (∃ (m : Requester) (lo : Nat) (hi : Nat) (v : Nat) (r : RegRow) (s : State), s.Passes m lo .write ∧ isRegAddr lo = true ∧ PairAt lo hi v ∧ pairWritable lo = true ∧ masksAt (blockOf lo) (pageNo lo) (offOf lo) = some r ∧ s.isLocked lo r.lock = false) ∧
    (∃ (m : Requester) (lo : Nat) (hi : Nat) (v : Nat) (w : W) (rl : RegRow) (rh : RegRow) (s : State), s.Passes m hi .write ∧ isRegAddr hi = true ∧ PairAt lo hi v ∧ blockOf lo ≠ 1 ∧ kget s.held lo = some w ∧ s.Accepts lo w.toNat rl ∧ s.Accepts hi (v % 2 ^ 32) rh ∧ clearsTo lo = none ∧ clearsTo hi = none ∧ rl.rws = 0 ∧ rh.rws = 0) ∧
    (∃ (m : Requester) (lo : Nat) (hi : Nat) (v : Nat) (s : State), s.Passes m lo .read ∧ isRegAddr lo = true ∧ PairAt lo hi v ∧ (∀ u : State, u.ownRead lo = none)) :=
    ⟨⟨boot, 0x4400010C, 0x44000110, 5, rowOf 4 0 0x10C, S0, (passes_of (by decide +kernel)), (by decide +kernel), ⟨by decide +kernel, by decide +kernel, by decide +kernel, by decide +kernel, by decide +kernel, by decide +kernel, by decide +kernel, by decide +kernel, by decide +kernel, by decide +kernel, fun _ _ _ => ⟨rfl, rfl⟩⟩, (by decide +kernel), (by decide +kernel), (by decide +kernel)⟩,
    ⟨boot, 0x4400010C, 0x44000110, 7, 0x12345678#32, rowOf 4 0 0x10C, rowOf 4 0 0x110, { at' [] S0 with held := [(0x4400010C, 0x12345678#32)] }, (passes_of (by decide +kernel)), (by decide +kernel), ⟨by decide +kernel, by decide +kernel, by decide +kernel, by decide +kernel, by decide +kernel, by decide +kernel, by decide +kernel, by decide +kernel, by decide +kernel, by decide +kernel, fun _ _ _ => ⟨rfl, rfl⟩⟩, (by decide +kernel), (by decide +kernel), ⟨by decide +kernel, by decide +kernel, by decide +kernel, fun _ => by decide +kernel⟩, ⟨by decide +kernel, by decide +kernel, by decide +kernel, fun _ => by decide +kernel⟩, (by decide +kernel), (by decide +kernel), (by decide +kernel), (by decide +kernel)⟩,
    ⟨boot, 0x4400010C, 0x44000110, 5, S0, (passes_of (by decide +kernel)), (by decide +kernel), ⟨by decide +kernel, by decide +kernel, by decide +kernel, by decide +kernel, by decide +kernel, by decide +kernel, by decide +kernel, by decide +kernel, by decide +kernel, by decide +kernel, fun _ _ _ => ⟨rfl, rfl⟩⟩, fun _ => rfl⟩⟩

/-- The hypotheses of each clause of HeaderWritesComplete are met. -/
theorem witness_HeaderWritesComplete :
    (∃ (m : Requester) (b : Nat) (k : Nat) (s : State), b < 16 ∧ k < 256 ∧ s.Passes m (hSTICKY (pageAddr b k)) .write) ∧
    (∃ (m : Requester) (b : Nat) (k : Nat) (s : State), b < 16 ∧ k < 256 ∧ s.Passes m (hFORCE (pageAddr b k)) .write) ∧
    (∃ (m : Requester) (b : Nat) (k : Nat) (s : State), b < 16 ∧ k < 256 ∧ s.Passes m (hLOCK (pageAddr b k)) .write) ∧
    (∃ (m : Requester) (a : Nat) (r : RegRow) (s : State), s.Passes m a .write ∧ isRegAddr a = true ∧ PlainAt a 0x8000 ∧ masksAt (blockOf a) (pageNo a) (offOf a) = some r ∧ isWatermark r = true ∧ a ≠ Reg.BMX_M_SERVED (m.num + 1) ∧ a ≠ Reg.BMX_T_STATUS (0x11 + targetNo a) ∧ a ≠ Reg.BMX_T_GRANTS (0x11 + targetNo a)) :=
    ⟨⟨boot, 15, 18, at' [(hSTICKY (pageAddr 15 18), 0xF000FFFF)] S0, (by decide +kernel), (by decide +kernel), (passes_of (by decide +kernel))⟩,
    ⟨boot, 4, 0, S0, (by decide +kernel), (by decide +kernel), (passes_of (by decide +kernel))⟩,
    ⟨boot, 4, 0, S0, (by decide +kernel), (by decide +kernel), (passes_of (by decide +kernel))⟩,
    ⟨boot, 0x4B000120, rowOf 11 0 0x120, at' [(0x4B000120, 0xFF000007)] (inSt [(11, 0, 4)] S0), (passes_of (by decide +kernel)), (by decide +kernel), ⟨by decide +kernel, by decide +kernel, by decide +kernel, by decide +kernel, by decide +kernel, fun _ _ => rfl⟩, (by decide +kernel), (by decide +kernel), (by decide +kernel), (by decide +kernel), (by decide +kernel)⟩⟩

/-- The hypotheses of each clause of MsixCompletes are met. -/
theorem witness_MsixCompletes :
    (∃ (m : Requester) (v : Nat) (s : State), v < 512 ∧ s.Passes m 0x41306040 .write ∧ (s.arrived m 0x41306040).vectorAsserted v = true) ∧
    (∃ (m : Requester) (n : Nat) (s : State), n < 512 ∧ s.Passes m (msixEntry n + 12) .write) ∧
    (∃ (m : Requester) (n : Nat) (s : State), n < 16 ∧ s.Passes m (doorbell n) .write) :=
    ⟨⟨boot, 511, at' [(doorbell 15, 1), (msixEntry 511 + 12, 0)] S0, (by decide +kernel), (passes_of (by decide +kernel)), (by decide +kernel)⟩,
    ⟨boot, 511, at' [(msixEntry 511 + 12, 1), (0x41303000 + 60, 0x80000000)] S0, (by decide +kernel), (passes_of (by decide +kernel))⟩,
    ⟨boot, 15, at' [(doorbell 15, 0), (msixEntry 511 + 12, 0)] S0, (by decide +kernel), (passes_of (by decide +kernel))⟩⟩

/-- The hypotheses of each clause of RequestsComplete are met. -/
theorem witness_RequestsComplete :
    (∃ (m : Requester) (b : Nat) (k : Nat) (s : State), s.Asks m b k ∧ s.curOf b k = sISOLATED ∧ (b = 5 → s.running 9 = false)) ∧
    (∃ (m : Requester) (b : Nat) (k : Nat) (s : State), s.Asks m b k ∧ s.curOf b k = sISOLATED ∧ (b = 5 → s.running 9 = false)) ∧
    (∃ (m : Requester) (b : Nat) (k : Nat) (s : State), s.Asks m b k ∧ s.curOf b k = sOFF ∧ (b = 5 → s.running 9 = false)) ∧
    (∃ (m : Requester) (b : Nat) (k : Nat) (s : State), s.Asks m b k ∧ s.curOf b k = sFAULT ∧ s.faultAcked (statePage b k) = true ∧ (b = 5 → s.running 9 = false)) ∧
    (∃ (m : Requester) (b : Nat) (k : Nat) (s : State), s.Asks m b k ∧ s.curOf b k = sIDLE ∧ (b = 5 → s.running 9 = false)) ∧
    (∃ (m : Requester) (b : Nat) (k : Nat) (s : State), s.Asks m b k ∧ controlBlock b = false ∧ s.curOf b k = sIDLE ∧ ((s.arrived m (hCTRL (pageAddr b k))).runBarred b k).2 = false) ∧
    (∃ (m : Requester) (s : State), s.Asks m 2 0 ∧ s.cur 2 = sIDLE) ∧
    (∃ (m : Requester) (b : Nat) (k : Nat) (s : State), s.Asks m b k ∧ controlBlock b = false ∧ s.curOf b k = sRUN) :=
    ⟨⟨boot, 6, 128, inSt [(6, 128, 1)] (inSt [(6, 0, 4)] S0), ⟨by decide, by decide, by decide +kernel, by decide +kernel, by decide +kernel, passes_of (by decide +kernel)⟩, (by decide +kernel), fun _ => by decide +kernel⟩,
    ⟨boot, 11, 0, inSt [(11, 0, 1)] S0, ⟨by decide, by decide, by decide +kernel, by decide +kernel, by decide +kernel, passes_of (by decide +kernel)⟩, (by decide +kernel), fun _ => by decide +kernel⟩,
    ⟨boot, 15, 0, inSt [(15, 0, 0)] S0, ⟨by decide, by decide, by decide +kernel, by decide +kernel, by decide +kernel, passes_of (by decide +kernel)⟩, (by decide +kernel), fun _ => by decide +kernel⟩,
    ⟨boot, 9, 0, inSt [(9, 0, 5)] S0, ⟨by decide, by decide, by decide +kernel, by decide +kernel, by decide +kernel, passes_of (by decide +kernel)⟩, (by decide +kernel), (by decide +kernel), fun _ => by decide +kernel⟩,
    ⟨boot, 5, 0, inSt [(5, 0, 3)] S0, ⟨by decide, by decide, by decide +kernel, by decide +kernel, by decide +kernel, passes_of (by decide +kernel)⟩, (by decide +kernel), fun _ => by decide +kernel⟩,
    ⟨boot, 14, 0, inSt [(14, 0, 3)] S0, ⟨by decide, by decide, by decide +kernel, by decide +kernel, by decide +kernel, passes_of (by decide +kernel)⟩, (by decide +kernel), (by decide +kernel), (by decide +kernel)⟩,
    ⟨boot, inSt [(2, 0, 3)] S0, ⟨by decide, by decide, by decide +kernel, by decide +kernel, by decide +kernel, passes_of (by decide +kernel)⟩, (by decide +kernel)⟩,
    ⟨boot, 9, 0, inSt [(9, 0, 4)] S0, ⟨by decide, by decide, by decide +kernel, by decide +kernel, by decide +kernel, passes_of (by decide +kernel)⟩, (by decide +kernel), (by decide +kernel)⟩⟩

/-- The hypotheses of each clause of RequestsRefusedAndDrained are met. -/
theorem witness_RequestsRefusedAndDrained :
    (∃ (m : Requester) (b : Nat) (k : Nat) (s : State), b < 16 ∧ k < 256 ∧ s.Passes m (hCTRL (pageAddr b k)) .write ∧ (fixedBlock b = true ∨ (k ≠ 0 ∧ ownState b k = false) ∨ s.busy (statePage b k) = true)) ∧
    (∃ (m : Requester) (b : Nat) (k : Nat) (s : State), b < 16 ∧ k < 256 ∧ s.Passes m (hCTRL (pageAddr b k)) .write ∧ (fixedBlock b = true ∨ (k ≠ 0 ∧ ownState b k = false) ∨ s.busy (statePage b k) = true)) ∧
    (∃ (m : Requester) (b : Nat) (k : Nat) (s : State), b < 16 ∧ k < 256 ∧ s.Passes m (hCTRL (pageAddr b k)) .write ∧ (fixedBlock b = true ∨ (k ≠ 0 ∧ ownState b k = false) ∨ s.busy (statePage b k) = true)) ∧
    (∃ (m : Requester) (b : Nat) (k : Nat) (s : State), b < 16 ∧ k < 256 ∧ s.Passes m (hCTRL (pageAddr b k)) .write ∧ (fixedBlock b = true ∨ (k ≠ 0 ∧ ownState b k = false) ∨ s.busy (statePage b k) = true)) ∧
    (∃ (m : Requester) (b : Nat) (k : Nat) (s : State), s.Asks m b k ∧ s.curOf b k = sOFF) ∧
    (∃ (m : Requester) (b : Nat) (k : Nat) (s : State), s.Asks m b k ∧ s.curOf b k = sOFF) ∧
    (∃ (m : Requester) (b : Nat) (k : Nat) (s : State), s.Asks m b k ∧ s.curOf b k = sRUN) ∧
    (∃ (m : Requester) (k : Nat) (s : State), k < 256 ∧ s.Passes m (hCTRL (pageAddr 5 k)) .write ∧ s.running 9 = true) ∧
    (∃ (m : Requester) (k : Nat) (s : State), k < 256 ∧ s.Passes m (hCTRL (pageAddr 5 k)) .write ∧ s.running 9 = true) ∧
    (∃ (m : Requester) (k : Nat) (s : State), k < 256 ∧ s.Passes m (hCTRL (pageAddr 5 k)) .write ∧ s.running 9 = true) ∧
    (∃ (b : Nat) (k : Nat) (e : Bool) (s : State), b < 16 ∧ k < 256 ∧ kget s.draining (statePage b k) = some e) ∧
    (∃ (b : Nat) (k : Nat) (s : State), b < 16 ∧ k < 256 ∧ kget s.draining (statePage b k) = none) :=
    ⟨⟨boot, 0, 0, S0, (by decide +kernel), (by decide +kernel), (passes_of (by decide +kernel)), (by decide +kernel)⟩,
    ⟨boot, 0, 0, S0, (by decide +kernel), (by decide +kernel), (passes_of (by decide +kernel)), (by decide +kernel)⟩,
    ⟨boot, 0, 0, S0, (by decide +kernel), (by decide +kernel), (passes_of (by decide +kernel)), (by decide +kernel)⟩,
    ⟨boot, 0, 0, S0, (by decide +kernel), (by decide +kernel), (passes_of (by decide +kernel)), (by decide +kernel)⟩,
    ⟨boot, 9, 0, inSt [(9, 0, 0)] S0, ⟨by decide, by decide, by decide +kernel, by decide +kernel, by decide +kernel, passes_of (by decide +kernel)⟩, (by decide +kernel)⟩,
    ⟨boot, 9, 0, inSt [(9, 0, 0)] S0, ⟨by decide, by decide, by decide +kernel, by decide +kernel, by decide +kernel, passes_of (by decide +kernel)⟩, (by decide +kernel)⟩,
    ⟨boot, 9, 0, inSt [(9, 0, 4)] S0, ⟨by decide, by decide, by decide +kernel, by decide +kernel, by decide +kernel, passes_of (by decide +kernel)⟩, (by decide +kernel)⟩,
    ⟨boot, 0, inSt [(5, 0, 5), (9, 0, 4)] S0, (by decide +kernel), (passes_of (by decide +kernel)), (by decide +kernel)⟩,
    ⟨boot, 0, inSt [(5, 0, 1), (9, 0, 4)] S0, (by decide +kernel), (passes_of (by decide +kernel)), (by decide +kernel)⟩,
    ⟨boot, 0, inSt [(5, 0, 4), (9, 0, 4)] S0, (by decide +kernel), (passes_of (by decide +kernel)), (by decide +kernel)⟩,
    ⟨9, 0, true, { inSt [(9, 0, 2)] S0 with draining := [(statePage 9 0, true)] }, (by decide +kernel), (by decide +kernel), (by decide +kernel)⟩,
    ⟨15, 0, S0, (by decide +kernel), (by decide +kernel), (by decide +kernel)⟩⟩

/-- The hypotheses of each clause of ShadowWriteCompletes are met. -/
theorem witness_ShadowWriteCompletes :
    (∃ (m : Requester) (a : Nat) (r : RegRow) (s : State), s.Passes m a .write ∧ ShadowAt a r ∧ s.cxfGuard (pageOf a) = false ∧ s.shadowHeld (pageOf a) = false) ∧
    (∃ (m : Requester) (a : Nat) (r : RegRow) (s : State), s.Passes m a .write ∧ ShadowAt a r ∧ s.cxfGuard (pageOf a) = false ∧ s.shadowHeld (pageOf a) = true) :=
    ⟨⟨boot, 0x4D00812C, rowOf 13 0 0x12C, inSt [(13, 0, 4)] S0, (passes_of (by decide +kernel)), ⟨by decide +kernel, by decide +kernel, by decide +kernel, by decide +kernel, by decide +kernel, by decide +kernel⟩, (by decide +kernel), (by decide +kernel)⟩,
    ⟨boot, 0x4D00812C, rowOf 13 0 0x12C, at' [(hSHADOW (pageAddr 13 0), 2 * 2 ^ 26)] (inSt [(13, 0, 4)] S0), (passes_of (by decide +kernel)), ⟨by decide +kernel, by decide +kernel, by decide +kernel, by decide +kernel, by decide +kernel, by decide +kernel⟩, (by decide +kernel), (by decide +kernel)⟩⟩

/-- The hypotheses of each clause of ShadowArmCompletes are met. -/
theorem witness_ShadowArmCompletes :
    (∃ (m : Requester) (b : Nat) (k : Nat) (s : State), s.MayArm m b k) ∧
    (∃ (m : Requester) (b : Nat) (k : Nat) (s : State), s.MayArm m b k) ∧
    (∃ (m : Requester) (b : Nat) (k : Nat) (s : State), b < 16 ∧ k < 256 ∧ s.Passes m (hSHADOW (pageAddr b k)) .write ∧ s.cxfGuard (pageAddr b k) = false ∧ s.shadowHeld (pageAddr b k) = true) ∧
    (∃ (m : Requester) (b : Nat) (k : Nat) (s : State), b < 16 ∧ k < 256 ∧ s.Passes m (hSHADOW (pageAddr b k)) .write ∧ s.cxfGuard (pageAddr b k) = false ∧ s.shadowHeld (pageAddr b k) = true) :=
    ⟨⟨boot, 11, 0, inSt [(11, 0, 4)] S0, ⟨by decide, by decide, passes_of (by decide +kernel), by decide +kernel, by decide +kernel, by decide +kernel⟩⟩,
    ⟨boot, 11, 0, inSt [(11, 0, 4)] S0, ⟨by decide, by decide, passes_of (by decide +kernel), by decide +kernel, by decide +kernel, by decide +kernel⟩⟩,
    ⟨boot, 13, 0, at' [(hSHADOW (pageAddr 13 0), 2 * 2 ^ 26)] (inSt [(13, 0, 4)] S0), (by decide +kernel), (by decide +kernel), (passes_of (by decide +kernel)), (by decide +kernel), (by decide +kernel)⟩,
    ⟨boot, 13, 0, at' [(hSHADOW (pageAddr 13 0), 2 * 2 ^ 26)] (inSt [(13, 0, 4)] S0), (by decide +kernel), (by decide +kernel), (passes_of (by decide +kernel)), (by decide +kernel), (by decide +kernel)⟩⟩

/-- The hypotheses of each clause of ArmTargetsLieAhead are met. -/
theorem witness_ArmTargetsLieAhead :
    (∃ (s : State) (p : Nat) (field : Nat) (E : Nat) (next : Bool), s.armChoice p field next = some E) :=
    ⟨inSt [(5, 0, 3)] S0, 0x4D000000, 2, 2, false, (by decide +kernel)⟩

/-- The hypotheses of each clause of ShadowEndsComplete are met. -/
theorem witness_ShadowEndsComplete :
    (∃ (m : Requester) (b : Nat) (k : Nat) (s : State), b < 16 ∧ k < 256 ∧ s.Passes m (hSHADOW (pageAddr b k)) .write ∧ s.cxfGuard (pageAddr b k) = false ∧ s.shadowStatus (pageAddr b k) = 2 ∧ s.gseHolds (pageAddr b k) = false) ∧
    (∃ (m : Requester) (b : Nat) (k : Nat) (s : State), b < 16 ∧ k < 256 ∧ s.Passes m (hSHADOW (pageAddr b k)) .write ∧ s.cxfGuard (pageAddr b k) = false ∧ pageAddr b k ∈ flipGroup (pageAddr b k) ∧ s.shadowStatus (pageAddr b k) = 3) ∧
    (∃ (b : Nat) (k : Nat) (s : State), b < 16 ∧ k < 256 ∧ b ≠ 12 ∧ s.shadowStatus (pageAddr b k) = 2 ∧ s.gseHolds (pageAddr b k) = false) ∧
    (∃ (e : Nat) (s : State), e < 64 ∧ s.shadowStatus (pageAddr 12 (e + 1)) = 2 ∧ s.gseHolds (pageAddr 12 (e + 1)) = false ∧ (s.pxpCommit e ((s.targetOfPage (pageAddr 12 (e + 1))).getD 0)).2 = 0) ∧
    (∃ (b : Nat) (k : Nat) (s : State), b < 16 ∧ k < 256 ∧ s.shadowStatus (pageAddr b k) ≠ 2) :=
    ⟨⟨boot, 13, 0, { at' [(hSHADOW (pageAddr 13 0), 2 * 2 ^ 26)] (inSt [(13, 0, 4)] S0) with armed := [(pageAddr 13 0, 5)] }, (by decide +kernel), (by decide +kernel), (passes_of (by decide +kernel)), (by decide +kernel), (by decide +kernel), (by decide +kernel)⟩,
    ⟨boot, 13, 0, at' [(hSHADOW (pageAddr 13 0), 3 * 2 ^ 26)] (inSt [(13, 0, 4)] S0), (by decide +kernel), (by decide +kernel), (passes_of (by decide +kernel)), (by decide +kernel), (by decide +kernel), (by decide +kernel)⟩,
    ⟨13, 0, at' [(hSHADOW (pageAddr 13 0), 2 * 2 ^ 26)] (inSt [(13, 0, 4)] S0), (by decide +kernel), (by decide +kernel), (by decide +kernel), (by decide +kernel), (by decide +kernel)⟩,
    ⟨63, { at' [(hSHADOW (pageAddr 12 64), 2 * 2 ^ 26)] (inSt [(12, 0, 4)] S0) with armed := [(pageAddr 12 64, 5)], now := 4 * 125000 }, (by decide +kernel), (by decide +kernel), (by decide +kernel), (by decide +kernel)⟩,
    ⟨13, 0, S0, (by decide +kernel), (by decide +kernel), (by decide +kernel)⟩⟩

/-- The hypotheses of each clause of FlipTakesShadow are met. -/
theorem witness_FlipTakesShadow :
    (∃ (p : Nat), p % 0x10000 = 0 ∧ p < 2 ^ 32 ∧ p ≠ 0x41300000) :=
    ⟨0x4D000000, (by decide +kernel), (by decide +kernel), (by decide +kernel)⟩

/-- The hypotheses of each clause of LoopAndCalibrationComplete are met. -/
theorem witness_LoopAndCalibrationComplete :
    (∃ (s : State), 8 ≤ s.power.noMeasure ∧ s.power.stale = false) ∧
    (∃ (s : State), (s.power.noMeasure < 8 ∨ s.power.stale = true)) ∧
    (∃ (s : State), s.bit Reg.PTM_CFG 0 = true ∧ s.fld Reg.PTM_LOOP_RATE 23 12 * 1000000 ≤ s.power.span ∧ s.downHeld = false ∧ s.vFree = true) ∧
    (∃ (s : State), s.power.span < s.fld Reg.PTM_LOOP_RATE 23 12 * 1000000) ∧
    (∃ (m : Requester) (s : State), s.Passes m Reg.PTM_CAL_CMD .write ∧ s.calBusy = true) ∧
    (∃ (m : Requester) (s : State), s.Passes m Reg.PTM_CAL_CMD .write ∧ s.calBusy = true) ∧
    (∃ (m : Requester) (s : State), s.Passes m Reg.PTM_CAL_CMD .write ∧ s.calBusy = false ∧ s.slotInUse calMagic (s.calSlot 0) (s.calSlot 1) = none) ∧
    (∃ (m : Requester) (s : State) (x : Nat × Nat × Bool), s.Passes m Reg.PTM_CAL_CMD .write ∧ s.calBusy = false ∧ s.slotInUse calMagic (s.calSlot 0) (s.calSlot 1) = some x) ∧
    (∃ (m : Requester) (slot : Nat) (gen : Nat) (s : State), s.Passes m Reg.PTM_CAL_CMD .write ∧ s.calBusy = false ∧ (slot, gen) = (match s.slotInUse calMagic (s.calSlot 0) (s.calSlot 1) with | some x => (1 - x.1, (x.2.1 + 1) % 2 ^ 32) | none => (0, 1))) ∧
    (∃ (found : Bool) (s : State), s.power.cal = some (.load found)) ∧
    (∃ (slot : Nat) (gen : Nat) (s : State), s.power.cal = some (.save slot gen)) ∧
    (∃ (slot : Nat) (gen : Nat) (s : State), s.power.cal = some (.save slot gen)) ∧
    (∃ (s : State), s.power.cal = none) :=
    ⟨⟨{ S0 with power := { S0.power with noMeasure := 8, stale := false } }, (by decide +kernel), (by decide +kernel)⟩,
    ⟨{ S0 with power := { S0.power with noMeasure := 7, stale := false } }, (by decide +kernel)⟩,
    ⟨{ at' [(Reg.PTM_CFG, 1), (Reg.PTM_LOOP_RATE, 100 * 4096), (Reg.PTM_R_CFG 1, 2 ^ 31), (Reg.PTM_LOOP_STATUS, 0)] S0 with power := { S0.power with span := 100000000 } }, (by decide +kernel), (by decide +kernel), (by decide +kernel), (by decide +kernel)⟩,
    ⟨{ at' [(Reg.PTM_LOOP_RATE, 100 * 4096)] S0 with power := { S0.power with span := 99999999 } }, (by decide +kernel)⟩,
    ⟨boot, { S0 with board := { S0.board with flashBusy := true } }, (passes_of (by decide +kernel)), (by decide +kernel)⟩,
    ⟨boot, { S0 with board := { S0.board with flashBusy := true } }, (passes_of (by decide +kernel)), (by decide +kernel)⟩,
    ⟨boot, S0, (passes_of (by decide +kernel)), (by decide +kernel), (by decide +kernel)⟩,
    ⟨boot, calState S0, (0, 1, false), (passes_of (by decide +kernel)), (by decide +kernel), (by decide +kernel)⟩,
    ⟨boot, 0, 1, S0, (passes_of (by decide +kernel)), (by decide +kernel), (by decide +kernel)⟩,
    ⟨true, { S0 with power := { S0.power with cal := some (.load true) } }, (by decide +kernel)⟩,
    ⟨1, 2 ^ 32 - 1, { S0 with power := { S0.power with cal := some (.save 1 (2 ^ 32 - 1)) } }, (by decide +kernel)⟩,
    ⟨1, 2 ^ 32 - 1, { S0 with power := { S0.power with cal := some (.save 1 (2 ^ 32 - 1)) } }, (by decide +kernel)⟩,
    ⟨S0, (by decide +kernel)⟩⟩

/-- The hypotheses of each clause of PlanesComplete are met. -/
theorem witness_PlanesComplete :
    (∃ (p : Nat) (s : State), p < s.fabric.planes.length ∧ p < 16 ∧ (s.plane p).phase = .list ∧ s.planesWork = true ∧ (s.plane p).pos < s.listLen p ∧ dKind (s.planeDesc p) = 1) ∧
    (∃ (p : Nat) (c : Nat × Nat) (r : List (Nat × Nat)) (s : State), p < s.fabric.planes.length ∧ p < 16 ∧ (s.plane p).phase = .carry ∧ (s.plane p).carry = c :: r ∧ s.planesWork = true) ∧
    (∃ (p : Nat) (s : State), p < s.fabric.planes.length ∧ p < 16 ∧ (s.plane p).phase = .list ∧ s.planesWork = true ∧ (s.plane p).pos < s.listLen p ∧ dKind (s.planeDesc p) = 2) ∧
    (∃ (p : Nat) (s : State), p < s.fabric.planes.length ∧ p < 16 ∧ (s.plane p).phase = .list ∧ s.planesWork = true ∧ (s.listLen p ≤ (s.plane p).pos ∨ dKind (s.planeDesc p) = 15)) ∧
    (∃ (p : Nat) (s : State), p < s.fabric.planes.length ∧ p < 16 ∧ (s.plane p).phase = .carry ∧ (s.plane p).carry = []) :=
    ⟨⟨15, { withImage (at' [(descAddr 15 0 + 0, 0), (descAddr 15 0 + 4, 0), (descAddr 15 0 + 8, 1408), (descAddr 15 0 + 12, 285214976), (Reg.CXF_PL_LIST_LEN 16, 1)] (inSt [(9, 0, 4)] S0)) with fabric := { (withImage S0).fabric with planes := List.replicate 16 { phase := .list } } }, (by decide +kernel), (by decide +kernel), (by decide +kernel), (by decide +kernel), (by decide +kernel), (by decide +kernel)⟩,
    ⟨15, (22597058470030028677414191333076107264, 0), [], { withImage (at' [(descAddr 15 0 + 0, 0), (descAddr 15 0 + 4, 0), (descAddr 15 0 + 8, 0), (descAddr 15 0 + 12, 0), (Reg.CXF_PL_LIST_LEN 16, 0)] (inSt [(9, 0, 4)] S0)) with fabric := { (withImage S0).fabric with planes := List.replicate 16 { phase := .carry, carry := [(22597058470030028677414191333076107264, 0)] } } }, (by decide +kernel), (by decide +kernel), (by decide +kernel), (by decide +kernel), (by decide +kernel)⟩,
    ⟨15, { withImage (at' [(descAddr 15 0 + 0, 0), (descAddr 15 0 + 4, 4290772992), (descAddr 15 0 + 8, 127), (descAddr 15 0 + 12, 536870912), (Reg.CXF_PL_LIST_LEN 16, 1)] (inSt [(9, 0, 4)] S0)) with fabric := { (withImage S0).fabric with planes := List.replicate 16 { phase := .list } } }, (by decide +kernel), (by decide +kernel), (by decide +kernel), (by decide +kernel), (by decide +kernel), (by decide +kernel)⟩,
    ⟨15, { withImage (at' [(descAddr 15 0 + 0, 0), (descAddr 15 0 + 4, 0), (descAddr 15 0 + 8, 0), (descAddr 15 0 + 12, 4043311360), (Reg.CXF_PL_LIST_LEN 16, 1)] (inSt [(9, 0, 4)] S0)) with fabric := { (withImage S0).fabric with planes := List.replicate 16 { phase := .list } } }, (by decide +kernel), (by decide +kernel), (by decide +kernel), (by decide +kernel), (by decide +kernel)⟩,
    ⟨15, { withImage (at' [(descAddr 15 0 + 0, 0), (descAddr 15 0 + 4, 0), (descAddr 15 0 + 8, 0), (descAddr 15 0 + 12, 0), (Reg.CXF_PL_LIST_LEN 16, 0)] (inSt [(9, 0, 4)] S0)) with fabric := { (withImage S0).fabric with planes := List.replicate 16 { phase := .carry } } }, (by decide +kernel), (by decide +kernel), (by decide +kernel), (by decide +kernel)⟩⟩

/-- The hypotheses of each clause of CellsComplete are met. -/
theorem witness_CellsComplete :
    (∃ (die : Nat) (c : LineCell) (p : PoolDef) (s : State), die < 2 ∧ s.epoch ≤ s.assignedEpoch c ∧ s.poolOf c.essence 0 = some p ∧ s.fabric.ingress.find? (sameCell c) = none ∧ (s.fabric.ingress.filter (fun y => y.cell.essence == c.essence)).length < p.slots) ∧
    (∃ (die : Nat) (c : LineCell) (p : PoolDef) (s : State), die < 2 ∧ s.epoch ≤ s.assignedEpoch c ∧ s.poolOf c.essence 0 = some p ∧ s.fabric.ingress.find? (sameCell c) = none ∧ p.slots ≤ (s.fabric.ingress.filter (fun y => y.cell.essence == c.essence)).length) ∧
    (∃ (dst : Nat) (i : Nat) (o : OutputDef) (n : Nominal) (x : Nat × Nat) (c : OutCell) (d : LineCell) (s : State), s.outputDef dst = some o ∧ fmtKind o.format ≠ 2 ∧ (s.releasesOf o s.epochStart)[i]? = some n ∧ i ∉ s.releasedIdx o.id s.epoch ∧ (placements (s.releasesOf o s.epochStart) (s.releasedIdx o.id s.epoch) (s.standing o.id s.epoch)).find? (fun x => x.1 == i) = some x ∧ (s.standing o.id s.epoch).find? (fun c => c.idx == x.2 && c.cell.isSome) = some c ∧ c.cell = some d) ∧
    (∃ (dst : Nat) (i : Nat) (o : OutputDef) (n : Nominal) (s : State), s.outputDef dst = some o ∧ fmtKind o.format ≠ 2 ∧ (s.releasesOf o s.epochStart)[i]? = some n ∧ i ∉ s.releasedIdx o.id s.epoch ∧ s.standing o.id s.epoch = [] ∧ s.carryPending o.id s.epoch i = false ∧ s.running 9 = true ∧ s.takeDue o.id s.epoch = false) ∧
    (∃ (dst : Nat) (o : OutputDef) (c : OutCell) (d : LineCell) (s : State), s.outputDef dst = some o ∧ s.fabric.egress.find? (fun c => c.dst == dst && c.late && c.cell.isSome) = some c ∧ c.cell = some d) :=
    ⟨⟨1, cell1, ⟨0x1000, 0, 0, 2, 10⟩, withImage S0, (by decide +kernel), (by decide +kernel), (by decide +kernel), (by decide +kernel), (by decide +kernel)⟩,
    ⟨1, { cell1 with ptpTime := 9 }, ⟨0x1000, 0, 0, 2, 10⟩, { withImage S0 with fabric := { (withImage S0).fabric with ingress := [⟨cell1, 0, 0, 0, true⟩, ⟨{ cell1 with ptpTime := 5 }, 0, 0, 0, true⟩] } }, (by decide +kernel), (by decide +kernel), (by decide +kernel), (by decide +kernel), (by decide +kernel)⟩,
    ⟨0x9000, 0, ⟨0x9000, 16384, 2, 0, 0xFFFF, 0⟩, ⟨0, 0, 0, false, true, true, 4⟩, (0, 0), ⟨0x9000, 0x1000, 0, 0, some cell1, 0, false⟩, cell1, { withImage (inSt [(9, 0, 4)] S0) with now := 0, fabric := { (withImage S0).fabric with egress := [⟨0x9000, 0x1000, 0, 0, some cell1, 0, false⟩] } }, (by decide +kernel), (by decide +kernel), (by decide +kernel), (by decide +kernel), (by decide +kernel), (by decide +kernel), (by decide +kernel)⟩,
    ⟨0x9000, 0, ⟨0x9000, 16384, 2, 0, 0xFFFF, 0⟩, ⟨0, 0, 0, false, true, true, 4⟩, { withImage (inSt [(9, 0, 4)] S0) with now := 0 }, (by decide +kernel), (by decide +kernel), (by decide +kernel), (by decide +kernel), (by decide +kernel), (by decide +kernel), (by decide +kernel), (by decide +kernel)⟩,
    ⟨0x9000, ⟨0x9000, 16384, 2, 0, 0xFFFF, 0⟩, ⟨0x9000, 0x1000, 0, 0, some cell1, 0, true⟩, cell1, { withImage S0 with fabric := { (withImage S0).fabric with egress := [⟨0x9000, 0x1000, 0, 0, some cell1, 0, true⟩] } }, (by decide +kernel), (by decide +kernel), (by decide +kernel)⟩⟩

/-- The hypotheses of each clause of ImageLoadsComplete are met. -/
theorem witness_ImageLoadsComplete :
    (∃ (m : Requester) (epoch : Nat) (s : State), s.Passes m Reg.GSE_IMG_CMD .write ∧ s.profOpen = none ∧ s.geyser.load = none ∧ (s.arrived m Reg.GSE_IMG_CMD).loadBusy s.imgAddr (s.evenTarget epoch) false false = false) ∧
    (∃ (m : Requester) (s : State), s.Passes m Reg.GSE_IMG_CMD .write ∧ s.profOpen = none ∧ s.geyser.load = none ∧ (s.arrived m Reg.GSE_IMG_CMD).loadBusy s.imgAddr none false false = false) ∧
    (∃ (m : Requester) (s : State), s.Passes m Reg.GSE_IMG_CMD .write ∧ s.profOpen = none ∧ s.geyser.load.isSome = true) ∧
    (∃ (m : Requester) (s : State), s.Passes m Reg.GSE_IMG_CMD .write ∧ s.profOpen = none ∧ s.geyser.load.isSome = true) ∧
    (∃ (m : Requester) (l : ImageLoad) (s : State), s.Passes m Reg.GSE_IMG_CMD .write ∧ s.profOpen = none ∧ s.geyser.load = some l ∧ l.stage ≠ 3) ∧
    (∃ (m : Requester) (l : ImageLoad) (s : State), s.Passes m Reg.GSE_IMG_CMD .write ∧ s.profOpen = none ∧ s.geyser.load = some l ∧ l.stage = 3) :=
    ⟨⟨boot, 5, inSt [(10, 0, 4)] S0, (passes_of (by decide +kernel)), (by decide +kernel), (by decide +kernel), (by decide +kernel)⟩,
    ⟨boot, inSt [(10, 0, 4)] S0, (passes_of (by decide +kernel)), (by decide +kernel), (by decide +kernel), (by decide +kernel)⟩,
    ⟨boot, { inSt [(10, 0, 4)] S0 with geyser := { S0.geyser with load := some (load1 0 none) } }, (passes_of (by decide +kernel)), (by decide +kernel), (by decide +kernel)⟩,
    ⟨boot, { inSt [(10, 0, 4)] S0 with geyser := { S0.geyser with load := some (load1 0 none) } }, (passes_of (by decide +kernel)), (by decide +kernel), (by decide +kernel)⟩,
    ⟨boot, load1 2 (some 6), { inSt [(10, 0, 4)] S0 with geyser := { S0.geyser with load := some (load1 2 (some 6)) } }, (passes_of (by decide +kernel)), (by decide +kernel), (by decide +kernel), (by decide +kernel)⟩,
    ⟨boot, load1 3 (some 6), { inSt [(10, 0, 4)] S0 with geyser := { S0.geyser with load := some (load1 3 (some 6)) } }, (passes_of (by decide +kernel)), (by decide +kernel), (by decide +kernel), (by decide +kernel)⟩⟩

/-- The hypotheses of each clause of ImageCopyCompletes are met. -/
theorem witness_ImageCopyCompletes :
    (∃ (l : ImageLoad) (s : State), s.profOpen = none ∧ s.geyser.load = some l ∧ l.stage = 0 ∧ l.next = false ∧ (s.copied l).imgReason l.addr ((s.copied l).imgProfile l) ≠ 0) ∧
    (∃ (l : ImageLoad) (s : State), s.profOpen = none ∧ s.geyser.load = some l ∧ l.stage = 0 ∧ s.cur 9 = sIDLE ∧ (s.copied l).imgReason l.addr ((s.copied l).imgProfile l) = 0 ∧ (s.copied l).blockStateBad l.addr = false ∧ ((cxfPages ++ (s.copied l).imgPages l.addr).foldl (fun u p => u.setShadow p 2) (((s.copied l).stageOthers l.addr).stageLists ((s.copied l).imgLists l.addr)) |>.imgCheck ((s.copied l).imgPages l.addr) ((s.copied l).imgProfile l) ((s.copied l).imgDef l.addr) false).2 = true) ∧
    (∃ (l : ImageLoad) (E : Nat) (s : State), s.profOpen = none ∧ s.geyser.load = some l ∧ l.stage = 0 ∧ s.cur 9 ≠ sIDLE ∧ l.next = false ∧ l.target = some E ∧ (s.copied l).imgReason l.addr ((s.copied l).imgProfile l) = 0 ∧ (s.copied l).blockStateBad l.addr = false ∧ s.now ≤ (E - 2) * s.epochNs ∧ (s.copied l).imgPages l.addr = [] ∧ s.geyser.takes = [] ∧ s.geyser.group = .free) ∧
    (∃ (s : State), s.profOpen = none ∧ s.geyser.load = none) :=
    ⟨⟨load1 0 (some 6), { S0 with geyser := { S0.geyser with load := some (load1 0 (some 6)) } }, (by decide +kernel), (by decide +kernel), (by decide +kernel), (by decide +kernel), (by decide +kernel)⟩,
    ⟨load1 0 (some 6), { imageState S0.profile (inSt [(9, 0, 3)] S0) with geyser := { S0.geyser with load := some (load1 0 (some 6)) } }, (by decide +kernel), (by decide +kernel), (by decide +kernel), (by decide +kernel), (by decide +kernel), (by decide +kernel), (by decide +kernel)⟩,
    ⟨load1 0 (some 6), 6, { imageState S0.profile (inSt [(9, 0, 4)] S0) with now := 500000, geyser := { S0.geyser with load := some (load1 0 (some 6)), group := .free, takes := [] } }, (by decide +kernel), (by decide +kernel), (by decide +kernel), (by decide +kernel), (by decide +kernel), (by decide +kernel), (by decide +kernel), (by decide +kernel), (by decide +kernel), (by decide +kernel), (by decide +kernel), (by decide +kernel)⟩,
    ⟨S0, (by decide +kernel), (by decide +kernel)⟩⟩

/-- The hypotheses of each clause of TakePortsComplete are met. -/
theorem witness_TakePortsComplete :
    (∃ (m : Requester) (n : Nat) (s : State) (next : Bool) (T : Nat) (r : Nat × List Nat × Nat), n < 8 ∧ s.Passes m (Reg.GSE_P_CMD (n + 1)) .write ∧ s.profOpen = none ∧ T = (if next then s.now else s.rd64 (Reg.GSE_P_TIME_LO (n + 1)) (Reg.GSE_P_TIME_HI (n + 1))) ∧ r = ((s.arrived m (Reg.GSE_P_CMD (n + 1))).issued n).takeCheck false false (s.nextTag n) 1 [(s.rdN (Reg.GSE_P_ARG (n + 1)) / 65536, s.rdN (Reg.GSE_P_ARG (n + 1)) % 65536)] T s.now) ∧
    (∃ (m : Requester) (n : Nat) (count : Nat) (s : State) (next : Bool) (T : Nat) (r : Nat × List Nat × Nat), n < 8 ∧ count < 2 ^ 14 ∧ s.Passes m (Reg.GSE_P_CMD (n + 1)) .write ∧ s.profOpen = none ∧ T = (if next then s.now else s.rd64 (Reg.GSE_P_TIME_LO (n + 1)) (Reg.GSE_P_TIME_HI (n + 1))) ∧ r = ((s.arrived m (Reg.GSE_P_CMD (n + 1))).issued n).takeCheck false true (s.nextTag n) count ((List.range (min count 4096)).map (s.salvoMember n)) T s.now) ∧
    (∃ (m : Requester) (n : Nat) (tag : Nat) (s : State), n < 8 ∧ tag < 2 ^ 14 ∧ s.Passes m (Reg.GSE_P_CMD (n + 1)) .write ∧ s.profOpen = none ∧ ((s.arrived m (Reg.GSE_P_CMD (n + 1))).issued n).cancelCheck tag (some (s.nextTag n)) = 0) :=
    ⟨⟨boot, 7, { withImage (at' [(Reg.GSE_CFG, 1), (Reg.GSE_P_ARG 8, 0x10009000), (Reg.GSE_P_ARG 1, 0x10009000), (Reg.GSE_P_TIME_LO 8, 1000000), (Reg.GSE_CREDIT, 100), (0x4A084000, 0x10009000)] (inSt [(9, 0, 4), (10, 0, 4)] S0)) with now := 5 }, false, if false then ({ withImage (at' [(Reg.GSE_CFG, 1), (Reg.GSE_P_ARG 8, 0x10009000), (Reg.GSE_P_ARG 1, 0x10009000), (Reg.GSE_P_TIME_LO 8, 1000000), (Reg.GSE_CREDIT, 100), (0x4A084000, 0x10009000)] (inSt [(9, 0, 4), (10, 0, 4)] S0)) with now := 5 }).now else ({ withImage (at' [(Reg.GSE_CFG, 1), (Reg.GSE_P_ARG 8, 0x10009000), (Reg.GSE_P_ARG 1, 0x10009000), (Reg.GSE_P_TIME_LO 8, 1000000), (Reg.GSE_CREDIT, 100), (0x4A084000, 0x10009000)] (inSt [(9, 0, 4), (10, 0, 4)] S0)) with now := 5 }).rd64 (Reg.GSE_P_TIME_LO (7 + 1)) (Reg.GSE_P_TIME_HI (7 + 1)), ((({ withImage (at' [(Reg.GSE_CFG, 1), (Reg.GSE_P_ARG 8, 0x10009000), (Reg.GSE_P_ARG 1, 0x10009000), (Reg.GSE_P_TIME_LO 8, 1000000), (Reg.GSE_CREDIT, 100), (0x4A084000, 0x10009000)] (inSt [(9, 0, 4), (10, 0, 4)] S0)) with now := 5 }).arrived boot (Reg.GSE_P_CMD (7 + 1))).issued 7).takeCheck false false (({ withImage (at' [(Reg.GSE_CFG, 1), (Reg.GSE_P_ARG 8, 0x10009000), (Reg.GSE_P_ARG 1, 0x10009000), (Reg.GSE_P_TIME_LO 8, 1000000), (Reg.GSE_CREDIT, 100), (0x4A084000, 0x10009000)] (inSt [(9, 0, 4), (10, 0, 4)] S0)) with now := 5 }).nextTag 7) 1 [(({ withImage (at' [(Reg.GSE_CFG, 1), (Reg.GSE_P_ARG 8, 0x10009000), (Reg.GSE_P_ARG 1, 0x10009000), (Reg.GSE_P_TIME_LO 8, 1000000), (Reg.GSE_CREDIT, 100), (0x4A084000, 0x10009000)] (inSt [(9, 0, 4), (10, 0, 4)] S0)) with now := 5 }).rdN (Reg.GSE_P_ARG (7 + 1)) / 65536, ({ withImage (at' [(Reg.GSE_CFG, 1), (Reg.GSE_P_ARG 8, 0x10009000), (Reg.GSE_P_ARG 1, 0x10009000), (Reg.GSE_P_TIME_LO 8, 1000000), (Reg.GSE_CREDIT, 100), (0x4A084000, 0x10009000)] (inSt [(9, 0, 4), (10, 0, 4)] S0)) with now := 5 }).rdN (Reg.GSE_P_ARG (7 + 1)) % 65536)] (if false then ({ withImage (at' [(Reg.GSE_CFG, 1), (Reg.GSE_P_ARG 8, 0x10009000), (Reg.GSE_P_ARG 1, 0x10009000), (Reg.GSE_P_TIME_LO 8, 1000000), (Reg.GSE_CREDIT, 100), (0x4A084000, 0x10009000)] (inSt [(9, 0, 4), (10, 0, 4)] S0)) with now := 5 }).now else ({ withImage (at' [(Reg.GSE_CFG, 1), (Reg.GSE_P_ARG 8, 0x10009000), (Reg.GSE_P_ARG 1, 0x10009000), (Reg.GSE_P_TIME_LO 8, 1000000), (Reg.GSE_CREDIT, 100), (0x4A084000, 0x10009000)] (inSt [(9, 0, 4), (10, 0, 4)] S0)) with now := 5 }).rd64 (Reg.GSE_P_TIME_LO (7 + 1)) (Reg.GSE_P_TIME_HI (7 + 1))) ({ withImage (at' [(Reg.GSE_CFG, 1), (Reg.GSE_P_ARG 8, 0x10009000), (Reg.GSE_P_ARG 1, 0x10009000), (Reg.GSE_P_TIME_LO 8, 1000000), (Reg.GSE_CREDIT, 100), (0x4A084000, 0x10009000)] (inSt [(9, 0, 4), (10, 0, 4)] S0)) with now := 5 }).now, (by decide +kernel), (passes_of (by decide +kernel)), (by decide +kernel), rfl, rfl⟩,
    ⟨boot, 7, 1, { withImage (at' [(Reg.GSE_CFG, 1), (Reg.GSE_P_ARG 8, 0x10009000), (Reg.GSE_P_ARG 1, 0x10009000), (Reg.GSE_P_TIME_LO 8, 1000000), (Reg.GSE_CREDIT, 100), (0x4A084000, 0x10009000)] (inSt [(9, 0, 4), (10, 0, 4)] S0)) with now := 5 }, false, if false then ({ withImage (at' [(Reg.GSE_CFG, 1), (Reg.GSE_P_ARG 8, 0x10009000), (Reg.GSE_P_ARG 1, 0x10009000), (Reg.GSE_P_TIME_LO 8, 1000000), (Reg.GSE_CREDIT, 100), (0x4A084000, 0x10009000)] (inSt [(9, 0, 4), (10, 0, 4)] S0)) with now := 5 }).now else ({ withImage (at' [(Reg.GSE_CFG, 1), (Reg.GSE_P_ARG 8, 0x10009000), (Reg.GSE_P_ARG 1, 0x10009000), (Reg.GSE_P_TIME_LO 8, 1000000), (Reg.GSE_CREDIT, 100), (0x4A084000, 0x10009000)] (inSt [(9, 0, 4), (10, 0, 4)] S0)) with now := 5 }).rd64 (Reg.GSE_P_TIME_LO (7 + 1)) (Reg.GSE_P_TIME_HI (7 + 1)), ((({ withImage (at' [(Reg.GSE_CFG, 1), (Reg.GSE_P_ARG 8, 0x10009000), (Reg.GSE_P_ARG 1, 0x10009000), (Reg.GSE_P_TIME_LO 8, 1000000), (Reg.GSE_CREDIT, 100), (0x4A084000, 0x10009000)] (inSt [(9, 0, 4), (10, 0, 4)] S0)) with now := 5 }).arrived boot (Reg.GSE_P_CMD (7 + 1))).issued 7).takeCheck false true (({ withImage (at' [(Reg.GSE_CFG, 1), (Reg.GSE_P_ARG 8, 0x10009000), (Reg.GSE_P_ARG 1, 0x10009000), (Reg.GSE_P_TIME_LO 8, 1000000), (Reg.GSE_CREDIT, 100), (0x4A084000, 0x10009000)] (inSt [(9, 0, 4), (10, 0, 4)] S0)) with now := 5 }).nextTag 7) 1 ((List.range (min 1 4096)).map (({ withImage (at' [(Reg.GSE_CFG, 1), (Reg.GSE_P_ARG 8, 0x10009000), (Reg.GSE_P_ARG 1, 0x10009000), (Reg.GSE_P_TIME_LO 8, 1000000), (Reg.GSE_CREDIT, 100), (0x4A084000, 0x10009000)] (inSt [(9, 0, 4), (10, 0, 4)] S0)) with now := 5 }).salvoMember 7)) (if false then ({ withImage (at' [(Reg.GSE_CFG, 1), (Reg.GSE_P_ARG 8, 0x10009000), (Reg.GSE_P_ARG 1, 0x10009000), (Reg.GSE_P_TIME_LO 8, 1000000), (Reg.GSE_CREDIT, 100), (0x4A084000, 0x10009000)] (inSt [(9, 0, 4), (10, 0, 4)] S0)) with now := 5 }).now else ({ withImage (at' [(Reg.GSE_CFG, 1), (Reg.GSE_P_ARG 8, 0x10009000), (Reg.GSE_P_ARG 1, 0x10009000), (Reg.GSE_P_TIME_LO 8, 1000000), (Reg.GSE_CREDIT, 100), (0x4A084000, 0x10009000)] (inSt [(9, 0, 4), (10, 0, 4)] S0)) with now := 5 }).rd64 (Reg.GSE_P_TIME_LO (7 + 1)) (Reg.GSE_P_TIME_HI (7 + 1))) ({ withImage (at' [(Reg.GSE_CFG, 1), (Reg.GSE_P_ARG 8, 0x10009000), (Reg.GSE_P_ARG 1, 0x10009000), (Reg.GSE_P_TIME_LO 8, 1000000), (Reg.GSE_CREDIT, 100), (0x4A084000, 0x10009000)] (inSt [(9, 0, 4), (10, 0, 4)] S0)) with now := 5 }).now, (by decide +kernel), (by decide +kernel), (passes_of (by decide +kernel)), (by decide +kernel), rfl, rfl⟩,
    ⟨boot, 7, 0x3FFF, { withImage (at' [(Reg.GSE_CFG, 1), (Reg.GSE_P_ARG 8, 0x10009000), (Reg.GSE_P_ARG 1, 0x10009000), (Reg.GSE_P_TIME_LO 8, 1000000), (Reg.GSE_CREDIT, 100), (0x4A084000, 0x10009000)] (inSt [(9, 0, 4), (10, 0, 4)] S0)) with now := 5, geyser := { S0.geyser with takes := [{ tag := 0x3FFF, stamp := 0, time := 1000000, isSalvo := false, members := [{ src := 0x1000, dst := 0x9000, state := 2, flip := 8 }] }] } }, (by decide +kernel), (by decide +kernel), (passes_of (by decide +kernel)), (by decide +kernel), (by decide +kernel)⟩⟩

/-- The hypotheses of each clause of TakesArmAndCommit are met. -/
theorem witness_TakesArmAndCommit :
    (∃ (k : Take) (m : Member) (o : OutputDef) (s : State), s.profOpen = none ∧ s.geyser.load = none ∧ s.geyser.takes = [k] ∧ k.members = [m] ∧ m.flip = s.epoch + 2 ∧ m.state = 2 ∧ m.written = false ∧ s.outputDef m.dst = some o ∧ s.srcOk m.src o = true ∧ s.geyser.group = .free) ∧
    (∃ (s : State), s.profOpen = none ∧ s.geyser.load = none ∧ s.geyser.group = .takes ∧ s.geyser.groupEpoch = s.epoch + 1 ∧ s.geyser.groupCommitted = false ∧ (∀ k ∈ s.geyser.takes, ∀ m ∈ k.members, ¬ (m.flip = s.epoch + 1 ∧ m.state = 1)) ∧ (s.dropUnagreed (s.epoch + 1)).cxfCheck none s.profile s.outputs = 0) ∧
    (∃ (src : Nat) (k : Take) (m : Member) (s : State), s.geyser.takes = [k] ∧ k.members = [m] ∧ m.src = src ∧ m.prefetch = 1 ∧ inR 1 3 m.state = true) :=
    ⟨⟨{ tag := 0x3FFF, stamp := 0, time := 1000000, isSalvo := false, members := [{ src := 0x1000, dst := 0x9000, state := 2, flip := 2 }] }, { src := 0x1000, dst := 0x9000, state := 2, flip := 2 }, ⟨0x9000, 16384, 2, 0, 0xFFFF, 0⟩, { withImage (at' [(Reg.GSE_CFG, 1), (Reg.GSE_P_ARG 8, 0x10009000), (Reg.GSE_P_ARG 1, 0x10009000), (Reg.GSE_P_TIME_LO 8, 1000000), (Reg.GSE_CREDIT, 100), (0x4A084000, 0x10009000)] (inSt [(9, 0, 4), (10, 0, 4)] S0)) with now := 5, geyser := { S0.geyser with takes := [{ tag := 0x3FFF, stamp := 0, time := 1000000, isSalvo := false, members := [{ src := 0x1000, dst := 0x9000, state := 2, flip := 2 }] }] } }, (by decide +kernel), (by decide +kernel), (by decide +kernel), (by decide +kernel), (by decide +kernel), (by decide +kernel), (by decide +kernel), (by decide +kernel), (by decide +kernel), (by decide +kernel)⟩,
    ⟨{ withImage (inSt [(9, 0, 4)] S0) with now := 5, geyser := { S0.geyser with group := .takes, groupEpoch := 1, groupCommitted := false, load := none } }, (by decide +kernel), (by decide +kernel), (by decide +kernel), (by decide +kernel), (by decide +kernel), (by decide +kernel), (by decide +kernel)⟩,
    ⟨0x1000, { tag := 0x3FFF, stamp := 0, time := 1000000, isSalvo := false, members := [{ src := 0x1000, dst := 0x9000, state := 3, flip := 2, prefetch := 1 }] }, { src := 0x1000, dst := 0x9000, state := 3, flip := 2, prefetch := 1 }, { S0 with geyser := { S0.geyser with takes := [{ tag := 0x3FFF, stamp := 0, time := 1000000, isSalvo := false, members := [{ src := 0x1000, dst := 0x9000, state := 3, flip := 2, prefetch := 1 }] }] } }, (by decide +kernel), (by decide +kernel), (by decide +kernel), (by decide +kernel), (by decide +kernel)⟩⟩

/-- The hypotheses of each clause of ProfilesComplete are met. -/
theorem witness_ProfilesComplete :
    (∃ (m : Requester) (profile : Nat) (epoch : Nat) (code : Nat) (s : State), profile < 4 ∧ epoch < 2 ^ 24 ∧ s.Passes m Reg.PTM_PROF_CMD .write ∧ (s.power.prof.any (fun c => inR 1 5 c.state)) = false ∧ code ≠ 0 ∧ s.profCode profile (s.profTarget profile epoch) false = code) ∧
    (∃ (m : Requester) (profile : Nat) (epoch : Nat) (code : Nat) (s : State), profile < 4 ∧ epoch < 2 ^ 24 ∧ s.Passes m Reg.PTM_PROF_CMD .write ∧ (s.power.prof.any (fun c => inR 1 5 c.state)) = false ∧ code ≠ 0 ∧ s.profCode profile none true = code) ∧
    (∃ (m : Requester) (profile : Nat) (epoch : Nat) (E : Nat) (s : State) (c : ProfChange), profile < 4 ∧ epoch < 2 ^ 24 ∧ s.Passes m Reg.PTM_PROF_CMD .write ∧ s.profTarget profile epoch = some E ∧ s.profCode profile (some E) false = 0 ∧ s.power.twinReq = none ∧ c = s.newChange profile (some E) (s.rd64 Reg.PTM_PROF_IMG_LO Reg.PTM_PROF_IMG_HI) ∧ s.now < s.armDeadline c.vphase E ∧ ((s.arrived m Reg.PTM_PROF_CMD).setProf c).loadBusy c.addr (some E) true false = false) ∧
    (∃ (m : Requester) (profile : Nat) (s : State) (c : ProfChange), profile < 4 ∧ s.Passes m Reg.PTM_PROF_CMD .write ∧ s.profCode profile none true = 0 ∧ c = s.newChange profile none (s.rd64 Reg.PTM_PROF_IMG_LO Reg.PTM_PROF_IMG_HI) ∧ ((s.arrived m Reg.PTM_PROF_CMD).setProf c).loadBusy c.addr none true false = false) ∧
    (∃ (m : Requester) (c : ProfChange) (s : State), s.Passes m Reg.PTM_PROF_CMD .write ∧ s.power.prof = some c ∧ c.forced = false ∧ 1 ≤ c.state ∧ c.state ≤ 3) ∧
    (∃ (m : Requester) (c : ProfChange) (s : State), s.Passes m Reg.PTM_PROF_CMD .write ∧ s.power.prof = some c ∧ c.forced = false ∧ c.state = 4) ∧
    (∃ (c : ProfChange) (s : State), s.power.prof = some c ∧ c.state = 2 ∧ c.rampEnd = none ∧ s.vFree = true ∧ s.steps < (s.vWindow c.profile).2) ∧
    (∃ (c : ProfChange) (s : State), s.power.prof = some c ∧ c.state = 2 ∧ c.rampEnd = none ∧ s.vFree = true ∧ (s.vWindow c.profile).2 ≤ s.steps) ∧
    (∃ (c : ProfChange) (E : Nat) (l : ImageLoad) (s : State), s.power.prof = some c ∧ c.state = 3 ∧ c.forced = false ∧ c.isLocal = true ∧ c.ready = true ∧ s.frozen = false ∧ c.armed = true ∧ c.target = some E ∧ s.geyser.load = some l ∧ l.newProfile.isSome = true ∧ s.geyser.groupCommitted = true) ∧
    (∃ (c : ProfChange) (s : State), s.power.prof = some c ∧ c.state = 3 ∧ c.forced = false ∧ c.isLocal = true ∧ (s.frozen = true ∨ c.ready = false)) ∧
    (∃ (c : ProfChange) (s : State), s.power.prof = some c ∧ c.state = 5 ∧ (s.vWindow s.profile).2 < s.steps ∧ s.power.raiseTick ≠ some s.power.tick ∧ s.vFree = true) ∧
    (∃ (c : ProfChange) (s : State), s.power.prof = some c ∧ c.state = 5 ∧ s.steps ≤ (s.vWindow s.profile).2) ∧
    (∃ (s : State), s.running 15 = true ∧ s.power.prof = none) ∧
    (∃ (s : State), s.running 15 = true) ∧
    (∃ (c : ProfChange) (s : State), s.running 15 = true ∧ s.power.prof = some c ∧ c.forced = false ∧ 1 ≤ c.state ∧ c.state ≤ 3) ∧
    (∃ (s : State), s.running 15 = true ∧ s.bit Reg.PTM_CFG 2 = true ∧ s.power.prof = none ∧ s.geyser.load = none ∧ s.profile = 3) ∧
    (∃ (s : State), s.running 15 = true ∧ s.bit Reg.PTM_CFG 2 = true ∧ s.power.prof = none ∧ s.geyser.load = none ∧ s.profile ≠ 3) ∧
    (∃ (s : State), s.bit Reg.PTM_CFG 2 = false) :=
    ⟨⟨boot, S0.profile, 5, 2, at' [(Reg.PTM_CFG, 13), (Reg.PTM_R_CFG 1, 2 ^ 31), (Reg.PTM_LOOP_STATUS, 0), (Reg.PTM_THERM_STATUS, 0), (Reg.PTM_VCORE, 60), (Reg.PTM_PROF_IMG_LO, 0x10000000), (Reg.PTM_PROF_IMG_HI, 0)] (inSt [(9, 0, 4), (15, 0, 4)] S0), (by decide +kernel), (by decide +kernel), (passes_of (by decide +kernel)), (by decide +kernel), (by decide +kernel), (by decide +kernel)⟩,
    ⟨boot, S0.profile, 5, 2, at' [(Reg.PTM_CFG, 13), (Reg.PTM_R_CFG 1, 2 ^ 31), (Reg.PTM_LOOP_STATUS, 0), (Reg.PTM_THERM_STATUS, 0), (Reg.PTM_VCORE, 60), (Reg.PTM_PROF_IMG_LO, 0x10000000), (Reg.PTM_PROF_IMG_HI, 0)] (inSt [(9, 0, 4), (15, 0, 4)] S0), (by decide +kernel), (by decide +kernel), (passes_of (by decide +kernel)), (by decide +kernel), (by decide +kernel), (by decide +kernel)⟩,
    ⟨boot, 3, (S0.epoch + 64) % 2 ^ 24, ((at' [(Reg.PTM_CFG, 13), (Reg.PTM_R_CFG 1, 2 ^ 31), (Reg.PTM_LOOP_STATUS, 0), (Reg.PTM_THERM_STATUS, 0), (Reg.PTM_VCORE, 60), (Reg.PTM_PROF_IMG_LO, 0x10000000), (Reg.PTM_PROF_IMG_HI, 0)] (inSt [(9, 0, 4), (15, 0, 4)] S0)).profTarget 3 ((S0.epoch + 64) % 2 ^ 24)).getD 0, at' [(Reg.PTM_CFG, 13), (Reg.PTM_R_CFG 1, 2 ^ 31), (Reg.PTM_LOOP_STATUS, 0), (Reg.PTM_THERM_STATUS, 0), (Reg.PTM_VCORE, 60), (Reg.PTM_PROF_IMG_LO, 0x10000000), (Reg.PTM_PROF_IMG_HI, 0)] (inSt [(9, 0, 4), (15, 0, 4)] S0), (at' [(Reg.PTM_CFG, 13), (Reg.PTM_R_CFG 1, 2 ^ 31), (Reg.PTM_LOOP_STATUS, 0), (Reg.PTM_THERM_STATUS, 0), (Reg.PTM_VCORE, 60), (Reg.PTM_PROF_IMG_LO, 0x10000000), (Reg.PTM_PROF_IMG_HI, 0)] (inSt [(9, 0, 4), (15, 0, 4)] S0)).newChange 3 (some (((at' [(Reg.PTM_CFG, 13), (Reg.PTM_R_CFG 1, 2 ^ 31), (Reg.PTM_LOOP_STATUS, 0), (Reg.PTM_THERM_STATUS, 0), (Reg.PTM_VCORE, 60), (Reg.PTM_PROF_IMG_LO, 0x10000000), (Reg.PTM_PROF_IMG_HI, 0)] (inSt [(9, 0, 4), (15, 0, 4)] S0)).profTarget 3 ((S0.epoch + 64) % 2 ^ 24)).getD 0)) ((at' [(Reg.PTM_CFG, 13), (Reg.PTM_R_CFG 1, 2 ^ 31), (Reg.PTM_LOOP_STATUS, 0), (Reg.PTM_THERM_STATUS, 0), (Reg.PTM_VCORE, 60), (Reg.PTM_PROF_IMG_LO, 0x10000000), (Reg.PTM_PROF_IMG_HI, 0)] (inSt [(9, 0, 4), (15, 0, 4)] S0)).rd64 Reg.PTM_PROF_IMG_LO Reg.PTM_PROF_IMG_HI), (by decide +kernel), (by decide +kernel), (passes_of (by decide +kernel)), (by decide +kernel), (by decide +kernel), (by decide +kernel), rfl, (by decide +kernel), (by decide +kernel)⟩,
    ⟨boot, 3, at' [(Reg.PTM_CFG, 13), (Reg.PTM_R_CFG 1, 2 ^ 31), (Reg.PTM_LOOP_STATUS, 0), (Reg.PTM_THERM_STATUS, 0), (Reg.PTM_VCORE, 60), (Reg.PTM_PROF_IMG_LO, 0x10000000), (Reg.PTM_PROF_IMG_HI, 0)] (inSt [(9, 0, 4), (15, 0, 4)] S0), (at' [(Reg.PTM_CFG, 13), (Reg.PTM_R_CFG 1, 2 ^ 31), (Reg.PTM_LOOP_STATUS, 0), (Reg.PTM_THERM_STATUS, 0), (Reg.PTM_VCORE, 60), (Reg.PTM_PROF_IMG_LO, 0x10000000), (Reg.PTM_PROF_IMG_HI, 0)] (inSt [(9, 0, 4), (15, 0, 4)] S0)).newChange 3 none ((at' [(Reg.PTM_CFG, 13), (Reg.PTM_R_CFG 1, 2 ^ 31), (Reg.PTM_LOOP_STATUS, 0), (Reg.PTM_THERM_STATUS, 0), (Reg.PTM_VCORE, 60), (Reg.PTM_PROF_IMG_LO, 0x10000000), (Reg.PTM_PROF_IMG_HI, 0)] (inSt [(9, 0, 4), (15, 0, 4)] S0)).rd64 Reg.PTM_PROF_IMG_LO Reg.PTM_PROF_IMG_HI), (by decide +kernel), (passes_of (by decide +kernel)), (by decide +kernel), rfl, (by decide +kernel)⟩,
    ⟨boot, { profile := 1, target := some 6, addr := 0, imageId := 0, hdrCrc := 0, state := 3, since := 0 }, { at' [(Reg.PTM_CFG, 13), (Reg.PTM_R_CFG 1, 2 ^ 31), (Reg.PTM_LOOP_STATUS, 0), (Reg.PTM_VCORE, 60)] (inSt [(15, 0, 4)] S0) with power := { S0.power with prof := some { profile := 1, target := some 6, addr := 0, imageId := 0, hdrCrc := 0, state := 3, since := 0 } } }, (passes_of (by decide +kernel)), (by decide +kernel), (by decide +kernel), (by decide +kernel), (by decide +kernel)⟩,
    ⟨boot, { profile := 1, target := some 6, addr := 0, imageId := 0, hdrCrc := 0, state := 4, since := 0 }, { at' [(Reg.PTM_CFG, 13), (Reg.PTM_R_CFG 1, 2 ^ 31), (Reg.PTM_LOOP_STATUS, 0), (Reg.PTM_VCORE, 60)] (inSt [(15, 0, 4)] S0) with power := { S0.power with prof := some { profile := 1, target := some 6, addr := 0, imageId := 0, hdrCrc := 0, state := 4, since := 0 } } }, (passes_of (by decide +kernel)), (by decide +kernel), (by decide +kernel), (by decide +kernel)⟩,
    ⟨{ profile := 1, target := some 6, addr := 0, imageId := 0, hdrCrc := 0, state := 2, since := 0, goal := 61 }, { at' [(Reg.PTM_CFG, 13), (Reg.PTM_R_CFG 1, 2 ^ 31), (Reg.PTM_LOOP_STATUS, 0), (Reg.PTM_VCORE, 60)] (inSt [(15, 0, 4)] S0) with power := { S0.power with prof := some { profile := 1, target := some 6, addr := 0, imageId := 0, hdrCrc := 0, state := 2, since := 0, goal := 61 } } }, (by decide +kernel), (by decide +kernel), (by decide +kernel), (by decide +kernel), (by decide +kernel)⟩,
    ⟨{ profile := 1, target := some 6, addr := 0, imageId := 0, hdrCrc := 0, state := 2, since := 0 }, { at' [(Reg.PTM_CFG, 13), (Reg.PTM_R_CFG 1, 2 ^ 31), (Reg.PTM_LOOP_STATUS, 0), (Reg.PTM_VCORE, 60), (Reg.PTM_VCORE, 127)] (inSt [(15, 0, 4)] S0) with power := { S0.power with prof := some { profile := 1, target := some 6, addr := 0, imageId := 0, hdrCrc := 0, state := 2, since := 0 } } }, (by decide +kernel), (by decide +kernel), (by decide +kernel), (by decide +kernel), (by decide +kernel)⟩,
    ⟨{ profile := 1, target := some 6, addr := 0, imageId := 0, hdrCrc := 0, state := 3, since := 0, isLocal := true, ready := true, armed := true }, 6, { load1 2 (some 6) with newProfile := some 1 }, { at' [(Reg.PTM_CFG, 13), (Reg.PTM_R_CFG 1, 2 ^ 31), (Reg.PTM_LOOP_STATUS, 0), (Reg.PTM_VCORE, 60)] (inSt [(15, 0, 4)] S0) with power := { S0.power with prof := some { profile := 1, target := some 6, addr := 0, imageId := 0, hdrCrc := 0, state := 3, since := 0, isLocal := true, ready := true, armed := true } }, geyser := { S0.geyser with load := some { load1 2 (some 6) with newProfile := some 1 }, groupCommitted := true } }, (by decide +kernel), (by decide +kernel), (by decide +kernel), (by decide +kernel), (by decide +kernel), (by decide +kernel), (by decide +kernel), (by decide +kernel), (by decide +kernel), (by decide +kernel), (by decide +kernel)⟩,
    ⟨{ profile := 1, target := some 6, addr := 0, imageId := 0, hdrCrc := 0, state := 3, since := 0, isLocal := true }, { at' [(Reg.PTM_CFG, 13), (Reg.PTM_R_CFG 1, 2 ^ 31), (Reg.PTM_LOOP_STATUS, 0), (Reg.PTM_VCORE, 60)] (inSt [(15, 0, 4)] S0) with power := { S0.power with prof := some { profile := 1, target := some 6, addr := 0, imageId := 0, hdrCrc := 0, state := 3, since := 0, isLocal := true } } }, (by decide +kernel), (by decide +kernel), (by decide +kernel), (by decide +kernel), (by decide +kernel)⟩,
    ⟨{ profile := 1, target := some 6, addr := 0, imageId := 0, hdrCrc := 0, state := 5, since := 0 }, { at' [(Reg.PTM_CFG, 13), (Reg.PTM_R_CFG 1, 2 ^ 31), (Reg.PTM_LOOP_STATUS, 0), (Reg.PTM_VCORE, 60), (Reg.PTM_VCORE, 127)] (inSt [(15, 0, 4)] S0) with power := { S0.power with prof := some { profile := 1, target := some 6, addr := 0, imageId := 0, hdrCrc := 0, state := 5, since := 0 } }, profile := 0 }, (by decide +kernel), (by decide +kernel), (by decide +kernel), (by decide +kernel), (by decide +kernel)⟩,
    ⟨{ profile := 1, target := some 6, addr := 0, imageId := 0, hdrCrc := 0, state := 5, since := 0 }, { at' [(Reg.PTM_CFG, 13), (Reg.PTM_R_CFG 1, 2 ^ 31), (Reg.PTM_LOOP_STATUS, 0), (Reg.PTM_VCORE, 60), (Reg.PTM_VCORE, 50)] (inSt [(15, 0, 4)] S0) with power := { S0.power with prof := some { profile := 1, target := some 6, addr := 0, imageId := 0, hdrCrc := 0, state := 5, since := 0 } }, profile := 0 }, (by decide +kernel), (by decide +kernel), (by decide +kernel)⟩,
    ⟨{ at' [(Reg.PTM_CFG, 4)] (inSt [(15, 0, 4)] S0) with power := { S0.power with prof := none, twinReq := none, twinReady := false } }, (by decide +kernel), (by decide +kernel)⟩,
    ⟨{ at' [(Reg.PTM_CFG, 4)] (inSt [(15, 0, 4)] S0) with power := { S0.power with prof := none, twinReq := none, twinReady := false } }, (by decide +kernel)⟩,
    ⟨{ profile := 1, target := some 6, addr := 0, imageId := 0, hdrCrc := 0, state := 1, since := 0 }, { at' [(Reg.PTM_CFG, 13), (Reg.PTM_R_CFG 1, 2 ^ 31), (Reg.PTM_LOOP_STATUS, 0), (Reg.PTM_VCORE, 60)] (inSt [(15, 0, 4)] S0) with power := { S0.power with prof := some { profile := 1, target := some 6, addr := 0, imageId := 0, hdrCrc := 0, state := 1, since := 0 } } }, (by decide +kernel), (by decide +kernel), (by decide +kernel), (by decide +kernel), (by decide +kernel)⟩,
    ⟨{ at' [(Reg.PTM_CFG, 4)] (inSt [(15, 0, 4)] S0) with power := { S0.power with prof := none, twinReq := none, twinReady := false }, profile := 3, geyser := { S0.geyser with load := none } }, (by decide +kernel), (by decide +kernel), (by decide +kernel), (by decide +kernel), (by decide +kernel)⟩,
    ⟨{ at' [(Reg.PTM_CFG, 4)] (inSt [(15, 0, 4)] S0) with power := { S0.power with prof := none, twinReq := none, twinReady := false }, profile := 2, geyser := { S0.geyser with load := none } }, (by decide +kernel), (by decide +kernel), (by decide +kernel), (by decide +kernel), (by decide +kernel)⟩,
    ⟨at' [(Reg.PTM_CFG, 0)] S0, (by decide +kernel)⟩⟩

/-- The hypotheses of each clause of PowerAndTemperatureComplete are met. -/
theorem witness_PowerAndTemperatureComplete :
    (∃ (k : Nat) (s : State), s.railOn (railNo k) = true) ∧
    (∃ (k : Nat) (s : State), s.railOn (railNo k) = false) ∧
    (∃ (m : Requester) (k : Nat) (v : Nat) (mode : Nat) (s : State), (if railNo k = 1 then { s with board := { s.board with voutMode := mode % 256 } } else s).Passes m (Reg.PTM_R_CFG (railNo k)) .write ∧ s.railOn (railNo k) = false ∧ v.testBit 31 = true ∧ (railNo k = 1 → voutOk (mode % 256) = true)) ∧
    (∃ (m : Requester) (k : Nat) (v : Nat) (mode : Nat) (s : State), (if railNo k = 1 then { s with board := { s.board with voutMode := mode % 256 } } else s).Passes m (Reg.PTM_R_CFG (railNo k)) .write ∧ s.railOn (railNo k) = false ∧ v.testBit 31 = true ∧ railNo k = 1 ∧ voutOk (mode % 256) = false) ∧
    (∃ (m : Requester) (k : Nat) (v : Nat) (mode : Nat) (s : State), (if railNo k = 1 then { s with board := { s.board with voutMode := mode % 256 } } else s).Passes m (Reg.PTM_R_CFG (railNo k)) .write ∧ s.railOn (railNo k) = false ∧ v.testBit 31 = false) ∧
    (∃ (k : Nat) (n : Nat) (pec : Bool) (s : State), s.railOn (railNo k) = true ∧ (pec = true → s.bit Reg.PTM_PMBUS_CFG 2 = true) ∧ 0 < n ∧ 4 ≤ n) ∧
    (∃ (k : Nat) (n : Nat) (pec : Bool) (s : State), s.railOn (railNo k) = true ∧ (pec = true → s.bit Reg.PTM_PMBUS_CFG 2 = true) ∧ 0 < n ∧ n < 4) ∧
    (∃ (k : Nat) (n : Nat) (x : Nat × Nat × Nat) (s : State), s.railOn (railNo k) = true ∧ kget s.power.rails (railNo k) = some x ∧ 0 < n ∧ 4 ≤ n) ∧
    (∃ (k : Nat) (n : Nat) (x : Nat × Nat × Nat) (s : State), s.railOn (railNo k) = true ∧ kget s.power.rails (railNo k) = some x ∧ 0 < n ∧ n < 4) ∧
    (∃ (readings : List Int) (s : State) (h : Nat × Int), (s.sampled readings).hottest = h ∧ h.2 < s.thermTh 8 ∧ h.2 < 1000) ∧
    (∃ (readings : List Int) (s : State) (h : Nat × Int), (s.sampled readings).hottest = h ∧ s.power.tripped = false ∧ 1000 ≤ h.2 ∧ s.power.hot = true) ∧
    (∃ (readings : List Int) (s : State) (h : Nat × Int), (s.sampled readings).hottest = h ∧ s.power.tripped = false ∧ s.thermTh 8 ≤ h.2 ∧ s.power.hot = false ∧ s.bit Reg.PTM_THERM_STATUS 1 = false ∧ s.power.prof = none ∧ s.geyser.load = none ∧ s.profile ≠ 3) :=
    ⟨⟨1, { at' [(Reg.PTM_R_CFG 1, 2 ^ 31), (Reg.PTM_R_CFG 8, 2 ^ 31), (Reg.PTM_LOOP_STATUS, 2), (Reg.PTM_PMBUS_CFG, 4)] S0 with power := { S0.power with rails := [(1, 1, 2, 3), (8, 0, 5, 6)] } }, (by decide +kernel)⟩,
    ⟨8, at' [(Reg.PTM_R_CFG 1, 0), (Reg.PTM_R_CFG 8, 0)] S0, (by decide +kernel)⟩,
    ⟨boot, 8, 2 ^ 32 - 1, 0, at' [(Reg.PTM_R_CFG 1, 0), (Reg.PTM_R_CFG 8, 0)] S0, passes_of (by decide +kernel), (by decide +kernel), (by decide +kernel), by decide +kernel⟩,
    ⟨boot, 1, 2 ^ 31, 0x34, at' [(Reg.PTM_R_CFG 1, 0), (Reg.PTM_R_CFG 8, 0)] S0, passes_of (by decide +kernel), (by decide +kernel), (by decide +kernel), (by decide +kernel), (by decide +kernel)⟩,
    ⟨boot, 8, 5, 0, at' [(Reg.PTM_R_CFG 1, 0), (Reg.PTM_R_CFG 8, 0)] S0, passes_of (by decide +kernel), (by decide +kernel), (by decide +kernel)⟩,
    ⟨1, 4, true, { at' [(Reg.PTM_R_CFG 1, 2 ^ 31), (Reg.PTM_R_CFG 8, 2 ^ 31), (Reg.PTM_LOOP_STATUS, 2), (Reg.PTM_PMBUS_CFG, 4)] S0 with power := { S0.power with rails := [(1, 1, 2, 3), (8, 0, 5, 6)] } }, (by decide +kernel), fun _ => by decide +kernel, (by decide +kernel), (by decide +kernel)⟩,
    ⟨8, 3, false, { at' [(Reg.PTM_R_CFG 1, 2 ^ 31), (Reg.PTM_R_CFG 8, 2 ^ 31), (Reg.PTM_LOOP_STATUS, 2), (Reg.PTM_PMBUS_CFG, 4)] S0 with power := { S0.power with rails := [(1, 1, 2, 3), (8, 0, 5, 6)] } }, (by decide +kernel), by decide +kernel, (by decide +kernel), (by decide +kernel)⟩,
    ⟨1, 4, (1, 2, 3), { at' [(Reg.PTM_R_CFG 1, 2 ^ 31), (Reg.PTM_R_CFG 8, 2 ^ 31), (Reg.PTM_LOOP_STATUS, 2), (Reg.PTM_PMBUS_CFG, 4)] S0 with power := { S0.power with rails := [(1, 1, 2, 3), (8, 0, 5, 6)] } }, (by decide +kernel), (by decide +kernel), (by decide +kernel), (by decide +kernel)⟩,
    ⟨8, 3, (0, 5, 6), { at' [(Reg.PTM_R_CFG 1, 2 ^ 31), (Reg.PTM_R_CFG 8, 2 ^ 31), (Reg.PTM_LOOP_STATUS, 2), (Reg.PTM_PMBUS_CFG, 4)] S0 with power := { S0.power with rails := [(1, 1, 2, 3), (8, 0, 5, 6)] } }, (by decide +kernel), (by decide +kernel), (by decide +kernel), (by decide +kernel)⟩,
    ⟨List.replicate 28 400, { at' [(Reg.PTM_THERM_STATUS, 0), (Reg.PTM_THERM_CFG, 0x5A5F69)] S0 with power := { S0.power with hot := false, tripped := false, prof := none, changed := [] }, profile := 0 }, (({ at' [(Reg.PTM_THERM_STATUS, 0), (Reg.PTM_THERM_CFG, 0x5A5F69)] S0 with power := { S0.power with hot := false, tripped := false, prof := none, changed := [] }, profile := 0 }).sampled (List.replicate 28 400)).hottest, rfl, (by decide +kernel), (by decide +kernel)⟩,
    ⟨List.replicate 28 1000, { at' [(Reg.PTM_THERM_STATUS, 0), (Reg.PTM_THERM_CFG, 0x5A5F69)] S0 with power := { S0.power with hot := true, tripped := false, prof := none, changed := [] }, profile := 0 }, (({ at' [(Reg.PTM_THERM_STATUS, 0), (Reg.PTM_THERM_CFG, 0x5A5F69)] S0 with power := { S0.power with hot := true, tripped := false, prof := none, changed := [] }, profile := 0 }).sampled (List.replicate 28 1000)).hottest, rfl, (by decide +kernel), (by decide +kernel), (by decide +kernel)⟩,
    ⟨List.replicate 28 999, { at' [(Reg.PTM_THERM_STATUS, 0), (Reg.PTM_THERM_CFG, 0x5A5F69)] S0 with power := { S0.power with hot := false, tripped := false, prof := none, changed := [] }, profile := 0 }, (({ at' [(Reg.PTM_THERM_STATUS, 0), (Reg.PTM_THERM_CFG, 0x5A5F69)] S0 with power := { S0.power with hot := false, tripped := false, prof := none, changed := [] }, profile := 0 }).sampled (List.replicate 28 999)).hottest, rfl, (by decide +kernel), (by decide +kernel), (by decide +kernel), (by decide +kernel), (by decide +kernel), (by decide +kernel), (by decide +kernel)⟩⟩

/-- The hypotheses of each clause of LaneStatesComplete are met. -/
theorem witness_LaneStatesComplete :
    (∃ (q : Nat) (s : State), q < 128 ∧ (s.curOf 6 (q + 1) = sRUN ∨ s.awaiting.any (fun x => x.1 == quadPage q && x.2 == sRUN) = true)) ∧
    (∃ (q : Nat) (s : State), q < 128 ∧ s.curOf 6 (q + 1) = sRUN) ∧
    (∃ (q : Nat) (s : State), q < 128 ∧ s.awaiting.any (fun x => x.1 == quadPage q && x.2 == sRUN) = true ∧ s.quadLocked q = false) ∧
    (∃ (l : Nat) (b : Nat) (w : List Nat) (s : State), l < 512 ∧ s.locked l = true ∧ w = (b :: (s.lane l).bad).filter (fun y => decide (b < y + 64)) ∧ w.length < 16) ∧
    (∃ (l : Nat) (b : Nat) (w : List Nat) (s : State), l < 512 ∧ s.locked l = true ∧ w = (b :: (s.lane l).bad).filter (fun y => decide (b < y + 64)) ∧ 16 ≤ w.length) ∧
    (∃ (l : Nat) (s : State), l < 512 ∧ s.quadRuns l = true ∧ (s.rxState l = 2 ∨ (s.lane l).recovering = true)) ∧
    (∃ (k : Nat) (s : State), k < 16 ∧ s.running 15 = true ∧ (s.pairRx k = 2 ∨ s.pairRx k = 3)) ∧
    (∃ (k : Nat) (s : State) (b : Nat), k < 16 ∧ s.running 15 = true ∧ s.pairRx k = 4 ∧ 15 ≤ ((s.lane (512 + k)).bad.filter (fun y => decide (b < y + 64))).length) ∧
    (∃ (l : Nat) (s : State), l < 512 ∧ (s.lane l).recovering = true) ∧
    (∃ (l : Nat) (s : State), l < 512 ∧ (s.lane l).recovering = false) ∧
    (∃ (m : Requester) (q : Nat) (v : Nat) (l : Nat) (s : State), q < 128 ∧ s.Passes m (Reg.SLC_Q_ALIGN (q + 1)) .write ∧ l = 4 * q + s.fld (Reg.SLC_Q_SEL (q + 1)) 1 0 ∧ v.testBit 31 = true ∧ (s.lane l).pos < 66) ∧
    (∃ (m : Requester) (q : Nat) (v : Nat) (l : Nat) (s : State), q < 128 ∧ s.Passes m (Reg.SLC_Q_ALIGN (q + 1)) .write ∧ l = 4 * q + s.fld (Reg.SLC_Q_SEL (q + 1)) 1 0 ∧ v.testBit 31 = false) ∧
    (∃ (l : Nat) (s : State), l < 512 ∧ s.locked l = true ∧ slfRate (s.rxRate l) = true) ∧
    (∃ (l : Nat) (ppm : Int) (s : State), l < 512 ∧ s.quadRuns l = true ∧ s.rxState l = 4 ∧ -300 ≤ ppm ∧ ppm ≤ 300 ∧ s.bit (Reg.SLC_Q_SLEEP (l / 4 + 1)) (16 + l % 4) = true ∧ s.bit (Reg.SLC_Q_STATUS (l / 4 + 1)) 30 = true) ∧
    (∃ (l : Nat) (ppm : Int) (s : State), l < 512 ∧ s.quadRuns l = true ∧ s.rxState l = 4 ∧ (ppm < -300 ∨ 300 < ppm)) ∧
    (∃ (l : Nat) (ppm : Int) (s : State), l < 512 ∧ s.quadRuns l = true ∧ s.rxState l = 4 ∧ -300 ≤ ppm ∧ ppm ≤ 300 ∧ (s.bit (Reg.SLC_Q_SLEEP (l / 4 + 1)) (16 + l % 4) = false ∨ s.bit (Reg.SLC_Q_STATUS (l / 4 + 1)) 30 = false)) ∧
    (∃ (l : Nat) (s : State), l < 512 ∧ s.quadRuns l = true ∧ (s.rxState l = 5 ∨ s.rxState l = 1) ∧ (s.lane l).recovering = false ∧ s.bit (Reg.SLC_Q_STATUS (l / 4 + 1)) 30 = true) ∧
    (∃ (m : Requester) (q : Nat) (n : Nat) (v : Nat) (s : State), q < 128 ∧ n < 4 ∧ s.Passes m (Reg.SLC_Q_SLEEP (q + 1)) .write ∧ v.testBit n = true ∧ slfRate (s.txRate (4 * q + n)) = true ∧ ((List.range 8).any (s.streamOn q n)) = false ∧ s.txState (4 * q + n) = 1) ∧
    (∃ (m : Requester) (q : Nat) (n : Nat) (v : Nat) (s : State), q < 128 ∧ n < 4 ∧ s.Passes m (Reg.SLC_Q_SLEEP (q + 1)) .write ∧ v.testBit n = false ∧ s.txState (4 * q + n) = 3 ∧ s.bit (Reg.SLC_Q_STATUS (q + 1)) 31 = true) ∧
    (∃ (m : Requester) (q : Nat) (n : Nat) (v : Nat) (s : State), q < 128 ∧ n < 4 ∧ s.Passes m (Reg.SLC_Q_SLEEP (q + 1)) .write ∧ v.testBit n = false ∧ s.txState (4 * q + n) = 3 ∧ s.bit (Reg.SLC_Q_STATUS (q + 1)) 31 = false) :=
    ⟨⟨127, { S0 with awaiting := [(quadPage 127, sRUN)] }, (by decide +kernel), (by decide +kernel)⟩,
    ⟨127, at' [(Reg.SLC_Q_CFG 128, 0x111), (Reg.SLC_Q_STATUS 128, 1073745923)] (inSt [(6, 0, 4), (6, 128, 4)] S0), (by decide +kernel), (by decide +kernel)⟩,
    ⟨127, { inSt [(6, 0, 4)] S0 with awaiting := [(quadPage 127, sRUN)] }, (by decide +kernel), (by decide +kernel), (by decide +kernel)⟩,
    ⟨508, 63, (63 :: (({ at' [(Reg.SLC_Q_CFG 128, 0x111), (Reg.SLC_Q_STATUS 128, 3)] (inSt [(6, 0, 4), (6, 128, 4)] S0) with lanes := [(508, { bad := [0, 5] })] }).lane 508).bad).filter (fun y => decide (63 < y + 64)), { at' [(Reg.SLC_Q_CFG 128, 0x111), (Reg.SLC_Q_STATUS 128, 3)] (inSt [(6, 0, 4), (6, 128, 4)] S0) with lanes := [(508, { bad := [0, 5] })] }, (by decide +kernel), (by decide +kernel), rfl, (by decide +kernel)⟩,
    ⟨508, 63, (63 :: (({ at' [(Reg.SLC_Q_CFG 128, 0x111), (Reg.SLC_Q_STATUS 128, 3)] (inSt [(6, 0, 4), (6, 128, 4)] S0) with lanes := [(508, { bad := List.replicate 15 0 })] }).lane 508).bad).filter (fun y => decide (63 < y + 64)), { at' [(Reg.SLC_Q_CFG 128, 0x111), (Reg.SLC_Q_STATUS 128, 3)] (inSt [(6, 0, 4), (6, 128, 4)] S0) with lanes := [(508, { bad := List.replicate 15 0 })] }, (by decide +kernel), (by decide +kernel), rfl, (by decide +kernel)⟩,
    ⟨511, at' [(Reg.SLC_Q_CFG 128, 0x111), (Reg.SLC_Q_STATUS 128, 1024)] (inSt [(6, 0, 4), (6, 128, 4)] S0), (by decide +kernel), (by decide +kernel), (by decide +kernel)⟩,
    ⟨15, at' [(Reg.TWN_L_STATUS 16, 1610612736)] (inSt [(15, 0, 4)] S0), (by decide +kernel), (by decide +kernel), (by decide +kernel)⟩,
    ⟨15, { at' [(Reg.TWN_L_STATUS 16, 2147483648)] (inSt [(15, 0, 4)] S0) with lanes := [(527, { bad := List.replicate 15 0 })] }, 63, (by decide +kernel), (by decide +kernel), (by decide +kernel), (by decide +kernel)⟩,
    ⟨511, { at' [(Reg.SLC_Q_CFG 128, 0x111), (Reg.SLC_Q_STATUS 128, 512)] (inSt [(6, 0, 4), (6, 128, 4)] S0) with lanes := [(511, { recovering := true, good := 5 })] }, (by decide +kernel), (by decide +kernel)⟩,
    ⟨511, S0, (by decide +kernel), (by decide +kernel)⟩,
    ⟨boot, 127, 2 ^ 31, 4 * 127 + ({ at' [(Reg.SLC_Q_CFG 128, 0x111), (Reg.SLC_Q_STATUS 128, 0), (Reg.SLC_Q_SEL 128, 3)] (inSt [(6, 0, 4), (6, 128, 4)] S0) with lanes := [(511, { pos := 65, good := 3 })] }).fld (Reg.SLC_Q_SEL (127 + 1)) 1 0, { at' [(Reg.SLC_Q_CFG 128, 0x111), (Reg.SLC_Q_STATUS 128, 0), (Reg.SLC_Q_SEL 128, 3)] (inSt [(6, 0, 4), (6, 128, 4)] S0) with lanes := [(511, { pos := 65, good := 3 })] }, (by decide +kernel), (passes_of (by decide +kernel)), rfl, (by decide +kernel), (by decide +kernel)⟩,
    ⟨boot, 127, 5, 4 * 127 + (at' [(Reg.SLC_Q_CFG 128, 0x111), (Reg.SLC_Q_STATUS 128, 0)] (inSt [(6, 0, 4), (6, 128, 4)] S0)).fld (Reg.SLC_Q_SEL (127 + 1)) 1 0, at' [(Reg.SLC_Q_CFG 128, 0x111), (Reg.SLC_Q_STATUS 128, 0)] (inSt [(6, 0, 4), (6, 128, 4)] S0), (by decide +kernel), (passes_of (by decide +kernel)), rfl, (by decide +kernel)⟩,
    ⟨511, at' [(Reg.SLC_Q_CFG 128, 0x111), (Reg.SLC_Q_STATUS 128, 1536), (Reg.SLC_Q_SLEEP 128, 0x800)] (inSt [(6, 0, 4), (6, 128, 4)] S0), (by decide +kernel), (by decide +kernel), (by decide +kernel)⟩,
    ⟨511, 300, at' [(Reg.SLC_Q_CFG 128, 0x111), (Reg.SLC_Q_STATUS 128, 1073743872), (Reg.SLC_Q_SLEEP 128, 0x80000)] (inSt [(6, 0, 4), (6, 128, 4)] S0), (by decide +kernel), (by decide +kernel), (by decide +kernel), (by decide +kernel), (by decide +kernel), (by decide +kernel), (by decide +kernel)⟩,
    ⟨511, 301, at' [(Reg.SLC_Q_CFG 128, 0x111), (Reg.SLC_Q_STATUS 128, 2048)] (inSt [(6, 0, 4), (6, 128, 4)] S0), (by decide +kernel), (by decide +kernel), (by decide +kernel), (by decide +kernel)⟩,
    ⟨511, 300, at' [(Reg.SLC_Q_CFG 128, 0x111), (Reg.SLC_Q_STATUS 128, 2048), (Reg.SLC_Q_SLEEP 128, 0)] (inSt [(6, 0, 4), (6, 128, 4)] S0), (by decide +kernel), (by decide +kernel), (by decide +kernel), (by decide +kernel), (by decide +kernel), (by decide +kernel)⟩,
    ⟨511, at' [(Reg.SLC_Q_CFG 128, 0x111), (Reg.SLC_Q_STATUS 128, 1073744384)] (inSt [(6, 0, 4), (6, 128, 4)] S0), (by decide +kernel), (by decide +kernel), (by decide +kernel), (by decide +kernel), (by decide +kernel)⟩,
    ⟨boot, 127, 3, 8, at' [(Reg.SLC_Q_CFG 128, 0x111), (Reg.SLC_Q_STATUS 128, 2097152), (Reg.SLC_Q_STREAMS 128, 0x00FFFFFF), (Reg.SLC_Q_SLEEP 128, 0)] (inSt [(6, 0, 4), (6, 128, 4)] S0), (by decide +kernel), (by decide +kernel), (passes_of (by decide +kernel)), (by decide +kernel), (by decide +kernel), (by decide +kernel), (by decide +kernel)⟩,
    ⟨boot, 127, 3, 0, at' [(Reg.SLC_Q_CFG 128, 0x111), (Reg.SLC_Q_STATUS 128, 2153775104), (Reg.SLC_Q_SLEEP 128, 8)] (inSt [(6, 0, 4), (6, 128, 4)] S0), (by decide +kernel), (by decide +kernel), (passes_of (by decide +kernel)), (by decide +kernel), (by decide +kernel), (by decide +kernel)⟩,
    ⟨boot, 127, 3, 0, at' [(Reg.SLC_Q_CFG 128, 0x111), (Reg.SLC_Q_STATUS 128, 6291456), (Reg.SLC_Q_SLEEP 128, 8)] (inSt [(6, 0, 4), (6, 128, 4)] S0), (by decide +kernel), (by decide +kernel), (passes_of (by decide +kernel)), (by decide +kernel), (by decide +kernel), (by decide +kernel)⟩⟩

/-- The hypotheses of each clause of BurstsComplete are met. -/
theorem witness_BurstsComplete :
    (∃ (l : Nat) (seq : Nat) (h : Nat) (y : TxLine) (body : List (Bool × Nat)) (s : State), l < 512 ∧ s.locked l = true ∧ slfRate (s.rxRate l) = true ∧ y.words.length < 2 ^ 14 ∧ y.stream < 8 ∧ seq < 2 ^ 32 ∧ burstOf y seq = (true, h) :: body ∧ fifoFill (s.lane l) + ceilDiv (10 * y.words.length) 64 + 2 ≤ 2048 ∧ (∀ b, kget (s.lane l).lastSeq y.stream = some b → newer 32 seq b = true)) ∧
    (∃ (l : Nat) (h : Nat) (s : State), l < 512 ∧ s.locked l = true ∧ slfRate (s.rxRate l) = true ∧ hcrc (h % 2 ^ 59) ≠ h / 2 ^ 59 % 32) ∧
    (∃ (l : Nat) (s : State), l < 512 ∧ s.locked l = true ∧ slfRate (s.rxRate l) = true) ∧
    (∃ (l : Nat) (stream : Nat) (y : TxLine) (s : State), l < 512 ∧ stream < 8 ∧ s.sends l = true ∧ s.streamOn (l / 4) (l % 4) stream = true ∧ (s.lane l).txq.find? (fun z => z.stream == stream) = some y) ∧
    (∃ (l : Nat) (s : State), l < 512 ∧ s.sends l = true) ∧
    (∃ (m : Requester) (q : Nat) (v : Nat) (s : State), q < 128 ∧ s.Passes m (Reg.SLC_Q_EYE_CMD (q + 1)) .write ∧ v.testBit 31 = true ∧ s.bit (Reg.SLC_Q_EYE_RESULT (q + 1)) 31 = false) ∧
    (∃ (m : Requester) (q : Nat) (v : Nat) (s : State), q < 128 ∧ s.Passes m (Reg.SLC_Q_EYE_CMD (q + 1)) .write ∧ (v.testBit 31 = false ∨ s.bit (Reg.SLC_Q_EYE_RESULT (q + 1)) 31 = true)) ∧
    (∃ (q : Nat) (s : State), q < 128 ∧ s.bit (Reg.SLC_Q_EYE_RESULT (q + 1)) 31 = true) ∧
    (∃ (q : Nat) (s : State), q < 128 ∧ s.bit (Reg.SLC_Q_EYE_RESULT (q + 1)) 31 = false) ∧
    (∃ (l : Nat) (setting : Nat) (s : State), l < 512 ∧ setting < 5 ∧ s.locked l = true ∧ s.bit (Reg.SLC_Q_CFG (l / 4 + 1)) 8 = true ∧ s.bit (Reg.SLC_Q_EYE_RESULT (l / 4 + 1)) 31 = false) ∧
    (∃ (l : Nat) (s : State), l < 512 ∧ s.locked l = false) :=
    ⟨⟨511, 2 ^ 32 - 1, ((burstOf (⟨7, [1, 2, 3], true, false, 0⟩) (2 ^ 32 - 1)).headD (true, 0)).2, ⟨7, [1, 2, 3], true, false, 0⟩, (burstOf (⟨7, [1, 2, 3], true, false, 0⟩) (2 ^ 32 - 1)).tail, { at' [(Reg.SLC_Q_CFG 128, 0x111), (Reg.SLC_Q_STATUS 128, 1536)] (inSt [(6, 0, 4), (6, 128, 4)] S0) with lanes := [(511, { lastSeq := [(7, 2 ^ 32 - 2), (1, 2 ^ 32 - 2)] })] }, (by decide +kernel), (by decide +kernel), (by decide +kernel), (by decide +kernel), (by decide +kernel), (by decide +kernel), rfl, (by decide +kernel), all_some (2 ^ 32 - 2) (by decide +kernel) (by decide +kernel)⟩,
    ⟨511, 0, at' [(Reg.SLC_Q_CFG 128, 0x111), (Reg.SLC_Q_STATUS 128, 1536)] (inSt [(6, 0, 4), (6, 128, 4)] S0), (by decide +kernel), (by decide +kernel), (by decide +kernel), (by decide +kernel)⟩,
    ⟨511, { at' [(Reg.SLC_Q_CFG 128, 0x111), (Reg.SLC_Q_STATUS 128, 1536)] (inSt [(6, 0, 4), (6, 128, 4)] S0) with lanes := [(511, { mcount := some 5 })] }, (by decide +kernel), (by decide +kernel), (by decide +kernel)⟩,
    ⟨511, 7, ⟨7, [1, 2, 3], true, false, 0⟩, { at' [(Reg.SLC_Q_CFG 128, 0x111), (Reg.SLC_Q_STATUS 128, 2149580800), (Reg.SLC_Q_STREAMS 128, 0xFFFFFFFF)] (inSt [(6, 0, 4), (6, 128, 4)] S0) with lanes := [(511, { txq := [⟨7, [1, 2, 3], true, false, 0⟩, ⟨7, [9], false, false, 1⟩] })] }, (by decide +kernel), (by decide +kernel), (by decide +kernel), (by decide +kernel), (by decide +kernel)⟩,
    ⟨511, at' [(Reg.SLC_Q_CFG 128, 0x111), (Reg.SLC_Q_STATUS 128, 2149580800)] (inSt [(6, 0, 4), (6, 128, 4)] S0), (by decide +kernel), (by decide +kernel)⟩,
    ⟨boot, 127, 2 ^ 31, at' [(Reg.SLC_Q_CFG 128, 0x111), (Reg.SLC_Q_STATUS 128, 0), (Reg.SLC_Q_EYE_RESULT 128, 0), (Reg.SLC_Q_SEL 128, 3)] (inSt [(6, 0, 4), (6, 128, 4)] S0), (by decide +kernel), (passes_of (by decide +kernel)), (by decide +kernel), (by decide +kernel)⟩,
    ⟨boot, 127, 2 ^ 31, at' [(Reg.SLC_Q_CFG 128, 0x111), (Reg.SLC_Q_STATUS 128, 0), (Reg.SLC_Q_EYE_RESULT 128, 2 ^ 31)] (inSt [(6, 0, 4), (6, 128, 4)] S0), (by decide +kernel), (passes_of (by decide +kernel)), (by decide +kernel)⟩,
    ⟨127, at' [(Reg.SLC_Q_CFG 128, 0x111), (Reg.SLC_Q_STATUS 128, 0), (Reg.SLC_Q_EYE_RESULT 128, 2 ^ 31)] (inSt [(6, 0, 4), (6, 128, 4)] S0), (by decide +kernel), (by decide +kernel)⟩,
    ⟨127, at' [(Reg.SLC_Q_CFG 128, 0x111), (Reg.SLC_Q_STATUS 128, 0), (Reg.SLC_Q_EYE_RESULT 128, 0)] (inSt [(6, 0, 4), (6, 128, 4)] S0), (by decide +kernel), (by decide +kernel)⟩,
    ⟨511, 4, { at' [(Reg.SLC_Q_CFG 128, 0x111), (Reg.SLC_Q_STATUS 128, 1536), (Reg.SLC_Q_EYE_RESULT 128, 0), (Reg.SLC_Q_CFG 128, 0x111)] (inSt [(6, 0, 4), (6, 128, 4)] S0) with lanes := [(511, { dfe := [0, 31, -32], good := 1 })] }, (by decide +kernel), (by decide +kernel), (by decide +kernel), (by decide +kernel), (by decide +kernel)⟩,
    ⟨511, at' [(Reg.SLC_Q_CFG 128, 0x111), (Reg.SLC_Q_STATUS 128, 0)] (inSt [(6, 0, 4), (6, 128, 4)] S0), (by decide +kernel), (by decide +kernel)⟩⟩

/-- The hypotheses of each clause of FramingCompletes are met. -/
theorem witness_FramingCompletes :
    (∃ (m : Requester) (q : Nat) (d : Nat) (i : Nat) (w : Nat) (v : Nat) (s : State), q < 128 ∧ d < 2 ∧ i < 32 ∧ w < 4 ∧ s.Passes m (sfeCtxAddr q d i + 4 * w) .write ∧ s.curOf 7 (q + 1) = sRUN ∧ s.bit (sfeCtxAddr q d i + 12) 31 = true ∧ (¬ (w = 3 ∧ v.testBit 31 = false))) ∧
    (∃ (m : Requester) (q : Nat) (d : Nat) (i : Nat) (w : Nat) (v : Nat) (s : State), q < 128 ∧ d < 2 ∧ i < 32 ∧ w < 4 ∧ s.Passes m (sfeCtxAddr q d i + 4 * w) .write ∧ (s.curOf 7 (q + 1) ≠ sRUN ∨ s.bit (sfeCtxAddr q d i + 12) 31 = false ∨ (w = 3 ∧ v.testBit 31 = false))) ∧
    (∃ (l : Nat) (stream : Nat) (y : RxLine) (s : State), l < 512 ∧ stream < 8 ∧ (s.lane l).fifo.find? (fun z => z.stream == stream) = some y) ∧
    (∃ (l : Nat) (stream : Nat) (s : State), l < 512 ∧ stream < 8 ∧ (s.lane l).fifo.find? (fun z => z.stream == stream) = none) ∧
    (∃ (q : Nat) (i : Nat) (s : State), q < 128 ∧ i < 32 ∧ (s.rxCtx q i).st = 2) ∧
    (∃ (q : Nat) (i : Nat) (s : State), q < 128 ∧ i < 32 ∧ (s.rxCtx q i).st ≠ 2) ∧
    (∃ (l : Nat) (stream : Nat) (s : State), l < 512 ∧ stream < 8 ∧ s.curOf 7 (l / 4 + 1) = sRUN ∧ s.streamOn (l / 4) (l % 4) stream = true ∧ (s.txCtx (l / 4) (8 * (l % 4) + stream)).refused = false) ∧
    (∃ (l : Nat) (stream : Nat) (s : State), l < 512 ∧ stream < 8 ∧ s.curOf 7 (l / 4 + 1) ≠ sRUN) :=
    ⟨⟨boot, 127, 1, 31, 3, 2 ^ 31, at' [(Reg.SLC_Q_CFG 128, 0x111), (Reg.SLC_Q_STATUS 128, 0), (sfeCtxAddr 127 1 31 + 12, 2 ^ 31)] (inSt [(6, 0, 4), (6, 128, 4), (7, 0, 4), (7, 128, 4)] S0), (by decide +kernel), (by decide +kernel), (by decide +kernel), (by decide +kernel), (passes_of (by decide +kernel)), (by decide +kernel), (by decide +kernel), (by decide +kernel)⟩,
    ⟨boot, 127, 1, 31, 3, 5, at' [(Reg.SLC_Q_CFG 128, 0x111), (Reg.SLC_Q_STATUS 128, 0), (sfeCtxAddr 127 1 31 + 12, 2 ^ 31)] (inSt [(6, 0, 4), (6, 128, 4), (7, 0, 4), (7, 128, 4)] S0), (by decide +kernel), (by decide +kernel), (by decide +kernel), (by decide +kernel), (passes_of (by decide +kernel)), (by decide +kernel)⟩,
    ⟨511, 7, ⟨7, 3, 100, 18, false, false, false⟩, { at' [(Reg.SLC_Q_CFG 128, 0x111), (Reg.SLC_Q_STATUS 128, 0)] (inSt [(6, 0, 4), (6, 128, 4), (7, 0, 4), (7, 128, 4)] S0) with lanes := [(511, { fifo := [⟨7, 3, 100, 18, false, false, false⟩, ⟨1, 3, 100, 18, false, false, false⟩] })], sdi := { S0.sdi with rx := [(sdiKey 127 31, { st := 2 })] } }, (by decide +kernel), (by decide +kernel), (by decide +kernel)⟩,
    ⟨511, 7, S0, (by decide +kernel), (by decide +kernel), (by decide +kernel)⟩,
    ⟨127, 31, { at' [(Reg.SLC_Q_CFG 128, 0x111), (Reg.SLC_Q_STATUS 128, 0)] (inSt [(6, 0, 4), (6, 128, 4), (7, 0, 4), (7, 128, 4)] S0) with sdi := { S0.sdi with rx := [(sdiKey 127 31, { st := 2 })] } }, (by decide +kernel), (by decide +kernel), (by decide +kernel)⟩,
    ⟨127, 31, S0, (by decide +kernel), (by decide +kernel), (by decide +kernel)⟩,
    ⟨511, 7, at' [(Reg.SLC_Q_CFG 128, 0x111), (Reg.SLC_Q_STATUS 128, 0), (Reg.SLC_Q_STREAMS 128, 0xFFFFFFFF)] (inSt [(6, 0, 4), (6, 128, 4), (7, 0, 4), (7, 128, 4)] S0), (by decide +kernel), (by decide +kernel), (by decide +kernel), (by decide +kernel), (by decide +kernel)⟩,
    ⟨511, 7, S0, (by decide +kernel), (by decide +kernel), (by decide +kernel)⟩⟩

/-- The hypotheses of each clause of MediaMacsComplete are met. -/
theorem witness_MediaMacsComplete :
    (∃ (q : Nat) (n : Nat) (lost : Nat) (f : List Byte) (s : State), q < 128 ∧ n < 4 ∧ s.portUp q n = true ∧ (s.fecOn q n = true → lost = 0) ∧ f.length < 64) ∧
    (∃ (q : Nat) (n : Nat) (lost : Nat) (f : List Byte) (s : State), q < 128 ∧ n < 4 ∧ s.portUp q n = true ∧ (s.fecOn q n = true → lost = 0) ∧ 64 ≤ f.length ∧ s.mtu q < f.length) ∧
    (∃ (q : Nat) (n : Nat) (lost : Nat) (f : List Byte) (s : State), q < 128 ∧ n < 4 ∧ s.portUp q n = true ∧ (s.fecOn q n = true → lost = 0) ∧ 64 ≤ f.length ∧ f.length ≤ s.mtu q ∧ crc32 (f.take (f.length - 4)) ≠ ofBytesLE (f.drop (f.length - 4))) ∧
    (∃ (q : Nat) (n : Nat) (lost : Nat) (f : List Byte) (s : State) (k : Nat), q < 128 ∧ n < 4 ∧ s.portUp q n = true ∧ (s.fecOn q n = true → lost = 0) ∧ 64 ≤ f.length ∧ f.length ≤ s.mtu q ∧ crc32 (f.take (f.length - 4)) = ofBytesLE (f.drop (f.length - 4)) ∧ s.secOn q n = false ∧ s.steer q n (f.take (f.length - 4)) = some k ∧ quSink (s.queueEntry q k 0) ≠ 0 ∧ (quSink (s.queueEntry q k 0) = 1 → (s.flowFor q n (f.take (f.length - 4))).isSome = true) ∧ s.queueFull (s.queueEntry q k 0) (f.length - 4) = false) ∧
    (∃ (q : Nat) (i : Nat) (s : State), q < 128 ∧ i < 256 ∧ s.macRuns q = true ∧ rfEn (s.rxFlow q i) = true ∧ rfKind (s.rxFlow q i) ≠ 4) ∧
    (∃ (q : Nat) (i : Nat) (p : Nat) (s : State) (x : Nat), q < 128 ∧ i < 256 ∧ s.mergeWith q i = some p ∧ s.macRuns q = true ∧ rfEn (s.rxFlow q i) = true ∧ (∀ x, kget s.mac.legs (flowKey q i) = some x → x + 10000000 ≤ s.now) ∧ kget s.mac.legs (flowKey q p) = some x ∧ s.now < x + 10000000) ∧
    (∃ (q : Nat) (i : Nat) (p : Nat) (s : State), q < 128 ∧ i < 256 ∧ s.mergeWith q i = some p ∧ s.macRuns q = true ∧ rfEn (s.rxFlow q i) = true ∧ (∀ x, kget s.mac.legs (flowKey q i) = some x → x + 10000000 ≤ s.now) ∧ kget s.mac.legs (flowKey q p) = none) ∧
    (∃ (q : Nat) (i : Nat) (n : Nat) (e : Nat) (s : State) (d : List Byte), q < 128 ∧ i < 256 ∧ s.macRuns q = true ∧ e = s.txFlow q i ∧ tfEn e = true ∧ s.datagram q i e n = some d ∧ s.portUp q (tfPortA e) = true ∧ s.secOn q (tfPortA e) = false) ∧
    (∃ (q : Nat) (i : Nat) (n : Nat) (e : Nat) (s : State) (d : List Byte), q < 128 ∧ i < 256 ∧ s.macRuns q = true ∧ e = s.txFlow q i ∧ tfEn e = true ∧ s.datagram q i e n = some d ∧ s.portUp q (tfPortA e) = false ∧ tfBEn e = false) ∧
    (∃ (q : Nat) (i : Nat) (n : Nat) (e : Nat) (s : State), q < 128 ∧ i < 256 ∧ s.macRuns q = true ∧ e = s.txFlow q i ∧ tfEn e = true ∧ s.datagram q i e n = none) ∧
    (∃ (q : Nat) (n : Nat) (e : Nat) (c : Nat) (s : State), q < 128 ∧ n < 4 ∧ s.macRuns q = true ∧ e = s.txRing q n 0 ∧ e.testBit 63 = true ∧ s.storeOpen = true ∧ c = s.ringCons (ringBase e) ∧ s.ringProd (ringBase e) ≠ c ∧ s.portUp q n = true ∧ s.secOn q n = false) ∧
    (∃ (q : Nat) (n : Nat) (e : Nat) (c : Nat) (s : State), q < 128 ∧ n < 4 ∧ s.macRuns q = true ∧ e = s.txRing q n 0 ∧ e.testBit 63 = true ∧ s.storeOpen = true ∧ c = s.ringCons (ringBase e) ∧ s.ringProd (ringBase e) ≠ c ∧ s.portUp q n = false) ∧
    (∃ (q : Nat) (n : Nat) (e : Nat) (c : Nat) (s : State), q < 128 ∧ n < 4 ∧ s.macRuns q = true ∧ e = s.txRing q n 0 ∧ e.testBit 63 = true ∧ s.storeOpen = true ∧ c = s.ringCons (ringBase e) ∧ s.ringProd (ringBase e) = c) ∧
    (∃ (q : Nat) (n : Nat) (block : Bool) (am : Bool) (fec : Bool) (lf : Bool) (up : Bool) (s : State), q < 128 ∧ n < 4 ∧ s.macRuns q = true ∧ s.portOn q n = true ∧ up = (block && (decide (s.macMode q < 2) || am) && (!s.fecOn q n || fec) && !lf)) ∧
    (∃ (m : Requester) (q : Nat) (s : State), q < 128 ∧ s.Passes m (Reg.FMAC_M_SEC_STATUS (q + 1)) .write) :=
    ⟨⟨127, 3, 0, List.replicate 63 0x55#8, macUp 127 S0, (by decide +kernel), (by decide +kernel), (by decide +kernel), fun _ => rfl, (by decide +kernel)⟩,
    ⟨127, 3, 0, List.replicate 1523 0x55#8, macUp 127 S0, (by decide +kernel), (by decide +kernel), (by decide +kernel), fun _ => rfl, (by decide +kernel), (by decide +kernel)⟩,
    ⟨127, 3, 0, List.replicate 64 0x55#8, macUp 127 S0, (by decide +kernel), (by decide +kernel), (by decide +kernel), fun _ => rfl, (by decide +kernel), (by decide +kernel), (by decide +kernel)⟩,
    ⟨127, 3, 0, frame1, ent (macPage 127 + 0x1400 + 8 * 31) (2 * 2 ^ 62 + 2 ^ 52) 2 (ent (macPage 127 + 0x1000) (2 ^ 127 + 15 * 2 ^ 123 + 31 * 2 ^ 43) 4 (macUp 127 S0)), 31, (by decide +kernel), (by decide +kernel), (by decide +kernel), fun _ => rfl, (by decide +kernel), (by decide +kernel), (by decide +kernel), (by decide +kernel), (by decide +kernel), (by decide +kernel), fun h => absurd h (by decide +kernel), (by decide +kernel)⟩,
    ⟨127, 255, ent (rxFlowAddr 127 255) (2 ^ 255 + 2 * 2 ^ 251 + 0) 8 (macUp 127 S0), (by decide +kernel), (by decide +kernel), (by decide +kernel), (by decide +kernel), (by decide +kernel)⟩,
    ⟨127, 255, 254, { ent (rxFlowAddr 127 255) (2 ^ 255 + 0 * 2 ^ 251 + 3604368012147904032349926901515553772288067149626262674568076650636944343040) 8 (ent (rxFlowAddr 127 254) (2 ^ 255 + 0 * 2 ^ 251 + 3611435400407017569668260091518525446351377085213765150400563075442114822144) 8 (macUp 127 S0)) with now := 10000004, mac := { S0.mac with legs := [(flowKey 127 254, 5), (flowKey 127 255, 4)] } }, 5, (by decide +kernel), (by decide +kernel), (by decide +kernel), (by decide +kernel), (by decide +kernel), all_some 4 (by decide +kernel) (by decide +kernel), (by decide +kernel), (by decide +kernel)⟩,
    ⟨127, 255, 254, ent (rxFlowAddr 127 255) (2 ^ 255 + 0 * 2 ^ 251 + 3604368012147904032349926901515553772288067149626262674568076650636944343040) 8 (ent (rxFlowAddr 127 254) (2 ^ 255 + 0 * 2 ^ 251 + 3611435400407017569668260091518525446351377085213765150400563075442114822144) 8 (macUp 127 S0)), (by decide +kernel), (by decide +kernel), (by decide +kernel), (by decide +kernel), (by decide +kernel), all_none (by decide +kernel), (by decide +kernel)⟩,
    ⟨127, 255, 5, (ent (txFlowAddr 127 255) (2 ^ 255 + 3 * 2 ^ 252 + 3 * 2 ^ 250 + 3369993333393829974333376885877453834204643052817571560137951281152) 8 (macUp 127 S0)).txFlow 127 255, ent (txFlowAddr 127 255) (2 ^ 255 + 3 * 2 ^ 252 + 3 * 2 ^ 250 + 3369993333393829974333376885877453834204643052817571560137951281152) 8 (macUp 127 S0), ((ent (txFlowAddr 127 255) (2 ^ 255 + 3 * 2 ^ 252 + 3 * 2 ^ 250 + 3369993333393829974333376885877453834204643052817571560137951281152) 8 (macUp 127 S0)).datagram 127 255 ((ent (txFlowAddr 127 255) (2 ^ 255 + 3 * 2 ^ 252 + 3 * 2 ^ 250 + 3369993333393829974333376885877453834204643052817571560137951281152) 8 (macUp 127 S0)).txFlow 127 255) 5).getD [], (by decide +kernel), (by decide +kernel), (by decide +kernel), rfl, (by decide +kernel), some_getD (by decide +kernel), (by decide +kernel), (by decide +kernel)⟩,
    ⟨127, 255, 5, (at' [(Reg.FMAC_M_STATUS 128, 0)] (ent (txFlowAddr 127 255) (2 ^ 255 + 3 * 2 ^ 252 + 3 * 2 ^ 250 + 3369993333393829974333376885877453834204643052817571560137951281152) 8 (macUp 127 S0))).txFlow 127 255, at' [(Reg.FMAC_M_STATUS 128, 0)] (ent (txFlowAddr 127 255) (2 ^ 255 + 3 * 2 ^ 252 + 3 * 2 ^ 250 + 3369993333393829974333376885877453834204643052817571560137951281152) 8 (macUp 127 S0)), ((at' [(Reg.FMAC_M_STATUS 128, 0)] (ent (txFlowAddr 127 255) (2 ^ 255 + 3 * 2 ^ 252 + 3 * 2 ^ 250 + 3369993333393829974333376885877453834204643052817571560137951281152) 8 (macUp 127 S0))).datagram 127 255 ((at' [(Reg.FMAC_M_STATUS 128, 0)] (ent (txFlowAddr 127 255) (2 ^ 255 + 3 * 2 ^ 252 + 3 * 2 ^ 250 + 3369993333393829974333376885877453834204643052817571560137951281152) 8 (macUp 127 S0))).txFlow 127 255) 5).getD [], (by decide +kernel), (by decide +kernel), (by decide +kernel), rfl, (by decide +kernel), some_getD (by decide +kernel), (by decide +kernel), (by decide +kernel)⟩,
    ⟨127, 255, 0, (ent (txFlowAddr 127 255) (2 ^ 255 + 1 * 2 ^ 252 + 0 * 2 ^ 250 + 102844034832575377634685573909834406561420991602098741459288064) 8 (macUp 127 S0)).txFlow 127 255, ent (txFlowAddr 127 255) (2 ^ 255 + 1 * 2 ^ 252 + 0 * 2 ^ 250 + 102844034832575377634685573909834406561420991602098741459288064) 8 (macUp 127 S0), (by decide +kernel), (by decide +kernel), (by decide +kernel), rfl, (by decide +kernel), (by decide +kernel)⟩,
    ⟨127, 3, ((inSt [(11, 0, 4)] (ent (macPage 127 + 0x1518) (2 ^ 63 + 2 ^ 40) 2 (macUp 127 S0))).wrBytes (storeBase + 0x10000 * 2 ^ 19) [1#8, 0#8, 0#8, 0#8]).txRing 127 3 0, ((inSt [(11, 0, 4)] (ent (macPage 127 + 0x1518) (2 ^ 63 + 2 ^ 40) 2 (macUp 127 S0))).wrBytes (storeBase + 0x10000 * 2 ^ 19) [1#8, 0#8, 0#8, 0#8]).ringCons (ringBase (((inSt [(11, 0, 4)] (ent (macPage 127 + 0x1518) (2 ^ 63 + 2 ^ 40) 2 (macUp 127 S0))).wrBytes (storeBase + 0x10000 * 2 ^ 19) [1#8, 0#8, 0#8, 0#8]).txRing 127 3 0)), (inSt [(11, 0, 4)] (ent (macPage 127 + 0x1518) (2 ^ 63 + 2 ^ 40) 2 (macUp 127 S0))).wrBytes (storeBase + 0x10000 * 2 ^ 19) [1#8, 0#8, 0#8, 0#8], (by decide +kernel), (by decide +kernel), (by decide +kernel), rfl, (by decide +kernel), (by decide +kernel), rfl, (by decide +kernel), (by decide +kernel), (by decide +kernel)⟩,
    ⟨127, 3, (at' [(Reg.FMAC_M_STATUS 128, 0)] ((inSt [(11, 0, 4)] (ent (macPage 127 + 0x1518) (2 ^ 63 + 2 ^ 40) 2 (macUp 127 S0))).wrBytes (storeBase + 0x10000 * 2 ^ 19) [1#8, 0#8, 0#8, 0#8])).txRing 127 3 0, (at' [(Reg.FMAC_M_STATUS 128, 0)] ((inSt [(11, 0, 4)] (ent (macPage 127 + 0x1518) (2 ^ 63 + 2 ^ 40) 2 (macUp 127 S0))).wrBytes (storeBase + 0x10000 * 2 ^ 19) [1#8, 0#8, 0#8, 0#8])).ringCons (ringBase ((at' [(Reg.FMAC_M_STATUS 128, 0)] ((inSt [(11, 0, 4)] (ent (macPage 127 + 0x1518) (2 ^ 63 + 2 ^ 40) 2 (macUp 127 S0))).wrBytes (storeBase + 0x10000 * 2 ^ 19) [1#8, 0#8, 0#8, 0#8])).txRing 127 3 0)), at' [(Reg.FMAC_M_STATUS 128, 0)] ((inSt [(11, 0, 4)] (ent (macPage 127 + 0x1518) (2 ^ 63 + 2 ^ 40) 2 (macUp 127 S0))).wrBytes (storeBase + 0x10000 * 2 ^ 19) [1#8, 0#8, 0#8, 0#8]), (by decide +kernel), (by decide +kernel), (by decide +kernel), rfl, (by decide +kernel), (by decide +kernel), rfl, (by decide +kernel), (by decide +kernel)⟩,
    ⟨127, 3, (inSt [(11, 0, 4)] (ent (macPage 127 + 0x1518) (2 ^ 63 + 2 ^ 40) 2 (macUp 127 S0))).txRing 127 3 0, (inSt [(11, 0, 4)] (ent (macPage 127 + 0x1518) (2 ^ 63 + 2 ^ 40) 2 (macUp 127 S0))).ringCons (ringBase ((inSt [(11, 0, 4)] (ent (macPage 127 + 0x1518) (2 ^ 63 + 2 ^ 40) 2 (macUp 127 S0))).txRing 127 3 0)), inSt [(11, 0, 4)] (ent (macPage 127 + 0x1518) (2 ^ 63 + 2 ^ 40) 2 (macUp 127 S0)), (by decide +kernel), (by decide +kernel), (by decide +kernel), rfl, (by decide +kernel), (by decide +kernel), rfl, (by decide +kernel)⟩,
    ⟨127, 3, true, false, false, true, (true && (decide ((macUp 127 S0).macMode 127 < 2) || false) && (!(macUp 127 S0).fecOn 127 3 || false) && !true), macUp 127 S0, (by decide +kernel), (by decide +kernel), (by decide +kernel), (by decide +kernel), rfl⟩,
    ⟨boot, 127, macUp 127 S0, (by decide +kernel), (passes_of (by decide +kernel))⟩⟩

/-- The hypotheses of each clause of StoreAndCompositorComplete are met. -/
theorem witness_StoreAndCompositorComplete :
    (∃ (s : State), s.store.filling = true) ∧
    (∃ (s : State), s.store.filling = false) ∧
    (∃ (i : Nat) (tok : Nat) (r : FstRead) (off : Nat) (s : State), s.store.reads[i]? = some r ∧ off = r.addr + 64 * (tok % (1 + payloadLen r.cell)) ∧ r.issued = true ∧ (∀ d ∈ s.store.down, d.1 ≠ r.stack)) ∧
    (∃ (i : Nat) (tok : Nat) (r : FstRead) (off : Nat) (s : State), s.store.reads[i]? = some r ∧ off = r.addr + 64 * (tok % (1 + payloadLen r.cell)) ∧ r.issued = false) ∧
    (∃ (i : Nat) (s : State), s.store.reads.length ≤ i ∧ s.mon.fetched < s.mon.asked) ∧
    (∃ (i : Nat) (s : State), s.store.reads.length ≤ i ∧ s.mon.asked ≤ s.mon.fetched) ∧
    (∃ (st : Nat) (s : State), st < 4 ∧ s.bit Reg.FST_PD_CFG 31 = true ∧ s.fld Reg.FST_PD_CFG 7 0 * 1000 ≤ s.now - nthD s.store.lastUse st 0 ∧ 12 ≤ s.tolMin st ∧ s.store.urgent.contains st = false ∧ (∀ r ∈ s.store.reads, r.stack = st → r.issued = false) ∧ (s.cur 11 = sIDLE ∨ s.cur 11 = sRUN) ∧ s.stackDown st = false) ∧
    (∃ (st : Nat) (s : State), st < 4 ∧ (s.bit Reg.FST_PD_CFG 31 = false ∨ s.tolMin st < 12 ∨ s.store.urgent.contains st = true)) ∧
    (∃ (st : Nat) (s : State) (since : Nat), st < 4 ∧ kget s.store.down st = some since) ∧
    (∃ (st : Nat) (s : State), st < 4 ∧ kget s.store.down st = none) ∧
    (∃ (st : Nat) (g : Nat) (off : Nat) (s : State), st < 4 ∧ s.bit Reg.FST_SCRUB_CFG 31 = false ∧ (s.cur 11 = sIDLE ∨ s.cur 11 = sRUN) ∧ s.store.filling = false ∧ s.stackDown st = false ∧ s.store.scrubbed[st]? = some g ∧ off = st * 0x400000000 + g % stackGranules * 64) ∧
    (∃ (s : State), s.bit Reg.FST_CFG 1 = true ∧ s.running 11 = true) ∧
    (∃ (s : State), (s.bit Reg.FST_CFG 1 = false ∨ s.running 11 = false)) ∧
    (∃ (e : Nat) (s : State), e < 64 ∧ s.engineOn e = true ∧ s.upd.loading.contains 5 = false) ∧
    (∃ (e : Nat) (s : State), e < 64 ∧ s.engineOn e = true ∧ s.upd.loading.contains 5 = true) ∧
    (∃ (e : Nat) (s : State), e < 64 ∧ s.engineOn e = false) ∧
    (∃ (e : Nat) (j : Nat) (k : Nat) (s : State), e < 64 ∧ (s.engine e).frame = some k ∧ s.engineOn e = true ∧ engineFormatOk (s.engine e).format = true ∧ j < rasterHeight (fmtRaster (s.engine e).format) ∧ s.storeOpen = true) ∧
    (∃ (m : Requester) (n : Nat) (s : State), n < 256 ∧ s.Passes m (fenceAddr n) .write) ∧
    (∃ (e : Nat) (T : Nat) (s : State), e < 64 ∧ s.shadowStatus (enginePage e) = 2 ∧ s.targetOfPage (enginePage e) = some T) ∧
    (∃ (e : Nat) (s : State), e < 64 ∧ s.shadowStatus (enginePage e) ≠ 2) :=
    ⟨⟨{ S0 with store := { S0.store with filling := true, badGranules := [64] } }.wrByte storeBase 5#8, (by decide +kernel)⟩,
    ⟨S0, (by decide +kernel)⟩,
    ⟨1, 7, (⟨8191, 3, 64, cell1, 1, 2, true⟩ : FstRead), ((⟨8191, 3, 64, cell1, 1, 2, true⟩ : FstRead)).addr + 64 * (7 % (1 + payloadLen ((⟨8191, 3, 64, cell1, 1, 2, true⟩ : FstRead)).cell)), { S0 with store := { S0.store with reads := [(⟨8191, 3, 64, cell1, 1, 2, true⟩ : FstRead), (⟨8191, 3, 64, cell1, 1, 2, true⟩ : FstRead)], down := [(2, 0)] } }, (by decide +kernel), rfl, (by decide +kernel), (by decide +kernel)⟩,
    ⟨1, 7, (⟨8191, 3, 64, cell1, 1, 2, false⟩ : FstRead), ((⟨8191, 3, 64, cell1, 1, 2, false⟩ : FstRead)).addr + 64 * (7 % (1 + payloadLen ((⟨8191, 3, 64, cell1, 1, 2, false⟩ : FstRead)).cell)), { S0 with store := { S0.store with reads := [(⟨8191, 3, 64, cell1, 1, 2, true⟩ : FstRead), (⟨8191, 3, 64, cell1, 1, 2, false⟩ : FstRead)], down := [(2, 0)] } }, (by decide +kernel), rfl, (by decide +kernel)⟩,
    ⟨0, { S0 with mon := { S0.mon with fetched := 3, asked := 4 } }, (by decide +kernel), (by decide +kernel)⟩,
    ⟨0, { S0 with mon := { S0.mon with fetched := 3, asked := 3 } }, (by decide +kernel), (by decide +kernel)⟩,
    ⟨3, { at' [(Reg.FST_PD_CFG, 2 ^ 31 + 5), (Reg.FST_SCRUB_CFG, 0), (Reg.FST_CFG, 2)] (inSt [(11, 0, 4)] S0) with now := 5000 }, (by decide +kernel), (by decide +kernel), (by decide +kernel), (by decide +kernel), (by decide +kernel), (by decide +kernel), (by decide +kernel), (by decide +kernel)⟩,
    ⟨3, at' [(Reg.FST_PD_CFG, 0)] S0, (by decide +kernel), (by decide +kernel)⟩,
    ⟨3, { at' [(Reg.FST_PD_CFG, 2 ^ 31 + 5), (Reg.FST_SCRUB_CFG, 0), (Reg.FST_CFG, 2)] (inSt [(11, 0, 4)] S0) with now := 5000, store := { S0.store with down := [(3, 5)] } }, 5, (by decide +kernel), (by decide +kernel)⟩,
    ⟨3, S0, (by decide +kernel), (by decide +kernel)⟩,
    ⟨3, stackGranules - 1, 3 * 0x400000000 + (stackGranules - 1) % stackGranules * 64, { at' [(Reg.FST_PD_CFG, 2 ^ 31 + 5), (Reg.FST_SCRUB_CFG, 0), (Reg.FST_CFG, 2)] (inSt [(11, 0, 4)] S0) with store := { S0.store with scrubbed := [stackGranules, stackGranules, stackGranules, stackGranules - 1] } }, (by decide +kernel), (by decide +kernel), (by decide +kernel), (by decide +kernel), (by decide +kernel), (by decide +kernel), rfl⟩,
    ⟨at' [(Reg.FST_PD_CFG, 2 ^ 31 + 5), (Reg.FST_SCRUB_CFG, 0), (Reg.FST_CFG, 2)] (inSt [(11, 0, 4)] S0), (by decide +kernel), (by decide +kernel)⟩,
    ⟨S0, (by decide +kernel)⟩,
    ⟨63, { at' [(Reg.PXP_E_CFG 64, 2 ^ 31 + 5)] (inSt [(12, 0, 4)] S0) with upd := { S0.upd with loading := [4] } }, (by decide +kernel), (by decide +kernel), (by decide +kernel)⟩,
    ⟨63, { at' [(Reg.PXP_E_CFG 64, 2 ^ 31 + 5)] (inSt [(12, 0, 4)] S0) with upd := { S0.upd with loading := [5] } }, (by decide +kernel), (by decide +kernel), (by decide +kernel)⟩,
    ⟨63, at' [(Reg.PXP_E_CFG 64, 0)] S0, (by decide +kernel), (by decide +kernel)⟩,
    ⟨63, rasterHeight (fmtRaster 4) - 1, 7, { at' [(Reg.PXP_E_CFG 64, 2 ^ 31 + 5)] (inSt [(12, 0, 4), (11, 0, 4)] S0) with upd := { S0.upd with loading := [] }, engines := [(63, { frame := some 7, cfg := 2 ^ 31 + 5, format := 4 })] }, (by decide +kernel), (by decide +kernel), (by decide +kernel), (by decide +kernel), (by decide +kernel), (by decide +kernel)⟩,
    ⟨boot, 255, inSt [(12, 0, 4)] S0, (by decide +kernel), (passes_of (by decide +kernel))⟩,
    ⟨63, 6, { at' [(hSHADOW (enginePage 63), 2 * 2 ^ 26)] S0 with armed := [(enginePage 63, 6)] }, (by decide +kernel), (by decide +kernel), (by decide +kernel)⟩,
    ⟨63, S0, (by decide +kernel), (by decide +kernel)⟩⟩

/-- The hypotheses of each clause of MonitorCompletes are met. -/
theorem witness_MonitorCompletes :
    (∃ (b : Nat) (s : State), s.running 13 = true ∧ s.bit Reg.MRS_CFG 8 = true ∧ s.mon.ready = some b ∧ (∀ x, s.mon.start = some x → (if s.mon.still && s.bit Reg.MRS_CFG 9 then s.fld Reg.MRS_VRR_MAX 31 16 else s.fld Reg.MRS_VRR_MIN 15 0) ≤ (s.now - x) / 1000)) ∧
    (∃ (s : State), (s.running 13 = false ∨ (s.bit Reg.MRS_CFG 8 = true ∧ s.mon.ready = none))) ∧
    (∃ (s : State), s.running 13 = true ∧ s.bit Reg.MRS_CFG 8 = true ∧ (∀ x, s.mon.start = some x → s.fld Reg.MRS_VRR_MAX 15 0 ≤ (s.now - x) / 1000) ∧ s.mon.ready = none) ∧
    (∃ (s : State), s.running 13 = true ∧ s.bit Reg.MRS_CFG 8 = true ∧ (∀ x, s.mon.start = some x → s.fld Reg.MRS_VRR_MAX 15 0 ≤ (s.now - x) / 1000) ∧ s.mon.ready ≠ none) ∧
    (∃ (m : Requester) (s : State), s.Passes m Reg.MRS_FRAME_READY .write ∧ s.running 13 = true) ∧
    (∃ (s : State), s.running 13 = true ∧ s.mon.start.isSome = true ∧ mrsKind s.mon.src ≠ 0 ∧ s.mon.fetched < s.mrsVActive ∧ s.mon.aborted = none) ∧
    (∃ (s : State), s.running 13 = true ∧ s.mon.start.isSome = true ∧ mrsKind s.mon.src ≠ 0 ∧ s.mon.fetched < s.mrsVActive ∧ s.mon.aborted.isSome = true) ∧
    (∃ (m : Requester) (addr : Nat) (len : Nat) (a : Nat) (s : State), s.Passes m Reg.MRS_AUX_CMD .write ∧ s.auxBusy = false ∧ a = addr % 2 ^ 20 * 256 + len % 16) ∧
    (∃ (m : Requester) (addr : Nat) (len : Nat) (a : Nat) (s : State), s.Passes m Reg.MRS_AUX_CMD .write ∧ s.auxBusy = false ∧ a = addr % 2 ^ 20 * 256 + len % 16) ∧
    (∃ (m : Requester) (addr : Nat) (len : Nat) (a : Nat) (s : State), s.Passes m Reg.MRS_AUX_CMD .write ∧ s.auxBusy = false ∧ a = addr % 2 ^ 20 * 256 + len % 16) ∧
    (∃ (m : Requester) (addr : Nat) (len : Nat) (a : Nat) (s : State), s.Passes m Reg.MRS_AUX_CMD .write ∧ s.auxBusy = false ∧ a = addr % 2 ^ 20 * 256 + len % 16) ∧
    (∃ (m : Requester) (s : State), s.Passes m Reg.MRS_AUX_CMD .write ∧ s.auxBusy = true) ∧
    (∃ (kind : Nat) (cmd : Nat) (at1 : Nat) (s : State), kind < 3 ∧ s.mon.aux = some (cmd, at1) ∧ s.mon.deferred = false ∧ kind = 0) ∧
    (∃ (kind : Nat) (cmd : Nat) (at1 : Nat) (s : State), kind < 3 ∧ s.mon.aux = some (cmd, at1) ∧ s.mon.deferred = false ∧ kind = 1) ∧
    (∃ (kind : Nat) (cmd : Nat) (at1 : Nat) (s : State), kind < 3 ∧ s.mon.aux = some (cmd, at1) ∧ s.mon.deferred = false ∧ kind = 2 ∧ s.fld Reg.MRS_AUX_STATUS 3 0 = 7) ∧
    (∃ (kind : Nat) (cmd : Nat) (at1 : Nat) (s : State), kind < 3 ∧ s.mon.aux = some (cmd, at1) ∧ s.mon.deferred = false ∧ kind = 2 ∧ s.fld Reg.MRS_AUX_STATUS 3 0 ≠ 7) ∧
    (∃ (cmd : Nat) (at1 : Nat) (s : State), s.mon.aux = some (cmd, at1) ∧ s.mon.deferred = true ∧ at1 + 100000 ≤ s.now) ∧
    (∃ (cmd : Nat) (at1 : Nat) (s : State), s.mon.aux = some (cmd, at1) ∧ s.mon.deferred = false ∧ at1 + 400000 ≤ s.now) ∧
    (∃ (cmd : Nat) (at1 : Nat) (s : State), s.mon.aux = some (cmd, at1) ∧ (s.mon.deferred = true ∨ s.now < at1 + 400000)) ∧
    (∃ (s : State), s.mrsAlive = true ∧ s.mon.connected = true) ∧
    (∃ (s : State), s.mrsAlive = true) ∧
    (∃ (s : State), s.mrsAlive = true) ∧
    (∃ (m : Requester) (v : Nat) (s : State), s.Passes m Reg.MRS_LINK_CMD .write ∧ v.testBit 31 = true ∧ s.bit Reg.MRS_LINK_STATUS 30 = false) ∧
    (∃ (m : Requester) (v : Nat) (s : State), s.Passes m Reg.MRS_LINK_CMD .write ∧ (v.testBit 31 = false ∨ s.bit Reg.MRS_LINK_STATUS 30 = true)) ∧
    (∃ (r : Nat) (s : State), 1 ≤ r ∧ r ≤ 3 ∧ s.bit Reg.MRS_LINK_STATUS 30 = true) ∧
    (∃ (r : Nat) (s : State), 1 ≤ r ∧ r ≤ 3 ∧ s.bit Reg.MRS_LINK_STATUS 30 = false) :=
    ⟨⟨1, { at' [(Reg.MRS_CFG, 0x100), (Reg.MRS_VRR_MIN, 20000), (Reg.MRS_VRR_MAX, 20000), (Reg.MRS_SRC, 2 ^ 31)] (inSt [(13, 0, 4)] S0) with now := 20000005, mon := { S0.mon with ready := some 1, start := some 5 } }, (by decide +kernel), (by decide +kernel), (by decide +kernel), all_some 5 (by decide +kernel) (by decide +kernel)⟩,
    ⟨inSt [(13, 0, 0)] S0, (by decide +kernel)⟩,
    ⟨{ at' [(Reg.MRS_CFG, 0x100), (Reg.MRS_VRR_MIN, 20000), (Reg.MRS_VRR_MAX, 20000), (Reg.MRS_SRC, 2 ^ 31)] (inSt [(13, 0, 4)] S0) with now := 20000005, mon := { S0.mon with ready := none, start := some 5 } }, (by decide +kernel), (by decide +kernel), all_some 5 (by decide +kernel) (by decide +kernel), (by decide +kernel)⟩,
    ⟨{ at' [(Reg.MRS_CFG, 0x100), (Reg.MRS_VRR_MIN, 20000), (Reg.MRS_VRR_MAX, 20000), (Reg.MRS_SRC, 2 ^ 31)] (inSt [(13, 0, 4)] S0) with now := 20000005, mon := { S0.mon with ready := some 0, start := some 5 } }, (by decide +kernel), (by decide +kernel), all_some 5 (by decide +kernel) (by decide +kernel), (by decide +kernel)⟩,
    ⟨boot, { at' [(Reg.MRS_CFG, 0x100), (Reg.MRS_VRR_MIN, 20000), (Reg.MRS_VRR_MAX, 20000), (Reg.MRS_SRC, 2 ^ 31)] (inSt [(13, 0, 4)] S0) with now := 20000005, mon := { S0.mon with ready := none } }, (passes_of (by decide +kernel)), (by decide +kernel)⟩,
    ⟨{ at' [(Reg.MRS_CFG, 0x100), (Reg.MRS_VRR_MIN, 20000), (Reg.MRS_VRR_MAX, 20000), (Reg.MRS_SRC, 2 ^ 31), (Reg.MRS_V_TIMING, 100)] (inSt [(13, 0, 4)] S0) with now := 20000005, mon := { S0.mon with start := some 5, src := 2 ^ 30, fetched := 99, asked := 99, aborted := none } }, (by decide +kernel), (by decide +kernel), (by decide +kernel), (by decide +kernel), (by decide +kernel)⟩,
    ⟨{ at' [(Reg.MRS_CFG, 0x100), (Reg.MRS_VRR_MIN, 20000), (Reg.MRS_VRR_MAX, 20000), (Reg.MRS_SRC, 2 ^ 31), (Reg.MRS_V_TIMING, 100)] (inSt [(13, 0, 4)] S0) with now := 20000005, mon := { S0.mon with start := some 5, src := 2 ^ 30, fetched := 99, asked := 99, aborted := some 2 } }, (by decide +kernel), (by decide +kernel), (by decide +kernel), (by decide +kernel), (by decide +kernel)⟩,
    ⟨boot, 2 ^ 20 - 1, 15, (2 ^ 20 - 1) % 2 ^ 20 * 256 + 15 % 16, { at' [(Reg.MRS_LINK_STATUS, 0)] (inSt [(13, 0, 4)] S0) with now := 20000005, mon := { S0.mon with aux := none } }, (passes_of (by decide +kernel)), (by decide +kernel), rfl⟩,
    ⟨boot, 2 ^ 20 - 1, 15, (2 ^ 20 - 1) % 2 ^ 20 * 256 + 15 % 16, { at' [(Reg.MRS_LINK_STATUS, 0)] (inSt [(13, 0, 4)] S0) with now := 20000005, mon := { S0.mon with aux := none } }, (passes_of (by decide +kernel)), (by decide +kernel), rfl⟩,
    ⟨boot, 2 ^ 20 - 1, 15, (2 ^ 20 - 1) % 2 ^ 20 * 256 + 15 % 16, { at' [(Reg.MRS_LINK_STATUS, 0)] (inSt [(13, 0, 4)] S0) with now := 20000005, mon := { S0.mon with aux := none } }, (passes_of (by decide +kernel)), (by decide +kernel), rfl⟩,
    ⟨boot, 2 ^ 20 - 1, 15, (2 ^ 20 - 1) % 2 ^ 20 * 256 + 15 % 16, { at' [(Reg.MRS_LINK_STATUS, 0)] (inSt [(13, 0, 4)] S0) with now := 20000005, mon := { S0.mon with aux := none } }, (passes_of (by decide +kernel)), (by decide +kernel), rfl⟩,
    ⟨boot, { at' [(Reg.MRS_LINK_STATUS, 2 ^ 30)] (inSt [(13, 0, 4)] S0) with now := 20000005, mon := { S0.mon with aux := none } }, (passes_of (by decide +kernel)), (by decide +kernel)⟩,
    ⟨0, 0x90000100, 5, { at' [(Reg.MRS_AUX_STATUS, 0)] (inSt [(13, 0, 4)] S0) with now := 20000005, mon := { S0.mon with aux := some (0x90000100, 5), deferred := false } }, (by decide +kernel), (by decide +kernel), (by decide +kernel), (by decide +kernel)⟩,
    ⟨1, 0x90000100, 5, { at' [(Reg.MRS_AUX_STATUS, 0)] (inSt [(13, 0, 4)] S0) with now := 20000005, mon := { S0.mon with aux := some (0x90000100, 5), deferred := false } }, (by decide +kernel), (by decide +kernel), (by decide +kernel), (by decide +kernel)⟩,
    ⟨2, 0x90000100, 5, { at' [(Reg.MRS_AUX_STATUS, 7)] (inSt [(13, 0, 4)] S0) with now := 20000005, mon := { S0.mon with aux := some (0x90000100, 5), deferred := false } }, (by decide +kernel), (by decide +kernel), (by decide +kernel), (by decide +kernel), (by decide +kernel)⟩,
    ⟨2, 0x90000100, 5, { at' [(Reg.MRS_AUX_STATUS, 6)] (inSt [(13, 0, 4)] S0) with now := 20000005, mon := { S0.mon with aux := some (0x90000100, 5), deferred := false } }, (by decide +kernel), (by decide +kernel), (by decide +kernel), (by decide +kernel), (by decide +kernel)⟩,
    ⟨0x90000100, 19900005, { at' [(Reg.MRS_AUX_STATUS, 0)] (inSt [(13, 0, 4)] S0) with now := 20000005, mon := { S0.mon with aux := some (0x90000100, 19900005), deferred := true } }, (by decide +kernel), (by decide +kernel), (by decide +kernel)⟩,
    ⟨0x90000100, 19600005, { at' [(Reg.MRS_AUX_STATUS, 0)] (inSt [(13, 0, 4)] S0) with now := 20000005, mon := { S0.mon with aux := some (0x90000100, 19600005), deferred := false } }, (by decide +kernel), (by decide +kernel), (by decide +kernel)⟩,
    ⟨0x90000100, 19600006, { at' [(Reg.MRS_AUX_STATUS, 0)] (inSt [(13, 0, 4)] S0) with now := 20000005, mon := { S0.mon with aux := some (0x90000100, 19600006), deferred := false } }, (by decide +kernel), (by decide +kernel)⟩,
    ⟨{ at' [(Reg.MRS_CFG, 0)] (inSt [(13, 0, 4)] S0) with now := 20000005, mon := { S0.mon with connected := true } }, (by decide +kernel), (by decide +kernel)⟩,
    ⟨inSt [(13, 0, 3)] S0, (by decide +kernel)⟩,
    ⟨inSt [(13, 0, 3)] S0, (by decide +kernel)⟩,
    ⟨boot, 2 ^ 31, { at' [(Reg.MRS_LINK_STATUS, 0)] (inSt [(13, 0, 4)] S0) with now := 20000005, mon := { S0.mon with aux := none } }, (passes_of (by decide +kernel)), (by decide +kernel), (by decide +kernel)⟩,
    ⟨boot, 0, { at' [(Reg.MRS_LINK_STATUS, 0)] (inSt [(13, 0, 4)] S0) with now := 20000005, mon := { S0.mon with aux := none } }, (passes_of (by decide +kernel)), (by decide +kernel)⟩,
    ⟨3, { at' [(Reg.MRS_LINK_STATUS, 2 ^ 30)] (inSt [(13, 0, 4)] S0) with now := 20000005, mon := { S0.mon with aux := none } }, (by decide +kernel), (by decide +kernel), (by decide +kernel)⟩,
    ⟨1, { at' [(Reg.MRS_LINK_STATUS, 0)] (inSt [(13, 0, 4)] S0) with now := 20000005, mon := { S0.mon with aux := none } }, (by decide +kernel), (by decide +kernel), (by decide +kernel)⟩⟩

/-- The hypotheses of each clause of AudioCompletes are met. -/
theorem witness_AudioCompletes :
    (∃ (p : Nat) (s : State), p < 64 ∧ s.portWorks p = true) ∧
    (∃ (p : Nat) (s : State), p < 64 ∧ s.portWorks p = true) ∧
    (∃ (p : Nat) (s : State), p < 64 ∧ s.portWorks p = false) ∧
    (∃ (p : Nat) (s : State), p < 64 ∧ s.portWorks p = true ∧ (s.audPort p).st = 2) ∧
    (∃ (p : Nat) (s : State), p < 64 ∧ s.portWorks p = true ∧ (s.audPort p).st ≠ 2) ∧
    (∃ (p : Nat) (rate : Nat) (n : Nat) (s : State), p < 64 ∧ rate < 7 ∧ s.running 14 = true ∧ s.portWorks p = true ∧ cfgRate (s.portCfg p) = rate ∧ (s.audPort p).st = 2 ∧ s.portElastic p = false ∧ (∀ h ∈ (s.audPort p).hist, h.1 ≠ n)) ∧
    (∃ (s : State), s.running 14 = false) ∧
    (∃ (g : Nat) (e : Nat) (s : State), g < 512 ∧ e = s.audSource g 0 ∧ s.running 14 = true ∧ agEn e = true) ∧
    (∃ (g : Nat) (s : State), g < 512 ∧ (s.running 14 = false ∨ agEn (s.audSource g 0) = false)) ∧
    (∃ (p : Nat) (s : State), p < 64 ∧ s.running 14 = true ∧ (s.portOut p 0).testBit 31 = true ∧ s.inFamily (cfgRate (s.portCfg p)) = true) ∧
    (∃ (w : Nat) (bclks : Nat) (ppm : Int) (s : State), w < 4 ∧ s.portWorks (64 + w) = true ∧ (s.portCfg (64 + w)).testBit 30 = false ∧ (ppm < -1000 ∨ 1000 < ppm ∨ bclks ≠ 2 * slotBits (s.portCfg (64 + w)))) ∧
    (∃ (w : Nat) (s : State), w < 4 ∧ s.portWorks (64 + w) = true ∧ (s.portCfg (64 + w)).testBit 30 = true) ∧
    (∃ (w : Nat) (bclks : Nat) (ppm : Int) (s : State), w < 4 ∧ s.portWorks (64 + w) = true ∧ (s.portCfg (64 + w)).testBit 30 = false ∧ -1000 ≤ ppm ∧ ppm ≤ 1000 ∧ bclks = 2 * slotBits (s.portCfg (64 + w)) ∧ (s.audPort (64 + w)).frames.length < 32) ∧
    (∃ (w : Nat) (s : State), w < 4 ∧ s.portWorks (68 + w) = true ∧ (s.portOut (68 + w) 0).testBit 31 = true ∧ (s.audPort (64 + w)).st ≠ 3) :=
    ⟨⟨63, at' [(Reg.AUD_A_IN_CFG 64, 2 ^ 31), (Reg.RTU_ACLK, 0)] (inSt [(14, 0, 4), (14, 64, 4)] S0), (by decide +kernel), (by decide +kernel)⟩,
    ⟨63, at' [(Reg.AUD_A_IN_CFG 64, 2 ^ 31), (Reg.RTU_ACLK, 0)] (inSt [(14, 0, 4), (14, 64, 4)] S0), (by decide +kernel), (by decide +kernel)⟩,
    ⟨63, at' [(Reg.AUD_A_IN_CFG 64, 0)] S0, (by decide +kernel), (by decide +kernel)⟩,
    ⟨63, { at' [(Reg.AUD_A_IN_CFG 64, 2 ^ 31), (Reg.RTU_ACLK, 0)] (inSt [(14, 0, 4), (14, 64, 4)] S0) with aud := { S0.aud with ports := [(63, { st := 2 })] } }, (by decide +kernel), (by decide +kernel), (by decide +kernel)⟩,
    ⟨63, at' [(Reg.AUD_A_IN_CFG 64, 2 ^ 31), (Reg.RTU_ACLK, 0)] (inSt [(14, 0, 4), (14, 64, 4)] S0), (by decide +kernel), (by decide +kernel), (by decide +kernel)⟩,
    ⟨63, 0, 9, { at' [(Reg.AUD_A_IN_CFG 64, 2 ^ 31), (Reg.RTU_ACLK, 0)] (inSt [(14, 0, 4), (14, 64, 4)] S0) with aud := { S0.aud with ports := [(63, { st := 2, frames := [⟨1, 2, 3⟩], hist := [(8, 1, 1)] })] } }, (by decide +kernel), (by decide +kernel), (by decide +kernel), (by decide +kernel), (by decide +kernel), (by decide +kernel), (by decide +kernel), (by decide +kernel)⟩,
    ⟨inSt [(14, 0, 1)] S0, (by decide +kernel)⟩,
    ⟨511, (ent (pageAddr 14 0x23 + 0x1000 + 8 * 511) (2 ^ 63 + 0x1000 * 2 ^ 46) 2 (inSt [(14, 0, 4)] S0)).audSource 511 0, ent (pageAddr 14 0x23 + 0x1000 + 8 * 511) (2 ^ 63 + 0x1000 * 2 ^ 46) 2 (inSt [(14, 0, 4)] S0), (by decide +kernel), rfl, (by decide +kernel), (by decide +kernel)⟩,
    ⟨511, ent (pageAddr 14 0x23 + 0x1000 + 8 * 511) 0 2 S0, (by decide +kernel), (by decide +kernel)⟩,
    ⟨63, at' [(Reg.AUD_A_OUT_CFG 64, 2 ^ 31)] (at' [(Reg.AUD_A_IN_CFG 64, 2 ^ 31), (Reg.RTU_ACLK, 0)] (inSt [(14, 0, 4), (14, 64, 4)] S0)), (by decide +kernel), (by decide +kernel), (by decide +kernel), (by decide +kernel)⟩,
    ⟨3, 48, 1001, at' [(Reg.AUD_A_IN_CFG 68, 2 ^ 31), (Reg.RTU_ACLK, 0)] (inSt [(14, 0, 4), (14, 68, 4)] S0), (by decide +kernel), (by decide +kernel), (by decide +kernel), (by decide +kernel)⟩,
    ⟨3, at' [(Reg.AUD_A_IN_CFG 68, 2 ^ 31 + 2 ^ 30), (Reg.RTU_ACLK, 0)] (inSt [(14, 0, 4), (14, 68, 4)] S0), (by decide +kernel), (by decide +kernel), (by decide +kernel)⟩,
    ⟨3, 48, 1000, { at' [(Reg.AUD_A_IN_CFG 68, 2 ^ 31), (Reg.RTU_ACLK, 0)] (inSt [(14, 0, 4), (14, 68, 4)] S0) with aud := { S0.aud with ports := [(67, { frames := List.replicate 31 ⟨1, 2, 3⟩ })] } }, (by decide +kernel), (by decide +kernel), (by decide +kernel), (by decide +kernel), (by decide +kernel), (by decide +kernel), (by decide +kernel)⟩,
    ⟨3, at' [(Reg.AUD_W_OUT 68, 2 ^ 31)] (at' [(Reg.AUD_A_IN_CFG 68, 2 ^ 31 + 2 ^ 30), (Reg.RTU_ACLK, 0)] (inSt [(14, 0, 4), (14, 68, 4)] S0)), (by decide +kernel), (by decide +kernel), (by decide +kernel), (by decide +kernel)⟩⟩

/-- The hypotheses of each clause of TimingReferencesComplete are met. -/
theorem witness_TimingReferencesComplete :
    (∃ (n : Nat) (l : List Byte) (s : State), n < 2 ∧ s.running 5 = true ∧ qmValid l = false) ∧
    (∃ (n : Nat) (l : List Byte) (s : State), n < 2 ∧ s.running 5 = true ∧ qmValid l = true ∧ s.ref.cands.length = 4) ∧
    (∃ (n : Nat) (s : State), n < 2 ∧ s.running 5 = true ∧ s.ref.cands.length = 4 ∧ (s.cand n).missing ≠ 4) ∧
    (∃ (n : Nat) (s : State), n < 2 ∧ s.running 5 = true ∧ s.ref.cands.length = 4 ∧ (s.cand n).missing = 4) ∧
    (∃ (n : Nat) (s : State), n < 2 ∧ s.running 5 = true ∧ s.ref.cands.length = 4 ∧ s.ref.sel = some n) ∧
    (∃ (n : Nat) (s : State), n < 2 ∧ s.running 5 = true ∧ s.ref.cands.length = 4 ∧ s.ref.sel = some n) ∧
    (∃ (n : Nat) (s : State), n < 2 ∧ s.running 5 = true ∧ s.ref.cands.length = 4 ∧ s.ref.sel ≠ some n) ∧
    (∃ (n : Nat) (s : State), n < 2 ∧ s.running 5 = true ∧ s.ref.cands.length = 4 ∧ s.ref.sel ≠ some n) ∧
    (∃ (c : Nat) (s : State), c < 4 ∧ s.running 5 = true ∧ s.ref.sel = some c) ∧
    (∃ (s : State), s.running 5 = true ∧ s.ref.dpll = 1 ∧ s.ref.drawing = false ∧ s.ref.sel.isSome = true) ∧
    (∃ (s : State), (s.ref.dpll ≠ 1 ∨ s.ref.drawing = true)) ∧
    (∃ (w : Nat × Nat × Nat) (s : State), s.running 5 = true ∧ s.ref.wtr = some w ∧ s.now < w.2.2 + 1000000000 * s.fld Reg.RTU_SEL_CFG 11 0) ∧
    (∃ (w : Nat × Nat × Nat) (s : State) (b : Nat) (c : Nat), s.running 5 = true ∧ s.ref.wtr = some w ∧ w.2.2 + 1000000000 * s.fld Reg.RTU_SEL_CFG 11 0 ≤ s.now ∧ s.ref.sel = some c ∧ s.ref.qual = none ∧ c < 4 ∧ s.candUsable c = true ∧ s.fld Reg.RTU_SEL_CFG 31 28 = 0 ∧ s.bit Reg.RTU_CFG 1 = false ∧ s.bestCand = some b ∧ b ≠ c ∧ (s.cand c).seen ≤ s.candQl c ∧ s.candQl c < s.candQl b ∧ s.fld Reg.RTU_SEL_CFG 19 16 ≤ s.candQl b - s.candQl c) ∧
    (∃ (c : Nat) (exchanges : Nat) (phase : Int) (freq : Int) (pulses : Bool) (unbroken : Bool) (s : State), s.running 5 = true ∧ s.ref.qual = some c ∧ c < 4 ∧ s.ref.cands.length = 4 ∧ s.refSync.qualOk c phase freq pulses exchanges unbroken = true ∧ s.bit Reg.RTU_CFG 0 = false) ∧
    (∃ (c : Nat) (exchanges : Nat) (phase : Int) (freq : Int) (pulses : Bool) (unbroken : Bool) (s : State), s.running 5 = true ∧ s.ref.qual = some c ∧ c < 4 ∧ s.ref.cands.length = 4 ∧ s.refSync.qualOk c phase freq pulses exchanges unbroken = false) ∧
    (∃ (c : Nat) (s : State), c < 4 ∧ s.ref.cands.length = 4) ∧
    (∃ (s : State), s.ref.drawing = true) ∧
    (∃ (s : State), s.ref.dpll = 3 ∧ s.ref.inSpec = true) ∧
    (∃ (s : State), (s.ref.dpll ≠ 3 ∨ s.ref.inSpec = false)) ∧
    (∃ (x : Nat) (s : State), s.slewing = true ∧ s.ref.clampFrom = some x ∧ x + 1000000000 < s.now) ∧
    (∃ (m : Requester) (s : State), s.Passes m Reg.RTU_PHASE_ADJ .write) ∧
    (∃ (m : Requester) (v : Nat) (s : State), s.Passes m Reg.RTU_DPLL_CFG .write ∧ s.running 5 = true ∧ v / 2 ^ 30 % 4 = 1) ∧
    (∃ (m : Requester) (v : Nat) (s : State), s.Passes m Reg.RTU_SEL_CFG .write ∧ s.running 5 = true ∧ v / 2 ^ 28 % 16 = 5 ∧ s.ref.dpll ≠ 4) ∧
    (∃ (m : Requester) (v : Nat) (s : State) (c : Nat), s.Passes m Reg.RTU_SEL_CFG .write ∧ s.running 5 = true ∧ c < 4 ∧ v / 2 ^ 28 % 16 = c + 1 ∧ s.candEn c = true ∧ s.ref.sel ≠ some c ∧ s.ref.qual ≠ some c) :=
    ⟨⟨1, (qm1.set 17 (BitVec.ofNat 8 ((qmByte qm1 17 + 1) % 256))), inSt [(5, 0, 4)] S0, (by decide +kernel), (by decide +kernel), (by decide +kernel)⟩,
    ⟨1, qm1, { inSt [(5, 0, 4)] S0 with now := 70, ref := { S0.ref with cands := [{}, { pulse := some 5 }, {}, {}] } }, (by decide +kernel), (by decide +kernel), (by decide +kernel), (by decide +kernel)⟩,
    ⟨1, { inSt [(5, 0, 4)] S0 with ref := { S0.ref with cands := [{}, { missing := 3, ql := 4 }, {}, {}] } }, (by decide +kernel), (by decide +kernel), (by decide +kernel), (by decide +kernel)⟩,
    ⟨1, { inSt [(5, 0, 4)] S0 with ref := { S0.ref with cands := [{}, { missing := 4, ql := 4, qlValid := true }, {}, {}] } }, (by decide +kernel), (by decide +kernel), (by decide +kernel), (by decide +kernel)⟩,
    ⟨1, { at' [(Reg.RTU_C_CFG 2, 2 ^ 31)] (inSt [(5, 0, 4)] S0) with now := 5000, ref := { S0.ref with sel := some 1, dpll := 2, y := 3, cands := [{}, { ql := 4, qlValid := true, timeValid := true }, {}, {}] } }, (by decide +kernel), (by decide +kernel), (by decide +kernel), (by decide +kernel)⟩,
    ⟨1, { at' [(Reg.RTU_C_CFG 2, 2 ^ 31)] (inSt [(5, 0, 4)] S0) with now := 5000, ref := { S0.ref with sel := some 1, dpll := 2, y := 3, cands := [{}, { ql := 4, qlValid := true, timeValid := true }, {}, {}] } }, (by decide +kernel), (by decide +kernel), (by decide +kernel), (by decide +kernel)⟩,
    ⟨0, { at' [(Reg.RTU_C_CFG 2, 2 ^ 31)] (inSt [(5, 0, 4)] S0) with now := 5000, ref := { S0.ref with sel := some 1, dpll := 2, y := 3, cands := [{}, { ql := 4, qlValid := true, timeValid := true }, {}, {}] } }, (by decide +kernel), (by decide +kernel), (by decide +kernel), (by decide +kernel)⟩,
    ⟨0, { at' [(Reg.RTU_C_CFG 2, 2 ^ 31)] (inSt [(5, 0, 4)] S0) with now := 5000, ref := { S0.ref with sel := some 1, dpll := 2, y := 3, cands := [{}, { ql := 4, qlValid := true, timeValid := true }, {}, {}] } }, (by decide +kernel), (by decide +kernel), (by decide +kernel), (by decide +kernel)⟩,
    ⟨1, { at' [(Reg.RTU_C_CFG 2, 2 ^ 31)] (inSt [(5, 0, 4)] S0) with now := 5000, ref := { S0.ref with sel := some 1, dpll := 2, y := 3, cands := [{}, { ql := 4, qlValid := true, timeValid := true }, {}, {}] } }, (by decide +kernel), (by decide +kernel), (by decide +kernel)⟩,
    ⟨{ inSt [(5, 0, 4)] S0 with now := 5000, ref := { S0.ref with sel := some 1, dpll := 1 } }, (by decide +kernel), (by decide +kernel), (by decide +kernel), (by decide +kernel)⟩,
    ⟨{ inSt [(5, 0, 4)] S0 with now := 5000, ref := { S0.ref with sel := some 1, dpll := 1, drawing := true } }, (by decide +kernel)⟩,
    ⟨(0, 1, 7), { at' [(Reg.RTU_C_CFG 1, 2 ^ 31), (Reg.RTU_C_CFG 2, 2 ^ 31), (Reg.RTU_SEL_CFG, 2 ^ 16 + 60), (Reg.RTU_CFG, 0)] (inSt [(5, 0, 4)] S0) with now := 60000000006, ref := { S0.ref with sel := some 1, dpll := 2, wtr := some (0, 1, 7), cands := [{ ql := 11, qlValid := true, timeValid := true }, { ql := 4, qlValid := true, timeValid := true, seen := 3 }, {}, {}] } }, (by decide +kernel), (by decide +kernel), (by decide +kernel)⟩,
    ⟨(0, 1, 7), { at' [(Reg.RTU_C_CFG 1, 2 ^ 31), (Reg.RTU_C_CFG 2, 2 ^ 31), (Reg.RTU_SEL_CFG, 2 ^ 16 + 60), (Reg.RTU_CFG, 0)] (inSt [(5, 0, 4)] S0) with now := 60000000007, ref := { S0.ref with sel := some 1, dpll := 2, wtr := some (0, 1, 7), cands := [{ ql := 11, qlValid := true, timeValid := true }, { ql := 4, qlValid := true, timeValid := true, seen := 3 }, {}, {}] } }, 0, 1, (by decide +kernel), (by decide +kernel), (by decide +kernel), (by decide +kernel), (by decide +kernel), (by decide +kernel), (by decide +kernel), (by decide +kernel), (by decide +kernel), (by decide +kernel), (by decide +kernel), (by decide +kernel), (by decide +kernel), (by decide +kernel)⟩,
    ⟨1, 0, -10000000, 4000000, true, true, { at' [(Reg.RTU_C_CFG 2, 2 ^ 31), (Reg.RTU_C_QUAL 2, 4 * 2 ^ 16 + 10), (Reg.RTU_CFG, 0)] (inSt [(5, 0, 4)] S0) with now := 5000, ref := { S0.ref with qual := some 1, dpll := 3, cands := [{}, { ql := 4, qlValid := true, timeValid := true, lost := true }, {}, {}] } }, (by decide +kernel), (by decide +kernel), (by decide +kernel), (by decide +kernel), (by decide +kernel), (by decide +kernel)⟩,
    ⟨1, 0, -10000001, 4000000, true, true, { at' [(Reg.RTU_C_CFG 2, 2 ^ 31), (Reg.RTU_C_QUAL 2, 4 * 2 ^ 16 + 10), (Reg.RTU_CFG, 0)] (inSt [(5, 0, 4)] S0) with now := 5000, ref := { S0.ref with qual := some 1, dpll := 3, cands := [{}, { ql := 4, qlValid := true, timeValid := true, lost := true }, {}, {}] } }, (by decide +kernel), (by decide +kernel), (by decide +kernel), (by decide +kernel), (by decide +kernel)⟩,
    ⟨3, { inSt [(5, 0, 4)] S0 with ref := { S0.ref with cands := [{}, {}, {}, { disq := true }] } }, (by decide +kernel), (by decide +kernel)⟩,
    ⟨{ inSt [(5, 0, 4)] S0 with ref := { S0.ref with drawing := true, pbo := 7, add := 2, dpll := 1, sel := some 0 } }, (by decide +kernel)⟩,
    ⟨{ inSt [(5, 0, 4)] S0 with ref := { S0.ref with dpll := 3, inSpec := true } }, (by decide +kernel), (by decide +kernel)⟩,
    ⟨{ inSt [(5, 0, 4)] S0 with ref := { S0.ref with dpll := 3 } }, (by decide +kernel)⟩,
    ⟨5, { at' [(Reg.RTU_SLEW_CFG, 2 ^ 32 - 1)] (inSt [(5, 0, 4)] S0) with now := 1000000006, ref := { S0.ref with dpll := 1, sel := some 0, base := 900000, yAt := 1000000005, clampFrom := some 5 } }, (by decide +kernel), (by decide +kernel), (by decide +kernel)⟩,
    ⟨boot, { inSt [(5, 0, 4)] S0 with ref := { S0.ref with pbo := 6, sel := some 0, dpll := 1 } }, (passes_of (by decide +kernel))⟩,
    ⟨boot, 2 ^ 30, { at' [(Reg.RTU_C_CFG 2, 2 ^ 31)] (inSt [(5, 0, 4)] S0) with now := 5000, ref := { S0.ref with sel := some 1, dpll := 2, y := 3, cands := [{}, { ql := 4, qlValid := true, timeValid := true }, {}, {}] } }, (passes_of (by decide +kernel)), (by decide +kernel), (by decide +kernel)⟩,
    ⟨boot, 5 * 2 ^ 28, { at' [(Reg.RTU_C_CFG 2, 2 ^ 31)] (inSt [(5, 0, 4)] S0) with now := 5000, ref := { S0.ref with sel := some 1, dpll := 2, y := 3, cands := [{}, { ql := 4, qlValid := true, timeValid := true }, {}, {}] } }, (passes_of (by decide +kernel)), (by decide +kernel), (by decide +kernel), (by decide +kernel)⟩,
    ⟨boot, 2 ^ 28, { at' [(Reg.RTU_C_CFG 1, 2 ^ 31)] (inSt [(5, 0, 4)] S0) with now := 5000, ref := { S0.ref with sel := some 1, dpll := 2 } }, 0, (passes_of (by decide +kernel)), (by decide +kernel), (by decide +kernel), (by decide +kernel), (by decide +kernel), (by decide +kernel), (by decide +kernel)⟩⟩

/-- The hypotheses of each clause of TimingOutputsComplete are met. -/
theorem witness_TimingOutputsComplete :
    (∃ (m : Requester) (s : State), s.Passes m Reg.RTU_TIME_CMD .write ∧ s.mayStep = true) ∧
    (∃ (m : Requester) (s : State) (x : Nat), s.Passes m Reg.RTU_TIME_CMD .write ∧ s.mayStep = true ∧ s.refTime = some x) ∧
    (∃ (m : Requester) (s : State), s.Passes m Reg.RTU_TIME_CMD .write ∧ s.mayStep = true ∧ s.refTime = none) ∧
    (∃ (m : Requester) (s : State), s.Passes m Reg.RTU_TIME_CMD .write ∧ s.mayStep = false) ∧
    (∃ (m : Requester) (s : State), s.Passes m Reg.RTU_TIME_CMD .write ∧ s.mayStep = false) ∧
    (∃ (m : Requester) (v : Nat) (s : State), s.Passes m Reg.RTU_ACLK .write ∧ s.bit Reg.RTU_ACLK 31 ≠ v.testBit 31 ∧ (s.cur 14 = sOFF ∨ s.cur 14 = sISOLATED ∨ s.cur 14 = sIDLE)) ∧
    (∃ (m : Requester) (v : Nat) (s : State), s.Passes m Reg.RTU_ACLK .write ∧ s.bit Reg.RTU_ACLK 31 ≠ v.testBit 31 ∧ (¬ (s.cur 14 = sOFF ∨ s.cur 14 = sISOLATED ∨ s.cur 14 = sIDLE))) ∧
    (∃ (m : Requester) (v : Nat) (s : State), s.Passes m Reg.RTU_ACLK .write ∧ s.bit Reg.RTU_ACLK 31 = v.testBit 31) ∧
    (∃ (s : State), s.bit Reg.RTU_ACLK 1 = true) ∧
    (∃ (s : State), s.bit Reg.RTU_ACLK 1 = false) ∧
    (∃ (s : State), s.ref.held = true) ∧
    (∃ (s : State), s.ref.held = false) ∧
    (∃ (k : Nat) (s : State), k < 8 ∧ s.outActive k = true ∧ (s.toutMode k = 5 → (s.tout k).base.isSome = true)) ∧
    (∃ (k : Nat) (s : State), k < 8 ∧ s.outActive k = false) ∧
    (∃ (m : Requester) (k : Nat) (s : State), k < 8 ∧ s.ref.outs.length = 8 ∧ s.Passes m (Reg.RTU_O_OFFSET (5 + k)) .write) ∧
    (∃ (m : Requester) (k : Nat) (s : State), k < 8 ∧ s.ref.outs.length = 8 ∧ s.Passes m (Reg.RTU_O_CTRL (5 + k)) .write) ∧
    (∃ (n : Nat) (s : State), n < 2 ∧ s.ref.cands.length = 4 ∧ s.running 5 = true) ∧
    (∃ (n : Nat) (s : State), n < 2 ∧ s.ref.cands.length = 4 ∧ s.running 5 = false) ∧
    (∃ (m : Requester) (s : State), s.Passes m Reg.RTU_TIC_CFG .write ∧ s.running 5 = true) ∧
    (∃ (src : Nat) (bin : Nat) (s : State), src < 16 ∧ bin < 250 ∧ s.running 5 = true ∧ s.ref.ticArmed = true ∧ s.ref.ticStop = none ∧ s.ref.ticStart = none ∧ s.fld Reg.RTU_TIC_CFG 27 24 = src ∧ s.fld Reg.RTU_TIC_CFG 23 20 ≠ src) ∧
    (∃ (src : Nat) (tick : Nat) (bin : Nat) (s : State) (a : Int) (d : Int), src < 16 ∧ bin < 250 ∧ s.running 5 = true ∧ s.ref.ticArmed = true ∧ s.ref.ticStop = none ∧ s.ref.ticStart = some a ∧ s.fld Reg.RTU_TIC_CFG 23 20 = src ∧ d = s.ticStamp src tick bin - a) ∧
    (∃ (s : State), s.ref.ticArmed = true ∧ (s.ref.ticStart.isSome || s.ref.ticStop.isSome) = true) ∧
    (∃ (s : State), s.ref.ticArmed = false) ∧
    (∃ (counts : List Nat) (s : State), s.running 5 = true ∧ s.bit Reg.RTU_TIC_CFG 29 = true ∧ counts.sum = 2 ^ 20) :=
    ⟨⟨boot, at' [(Reg.RTU_TIME_SET_SEC_HI, 65535), (Reg.RTU_TIME_SET_SEC_LO, 5), (Reg.RTU_TIME_SET_NS, 999999999)] (inSt [(5, 0, 4)] S0), (passes_of (by decide +kernel)), (by decide +kernel)⟩,
    ⟨boot, { inSt [(5, 0, 4)] S0 with now := 77, ref := { S0.ref with sel := some 0, phase := -5000 } }, ({ inSt [(5, 0, 4)] S0 with now := 77, ref := { S0.ref with sel := some 0, phase := -5000 } }).now - 5, (passes_of (by decide +kernel)), (by decide +kernel), (by decide +kernel)⟩,
    ⟨boot, { inSt [(5, 0, 4)] S0 with now := 77, ref := { S0.ref with sel := none, phase := -5000 } }, (passes_of (by decide +kernel)), (by decide +kernel), (by decide +kernel)⟩,
    ⟨boot, at' [(Reg.RTU_TIME_SET_SEC_HI, 65535), (Reg.RTU_TIME_SET_SEC_LO, 5), (Reg.RTU_TIME_SET_NS, 999999999)] (inSt [(5, 0, 4), (9, 0, 4)] S0), (passes_of (by decide +kernel)), (by decide +kernel)⟩,
    ⟨boot, at' [(Reg.RTU_TIME_SET_SEC_HI, 65535), (Reg.RTU_TIME_SET_SEC_LO, 5), (Reg.RTU_TIME_SET_NS, 999999999)] (inSt [(5, 0, 4), (9, 0, 4)] S0), (passes_of (by decide +kernel)), (by decide +kernel)⟩,
    ⟨boot, 2 ^ 31, at' [(Reg.RTU_ACLK, 1)] (inSt [(14, 0, 3)] S0), (passes_of (by decide +kernel)), (by decide +kernel), (by decide +kernel)⟩,
    ⟨boot, 2 ^ 31, at' [(Reg.RTU_ACLK, 1)] (inSt [(14, 0, 4)] S0), (passes_of (by decide +kernel)), (by decide +kernel), (by decide +kernel)⟩,
    ⟨boot, 5, at' [(Reg.RTU_ACLK, 1)] (inSt [(14, 0, 4)] S0), (passes_of (by decide +kernel)), (by decide +kernel)⟩,
    ⟨at' [(Reg.RTU_ACLK, 2 ^ 31 + 2)] S0, (by decide +kernel)⟩,
    ⟨at' [(Reg.RTU_ACLK, 1)] (inSt [(14, 0, 4)] S0), (by decide +kernel)⟩,
    ⟨{ inSt [(5, 0, 4)] S0 with now := 9, ref := { S0.ref with held := true } }, (by decide +kernel)⟩,
    ⟨{ inSt [(5, 0, 4)] S0 with ref := { S0.ref with held := false } }, (by decide +kernel)⟩,
    ⟨7, { at' [(Reg.RTU_O_CFG 12, 2 ^ 31 + 5 * 2 ^ 28)] (inSt [(5, 0, 4)] S0) with now := 5000, ref := { S0.ref with outs := [{}, {}, {}, {}, {}, {}, {}, { base := some 6 }] } }, (by decide +kernel), (by decide +kernel), (by decide +kernel)⟩,
    ⟨7, at' [(Reg.RTU_O_CFG 12, 2 ^ 31 + 6 * 2 ^ 28)] (inSt [(5, 0, 4)] S0), (by decide +kernel), (by decide +kernel)⟩,
    ⟨boot, 7, { S0 with now := 8 }, (by decide +kernel), (by decide +kernel), (passes_of (by decide +kernel))⟩,
    ⟨boot, 7, S0, (by decide +kernel), (by decide +kernel), (passes_of (by decide +kernel))⟩,
    ⟨1, { at' [(Reg.RTU_O_CFG 5, 2 ^ 31 + 5 * 2 ^ 28), (Reg.RTU_O_CFG 12, 2 ^ 31 + 5 * 2 ^ 28)] (inSt [(5, 0, 4)] S0) with ref := { S0.ref with outs := [{ base := some 6 }, {}, {}, {}, {}, {}, {}, { base := some 7, realign := true }] } }, (by decide +kernel), (by decide +kernel), (by decide +kernel)⟩,
    ⟨1, inSt [(5, 0, 3)] S0, (by decide +kernel), (by decide +kernel), (by decide +kernel)⟩,
    ⟨boot, { inSt [(5, 0, 4)] S0 with ref := { S0.ref with ticStart := some 5 } }, (passes_of (by decide +kernel)), (by decide +kernel)⟩,
    ⟨15, 249, { at' [(Reg.RTU_TIC_CFG, 15 * 2 ^ 24 + 14 * 2 ^ 20)] (inSt [(5, 0, 4)] S0) with ref := { S0.ref with ticArmed := true } }, (by decide +kernel), (by decide +kernel), (by decide +kernel), (by decide +kernel), (by decide +kernel), (by decide +kernel), (by decide +kernel), (by decide +kernel)⟩,
    ⟨14, 99, 249, { at' [(Reg.RTU_TIC_CFG, 2 ^ 30 + 15 * 2 ^ 24 + 14 * 2 ^ 20), (Reg.RTU_TIC_PERIOD, 40000)] (inSt [(5, 0, 4)] S0) with ref := { S0.ref with ticArmed := true, ticStart := some 2000000 } }, 2000000, ({ at' [(Reg.RTU_TIC_CFG, 2 ^ 30 + 15 * 2 ^ 24 + 14 * 2 ^ 20), (Reg.RTU_TIC_PERIOD, 40000)] (inSt [(5, 0, 4)] S0) with ref := { S0.ref with ticArmed := true, ticStart := some 2000000 } }).ticStamp 14 99 249 - 2000000, (by decide +kernel), (by decide +kernel), (by decide +kernel), (by decide +kernel), (by decide +kernel), (by decide +kernel), (by decide +kernel), (by decide +kernel)⟩,
    ⟨{ at' [(Reg.RTU_TIC_CFG, 2 ^ 30)] (inSt [(5, 0, 4)] S0) with ref := { S0.ref with ticArmed := true, ticStop := some 5 } }, (by decide +kernel), (by decide +kernel)⟩,
    ⟨{ inSt [(5, 0, 4)] S0 with ref := { S0.ref with ticStop := some 5 } }, (by decide +kernel)⟩,
    ⟨[2 ^ 19] ++ List.replicate 247 0 ++ [2 ^ 18, 2 ^ 18], at' [(Reg.RTU_TIC_CFG, 2 ^ 29)] (inSt [(5, 0, 4)] S0), (by decide +kernel), (by decide +kernel), (by decide +kernel)⟩⟩

/-- The hypotheses of each clause of PtpCompletes are met. -/
theorem witness_PtpCompletes :
    (∃ (p : Nat) (s : State), p < 8 ∧ s.ref.ports.length = 8 ∧ s.ptpOn p = true ∧ s.portSt p = 6) ∧
    (∃ (p : Nat) (s : State), p < 8 ∧ s.ptpOn p = true ∧ s.portSt p = 6) ∧
    (∃ (p : Nat) (s : State), p < 8 ∧ s.ptpOn p = true ∧ s.portSt p = 6 ∧ s.bit Reg.RTU_PTP_CFG 0 = true ∧ s.isGm = true) ∧
    (∃ (p : Nat) (s : State), p < 8 ∧ s.ptpOn p = true ∧ s.portSt p = 6) ∧
    (∃ (p : Nat) (s : State), p < 8 ∧ s.portSt p ≠ 6) ∧
    (∃ (p : Nat) (s : State), p < 8 ∧ s.portSt p ≠ 6) ∧
    (∃ (p : Nat) (sender : Nat) (port : Nat) (s : State), p < 8 ∧ s.ref.ports.length = 8 ∧ s.ptpOn p = true ∧ s.portSt p = 9 ∧ (s.ptpPort p).parent = some (sender, port)) ∧
    (∃ (p : Nat) (s : State), p < 8 ∧ s.ptpOn p = true) ∧
    (∃ (p : Nat) (sender : Nat) (port : Nat) (seq : Nat) (t2 : Nat) (c0 : Int) (s : State), p < 8 ∧ s.ref.ports.length = 8 ∧ s.ptpOn p = true ∧ (s.ptpPort p).parent = some (sender, port) ∧ (s.ptpPort p).open' = some (seq, t2, c0)) ∧
    (∃ (p : Nat) (s : State), p < 8 ∧ s.ref.ports.length = 8 ∧ s.ptpOn p = true ∧ s.portSt p = 9) ∧
    (∃ (p : Nat) (sender : Nat) (port : Nat) (seq : Nat) (t1 : Nat) (t2 : Nat) (t3 : Nat) (t4 : Nat) (c : Int) (corr : Int) (s : State) (down : Int) (up : Int), p < 8 ∧ s.ref.ports.length = 8 ∧ s.ptpOn p = true ∧ s.portSt p = 9 ∧ (s.ptpPort p).parent = some (sender, port) ∧ (s.ptpPort p).sync = some (t1, t2, c) ∧ (s.ptpPort p).dreq = some (seq, t3) ∧ down = (t2 : Int) - t1 - c ∧ up = (t4 : Int) - t3 - corr) ∧
    (∃ (p : Nat) (s : State), p < 8 ∧ s.ref.ports.length = 8 ∧ s.ptpOn p = true) ∧
    (∃ (p : Nat) (s : State), p < 8 ∧ s.ref.ports.length = 8 ∧ s.ptpOn p = true) ∧
    (∃ (p : Nat) (s : State), p < 8 ∧ s.ref.ports.length = 8 ∧ s.ptpOn p = false) ∧
    (∃ (p : Nat) (d : Nat) (s : State), p < 8 ∧ s.running 5 = true ∧ s.ptpRole ≠ 0 ∧ s.ptpOn p = true ∧ (∀ q, q < 8 → q ≠ p → s.ptpOn q = false ∧ s.portSt q = 3) ∧ s.portDecision p s.clockBest = (d, false) ∧ (d = 9 → s.clockBest.isSome = true) ∧ s.pairState ≠ 3) ∧
    (∃ (s : State), (s.running 5 = false ∨ s.ptpRole = 0)) :=
    ⟨⟨7, { at' [(Reg.RTU_P_CFG 23, 2 ^ 31), (Reg.RTU_PTP_CFG, 2 * 2 ^ 30 + 1), (Reg.RTU_P_STATE 23, 6)] (inSt [(5, 0, 4)] S0) with now := 5000, ref := { S0.ref with ports := [{}, {}, {}, {}, {}, {}, {}, { syncSeq := 65535 }] } }, (by decide +kernel), (by decide +kernel), (by decide +kernel), (by decide +kernel)⟩,
    ⟨7, { at' [(Reg.RTU_P_CFG 23, 2 ^ 31), (Reg.RTU_PTP_CFG, 2 * 2 ^ 30 + 1), (Reg.RTU_P_STATE 23, 6)] (inSt [(5, 0, 4)] S0) with now := 5000, ref := { S0.ref with ports := [{}, {}, {}, {}, {}, {}, {}, { annSeq := 65535 }] } }, (by decide +kernel), (by decide +kernel), (by decide +kernel)⟩,
    ⟨7, { at' [(Reg.RTU_P_CFG 23, 2 ^ 31), (Reg.RTU_PTP_CFG, 2 * 2 ^ 30 + 1), (Reg.RTU_P_STATE 23, 6)] (inSt [(5, 0, 4)] S0) with now := 5000 }, (by decide +kernel), (by decide +kernel), (by decide +kernel), (by decide +kernel), (by decide +kernel)⟩,
    ⟨7, { at' [(Reg.RTU_P_CFG 23, 2 ^ 31), (Reg.RTU_PTP_CFG, 2 * 2 ^ 30 + 1), (Reg.RTU_P_STATE 23, 6)] (inSt [(5, 0, 4)] S0) with now := 5000 }, (by decide +kernel), (by decide +kernel), (by decide +kernel)⟩,
    ⟨7, { at' [(Reg.RTU_P_CFG 23, 2 ^ 31), (Reg.RTU_PTP_CFG, 2 * 2 ^ 30 + 1), (Reg.RTU_P_STATE 23, 9)] (inSt [(5, 0, 4)] S0) with now := 5000 }, (by decide +kernel), (by decide +kernel)⟩,
    ⟨7, { at' [(Reg.RTU_P_CFG 23, 2 ^ 31), (Reg.RTU_PTP_CFG, 2 * 2 ^ 30 + 1), (Reg.RTU_P_STATE 23, 9)] (inSt [(5, 0, 4)] S0) with now := 5000 }, (by decide +kernel), (by decide +kernel)⟩,
    ⟨7, 5, 2, { at' [(Reg.RTU_P_CFG 23, 2 ^ 31), (Reg.RTU_PTP_CFG, 2 * 2 ^ 30 + 1), (Reg.RTU_P_STATE 23, 9)] (inSt [(5, 0, 4)] S0) with now := 5000, ref := { S0.ref with ports := [{}, {}, {}, {}, {}, {}, {}, { parent := some (5, 2) }] } }, (by decide +kernel), (by decide +kernel), (by decide +kernel), (by decide +kernel), (by decide +kernel)⟩,
    ⟨7, { at' [(Reg.RTU_P_CFG 23, 2 ^ 31), (Reg.RTU_PTP_CFG, 2 * 2 ^ 30 + 1), (Reg.RTU_P_STATE 23, 9)] (inSt [(5, 0, 4)] S0) with now := 5000, ref := { S0.ref with ports := [{}, {}, {}, {}, {}, {}, {}, { parent := some (5, 2) }] } }, (by decide +kernel), (by decide +kernel)⟩,
    ⟨7, 5, 2, 9, 88, 4, { at' [(Reg.RTU_P_CFG 23, 2 ^ 31), (Reg.RTU_PTP_CFG, 2 * 2 ^ 30 + 1), (Reg.RTU_P_STATE 23, 9)] (inSt [(5, 0, 4)] S0) with now := 5000, ref := { S0.ref with ports := [{}, {}, {}, {}, {}, {}, {}, { parent := some (5, 2), open' := some (9, 88, 4) }] } }, (by decide +kernel), (by decide +kernel), (by decide +kernel), (by decide +kernel), (by decide +kernel)⟩,
    ⟨7, { at' [(Reg.RTU_P_CFG 23, 2 ^ 31), (Reg.RTU_PTP_CFG, 2 * 2 ^ 30 + 1), (Reg.RTU_P_STATE 23, 9)] (inSt [(5, 0, 4)] S0) with now := 5000, ref := { S0.ref with ports := [{}, {}, {}, {}, {}, {}, {}, { dreqSeq := 65535 }] } }, (by decide +kernel), (by decide +kernel), (by decide +kernel), (by decide +kernel)⟩,
    ⟨7, 5, 2, 9, 33, 88, 100, 150, 4, -3, { at' [(Reg.RTU_P_CFG 23, 2 ^ 31), (Reg.RTU_PTP_CFG, 2 * 2 ^ 30 + 1), (Reg.RTU_P_STATE 23, 9), (Reg.RTU_PTP_FILT, 2)] (inSt [(5, 0, 4)] S0) with now := 5000, ref := { S0.ref with ports := [{}, {}, {}, {}, {}, {}, {}, { parent := some (5, 2), sync := some (33, 88, 4), dreq := some (9, 100) }] } }, (88 : Int) - 33 - 4, (150 : Int) - 100 - -3, (by decide +kernel), (by decide +kernel), (by decide +kernel), (by decide +kernel), (by decide +kernel), (by decide +kernel), (by decide +kernel), (by decide +kernel), (by decide +kernel)⟩,
    ⟨7, { at' [(Reg.RTU_P_CFG 23, 2 ^ 31), (Reg.RTU_PTP_CFG, 2 * 2 ^ 30 + 1), (Reg.RTU_P_STATE 23, 9)] (inSt [(5, 0, 4)] S0) with now := 5000, ref := { S0.ref with ports := [{}, {}, {}, {}, {}, {}, {}, { foreign := [⟨5, 2, (⟨128, 6, 0x21, 100, 128, 5, 1, 0x20, 37⟩ : PtpDs), 1, none⟩, ⟨6, 2, (⟨128, 6, 0x21, 100, 128, 5, 1, 0x20, 37⟩ : PtpDs), 1, none⟩] }] } }, (by decide +kernel), (by decide +kernel), (by decide +kernel)⟩,
    ⟨7, { at' [(Reg.RTU_P_CFG 23, 2 ^ 31), (Reg.RTU_PTP_CFG, 2 * 2 ^ 30 + 1), (Reg.RTU_P_STATE 23, 9)] (inSt [(5, 0, 4)] S0) with now := 5000, ref := { S0.ref with ports := [{}, {}, {}, {}, {}, {}, {}, { foreign := [⟨5, 2, (⟨128, 6, 0x21, 100, 128, 5, 1, 0x20, 37⟩ : PtpDs), 1, none⟩] }] } }, (by decide +kernel), (by decide +kernel), (by decide +kernel)⟩,
    ⟨7, inSt [(5, 0, 3)] S0, (by decide +kernel), (by decide +kernel), (by decide +kernel)⟩,
    ⟨7, 9, { at' [(Reg.RTU_P_CFG 16, 0), (Reg.RTU_P_STATE 16, 3), (Reg.RTU_P_CFG 17, 0), (Reg.RTU_P_STATE 17, 3), (Reg.RTU_P_CFG 18, 0), (Reg.RTU_P_STATE 18, 3), (Reg.RTU_P_CFG 19, 0), (Reg.RTU_P_STATE 19, 3), (Reg.RTU_P_CFG 20, 0), (Reg.RTU_P_STATE 20, 3), (Reg.RTU_P_CFG 21, 0), (Reg.RTU_P_STATE 21, 3), (Reg.RTU_P_CFG 22, 0), (Reg.RTU_P_STATE 22, 3), (Reg.RTU_P_CFG 23, 2 ^ 31), (Reg.RTU_PTP_CFG, 1 * 2 ^ 30), (Reg.RTU_P_STATE 23, 4)] (inSt [(5, 0, 4)] S0) with now := 5000, ref := { S0.ref with ports := [{}, {}, {}, {}, {}, {}, {}, { foreign := [⟨5, 2, (⟨128, 6, 0x21, 100, 128, 5, 1, 0x20, 37⟩ : PtpDs), 4999, some 3000⟩] }] } }, (by decide +kernel), (by decide +kernel), (by decide +kernel), (by decide +kernel), (by decide +kernel), (by decide +kernel), (by decide +kernel), (by decide +kernel)⟩,
    ⟨at' [(Reg.RTU_PTP_CFG, 0)] (inSt [(5, 0, 4)] S0), (by decide +kernel)⟩⟩

/-- The hypotheses of each clause of BusCompletes are met. -/
theorem witness_BusCompletes :
    (∃ (m : Requester) (k : TxnKind) (a : Nat) (len : Nat) (s : State), s.inHold = false ∧ s.noFetch m a k = false ∧ s.gate m a len k = none) ∧
    (∃ (m : Requester) (k : TxnKind) (a : Nat) (len : Nat) (s : State) (r : Resp) (n : Nat), s.inHold = false ∧ s.noFetch m a k = false ∧ s.gate m a len k = some (r, n)) ∧
    (∃ (g : Nat) (x : Txn) (s : State), s.inHold = false ∧ s.grantPick g = some x ∧ isSram x.addr = true ∧ x.len ≤ 1024 ∧ x.restLen = 0 ∧ x.done = 0 ∧ x.late = false ∧ x.orphan = false ∧ s.now - x.entered ≤ s.fld (Reg.BMX_M_CFG (x.who.num + 1)) 23 16 * 1000 ∧ x.kind = .write) ∧
    (∃ (g : Nat) (e : Ecc) (x : Txn) (s : State), s.inHold = false ∧ s.grantPick g = some x ∧ isSram x.addr = true ∧ x.len ≤ 1024 ∧ x.restLen = 0 ∧ x.done = 0 ∧ x.late = false ∧ x.orphan = false ∧ s.now - x.entered ≤ s.fld (Reg.BMX_M_CFG (x.who.num + 1)) 23 16 * 1000 ∧ x.kind = .read ∧ e = .clean) ∧
    (∃ (g : Nat) (s : State), s.grantPick g = none) ∧
    (∃ (m : Nat) (s : State) (x : Txn), s.bus.between.find? (fun x => x.who.num == m) = some x ∧ s.depth (targetNo x.addr) < 32) ∧
    (∃ (m : Nat) (s : State), s.bus.between.find? (fun x => x.who.num == m) = none) ∧
    (∃ (m : Nat) (k : Nat) (n : Nat) (x : Txn) (s : State), m ≠ 5 ∧ s.bus.retrying.find? (fun r => r.1 == m) = some (k, x, n) ∧ s.gate x.who x.addr x.len x.kind = none) ∧
    (∃ (m : Nat) (k : Nat) (n : Nat) (x : Txn) (s : State) (reason : Nat), m ≠ 5 ∧ s.bus.retrying.find? (fun r => r.1 == m) = some (k, x, n) ∧ s.gate x.who x.addr x.len x.kind = some (.retry, reason) ∧ n + 1 < s.fld (Reg.BMX_M_CFG (x.who.num + 1)) 15 12) ∧
    (∃ (m : Nat) (s : State), s.bus.retrying.find? (fun r => r.1 == m) = none) ∧
    (∃ (m : Requester) (a : Nat) (len : Nat) (s : State), 1 ≤ m.num ∧ m.num ≤ 4 ∧ s.inHold = false ∧ s.gate m a len .lr = none) ∧
    (∃ (m : Requester) (a : Nat) (len : Nat) (s : State), 1 ≤ m.num ∧ m.num ≤ 4 ∧ s.inHold = false ∧ s.gate m a len .sc = none ∧ (m.num - 1, a / 64) ∈ s.bus.resv) ∧
    (∃ (m : Requester) (a : Nat) (len : Nat) (s : State), 1 ≤ m.num ∧ m.num ≤ 4 ∧ s.inHold = false ∧ s.gate m a len .sc = none ∧ (m.num - 1, a / 64) ∉ s.bus.resv) ∧
    (∃ (m : Requester) (op : AmoOp) (a : Nat) (len : Nat) (s : State), s.inHold = false ∧ s.gate m a len (.amo op) = none) ∧
    (∃ (h : Nat), h < 4) :=
    ⟨⟨app, .write, 0x103FFFF8, 8, { coreState S0 with now := 9 }, (by decide +kernel), (by decide +kernel), (by decide +kernel)⟩,
    ⟨app, .read, 0x10400000, 8, coreState S0, .decode, 0, (by decide +kernel), (by decide +kernel), (by decide +kernel)⟩,
    ⟨4, txn1 .write 8, { S0 with now := 70, bus := { S0.bus with queue := [{ txn1 .fetch 4 with target := 3 }, txn1 .write 8] } }, (by decide +kernel), (by decide +kernel), (by decide +kernel), (by decide +kernel), (by decide +kernel), (by decide +kernel), (by decide +kernel), (by decide +kernel), (by decide +kernel), (by decide +kernel)⟩,
    ⟨4, .clean, txn1 .read 8, ({ S0 with now := 70, bus := { S0.bus with queue := [{ txn1 .fetch 4 with target := 3 }, txn1 .read 8] } }).wrByte 0x10300FFF 7#8, (by decide +kernel), (by decide +kernel), (by decide +kernel), (by decide +kernel), (by decide +kernel), (by decide +kernel), (by decide +kernel), (by decide +kernel), (by decide +kernel), (by decide +kernel), (by decide +kernel)⟩,
    ⟨5, { S0 with now := 70, bus := { S0.bus with queue := [{ txn1 .fetch 4 with target := 3 }, txn1 .write 8] } }, (by decide +kernel)⟩,
    ⟨0, { S0 with now := 9, bus := { S0.bus with between := [{ txn1 .write 1024 with restLen := 1025 }] } }, { txn1 .write 1024 with restLen := 1025 }, (by decide +kernel), (by decide +kernel)⟩,
    ⟨1, S0, (by decide +kernel)⟩,
    ⟨4, 4, 2, { txn1 .write 8 with who := app }, { coreState S0 with bus := { S0.bus with retrying := [(4, { txn1 .write 8 with who := app }, 2)] } }, (by decide +kernel), (by decide +kernel), (by decide +kernel)⟩,
    ⟨4, 4, 2, { txn1 .write 8 with who := app }, { at' [(Reg.BMX_M_CFG 5, 15 * 2 ^ 12)] (coreState S0) with bus := { S0.bus with retrying := [(4, { txn1 .write 8 with who := app }, 2)], queue := List.replicate 32 (txn1 .read 4) } }, 1, (by decide +kernel), (by decide +kernel), (by decide +kernel), (by decide +kernel)⟩,
    ⟨3, S0, (by decide +kernel)⟩,
    ⟨app, 0x10300FF8, 8, (coreState S0).wrByte 0x10300FFF 7#8, (by decide +kernel), (by decide +kernel), (by decide +kernel), (by decide +kernel)⟩,
    ⟨app, 0x10300FF8, 8, { coreState S0 with bus := { S0.bus with resv := [(3, 0x10300FF8 / 64), (0, 0x10300FF8 / 64)] } }, (by decide +kernel), (by decide +kernel), (by decide +kernel), (by decide +kernel), (by decide +kernel)⟩,
    ⟨app, 0x10300FF8, 8, { coreState S0 with bus := { S0.bus with resv := [(3, 5), (0, 0x10300FF8 / 64)] } }, (by decide +kernel), (by decide +kernel), (by decide +kernel), (by decide +kernel), (by decide +kernel)⟩,
    ⟨app, .min, 0x10300FF8, 8, (coreState S0).wrByte 0x10300FFF 7#8, (by decide +kernel), (by decide +kernel)⟩,
    ⟨3, (by decide +kernel)⟩⟩

/-- The hypotheses of each clause of HostPathsComplete are met. -/
theorem witness_HostPathsComplete :
    (∃ (bar2 : Bool) (offset : Nat) (len : Nat) (a : Nat) (s : State) (u : State), s.inHold = false ∧ s.board.pcieUp = true ∧ a = (if bar2 then 0x1000000000 + offset % 2 ^ 36 else 0x40000000 + offset % 2 ^ 28) ∧ requestPieces a len = [(a, len)] ∧ s.gate hostReq a len .read = none ∧ u = s.accessNow hostReq .read a len 0 .clean) ∧
    (∃ (bar2 : Bool) (offset : Nat) (len : Nat) (a : Nat) (s : State), s.inHold = false ∧ s.board.pcieUp = true ∧ a = (if bar2 then 0x1000000000 + offset % 2 ^ 36 else 0x40000000 + offset % 2 ^ 28) ∧ requestPieces a len = [(a, len)] ∧ s.gate hostReq a len .write = none) ∧
    (∃ (bar2 : Bool) (offset : Nat) (len : Nat) (a : Nat) (s : State) (n : Nat), s.inHold = false ∧ s.board.pcieUp = true ∧ a = (if bar2 then 0x1000000000 + offset % 2 ^ 36 else 0x40000000 + offset % 2 ^ 28) ∧ requestPieces a len = [(a, len)] ∧ s.gate hostReq a len .read = some (.decode, n)) ∧
    (∃ (bar2 : Bool) (offset : Nat) (len : Nat) (a : Nat) (s : State) (n : Nat), s.inHold = false ∧ s.board.pcieUp = true ∧ a = (if bar2 then 0x1000000000 + offset % 2 ^ 36 else 0x40000000 + offset % 2 ^ 28) ∧ requestPieces a len = [(a, len)] ∧ s.gate hostReq a len .read = some (.secure, n)) ∧
    (∃ (bar2 : Bool) (offset : Nat) (len : Nat) (a : Nat) (s : State) (n : Nat), s.inHold = false ∧ s.board.pcieUp = true ∧ a = (if bar2 then 0x1000000000 + offset % 2 ^ 36 else 0x40000000 + offset % 2 ^ 28) ∧ requestPieces a len = [(a, len)] ∧ s.gate hostReq a len .read = some (.absent, n)) ∧
    (∃ (bar2 : Bool) (offset : Nat) (len : Nat) (a : Nat) (s : State) (n : Nat), s.inHold = false ∧ s.board.pcieUp = true ∧ a = (if bar2 then 0x1000000000 + offset % 2 ^ 36 else 0x40000000 + offset % 2 ^ 28) ∧ requestPieces a len = [(a, len)] ∧ s.gate hostReq a len .read = some (.retry, n)) ∧
    (∃ (s : State), (s.inHold = true ∨ s.board.pcieUp = false)) ∧
    (∃ (x : Txn) (n : Nat) (s : State), s.bus.retrying = [(5, x, n)] ∧ x.kind = .read ∧ x.done = 0 ∧ x.data = 0 ∧ requestPieces x.addr x.len = [(x.addr, x.len)] ∧ s.inHold = false ∧ s.gate hostReq x.addr x.len .read = none) ∧
    (∃ (up : Bool) (s : State), up = true ∧ s.board.pcieDis = false) ∧
    (∃ (up : Bool) (s : State), (up = false ∨ s.board.pcieDis = true)) ∧
    (∃ (seq : Nat) (waddr : Nat) (n : Nat) (s : State) (u : State), s.inHold = false ∧ 96 ≤ n ∧ s.board.mspiSeq ≠ some (seq % 65536) ∧ u = (s.mspiShift.mspiSurplus n).accessNow mspiReq .read (mspiAddr waddr) 4 0 .clean) ∧
    (∃ (seq : Nat) (waddr : Nat) (data : Nat) (n : Nat) (s : State) (u : State), s.inHold = false ∧ 96 ≤ n ∧ s.board.mspiSeq ≠ some (seq % 65536) ∧ u = (s.mspiShift.mspiSurplus n).accessNow mspiReq .write (mspiAddr waddr) 4 (data % 2 ^ 32) .clean) ∧
    (∃ (seq : Nat) (n : Nat) (s : State), s.inHold = false ∧ 96 ≤ n ∧ s.board.mspiSeq ≠ some (seq % 65536)) ∧
    (∃ (seq : Nat) (n : Nat) (s : State), s.inHold = false ∧ 96 ≤ n ∧ s.board.mspiSeq = some (seq % 65536)) ∧
    (∃ (seq : Nat) (n : Nat) (s : State), s.inHold = false ∧ 96 ≤ n ∧ s.board.mspiSeq = some (seq % 65536)) ∧
    (∃ (n : Nat) (s : State), s.inHold = false ∧ 96 ≤ n) ∧
    (∃ (n : Nat) (s : State), s.inHold = false ∧ 0 < n ∧ n < 96 ∧ n % 8 = 0) ∧
    (∃ (n : Nat) (s : State), s.inHold = false ∧ 0 < n ∧ n < 96 ∧ n % 8 ≠ 0) ∧
    (∃ (s : State), s.inHold = false) ∧
    (∃ (s : State), s.inHold = false) :=
    ⟨⟨true, 2 ^ 36 + 0x7FFFFFFF8, 8, (if true then 0x1000000000 + (2 ^ 36 + 0x7FFFFFFF8) % 2 ^ 36 else 0x40000000 + (2 ^ 36 + 0x7FFFFFFF8) % 2 ^ 28), ({ storeState S0 with board := { S0.board with pcieUp := true } }).wrByte 0x17FFFFFFFF 9#8, (({ storeState S0 with board := { S0.board with pcieUp := true } }).wrByte 0x17FFFFFFFF 9#8).accessNow hostReq .read ((if true then 0x1000000000 + (2 ^ 36 + 0x7FFFFFFF8) % 2 ^ 36 else 0x40000000 + (2 ^ 36 + 0x7FFFFFFF8) % 2 ^ 28)) 8 0 .clean, (by decide +kernel), (by decide +kernel), rfl, (by decide +kernel), (by decide +kernel), rfl⟩,
    ⟨true, 2 ^ 36 + 0x7FFFFFFF8, 8, (if true then 0x1000000000 + (2 ^ 36 + 0x7FFFFFFF8) % 2 ^ 36 else 0x40000000 + (2 ^ 36 + 0x7FFFFFFF8) % 2 ^ 28), { storeState S0 with board := { S0.board with pcieUp := true } }, (by decide +kernel), (by decide +kernel), rfl, (by decide +kernel), (by decide +kernel)⟩,
    ⟨false, 0x0FFFFFFC, 4, (if false then 0x1000000000 + 0x0FFFFFFC % 2 ^ 36 else 0x40000000 + 0x0FFFFFFC % 2 ^ 28), { storeState S0 with board := { S0.board with pcieUp := true } }, 0, (by decide +kernel), (by decide +kernel), rfl, (by decide +kernel), (by decide +kernel)⟩,
    ⟨true, 8, 8, (if true then 0x1000000000 + 8 % 2 ^ 36 else 0x40000000 + 8 % 2 ^ 28), { inSt [(11, 0, 4)] S0 with board := { S0.board with pcieUp := true } }, 0, (by decide +kernel), (by decide +kernel), rfl, (by decide +kernel), (by decide +kernel)⟩,
    ⟨true, 8, 8, (if true then 0x1000000000 + 8 % 2 ^ 36 else 0x40000000 + 8 % 2 ^ 28), inSt [(11, 0, 1)] ({ storeState S0 with board := { S0.board with pcieUp := true } }), 0, (by decide +kernel), (by decide +kernel), rfl, (by decide +kernel), (by decide +kernel)⟩,
    ⟨true, 8, 8, (if true then 0x1000000000 + 8 % 2 ^ 36 else 0x40000000 + 8 % 2 ^ 28), { storeState S0 with board := { S0.board with pcieUp := true }, bus := { S0.bus with queue := List.replicate 32 { txn1 .read 4 with addr := 0x1000000000, target := 22 } } }, 1, (by decide +kernel), (by decide +kernel), rfl, (by decide +kernel), (by decide +kernel)⟩,
    ⟨{ storeState S0 with board := { S0.board with pcieUp := false } }, (by decide +kernel)⟩,
    ⟨{ txn1 .read 8 with who := hostReq, addr := 0x1000000008, target := 22, data := 0 }, 50, { { storeState S0 with board := { S0.board with pcieUp := true } } with bus := { S0.bus with retrying := [(5, { txn1 .read 8 with who := hostReq, addr := 0x1000000008, target := 22, data := 0 }, 50)] } }, (by decide +kernel), (by decide +kernel), (by decide +kernel), (by decide +kernel), (by decide +kernel), (by decide +kernel), (by decide +kernel)⟩,
    ⟨true, { S0 with board := { S0.board with pcieDis := false } }, (by decide +kernel), (by decide +kernel)⟩,
    ⟨true, { { storeState S0 with board := { S0.board with pcieUp := true } } with board := { S0.board with pcieDis := true, pcieUp := true } }, (by decide +kernel)⟩,
    ⟨65541, 2 ^ 26 + 1, 97, S0, (S0.mspiShift.mspiSurplus 97).accessNow mspiReq .read (mspiAddr (2 ^ 26 + 1)) 4 0 .clean, (by decide +kernel), (by decide +kernel), (by decide +kernel), rfl⟩,
    ⟨65541, 2 ^ 26 + 1, 9, 96, S0, (S0.mspiShift.mspiSurplus 96).accessNow mspiReq .write (mspiAddr (2 ^ 26 + 1)) 4 (9 % 2 ^ 32) .clean, (by decide +kernel), (by decide +kernel), (by decide +kernel), rfl⟩,
    ⟨65541, 96, S0, (by decide +kernel), (by decide +kernel), (by decide +kernel)⟩,
    ⟨65541, 96, { S0 with board := { S0.board with mspiSeq := some 5, mspiResp := 3 } }, (by decide +kernel), (by decide +kernel), (by decide +kernel)⟩,
    ⟨65541, 96, { S0 with board := { S0.board with mspiSeq := some 5, mspiResp := 3 } }, (by decide +kernel), (by decide +kernel), (by decide +kernel)⟩,
    ⟨96, { S0 with board := { S0.board with mspiSeq := some 5, mspiResp := 3 } }, (by decide +kernel), (by decide +kernel)⟩,
    ⟨88, { S0 with board := { S0.board with mspiSeq := some 5, mspiResp := 3 } }, (by decide +kernel), (by decide +kernel), (by decide +kernel), (by decide +kernel)⟩,
    ⟨95, { S0 with board := { S0.board with mspiSeq := some 5, mspiResp := 3 } }, (by decide +kernel), (by decide +kernel), (by decide +kernel), (by decide +kernel)⟩,
    ⟨S0, (by decide +kernel)⟩,
    ⟨S0, (by decide +kernel)⟩⟩

/-- The hypotheses of each clause of KeyStoreCompletes are met. -/
theorem witness_KeyStoreCompletes :
    (∃ (m : Requester) (n : Nat) (len : Nat) (s : State), n < 64 ∧ s.Passes m Reg.KSU_SLOT_CMD .write ∧ s.slotLocked n = false ∧ s.ksuRun = true ∧ s.slotInFlight n = false ∧ len = s.fld Reg.KSU_SLOT_ATTR 6 0 ∧ 1 ≤ len ∧ len ≤ 64 ∧ s.fld Reg.KSU_SLOT_ATTR 29 24 ≠ 0) ∧
    (∃ (m : Requester) (n : Nat) (s : State), n < 64 ∧ s.Passes m Reg.KSU_SLOT_CMD .write ∧ s.slotLocked n = false ∧ s.ksuRun = true ∧ s.slotInFlight n = false) ∧
    (∃ (m : Requester) (n : Nat) (s : State), n < 64 ∧ s.Passes m Reg.KSU_SLOT_CMD .write ∧ s.slotLocked n = true) ∧
    (∃ (m : Requester) (n : Nat) (s : State), n < 64 ∧ s.Passes m Reg.KSU_SLOT_CMD .write ∧ s.slotLocked n = true) ∧
    (∃ (m : Requester) (n : Nat) (s : State), n < 64 ∧ s.Passes m Reg.KSU_SLOT_CMD .write ∧ s.slotLocked n = false ∧ (s.ksuRun = false ∨ s.slotInFlight n = true)) ∧
    (∃ (m : Requester) (n : Nat) (s : State), n < 64 ∧ s.Passes m Reg.KSU_SLOT_CMD .write ∧ s.slotLocked n = false ∧ (s.ksuRun = false ∨ s.slotInFlight n = true)) ∧
    (∃ (m : Requester) (n : Nat) (s : State), n < 64 ∧ s.Passes m Reg.KSU_SLOT_CMD .write ∧ s.ksuRun = true) ∧
    (∃ (m : Requester) (s : State), s.Passes m Reg.KSU_LC_CMD .write ∧ s.isSealed = false ∧ s.keys.programming = none ∧ (s.keys.fuses.lc = 1 ∨ s.keys.fuses.lc = 2)) ∧
    (∃ (m : Requester) (s : State), s.Passes m Reg.KSU_LC_CMD .write ∧ s.isSealed = false ∧ s.keys.programming = none ∧ s.fld Reg.KSU_SVN 6 0 ≠ 64) ∧
    (∃ (m : Requester) (s : State), s.Passes m Reg.KSU_LC_CMD .write ∧ s.isSealed = false ∧ s.keys.programming = none ∧ (s.keys.fuses.hash0 = none ∨ s.keys.fuses.revoked0 = true ∨ (s.keys.fuses.hash1.isSome = true ∧ s.keys.fuses.revoked1 = false))) ∧
    (∃ (m : Requester) (s : State), s.Passes m Reg.KSU_LC_CMD .write ∧ s.isSealed = false ∧ s.keys.programming = none ∧ (s.keys.fuses.hash1 = none ∨ s.keys.fuses.revoked1 = true ∨ (s.keys.fuses.hash0.isSome = true ∧ s.keys.fuses.revoked0 = false))) ∧
    (∃ (m : Requester) (s : State), s.Passes m Reg.KSU_LC_CMD .write ∧ s.isSealed = true) ∧
    (∃ (m : Requester) (s : State), s.Passes m Reg.KSU_LC_CMD .write ∧ s.isSealed = true) ∧
    (∃ (m : Requester) (s : State), s.Passes m Reg.KSU_LC_CMD .write ∧ s.isSealed = true) ∧
    (∃ (m : Requester) (s : State), s.Passes m Reg.KSU_LC_CMD .write ∧ s.isSealed = true) ∧
    (∃ (s : State) (op : FuseOp), s.keys.programming = some op) ∧
    (∃ (s : State), s.keys.programming = none) ∧
    (∃ (m : Requester) (c : Nat) (phase : Nat) (op : Nat) (ph : Nat) (i : Instr) (s : State), c < 4 ∧ phase < 4 ∧ (i, op, ph) ∈ [(.ksuSha384 m c phase, 1, phase), (.ksuHmac m c phase, 2, phase), (.ksuKdf m c, 3, 0), (.ksuGcmEncrypt m c, 4, 0), (.ksuGcmDecrypt m c, 5, 0), (.ksuEcdsaSign m c, 6, 0), (.ksuEcdsaVerify m c, 7, 0), (.ksuEcdh m c, 8, 0), (.ksuGenerate m c, 9, 0)] ∧ s.Passes m (Reg.KSU_C_CMD (c + 1)) .write ∧ s.ctxBusy c = false ∧ s.ksuRun = true) ∧
    (∃ (m : Requester) (c : Nat) (phase : Nat) (op : Nat) (ph : Nat) (i : Instr) (s : State), c < 4 ∧ phase < 4 ∧ (i, op, ph) ∈ [(.ksuSha384 m c phase, 1, phase), (.ksuHmac m c phase, 2, phase), (.ksuKdf m c, 3, 0), (.ksuGcmEncrypt m c, 4, 0), (.ksuGcmDecrypt m c, 5, 0), (.ksuEcdsaSign m c, 6, 0), (.ksuEcdsaVerify m c, 7, 0), (.ksuEcdh m c, 8, 0), (.ksuGenerate m c, 9, 0)] ∧ s.Passes m (Reg.KSU_C_CMD (c + 1)) .write ∧ (s.ctxBusy c = true ∨ s.ksuRun = false)) ∧
    (∃ (x : EngineOp) (s : State), x.ctx < 4 ∧ s.keys.current = some x ∧ x.op = 1 ∧ x.phase = 0 ∧ s.fld (Reg.KSU_C_LEN (x.ctx + 1)) 14 0 ≤ 16384) ∧
    (∃ (x : EngineOp) (s : State), x.ctx < 4 ∧ s.keys.current = some x ∧ (x.op = 4 ∨ x.op = 5 ∨ x.op = 6 ∨ x.op = 8) ∧ s.slotState (s.ctxKey x.ctx) = 0) ∧
    (∃ (x : EngineOp) (s : State), x.ctx < 4 ∧ s.keys.current = some x ∧ x.op = 9 ∧ s.keys.trngOk = false) ∧
    (∃ (s : State), s.keys.current = none) :=
    ⟨⟨boot, 63, 64, at' [(Reg.KSU_SLOT_ATTR, 2 ^ 24 + 64), (stageAddr 15, 0x44332211), (slotAddr 62, 2 ^ 30 + 2 ^ 24 + 5)] (inSt [(2, 0, 4)] S0), (by decide +kernel), (passes_of (by decide +kernel)), (by decide +kernel), (by decide +kernel), (by decide +kernel), (by decide +kernel), (by decide +kernel), (by decide +kernel), (by decide +kernel)⟩,
    ⟨boot, 63, { at' [(Reg.KSU_SLOT_ATTR, 0), (stageAddr 15, 0x44332211), (slotAddr 63, 2 ^ 30 + 2 ^ 24 + 5)] (inSt [(2, 0, 4)] S0) with keys := { S0.keys with keys := [(62, [1#8]), (63, [2#8])] } }, (by decide +kernel), (passes_of (by decide +kernel)), (by decide +kernel), (by decide +kernel), (by decide +kernel)⟩,
    ⟨boot, 63, at' [(Reg.KSU_SLOT_ATTR, 0), (stageAddr 15, 0x44332211), (slotAddr 63, 2 ^ 21)] (inSt [(2, 0, 4)] S0), (by decide +kernel), (passes_of (by decide +kernel)), (by decide +kernel)⟩,
    ⟨boot, 63, at' [(Reg.KSU_SLOT_ATTR, 0), (stageAddr 15, 0x44332211), (slotAddr 63, 2 ^ 21)] (inSt [(2, 0, 4)] S0), (by decide +kernel), (passes_of (by decide +kernel)), (by decide +kernel)⟩,
    ⟨boot, 63, inSt [(2, 0, 3)] S0, (by decide +kernel), (passes_of (by decide +kernel)), (by decide +kernel), (by decide +kernel)⟩,
    ⟨boot, 63, { at' [(Reg.KSU_C_SLOT 4, 63)] (inSt [(2, 0, 4)] S0) with keys := { S0.keys with current := some ⟨3, 4, 0⟩ } }, (by decide +kernel), (passes_of (by decide +kernel)), (by decide +kernel), (by decide +kernel)⟩,
    ⟨boot, 63, at' [(Reg.KSU_SLOT_ATTR, 0), (stageAddr 15, 0x44332211), (slotAddr 63, 2 ^ 30)] (inSt [(2, 0, 4)] S0), (by decide +kernel), (passes_of (by decide +kernel)), (by decide +kernel)⟩,
    ⟨boot, { inSt [(2, 0, 4)] S0 with keys := { S0.keys with fuses := { S0.keys.fuses with lc := 2 } } }, (passes_of (by decide +kernel)), (by decide +kernel), (by decide +kernel), (by decide +kernel)⟩,
    ⟨boot, at' [(Reg.KSU_SVN, 63)] (inSt [(2, 0, 4)] S0), (passes_of (by decide +kernel)), (by decide +kernel), (by decide +kernel), (by decide +kernel)⟩,
    ⟨boot, { inSt [(2, 0, 4)] S0 with keys := { S0.keys with fuses := { S0.keys.fuses with hash0 := some 5, hash1 := some 6 } } }, (passes_of (by decide +kernel)), (by decide +kernel), (by decide +kernel), (by decide +kernel)⟩,
    ⟨boot, { inSt [(2, 0, 4)] S0 with keys := { S0.keys with fuses := { S0.keys.fuses with hash0 := some 5, hash1 := some 6 } } }, (passes_of (by decide +kernel)), (by decide +kernel), (by decide +kernel), (by decide +kernel)⟩,
    ⟨boot, at' [(Reg.BMX_PMAP_SEAL, 1)] S0, (passes_of (by decide +kernel)), (by decide +kernel)⟩,
    ⟨boot, at' [(Reg.BMX_PMAP_SEAL, 1)] S0, (passes_of (by decide +kernel)), (by decide +kernel)⟩,
    ⟨boot, at' [(Reg.BMX_PMAP_SEAL, 1)] S0, (passes_of (by decide +kernel)), (by decide +kernel)⟩,
    ⟨boot, at' [(Reg.BMX_PMAP_SEAL, 1)] S0, (passes_of (by decide +kernel)), (by decide +kernel)⟩,
    ⟨{ S0 with keys := { S0.keys with programming := some .svnInc } }, .svnInc, (by decide +kernel)⟩,
    ⟨S0, (by decide +kernel)⟩,
    ⟨boot, 3, 3, 2, 3, .ksuHmac boot 3 3, { inSt [(2, 0, 4)] S0 with keys := { S0.keys with current := some ⟨2, 1, 0⟩, waiting := [⟨1, 4, 0⟩] } }, (by decide +kernel), (by decide +kernel), by simp, (passes_of (by decide +kernel)), (by decide +kernel), (by decide +kernel)⟩,
    ⟨boot, 3, 3, 2, 3, .ksuHmac boot 3 3, { inSt [(2, 0, 4)] S0 with keys := { S0.keys with current := some ⟨3, 1, 0⟩ } }, (by decide +kernel), (by decide +kernel), by simp, (passes_of (by decide +kernel)), (by decide +kernel)⟩,
    ⟨(⟨3, 1, 0⟩ : EngineOp), { at' [(Reg.KSU_C_SLOT 4, 63), (Reg.KSU_C_LEN 4, 16384)] (inSt [(2, 0, 4)] S0) with keys := { S0.keys with current := some ⟨3, 1, 0⟩, waiting := [⟨1, 4, 0⟩] } }, (by decide +kernel), (by decide +kernel), (by decide +kernel), (by decide +kernel), (by decide +kernel)⟩,
    ⟨(⟨3, 8, 0⟩ : EngineOp), { at' [(Reg.KSU_C_SLOT 4, 63)] (inSt [(2, 0, 4)] S0) with keys := { S0.keys with current := some ⟨3, 8, 0⟩, waiting := [⟨1, 4, 0⟩] } }, (by decide +kernel), (by decide +kernel), (by decide +kernel), (by decide +kernel)⟩,
    ⟨(⟨3, 9, 0⟩ : EngineOp), { at' [(Reg.KSU_C_SLOT 4, 63)] (inSt [(2, 0, 4)] S0) with keys := { S0.keys with current := some ⟨3, 9, 0⟩, waiting := [⟨1, 4, 0⟩], trngOk := false } }, (by decide +kernel), (by decide +kernel), (by decide +kernel), (by decide +kernel)⟩,
    ⟨S0, (by decide +kernel)⟩⟩

/-- The hypotheses of each clause of UpdateCompletes are met (part 1). -/
theorem witness_UpdateCompletes_1 :
    (∃ (p : Nat) (s : State), p < 2 ∧ s.chainOn p = true ∧ s.chainRx p ≠ 2) ∧
    (∃ (p : Nat) (s : State), p < 2 ∧ s.chainOn p = true ∧ s.chainRx p = 2) ∧
    (∃ (p : Nat) (s : State), p < 2 ∧ s.chainOn p = true ∧ s.chainRx p = 1) ∧
    (∃ (p : Nat) (b : Nat) (s : State), p < 2 ∧ s.chainOn p = true ∧ s.chainRx p = 2 ∧ 16 ≤ ((b :: (s.lane (528 + p)).bad).filter (fun y => decide (b < y + 64))).length) ∧
    (∃ (p : Nat) (head : Nat) (cend : Nat) (seq : Nat) (session : Nat) (index : Nat) (data : List Nat) (s : State), p < 2 ∧ s.upd.ports.length = 2 ∧ s.chainOn p = true ∧ s.chainRx p = 2 ∧ head % 256 = 0x3C ∧ head / 2 ^ 14 % 4 = 0 ∧ seq = head / 2 ^ 48 % 65536 ∧ session = head / 2 ^ 32 % 65536 ∧ index = head / 2 ^ 20 % 4096 ∧ cend / 2 ^ 16 % 2 ^ 32 ≠ blocksCrc (head :: data)) ∧
    (∃ (p : Nat) (head : Nat) (cend : Nat) (seq : Nat) (session : Nat) (index : Nat) (data : List Nat) (s : State), p < 2 ∧ s.upd.ports.length = 2 ∧ s.chainOn p = true ∧ s.chainRx p = 2 ∧ head % 256 = 0x3C ∧ head / 2 ^ 14 % 4 = 0 ∧ seq = head / 2 ^ 48 % 65536 ∧ session = head / 2 ^ 32 % 65536 ∧ index = head / 2 ^ 20 % 4096 ∧ cend / 2 ^ 16 % 2 ^ 32 = blocksCrc (head :: data) ∧ cend % 256 = 0xC3 ∧ data.length = 512 ∧ (∀ x, (s.chainPort p).rxSeq = some x → seq = (x + 1) % 65536) ∧ s.bit (Reg.TWN_CH_CFG (17 + p)) 30 = false ∧ s.bit (Reg.TWN_CH_CFG (17 + p)) 29 = true ∧ s.upd.port = some p ∧ s.upd.session = session ∧ s.updState = 2 ∧ index = s.fld (Reg.TWN_CH_UPD_STATUS (17 + p)) 12 0) ∧
    (∃ (p : Nat) (seq : Nat) (session : Nat) (hops : Nat) (cend : Nat) (s : State), p < 2 ∧ seq < 65536 ∧ session < 65536 ∧ hops < 16 ∧ s.upd.ports.length = 2 ∧ s.chainOn p = true ∧ s.chainRx p = 2 ∧ cend / 2 ^ 16 % 2 ^ 32 = blocksCrc [chunkHead seq session 0 hops 1] ∧ cend % 256 = 0xC3 ∧ (∀ x, (s.chainPort p).rxSeq = some x → seq = (x + 1) % 65536) ∧ s.bit (Reg.TWN_CH_CFG (17 + p)) 30 = false ∧ s.upd.port = some p ∧ s.upd.session = session ∧ s.updState = 2) ∧
    (∃ (p : Nat) (payload : Nat) (s : State), p < 2 ∧ s.upd.ports.length = 2 ∧ s.chainOn p = true ∧ payload % 256 = 0x69 ∧ (s.chainPort p).queue = [] ∧ payload / 2 ^ 30 % 4 ≠ 3) :=
    ⟨⟨1, at' [(Reg.TWN_CH_STATUS 18, 2 ^ 29)] (chainUp S0), (by decide +kernel), (by decide +kernel), (by decide +kernel)⟩,
    ⟨1, chainUp S0, (by decide +kernel), (by decide +kernel), (by decide +kernel)⟩,
    ⟨1, at' [(Reg.TWN_CH_STATUS 18, 2 ^ 29)] (chainUp S0), (by decide +kernel), (by decide +kernel), (by decide +kernel)⟩,
    ⟨1, 100, (chainUp S0).setLane 529 { S0.lane 529 with bad := List.replicate 15 37 }, (by decide +kernel), (by decide +kernel), (by decide +kernel), (by decide +kernel)⟩,
    ⟨1, chunkHead 65535 7 0 0 0, (blocksCrc ((chunkHead 65535 7 0 0 0) :: (List.replicate 512 (2 ^ 56 + 5))) + 1) % 2 ^ 32 * 2 ^ 16 + 0xC3, 65535, 7, 0, List.replicate 512 (2 ^ 56 + 5), { updSt 2 (chainUp (storeState S0)) with upd := { S0.upd with port := some 1, session := 7, total := 1, ports := [{}, { S0.chainPort 1 with rxSeq := some 65534 }] } }, (by decide +kernel), (by decide +kernel), (by decide +kernel), (by decide +kernel), (by decide +kernel), (by decide +kernel), (by decide +kernel), (by decide +kernel), (by decide +kernel), crc_wrong _⟩,
    ⟨1, chunkHead 65535 7 0 0 0, blocksCrc ((chunkHead 65535 7 0 0 0) :: (List.replicate 512 (2 ^ 56 + 5))) * 2 ^ 16 + 0xC3, 65535, 7, 0, List.replicate 512 (2 ^ 56 + 5), { updSt 2 (chainUp (storeState S0)) with upd := { S0.upd with port := some 1, session := 7, total := 1, ports := [{}, { S0.chainPort 1 with rxSeq := some 65534 }] } }, (by decide +kernel), (by decide +kernel), (by decide +kernel), (by decide +kernel), (by decide +kernel), (by decide +kernel), (by decide +kernel), (by decide +kernel), (by decide +kernel), crc_right _, crc_low _, (by decide +kernel), all_some 65534 (by decide +kernel) (by decide +kernel), (by decide +kernel), (by decide +kernel), (by decide +kernel), (by decide +kernel), (by decide +kernel), (by decide +kernel)⟩,
    ⟨1, 65535, 7, 15, blocksCrc [chunkHead 65535 7 0 15 1] * 2 ^ 16 + 0xC3, { updSt 2 (chainUp (storeState S0)) with upd := { S0.upd with port := some 1, session := 7, total := 1, ports := [{}, { S0.chainPort 1 with rxSeq := some 65534 }] } }, (by decide +kernel), (by decide +kernel), (by decide +kernel), (by decide +kernel), (by decide +kernel), (by decide +kernel), (by decide +kernel), (by decide +kernel), (by decide +kernel), all_some 65534 (by decide +kernel) (by decide +kernel), (by decide +kernel), (by decide +kernel), (by decide +kernel), (by decide +kernel)⟩,
    ⟨1, 65535 * 2 ^ 48 + 7 * 2 ^ 32 + 2 ^ 30 + 0x69, withChunk {} S0, (by decide +kernel), (by decide +kernel), (by decide +kernel), (by decide +kernel), (by decide +kernel), (by decide +kernel)⟩⟩

/-- The hypotheses of each clause of UpdateCompletes are met (part 2). -/
theorem witness_UpdateCompletes_2 :
    (∃ (p : Nat) (payload : Nat) (s : State), p < 2 ∧ s.upd.ports.length = 2 ∧ s.chainOn p = true ∧ payload % 256 = 0x69 ∧ (s.chainPort p).queue = [] ∧ payload / 2 ^ 30 % 4 = 3) ∧
    (∃ (p : Nat) (c : ChunkOut) (r : List ChunkOut) (s : State), p < 2 ∧ s.upd.ports.length = 2 ∧ s.chainOn p = true ∧ (s.chainPort p).unacked = c :: r ∧ (s.chainPort p).waiting = false ∧ (s.chainPort p).resends < 32) ∧
    (∃ (p : Nat) (c : ChunkOut) (r : List ChunkOut) (s : State), p < 2 ∧ s.upd.ports.length = 2 ∧ s.chainOn p = true ∧ (s.chainPort p).unacked = c :: r ∧ (s.chainPort p).waiting = false ∧ 32 ≤ (s.chainPort p).resends ∧ (s.chainPort p).queue = []) ∧
    (∃ (p : Nat) (c : ChunkOut) (r : List ChunkOut) (s : State), p < 2 ∧ s.upd.ports.length = 2 ∧ s.chainOn p = true ∧ (s.chainPort p).unacked = c :: r ∧ (s.chainPort p).waiting = true) ∧
    (∃ (p : Nat) (c : ChunkOut) (r : List ChunkOut) (s : State), p < 2 ∧ s.upd.ports.length = 2 ∧ s.chainOn p = true ∧ (s.chainPort p).unacked = c :: r ∧ (s.chainPort p).waiting = true) ∧
    (∃ (p : Nat) (c : ChunkOut) (r : List ChunkOut) (s : State), p < 2 ∧ s.upd.ports.length = 2 ∧ s.chainOn p = true ∧ (s.chainPort p).unacked = c :: r ∧ (s.chainPort p).waiting = false) ∧
    (∃ (m : Requester) (p : Nat) (s : State), p < 2 ∧ s.Passes m (Reg.TWN_CH_UPD_CMD (17 + p)) .write ∧ s.updOpen = true) ∧
    (∃ (m : Requester) (p : Nat) (s : State), p < 2 ∧ s.Passes m (Reg.TWN_CH_UPD_CMD (17 + p)) .write ∧ s.updOpen = false ∧ s.stagingOk p = false) :=
    ⟨⟨1, 7 * 2 ^ 32 + 3 * 2 ^ 30 + 0x69, withChunk {} S0, (by decide +kernel), (by decide +kernel), (by decide +kernel), (by decide +kernel), (by decide +kernel), (by decide +kernel)⟩,
    ⟨1, (⟨65535, chunkHead 65535 7 0 3 1, []⟩ : ChunkOut), [], withChunk { resends := 31, nacked := true } S0, (by decide +kernel), (by decide +kernel), (by decide +kernel), (by decide +kernel), (by decide +kernel), (by decide +kernel)⟩,
    ⟨1, (⟨65535, chunkHead 65535 7 0 3 1, []⟩ : ChunkOut), [], withChunk { resends := 32 } S0, (by decide +kernel), (by decide +kernel), (by decide +kernel), (by decide +kernel), (by decide +kernel), (by decide +kernel), (by decide +kernel)⟩,
    ⟨1, (⟨65535, chunkHead 65535 7 0 3 1, []⟩ : ChunkOut), [], withChunk { waiting := true } S0, (by decide +kernel), (by decide +kernel), (by decide +kernel), (by decide +kernel), (by decide +kernel)⟩,
    ⟨1, (⟨65535, chunkHead 65535 7 0 3 1, []⟩ : ChunkOut), [], withChunk { waiting := true } S0, (by decide +kernel), (by decide +kernel), (by decide +kernel), (by decide +kernel), (by decide +kernel)⟩,
    ⟨1, (⟨65535, chunkHead 65535 7 0 3 1, []⟩ : ChunkOut), [], withChunk { waiting := false } S0, (by decide +kernel), (by decide +kernel), (by decide +kernel), (by decide +kernel), (by decide +kernel)⟩,
    ⟨boot, 1, updSt 2 (inSt [(15, 0, 4)] S0), (by decide +kernel), (passes_of (by decide +kernel)), (by decide +kernel)⟩,
    ⟨boot, 1, inSt [(15, 0, 4)] S0, (by decide +kernel), (passes_of (by decide +kernel)), (by decide +kernel), (by decide +kernel)⟩⟩

/-- The hypotheses of each clause of UpdateCompletes are met (part 3). -/
theorem witness_UpdateCompletes_3 :
    (∃ (m : Requester) (p : Nat) (s : State), p < 2 ∧ s.Passes m (Reg.TWN_CH_UPD_CMD (17 + p)) .write ∧ s.updOpen = false ∧ s.stagingOk p = true ∧ s.bit (Reg.TWN_CH_CFG (17 + p)) 29 = true ∧ (∀ x ∈ s.upd.ports, x.queue = []) ∧ s.headCheck (s.rdBytes (s.stagingBase p) 256) ≠ 0) ∧
    (∃ (m : Requester) (p : Nat) (s : State), p < 2 ∧ s.Passes m (Reg.TWN_CH_UPD_CMD (17 + p)) .write ∧ s.updOpen = false ∧ s.stagingOk p = true ∧ s.bit (Reg.TWN_CH_CFG (17 + p)) 29 = true ∧ (∀ x ∈ s.upd.ports, x.queue = []) ∧ s.headCheck (s.rdBytes (s.stagingBase p) 256) = 0) ∧
    (∃ (m : Requester) (p : Nat) (s : State) (q : Nat) (code : Nat), p < 2 ∧ s.Passes m (Reg.TWN_CH_UPD_CMD (17 + p)) .write ∧ q < 2 ∧ s.upd.port = some q ∧ s.updState = 5 ∧ code = s.updGuards ((s.le (setBase (1 - s.activeSet) + 0x0B) 1).testBit 0) ∧ code ≠ 0) ∧
    (∃ (m : Requester) (p : Nat) (s : State) (q : Nat) (code : Nat), p < 2 ∧ s.Passes m (Reg.TWN_CH_UPD_CMD (17 + p)) .write ∧ q < 2 ∧ s.upd.port = some q ∧ s.updState = 5 ∧ code = s.updGuards ((s.le (setBase (1 - s.activeSet) + 0x0B) 1).testBit 0) ∧ code = 0) ∧
    (∃ (m : Requester) (p : Nat) (s : State), p < 2 ∧ s.Passes m (Reg.TWN_CH_UPD_CMD (17 + p)) .write ∧ s.updState ≠ 5) ∧
    (∃ (m : Requester) (p : Nat) (s : State) (q : Nat), p < 2 ∧ s.Passes m (Reg.TWN_CH_UPD_CMD (17 + p)) .write ∧ q < 2 ∧ s.upd.port = some q ∧ 1 ≤ s.updState ∧ s.updState ≤ 5 ∧ s.updState ≠ 4 ∧ s.upd.hops = 0) ∧
    (∃ (m : Requester) (p : Nat) (s : State) (q : Nat), p < 2 ∧ s.Passes m (Reg.TWN_CH_UPD_CMD (17 + p)) .write ∧ q < 2 ∧ s.upd.port = some q ∧ (s.updState = 6 ∨ s.updState = 7)) ∧
    (∃ (m : Requester) (p : Nat) (s : State) (q : Nat) (x : Nat), p < 2 ∧ s.Passes m (Reg.TWN_CH_UPD_CMD (17 + p)) .write ∧ q < 2 ∧ s.upd.port = some q ∧ s.updState = 6 ∧ s.upd.pause = some x ∧ hasPart (s.manifest (setBase s.activeSet)) 1 = true) :=
    ⟨⟨boot, 1, at' [(Reg.TWN_CH_LOCK 17, 2 ^ 31)] (updImage 0x1000000000 1 (updSt 9 (chainUp (storeState S0)))), (by decide +kernel), (passes_of (by decide +kernel)), (by decide +kernel), staging_of (by decide +kernel) (by decide +kernel) (by decide +kernel), (by decide +kernel), (by decide +kernel), (by decide +kernel)⟩,
    ⟨boot, 1, updImage 0x1000000000 1 (updSt 9 (chainUp (storeState S0))), (by decide +kernel), (passes_of (by decide +kernel)), (by decide +kernel), staging_of (by decide +kernel) (by decide +kernel) (by decide +kernel), (by decide +kernel), (by decide +kernel), (by decide +kernel)⟩,
    ⟨boot, 1, at' [(Reg.TWN_CH_LOCK 17, 2 ^ 31)] (((updSt 5 (inSt [(15, 0, 4)] S0)).wrByte 0x21000006 1#8).wrByte 0x21000100 1#8), 1, 3, (by decide +kernel), (passes_of (by decide +kernel)), (by decide +kernel), (by decide +kernel), (by decide +kernel), (by decide +kernel), (by decide +kernel)⟩,
    ⟨boot, 1, ((updSt 5 (inSt [(15, 0, 4)] S0)).wrByte 0x21000006 1#8).wrByte 0x21000100 1#8, 1, 0, (by decide +kernel), (passes_of (by decide +kernel)), (by decide +kernel), (by decide +kernel), (by decide +kernel), (by decide +kernel), (by decide +kernel)⟩,
    ⟨boot, 1, ((updSt 4 (inSt [(15, 0, 4)] S0)).wrByte 0x21000006 1#8).wrByte 0x21000100 1#8, (by decide +kernel), (passes_of (by decide +kernel)), (by decide +kernel)⟩,
    ⟨boot, 1, ((updSt 5 (inSt [(15, 0, 4)] S0)).wrByte 0x21000006 1#8).wrByte 0x21000100 1#8, 1, (by decide +kernel), (passes_of (by decide +kernel)), (by decide +kernel), (by decide +kernel), (by decide +kernel), (by decide +kernel), (by decide +kernel), (by decide +kernel)⟩,
    ⟨boot, 1, ((updSt 7 (inSt [(15, 0, 4)] S0)).wrByte 0x21000006 1#8).wrByte 0x21000100 1#8, 1, (by decide +kernel), (passes_of (by decide +kernel)), (by decide +kernel), (by decide +kernel), (by decide +kernel)⟩,
    ⟨boot, 1, { ((updSt 6 (inSt [(15, 0, 4)] S0)).wrByte 0x21000006 1#8).wrByte 0x21000100 1#8 with now := 5000000, upd := { S0.upd with port := some 1, session := 7, pause := some 5 } }, 1, 5, (by decide +kernel), (passes_of (by decide +kernel)), (by decide +kernel), (by decide +kernel), (by decide +kernel), (by decide +kernel), (by decide +kernel)⟩⟩

/-- The hypotheses of each clause of UpdateCompletes are met (part 4). -/
theorem witness_UpdateCompletes_4 :
    (∃ (m : Requester) (p : Nat) (s : State), p < 2 ∧ s.Passes m (Reg.TWN_CH_UPD_CMD (17 + p)) .write ∧ s.updState ≠ 6) ∧
    (∃ (q : Nat) (s : State), q < 2 ∧ s.upd.port = some q ∧ s.updState = 3) ∧
    (∃ (q : Nat) (s : State), q < 2 ∧ s.upd.port = some q ∧ s.updState = 4) ∧
    (∃ (q : Nat) (s : State), q < 2 ∧ s.upd.port = some q ∧ s.updState = 4) ∧
    (∃ (q : Nat) (s : State) (x : Nat), q < 2 ∧ s.upd.port = some q ∧ s.updState = 6 ∧ s.upd.pause = some x ∧ hasPart (s.manifest (setBase s.activeSet)) 1 = true) ∧
    (∃ (q : Nat) (s : State), q < 2 ∧ s.upd.port = some q ∧ s.updState = 7) ∧
    (∃ (s : State), s.updState ≠ 3) ∧
    (∃ (s : State), s.updState ≠ 4) :=
    ⟨⟨boot, 1, ((updSt 5 (inSt [(15, 0, 4)] S0)).wrByte 0x21000006 1#8).wrByte 0x21000100 1#8, (by decide +kernel), (passes_of (by decide +kernel)), (by decide +kernel)⟩,
    ⟨1, ((updSt 3 (inSt [(15, 0, 4)] S0)).wrByte 0x21000006 1#8).wrByte 0x21000100 1#8, (by decide +kernel), (by decide +kernel), (by decide +kernel)⟩,
    ⟨1, updSt 4 (inSt [(15, 0, 4)] S0), (by decide +kernel), (by decide +kernel), (by decide +kernel)⟩,
    ⟨1, ((updSt 4 (inSt [(15, 0, 4)] S0)).wrByte 0x21000006 1#8).wrByte 0x21000100 1#8, (by decide +kernel), (by decide +kernel), (by decide +kernel)⟩,
    ⟨1, { ((updSt 6 (inSt [(15, 0, 4)] S0)).wrByte 0x21000006 1#8).wrByte 0x21000100 1#8 with now := 5000000, upd := { S0.upd with port := some 1, session := 7, pause := some 5 } }, 5, (by decide +kernel), (by decide +kernel), (by decide +kernel), (by decide +kernel), (by decide +kernel)⟩,
    ⟨1, ((updSt 7 (inSt [(15, 0, 4)] S0)).wrByte 0x21000006 1#8).wrByte 0x21000100 1#8, (by decide +kernel), (by decide +kernel), (by decide +kernel)⟩,
    ⟨updSt 5 S0, (by decide +kernel)⟩,
    ⟨updSt 5 S0, (by decide +kernel)⟩⟩

/-- The hypotheses of each clause of UpdateCompletes are met (part 5). -/
theorem witness_UpdateCompletes_5 :
    (∃ (s : State), s.updState ≠ 6) ∧
    (∃ (s : State), s.updState ≠ 7) ∧
    (∃ (pxp : Bool) (ty : Nat) (b : Nat) (s : State), ty = (if pxp then 5 else 4) ∧ b = (if pxp then 12 else 7) ∧ ty ∈ s.upd.loading) ∧
    (∃ (pxp : Bool) (ty : Nat) (b : Nat) (s : State), ty = (if pxp then 5 else 4) ∧ b = (if pxp then 12 else 7) ∧ ty ∉ s.upd.loading) :=
    ⟨⟨updSt 5 S0, (by decide +kernel)⟩,
    ⟨updSt 5 S0, (by decide +kernel)⟩,
    ⟨true, 5, 12, { S0 with upd := { S0.upd with loading := [4, 5] } }, rfl, rfl, (by decide +kernel)⟩,
    ⟨true, 5, 12, { S0 with upd := { S0.upd with loading := [4] } }, rfl, rfl, (by decide +kernel)⟩⟩

/-- The hypotheses of each clause of TwinLinkCompletes are met (part 1). -/
theorem witness_TwinLinkCompletes_1 :
    (∃ (s : State), (s.pairState = 2 ∨ s.pairState = 3)) ∧
    (∃ (s : State), (s.pairState = 0 ∨ s.pairState = 1)) ∧
    (∃ (s : State), s.running 15 = true ∧ s.pairState = 0 ∧ s.bit Reg.TWN_STATUS 28 = true) ∧
    (∃ (s : State), s.running 15 = true ∧ s.pairState = 0 ∧ s.bit Reg.TWN_STATUS 28 = false ∧ s.isTwinB = true ∧ s.twin.due = 0) ∧
    (∃ (s : State), s.pairState ≠ 0) ∧
    (∃ (s : State), s.twin.miss < 3) ∧
    (∃ (s : State), 3 ≤ s.twin.miss ∧ s.pairState = 1) ∧
    (∃ (s : State), 3 ≤ s.twin.miss ∧ s.pairState = 2 ∧ s.bit Reg.TWN_STATUS 28 = true) :=
    ⟨⟨pairSt 3 1 S0, (by decide +kernel)⟩,
    ⟨pairSt 1 1 S0, (by decide +kernel)⟩,
    ⟨pairSt 0 1 S0, (by decide +kernel), (by decide +kernel), (by decide +kernel)⟩,
    ⟨at' [(Reg.TWN_STATUS, 0 * 2 ^ 30)] ({ pairSt 0 1 S0 with board := { S0.board with twinId := true }, twin := { S0.twin with due := 0 } }), (by decide +kernel), (by decide +kernel), (by decide +kernel), (by decide +kernel), (by decide +kernel)⟩,
    ⟨pairSt 1 1 S0, (by decide +kernel)⟩,
    ⟨{ S0 with twin := { S0.twin with miss := 2 } }, (by decide +kernel)⟩,
    ⟨{ pairSt 1 1 S0 with twin := { S0.twin with miss := 3 } }, (by decide +kernel), (by decide +kernel)⟩,
    ⟨{ pairSt 2 1 S0 with twin := { S0.twin with miss := 3 } }, (by decide +kernel), (by decide +kernel), (by decide +kernel)⟩⟩

/-- The hypotheses of each clause of TwinLinkCompletes are met (part 2). -/
theorem witness_TwinLinkCompletes_2 :
    (∃ (s : State), 3 ≤ s.twin.miss ∧ s.pairState = 2 ∧ s.bit Reg.TWN_STATUS 28 = false) ∧
    (∃ (s : State), (s.pairState = 1 ∨ s.pairState = 3) ∧ 8 ≤ s.twin.good ∧ s.twin.measured = true) ∧
    (∃ (s : State), (s.twin.good < 8 ∨ s.twin.measured = false)) ∧
    (∃ (s : State), s.running 15 = false) ∧
    (∃ (s : State), s.running 15 = true) ∧
    (∃ (k : Nat) (b : List (Bool × Nat)) (s : State), k < 16 ∧ s.laneActive k = true ∧ s.pairRx k = 4 ∧ readSlot b = none) ∧
    (∃ (k : Nat) (b : List (Bool × Nat)) (s : State) (m : SlotHead) (l : List CtlRec), k < 16 ∧ s.laneActive k = true ∧ s.pairRx k = 4 ∧ readSlot b = some (m, l) ∧ m.twin = s.isTwinB) ∧
    (∃ (k : Nat) (stamp : Nat) (b : List (Bool × Nat)) (s : State) (m : SlotHead) (l : List CtlRec) (a : Int), k < 16 ∧ s.laneActive k = true ∧ s.pairRx k = 4 ∧ readSlot b = some (m, l) ∧ m.twin ≠ s.isTwinB ∧ m.health ≠ 2 ∧ a = (stamp : Int) - nearSlot s.now m.slot * 1000000 - signed 32 (s.rdN Reg.TWN_DELAY) ∧ 200000 < a.natAbs) :=
    ⟨⟨at' [(Reg.TWN_STATUS, 2 * 2 ^ 30)] ({ pairSt 2 1 S0 with twin := { S0.twin with miss := 3 } }), (by decide +kernel), (by decide +kernel), (by decide +kernel)⟩,
    ⟨{ pairSt 3 1 S0 with now := 9000000, twin := { S0.twin with good := 8, measured := true } }, (by decide +kernel), (by decide +kernel), (by decide +kernel)⟩,
    ⟨{ S0 with twin := { S0.twin with good := 7, measured := true } }, (by decide +kernel)⟩,
    ⟨inSt [(15, 0, 3)] S0, (by decide +kernel)⟩,
    ⟨{ pairSt 2 0x8003 S0 with twin := { S0.twin with active := 0x8003, nextSeq := 65535, waiting := [.snap 5, .agree 7 true 3] } }, (by decide +kernel)⟩,
    ⟨15, [(true, 5)], { pairSt 2 0x8003 S0 with now := 5500, twin := { S0.twin with active := 0x8003 } }, (by decide +kernel), (by decide +kernel), (by decide +kernel), (by decide +kernel)⟩,
    ⟨15, slotBlocks ({ head1 15 true with twin := false }) [], { pairSt 2 0x8003 S0 with now := 5500, twin := { S0.twin with active := 0x8003 } }, { head1 15 true with twin := false }, [], (by decide +kernel), (by decide +kernel), (by decide +kernel), (by decide +kernel), (by decide +kernel)⟩,
    ⟨15, 5200001, slotBlocks (head1 15 true) [], { pairSt 2 0x8003 S0 with now := 5500, twin := { S0.twin with active := 0x8003 } }, head1 15 true, [], (5200001 : Int) - nearSlot ({ pairSt 2 0x8003 S0 with now := 5500, twin := { S0.twin with active := 0x8003 } }).now (head1 15 true).slot * 1000000 - signed 32 (({ pairSt 2 0x8003 S0 with now := 5500, twin := { S0.twin with active := 0x8003 } }).rdN Reg.TWN_DELAY), (by decide +kernel), (by decide +kernel), (by decide +kernel), (by decide +kernel), (by decide +kernel), (by decide +kernel), (by decide +kernel), (by decide +kernel)⟩⟩

/-- The hypotheses of each clause of TwinLinkCompletes are met (part 3). -/
theorem witness_TwinLinkCompletes_3 :
    (∃ (k : Nat) (stamp : Nat) (b : List (Bool × Nat)) (s : State) (m : SlotHead) (l : List CtlRec) (a : Int), k < 16 ∧ s.laneActive k = true ∧ s.pairRx k = 4 ∧ readSlot b = some (m, l) ∧ m.twin ≠ s.isTwinB ∧ m.health ≠ 2 ∧ a = (stamp : Int) - nearSlot s.now m.slot * 1000000 - signed 32 (s.rdN Reg.TWN_DELAY) ∧ a.natAbs ≤ 20000 ∧ l = []) ∧
    (∃ (k : Nat) (s : State), k < 16 ∧ (s.laneActive k = false ∨ s.pairRx k ≠ 4)) ∧
    (∃ (s : State) (k : Nat) (q : Nat) (l : List CtlRec) (r : List (Nat × List CtlRec)), s.ctlLane = some k ∧ s.twin.unacked = (q, l) :: r ∧ s.resendDue = true) ∧
    (∃ (s : State), s.resendDue = false) ∧
    (∃ (k : Nat) (s : State), k < 16 ∧ s.pairState ≠ 0 ∧ s.laneActive k = true ∧ s.pairFailed k = false ∧ (4 ≤ s.fld (Reg.TWN_L_STATUS (k + 1)) 7 0 ∨ s.pairRx k ≠ 4)) ∧
    (∃ (k : Nat) (s : State), k < 16 ∧ (s.laneActive k = false ∨ s.pairFailed k = true)) ∧
    (∃ (s : State) (mask : Nat) (E : Nat), s.twin.change = some (mask, E) ∧ E ≤ s.epoch) ∧
    (∃ (s : State), s.twin.change = none) :=
    ⟨⟨15, 4980000, slotBlocks (head1 15 false) [], { pairSt 0 0x8003 S0 with now := 5500, twin := { S0.twin with active := 0x8003, lastRx := some 8, unacked := [(3, []), (4, [])] } }, head1 15 false, [], (4980000 : Int) - nearSlot ({ pairSt 0 0x8003 S0 with now := 5500, twin := { S0.twin with active := 0x8003, lastRx := some 8, unacked := [(3, []), (4, [])] } }).now (head1 15 false).slot * 1000000 - signed 32 (({ pairSt 0 0x8003 S0 with now := 5500, twin := { S0.twin with active := 0x8003, lastRx := some 8, unacked := [(3, []), (4, [])] } }).rdN Reg.TWN_DELAY), (by decide +kernel), (by decide +kernel), (by decide +kernel), (by decide +kernel), (by decide +kernel), (by decide +kernel), (by decide +kernel), (by decide +kernel), (by decide +kernel)⟩,
    ⟨15, pairSt 2 1 S0, (by decide +kernel), (by decide +kernel)⟩,
    ⟨{ pairSt 2 0x8003 S0 with now := 5500, twin := { S0.twin with active := 0x8003, unacked := [(65535, [.snap 5])], nackIn := true } }, 0, 65535, [.snap 5], [], (by decide +kernel), (by decide +kernel), (by decide +kernel)⟩,
    ⟨S0, (by decide +kernel)⟩,
    ⟨15, at' [(Reg.TWN_L_STATUS 16, 4 * 2 ^ 29 + 4), (Reg.TWN_LANES, 2 ^ 20)] ({ pairSt 2 0x8003 S0 with now := 5500, twin := { S0.twin with active := 0x8003 } }), (by decide +kernel), (by decide +kernel), (by decide +kernel), (by decide +kernel), (by decide +kernel)⟩,
    ⟨15, pairSt 2 1 S0, (by decide +kernel), (by decide +kernel)⟩,
    ⟨{ at' [(Reg.TWN_L_STATUS 3, 2 * 2 ^ 29)] ({ pairSt 2 0x8003 S0 with now := 5500, twin := { S0.twin with active := 0x8003 } }) with twin := { S0.twin with active := 0x8003, change := some (0x8006, 0) } }, 0x8006, 0, (by decide +kernel), (by decide +kernel)⟩,
    ⟨S0, (by decide +kernel)⟩⟩

/-- The hypotheses of each clause of TwinRecordsComplete are met. -/
theorem witness_TwinRecordsComplete :
    (∃ (s : State), s.pairState ≠ 0) ∧
    (∃ (s : State), s.pairState = 0) ∧
    (∃ (s : State), s.pairState ≠ 0) ∧
    (∃ (s : State), s.pairState = 0) ∧
    (∃ (s : State), s.pairState ≠ 0) ∧
    (∃ (s : State), s.pairState = 0) ∧
    (∃ (tag : Nat) (S : Nat) (T : Nat) (src : Nat) (dst : Nat) (r : Nat × List Nat × Nat) (s : State), tag < 2 ^ 14 ∧ s.pairState ≠ 0 ∧ s.profOpen = none ∧ s.geyser.parts = [] ∧ r = s.takeCheck true false tag 1 [(src, dst)] T S ∧ r.1 ≠ 0) ∧
    (∃ (tag : Nat) (S : Nat) (T : Nat) (src : Nat) (dst : Nat) (r : Nat × List Nat × Nat) (s : State), tag < 2 ^ 14 ∧ s.pairState ≠ 0 ∧ s.profOpen = none ∧ s.geyser.parts = [] ∧ r = s.takeCheck true false tag 1 [(src, dst)] T S ∧ r.1 = 0) ∧
    (∃ (tag : Nat) (S : Nat) (T : Nat) (src : Nat) (dst : Nat) (r : Nat × List Nat × Nat) (s : State), tag < 2 ^ 14 ∧ s.pairState ≠ 0 ∧ s.profOpen = none ∧ s.geyser.parts = [] ∧ r = s.takeCheck true false tag 1 [(src, dst)] T S) ∧
    (∃ (tag : Nat) (x : Nat) (k : Take) (s : State), tag < 2 ^ 14 ∧ s.profOpen = none ∧ s.geyser.load = none ∧ s.takeOf tag = some k ∧ k.sentAt = some x) ∧
    (∃ (tag : Nat) (s : State), tag < 2 ^ 14 ∧ s.profOpen = none ∧ s.takeOf tag = none) ∧
    (∃ (e : Nat) (i : Nat) (h : Nat) (E : Nat) (s : State), e < 2 ^ 24 ∧ i < 2 ^ 32 ∧ h < 2 ^ 32 ∧ resolveEpoch s.epoch e = some E ∧ s.pairState ≠ 0 ∧ s.geyser.load = none) ∧
    (∃ (e : Nat) (i : Nat) (h : Nat) (E : Nat) (s : State), e < 2 ^ 24 ∧ i < 2 ^ 32 ∧ h < 2 ^ 32 ∧ resolveEpoch s.epoch e = some E ∧ s.pairState = 0) ∧
    (∃ (e : Nat) (d : Nat) (h : Nat) (r : Nat) (x : Nat) (s : State), s.paired = true ∧ r = pastEpoch s.epoch e ∧ s.epoch ≤ r + 2 ∧ s.twin.cmpFrom ≤ r ∧ (r, d) ∉ s.twin.compared ∧ hashAt s.twin.theirs r d = none ∧ hashAt s.twin.own r d = some x ∧ x = h) ∧
    (∃ (e : Nat) (d : Nat) (h : Nat) (r : Nat) (x : Nat) (s : State), s.paired = true ∧ r = pastEpoch s.epoch e ∧ s.epoch ≤ r + 2 ∧ s.twin.cmpFrom ≤ r ∧ (r, d) ∉ s.twin.compared ∧ hashAt s.twin.theirs r d = none ∧ hashAt s.twin.own r d = some x ∧ x ≠ h) ∧
    (∃ (s : State), s.paired = false) ∧
    (∃ (roles : Nat) (e : Nat) (E : Nat) (s : State), roles < 4 ∧ e < 2 ^ 24 ∧ resolveEpoch s.epoch e = some E ∧ s.paired = true) ∧
    (∃ (roles : Nat) (e : Nat) (E : Nat) (s : State), roles < 4 ∧ e < 2 ^ 24 ∧ resolveEpoch s.epoch e = some E ∧ s.paired = false) ∧
    (∃ (e : Nat) (g : RoleMove) (s : State), s.twin.give = some g ∧ g.target % 2 ^ 24 = e % 2 ^ 24 ∧ s.now ≤ (g.target - 1) * s.epochNs) ∧
    (∃ (e : Nat) (g : RoleMove) (s : State), s.twin.give = some g ∧ g.target % 2 ^ 24 = e % 2 ^ 24 ∧ (g.target - 1) * s.epochNs < s.now) ∧
    (∃ (e : Nat) (g : RoleMove) (s : State), s.twin.pend = some g ∧ g.target % 2 ^ 24 = e % 2 ^ 24) ∧
    (∃ (e : Nat) (g : RoleMove) (s : State), s.twin.pend = some g ∧ g.target % 2 ^ 24 ≠ e % 2 ^ 24) ∧
    (∃ (mask : Nat) (e : Nat) (E : Nat) (s : State), mask < 65536 ∧ e < 2 ^ 24 ∧ s.pairState ≠ 0 ∧ resolveEpoch s.epoch e = some E) ∧
    (∃ (T : Nat) (s : State), s.pairState ≠ 0 ∧ T ≤ s.now) ∧
    (∃ (T : Nat) (s : State), s.pairState ≠ 0 ∧ s.now < T ∧ T < 2 ^ 64 ∧ s.bit Reg.FCR_SNAP_CFG 4 = true ∧ s.fcr.time2Armed = false) ∧
    (∃ (T : Nat) (s : State), s.pairState ≠ 0 ∧ s.now < T ∧ s.bit Reg.FCR_SNAP_CFG 4 = false) ∧
    (∃ (s : State), s.isTwinB = true ∧ s.roles ≠ 0 ∧ s.partnerReady = true ∧ s.twin.holdFrom.isSome = true ∧ s.twin.inhibit = false ∧ s.twin.give = none ∧ s.bit Reg.TWN_CFG 3 = false) ∧
    (∃ (m : Requester) (s : State), s.isTwinB = true ∧ s.roles ≠ 0 ∧ s.partnerReady = true ∧ s.twin.holdFrom.isSome = true ∧ s.twin.inhibit = false ∧ s.twin.give = none ∧ s.bit Reg.TWN_CFG 3 = false ∧ s.Passes m Reg.TWN_CTRL .write) ∧
    (∃ (s : State), s.isTwinB = true ∧ s.roles ≠ 0 ∧ s.partnerReady = true ∧ s.twin.holdFrom.isSome = true ∧ s.twin.inhibit = false ∧ s.twin.give = none ∧ s.bit Reg.TWN_CFG 3 = true) ∧
    (∃ (m : Requester) (s : State), s.Passes m Reg.TWN_CTRL .write) ∧
    (∃ (m : Requester) (s : State), s.Passes m Reg.TWN_CTRL .write) ∧
    (∃ (m : Requester) (s : State), s.Passes m Reg.TWN_CTRL .write ∧ s.paired = true ∧ s.roles ≠ 0 ∧ s.partnerHealth = 0 ∧ s.twin.give = none) ∧
    (∃ (m : Requester) (s : State), s.Passes m Reg.TWN_CTRL .write ∧ s.paired = false) :=
    ⟨⟨pairSt 2 1 S0, (by decide +kernel)⟩,
    ⟨S0, (by decide +kernel)⟩,
    ⟨{ pairSt 2 1 S0 with twin := { S0.twin with meanRaw := some 9 } }, (by decide +kernel)⟩,
    ⟨S0, (by decide +kernel)⟩,
    ⟨pairSt 3 1 S0, (by decide +kernel)⟩,
    ⟨S0, (by decide +kernel)⟩,
    ⟨16383, 5, 9000000, 0x1000, 0x9000, ({  (inSt [(10, 0, 4), (9, 0, 4)] (pairSt 2 1 S0)) with now := 500 }).takeCheck true false 16383 1 [(0x1000, 0x9000)] 9000000 5, {  (inSt [(10, 0, 4), (9, 0, 4)] (pairSt 2 1 S0)) with now := 500 }, (by decide +kernel), (by decide +kernel), (by decide +kernel), (by decide +kernel), rfl, (by decide +kernel)⟩,
    ⟨16383, 5, 9000000, 0x1000, 0x9000, ({ withImage (inSt [(10, 0, 4), (9, 0, 4)] (pairSt 2 1 S0)) with now := 500 }).takeCheck true false 16383 1 [(0x1000, 0x9000)] 9000000 5, { withImage (inSt [(10, 0, 4), (9, 0, 4)] (pairSt 2 1 S0)) with now := 500 }, (by decide +kernel), (by decide +kernel), (by decide +kernel), (by decide +kernel), rfl, (by decide +kernel)⟩,
    ⟨16383, 5, 9000000, 0x1000, 0x9000, ({ withImage (inSt [(10, 0, 4), (9, 0, 4)] (pairSt 2 1 S0)) with now := 500 }).takeCheck true false 16383 1 [(0x1000, 0x9000)] 9000000 5, { withImage (inSt [(10, 0, 4), (9, 0, 4)] (pairSt 2 1 S0)) with now := 500 }, (by decide +kernel), (by decide +kernel), (by decide +kernel), (by decide +kernel), rfl⟩,
    ⟨16383, 400, (⟨16383, 5, 9000000, false, false, false, false, some 400, false, [⟨0x1000, 0x9000, 1, 0, 1000, true, 0⟩, ⟨0x1000, 0x9001, 4, 0, 1000, false, 0⟩]⟩ : Take), { { withImage (inSt [(10, 0, 4), (9, 0, 4)] (pairSt 2 1 S0)) with now := 500 } with geyser := { S0.geyser with takes := [(⟨16383, 5, 9000000, false, false, false, false, some 400, false, [⟨0x1000, 0x9000, 1, 0, 1000, true, 0⟩, ⟨0x1000, 0x9001, 4, 0, 1000, false, 0⟩]⟩ : Take)] } }, (by decide +kernel), (by decide +kernel), (by decide +kernel), (by decide +kernel), (by decide +kernel)⟩,
    ⟨16383, S0, (by decide +kernel), (by decide +kernel), (by decide +kernel)⟩,
    ⟨2 ^ 24 - 1, 2 ^ 32 - 1, 6, 2 ^ 24 - 1, { pairSt 2 1 S0 with now := 125000 * (2 ^ 24 - 5) }, (by decide +kernel), (by decide +kernel), (by decide +kernel), (by decide +kernel), (by decide +kernel), (by decide +kernel)⟩,
    ⟨2 ^ 24 - 1, 2 ^ 32 - 1, 6, 2 ^ 24 - 1, { pairSt 0 1 S0 with now := 125000 * (2 ^ 24 - 5) }, (by decide +kernel), (by decide +kernel), (by decide +kernel), (by decide +kernel), (by decide +kernel)⟩,
    ⟨2 ^ 24 - 2, 0x9000, 5, pastEpoch ({ pairSt 2 1 S0 with now := 125000 * 2 ^ 24, twin := { S0.twin with own := [(2 ^ 24 - 2, 0x9000, 5)] } }).epoch (2 ^ 24 - 2), 5, { pairSt 2 1 S0 with now := 125000 * 2 ^ 24, twin := { S0.twin with own := [(2 ^ 24 - 2, 0x9000, 5)] } }, (by decide +kernel), rfl, (by decide +kernel), (by decide +kernel), (by decide +kernel), (by decide +kernel), (by decide +kernel), (by decide +kernel)⟩,
    ⟨2 ^ 24 - 2, 0x9000, 6, pastEpoch ({ pairSt 2 1 S0 with now := 125000 * 2 ^ 24, twin := { S0.twin with own := [(2 ^ 24 - 2, 0x9000, 5)] } }).epoch (2 ^ 24 - 2), 5, { pairSt 2 1 S0 with now := 125000 * 2 ^ 24, twin := { S0.twin with own := [(2 ^ 24 - 2, 0x9000, 5)] } }, (by decide +kernel), rfl, (by decide +kernel), (by decide +kernel), (by decide +kernel), (by decide +kernel), (by decide +kernel), (by decide +kernel)⟩,
    ⟨pairSt 3 1 S0, (by decide +kernel)⟩,
    ⟨3, 2 ^ 24 - 1, 2 ^ 24 - 1, { pairSt 2 1 S0 with now := 125000 * (2 ^ 24 - 5), twin := { S0.twin with active := 1 } }, (by decide +kernel), (by decide +kernel), (by decide +kernel), (by decide +kernel)⟩,
    ⟨3, 2 ^ 24 - 1, 2 ^ 24 - 1, { pairSt 1 1 S0 with now := 125000 * (2 ^ 24 - 5) }, (by decide +kernel), (by decide +kernel), (by decide +kernel), (by decide +kernel)⟩,
    ⟨2 ^ 24 + 1, (⟨3, 2 ^ 24 + 1, false, false⟩ : RoleMove), { pairSt 2 1 S0 with now := 125000 * 2 ^ 24, twin := { S0.twin with give := some (⟨3, 2 ^ 24 + 1, false, false⟩ : RoleMove) } }, (by decide +kernel), (by decide +kernel), (by decide +kernel)⟩,
    ⟨1, (⟨3, 2 ^ 24 + 1, false, false⟩ : RoleMove), { pairSt 2 1 S0 with now := 125000 * 2 ^ 24 + 1, twin := { S0.twin with give := some (⟨3, 2 ^ 24 + 1, false, false⟩ : RoleMove) } }, (by decide +kernel), (by decide +kernel), (by decide +kernel)⟩,
    ⟨1, (⟨3, 2 ^ 24 + 1, false, false⟩ : RoleMove), { pairSt 2 1 S0 with now := 125000 * 2 ^ 24, twin := { S0.twin with pend := some (⟨3, 2 ^ 24 + 1, false, false⟩ : RoleMove) } }, (by decide +kernel), (by decide +kernel)⟩,
    ⟨2, (⟨3, 2 ^ 24 + 1, false, false⟩ : RoleMove), { pairSt 2 1 S0 with now := 125000 * 2 ^ 24, twin := { S0.twin with pend := some (⟨3, 2 ^ 24 + 1, false, false⟩ : RoleMove) } }, (by decide +kernel), (by decide +kernel)⟩,
    ⟨0x8005, 5, 5, at' [(Reg.TWN_L_STATUS 3, 2 ^ 29)] (pairSt 1 1 S0), (by decide +kernel), (by decide +kernel), (by decide +kernel), (by decide +kernel)⟩,
    ⟨500, {  (inSt [(10, 0, 4), (9, 0, 4)] (pairSt 2 1 S0)) with now := 500 }, (by decide +kernel), (by decide +kernel)⟩,
    ⟨2 ^ 64 - 1, at' [(Reg.FCR_SNAP_CFG, 16)] ({  (inSt [(10, 0, 4), (9, 0, 4)] (pairSt 2 1 S0)) with now := 500 }), (by decide +kernel), (by decide +kernel), (by decide +kernel), (by decide +kernel), (by decide +kernel)⟩,
    ⟨501, at' [(Reg.FCR_SNAP_CFG, 0)] ({  (inSt [(10, 0, 4), (9, 0, 4)] (pairSt 2 1 S0)) with now := 500 }), (by decide +kernel), (by decide +kernel), (by decide +kernel)⟩,
    ⟨{ at' [(Reg.TWN_ROLE, 3 * 2 ^ 30), (Reg.TWN_PARTNER, 2 ^ 25), (Reg.TWN_CFG, 48)] (withImage (pairSt 2 1 S0)) with now := 10 ^ 12, board := { S0.board with twinId := true }, twin := { S0.twin with active := 1, image := some (7, 9), partnerLock := some 0, holdFrom := some 5 } }, (by decide +kernel), (by decide +kernel), (by decide +kernel), (by decide +kernel), (by decide +kernel), (by decide +kernel), (by decide +kernel)⟩,
    ⟨boot, { at' [(Reg.TWN_ROLE, 3 * 2 ^ 30), (Reg.TWN_PARTNER, 2 ^ 25), (Reg.TWN_CFG, 48)] (withImage (pairSt 2 1 S0)) with now := 10 ^ 12, board := { S0.board with twinId := true }, twin := { S0.twin with active := 1, image := some (7, 9), partnerLock := some 0, holdFrom := some 5 } }, (by decide +kernel), (by decide +kernel), (by decide +kernel), (by decide +kernel), (by decide +kernel), (by decide +kernel), (by decide +kernel), (passes_of (by decide +kernel))⟩,
    ⟨{ at' [(Reg.TWN_ROLE, 3 * 2 ^ 30), (Reg.TWN_PARTNER, 2 ^ 25), (Reg.TWN_CFG, 8 + 48)] (withImage (pairSt 2 1 S0)) with now := 10 ^ 12, board := { S0.board with twinId := true }, twin := { S0.twin with active := 1, image := some (7, 9), partnerLock := some 0, holdFrom := some 5 } }, (by decide +kernel), (by decide +kernel), (by decide +kernel), (by decide +kernel), (by decide +kernel), (by decide +kernel), (by decide +kernel)⟩,
    ⟨boot, inSt [(15, 0, 4)] S0, (passes_of (by decide +kernel))⟩,
    ⟨boot, at' [(Reg.TWN_STATUS, 2 ^ 25)] (inSt [(15, 0, 4)] S0), (passes_of (by decide +kernel))⟩,
    ⟨boot, { at' [(Reg.TWN_ROLE, 3 * 2 ^ 30), (Reg.TWN_PARTNER, 2 ^ 25), (Reg.TWN_CFG, 48)] (withImage (pairSt 2 1 S0)) with now := 10 ^ 12, board := { S0.board with twinId := true }, twin := { S0.twin with active := 1, image := some (7, 9), partnerLock := some 0, holdFrom := some 5 } }, (passes_of (by decide +kernel)), (by decide +kernel), (by decide +kernel), (by decide +kernel), (by decide +kernel)⟩,
    ⟨boot, inSt [(15, 0, 3)] S0, (passes_of (by decide +kernel)), (by decide +kernel)⟩⟩

end Sys2Proof.Tests
end

section
/-! SUPPORT. The epoch's length and number, the pair CXF_EPOCH, and the time that the epoch boundary brings (R10; log entry 1). -/

namespace Sys2Proof.Machine

/-! ### The epoch's length and number -/

theorem epochLen_pos (p : Nat) : 0 < epochLen p := by
  unfold epochLen; split <;> decide

theorem State.epochNs_of_swift {s : State} (h : s.profile = 1) : s.epochNs = 31250 := if_pos h

theorem State.epochNs_of_not_swift {s : State} (h : s.profile ≠ 1) : s.epochNs = 125000 := if_neg h

theorem State.epochNs_pos (s : State) : 0 < s.epochNs := epochLen_pos s.profile

/-- The next boundary lies ahead of the present time. -/
theorem State.now_lt_nextBoundary (s : State) : s.now < (s.now / s.epochNs + 1) * s.epochNs :=
  Nat.lt_mul_of_div_lt (Nat.lt_succ_self _) s.epochNs_pos

/-- Epoch n is in progress from n epoch lengths on, up to the start of the next one. -/
theorem State.epoch_eq_iff (s : State) (n : Nat) :
    s.epoch = n ↔ n * s.epochNs ≤ s.now ∧ s.now < (n + 1) * s.epochNs := by
  have hpos := s.epochNs_pos
  rw [State.epoch, Nat.div_eq_iff hpos, Nat.add_one_mul]
  omega

/-! ### The pair CXF_EPOCH -/

/-- A location of a page's own registers that no control block forms and the power manager or the fabric does reads the word they form. -/
theorem State.view_of_powerWord {s : State} {a v : Nat} (hlo : 0x100 ≤ offOf a) (hhi : offOf a < 0x8000)
    (hctl : s.ctlWord a = none) (hpow : s.powerWord a = some v) : s.view a = w32 v := by
  have hheader : ¬ offOf a < 0x100 := by omega
  have hmirror : ¬ 0xF000 ≤ offOf a := by omega
  have hshadow : ¬ 0x8000 ≤ offOf a := by omega
  simp only [State.view, if_neg hheader, if_neg hmirror, if_neg hshadow, hctl, hpow]

theorem State.view_epochLo (s : State) : s.view Reg.CXF_EPOCH_LO = w32 (s.epoch % 2 ^ 32) :=
  State.view_of_powerWord (by decide) (by decide) rfl rfl

theorem State.view_epochHi (s : State) : s.view Reg.CXF_EPOCH_HI = w32 (s.epoch / 2 ^ 32 % 2 ^ 32) :=
  State.view_of_powerWord (by decide) (by decide) rfl rfl

/-- The two halves together are the number's low 64 bits. -/
theorem State.epochPair_reads (s : State) :
    (s.view Reg.CXF_EPOCH_LO).toNat + (s.view Reg.CXF_EPOCH_HI).toNat * 2 ^ 32 = s.epoch % 2 ^ 64 := by
  rw [State.view_epochLo, State.view_epochHi]
  simp only [w32, BitVec.toNat_ofNat]
  omega

/-! ### The epoch boundary -/

/-- What a state is by itself, at one time alone: the base that is kept only where the timescale does not move. -/
def State.heldAt (s : State) (n : Nat) : Base := { s.base with clock := (· = n) }

theorem State.Legal.tidy_heldAt {s : State} (h : s.Legal) : s.Tidy (s.heldAt s.now) := by
  obtain ⟨hregs, hmem, htcm, hprofile, hlc, hsvn⟩ := h
  exact ⟨rfl, hregs, hmem, htcm, hprofile, ⟨Nat.le_refl _, hlc, Nat.le_refl _, hsvn, id, id⟩, rfl⟩

theorem State.Tidy.now_eq {s t : State} {n : Nat} (h : t.Tidy (s.heldAt n)) : t.now = n := by
  obtain ⟨-, -, -, -, -, -, hnow⟩ := h
  exact hnow

/-- Where the timescale has come to another time, the state is held there. -/
theorem State.Tidy.movedTo {s t : State} {m : Nat} (h : t.Tidy (s.heldAt m)) (n : Nat) :
    State.Tidy (s.heldAt n) { t with now := n } := by
  obtain ⟨hpending, hregs, hmem, htcm, hprofile, hfuses, -⟩ := h
  exact ⟨hpending, hregs, hmem, htcm, hprofile, hfuses, rfl⟩

/-- What the ended epoch leaves does not move the boundary, and what the new epoch starts leaves the timescale there. -/
theorem State.epochBoundary_now {s : State} (h : s.Legal) :
    s.epochBoundary.now = (s.now / s.epochNs + 1) * s.epochNs := by
  have hend : s.epochEnd.Tidy (s.heldAt s.now) := State.epochEnd_tidy h.tidy_heldAt
  rw [State.epochBoundary]
  exact (State.epochStarted_tidy (hend.movedTo _)).now_eq

theorem exec_epochBoundary (s : State) : exec .epochBoundary s = execEpochBoundary s := by rfl

/-- While the RTU has power the command is the boundary (R300, R303). -/
theorem exec_epochBoundary_of_clockRuns {s : State} (h : s.clockRuns = true) :
    exec .epochBoundary s = .next s.epochBoundary := by
  rw [exec_epochBoundary, execEpochBoundary, if_pos h]

/-- Settles O12: the number is the quotient of the time by the epoch length, and nothing that the boundary ends or starts moves the timescale again (R10; the boundary as a command is log entry 1). -/
theorem epochBoundaryCompletes : Obligations.EpochBoundaryCompletes := by
  refine ⟨fun s _ => ⟨fun h => State.epochNs_of_not_swift (by omega), State.epochNs_of_swift⟩,
    fun n s _ => s.epoch_eq_iff n, State.epochPair_reads, fun s hs hrun => ?_⟩
  have hnow : s.epochBoundary.now = (s.now / s.epochNs + 1) * s.epochNs := State.epochBoundary_now hs
  exact ⟨s.epochBoundary, exec_epochBoundary_of_clockRuns hrun, hnow, by rw [hnow]; exact s.now_lt_nextBoundary⟩

end Sys2Proof.Machine
end

section
/-! SUPPORT. What a start of harts and a warm restart of the application cores do, and what they leave; the key slots over restarts and resets (R371, R372, R383, R399). -/

namespace Sys2Proof.Machine

/-! ### Starting harts -/

theorem State.bit_congr {s t : State} {a : Nat} (h : t.rd a = s.rd a) (n : Nat) : t.bit a n = s.bit a n := by
  rw [State.bit, State.bit, h]

/-- The status registers of the control processors, CPC_STATUS and CPC_H_STATUS among them: what a start of harts may write. -/
def CpcStatus (a : Nat) : Prop := 0x40000000 ≤ a ∧ a < 0x41000000 ∧ a % 0x10000 = 0x104

theorem cpcStatus_device : CpcStatus Reg.CPC_STATUS := by unfold CpcStatus; decide

theorem cpcStatus_hart {h : Nat} (hlt : h < 4) : CpcStatus (Reg.CPC_H_STATUS (h + 1)) := by
  unfold CpcStatus Reg.CPC_H_STATUS; omega

/-- t is s after harts have started: restart addresses and status registers may differ, and reservations may be gone. -/
structure State.Started (s t : State) : Prop where
  keys : t.keys = s.keys
  answer : t.answer = s.answer
  wdtStart : t.ctl.wdtStart = s.ctl.wdtStart
  resv : t.bus.resv ⊆ s.bus.resv
  rd : ∀ b, ¬ CpcStatus b → t.rd b = s.rd b

section
variable {s t : State}

theorem started_refl (s : State) : s.Started s := ⟨rfl, rfl, rfl, List.Subset.refl _, fun _ _ => rfl⟩

theorem started_wr (h : s.Started t) {a : Nat} {v : W} (ha : CpcStatus a) : s.Started (t.wr a v) where
  keys := h.keys
  answer := h.answer
  wdtStart := h.wdtStart
  resv := h.resv
  rd b hb := by
    have hne : b ≠ a := fun e => hb (e ▸ ha)
    rw [State.rd_wr_ne t v hne, h.rd b hb]

theorem started_setFld (h : s.Started t) {a hi lo v : Nat} (ha : CpcStatus a) : s.Started (t.setFld a hi lo v) := started_wr h ha
theorem started_setBit (h : s.Started t) {a n : Nat} {v : Bool} (ha : CpcStatus a) : s.Started (t.setBit a n v) := started_wr h ha
theorem started_bumpSat (h : s.Started t) {a hi lo n : Nat} (ha : CpcStatus a) : s.Started (t.bumpSat a hi lo n) := started_wr h ha

theorem started_hartPc (h : s.Started t) {l : List Nat} : s.Started { t with ctl := { t.ctl with hartPc := l } } :=
  ⟨h.keys, h.answer, h.wdtStart, h.resv, h.rd⟩

theorem started_dropResv (h : s.Started t) {hart : Nat} : s.Started (t.dropResv hart) :=
  ⟨h.keys, h.answer, h.wdtStart, List.Subset.trans (List.filter_sublist.subset) h.resv, h.rd⟩

theorem started_startHart (h : s.Started t) {hart : Nat} (hlt : hart < 4) : s.Started (t.startHart hart) :=
  started_dropResv (started_setBit
    (started_setFld (started_setFld (started_hartPc h) (cpcStatus_hart hlt)) (cpcStatus_hart hlt)) cpcStatus_device)

theorem started_startReleased (h : s.Started t) : s.Started t.startReleased := by
  have hharts : ∀ hart ∈ harts, hart < 4 := by decide
  refine List.foldlRecOn harts _ h (fun u hu hart hmem => ?_)
  split
  · exact started_startHart hu (hharts hart hmem)
  · exact hu

end

theorem State.dropResv_resv_ne (s : State) (h : Nat) : ∀ r ∈ (s.dropResv h).bus.resv, r.1 ≠ h := fun _ hr => by
  simpa using (List.mem_filter.mp hr).2

/-- The last things of a hart's start are its bit of CPC_STATUS and the loss of its reservation. -/
theorem State.startHart_ends (s : State) (h : Nat) : ∃ t : State, s.startHart h = (t.setBit Reg.CPC_STATUS h true).dropResv h :=
  ⟨_, rfl⟩

theorem State.startHart_resv_ne (s : State) (h : Nat) : ∀ r ∈ (s.startHart h).bus.resv, r.1 ≠ h := by
  obtain ⟨t, ht⟩ := s.startHart_ends h
  rw [ht]
  exact State.dropResv_resv_ne _ h

theorem State.startHart_status (s : State) {h : Nat} (hlt : h < 4) : (s.startHart h).bit Reg.CPC_STATUS h = true := by
  obtain ⟨t, ht⟩ := s.startHart_ends h
  have hdrop : ((t.setBit Reg.CPC_STATUS h true).dropResv h).rd Reg.CPC_STATUS = (t.setBit Reg.CPC_STATUS h true).rd Reg.CPC_STATUS :=
    State.rd_congr rfl _
  rw [ht, State.bit_congr hdrop, State.bit_setBit_same _ _ _ (by omega)]

/-! ### The restart and the NMI of one hart (R371, R383) -/

theorem State.restartHart_of_released {s : State} {h : Nat} (hrel : s.released h = true) :
    s.restartHart h = (s.orphanTxns (fun n => n == h + 1)).startHart h := by
  rw [State.restartHart, if_pos hrel]

theorem State.restartHart_answer (s : State) {h : Nat} (hlt : h < 4) : (s.restartHart h).answer = s.answer := by
  rw [State.restartHart]
  split
  · exact (started_startHart (started_refl _) hlt).answer
  · rfl

/-- An NMI that a released hart takes ends in the loss of its reservation, and before that has been counted as delivered. -/
theorem State.nmiHart_of_released {s : State} {h : Nat} (hrel : s.released h = true) :
    ∃ t : State, s.nmiHart h = t.dropResv h ∧ t.answer = s.answer ∧ t.ctl.nmis = setNth s.ctl.nmis h (nthD s.ctl.nmis h 0 + 1) := by
  rw [State.nmiHart, if_pos hrel]
  refine ⟨_, rfl, ?_⟩
  rw [State.setFld_answer, State.setFld_answer, State.setFld_ctl, State.setFld_ctl]
  exact ⟨rfl, rfl⟩

theorem State.nmiHart_nmis {s : State} {h : Nat} (hrel : s.released h = true) :
    (s.nmiHart h).ctl.nmis = setNth s.ctl.nmis h (nthD s.ctl.nmis h 0 + 1) := by
  obtain ⟨t, ht, -, hnmis⟩ := State.nmiHart_of_released hrel
  rw [ht]
  exact hnmis

theorem State.nmiHart_resv_ne {s : State} {h : Nat} (hrel : s.released h = true) : ∀ r ∈ (s.nmiHart h).bus.resv, r.1 ≠ h := by
  obtain ⟨t, ht, -, -⟩ := State.nmiHart_of_released hrel
  rw [ht]
  exact t.dropResv_resv_ne h

theorem State.nmiHart_answer {s : State} {h : Nat} (hrel : s.released h = true) : (s.nmiHart h).answer = s.answer := by
  obtain ⟨t, ht, hanswer, -⟩ := State.nmiHart_of_released hrel
  rw [ht]
  exact hanswer

/-! ### A warm restart (R371) -/

/-- A warm restart at its beginning: what the cores had under way is orphaned, no reservation stands, and the watchdog counts from now. -/
def State.coresStopped (s : State) : State :=
  let t := s.orphanTxns (fun n => Nat.ble 1 n && Nat.ble n 4)
  { t with bus := { t.bus with resv := [] }, ctl := { t.ctl with wdtStart := s.now } }

theorem State.rd_coresStopped (s : State) (b : Nat) : s.coresStopped.rd b = s.rd b := State.rd_congr rfl b

/-- A warm restart stops the cores, notes its cause, and starts the released harts. -/
theorem State.warmRestart_started (s : State) (cause : Nat) :
    (s.coresStopped.setBit Reg.CPC_RESET_CAUSE cause true).Started (s.warmRestart cause) :=
  started_startReleased (started_bumpSat (started_refl _) cpcStatus_device)

theorem State.warmRestart_keys (s : State) (cause : Nat) : (s.warmRestart cause).keys = s.keys := by
  rw [(s.warmRestart_started cause).keys, State.setBit_keys]
  rfl

theorem State.warmRestart_answer (s : State) (cause : Nat) : (s.warmRestart cause).answer = s.answer := by
  rw [(s.warmRestart_started cause).answer, State.setBit_answer]
  rfl

theorem State.warmRestart_wdtStart (s : State) (cause : Nat) : (s.warmRestart cause).ctl.wdtStart = s.now := by
  rw [(s.warmRestart_started cause).wdtStart, State.setBit_ctl]
  rfl

theorem State.warmRestart_resv (s : State) (cause : Nat) : (s.warmRestart cause).bus.resv = [] := by
  have hsub := (s.warmRestart_started cause).resv
  rw [State.setBit_bus] at hsub
  exact List.subset_nil.mp hsub

theorem State.warmRestart_cause (s : State) {cause : Nat} (h : cause < 32) :
    (s.warmRestart cause).bit Reg.CPC_RESET_CAUSE cause = true := by
  have hrd := (s.warmRestart_started cause).rd Reg.CPC_RESET_CAUSE (by unfold CpcStatus; decide)
  rw [State.bit_congr hrd, State.bit_setBit_same _ _ _ h]

/-- Outside the control processors' block a warm restart writes no register. -/
theorem State.rd_warmRestart (s : State) (cause : Nat) {b : Nat} (hb : 0x41000000 ≤ b) : (s.warmRestart cause).rd b = s.rd b := by
  have hstatus : ¬ CpcStatus b := by unfold CpcStatus; omega
  have hcause : b ≠ Reg.CPC_RESET_CAUSE := by unfold Reg.CPC_RESET_CAUSE; omega
  rw [(s.warmRestart_started cause).rd b hstatus, State.rd_setBit, if_neg hcause, State.rd_coresStopped]

/-! ### The commands -/

/-- Who makes an access that passes is one of the masters of Table 15.3. -/
theorem State.Passes.num_lt {s : State} {m : Requester} {a : Nat} {kind : TxnKind} (h : s.Passes m a kind) : m.num < 12 := by
  obtain ⟨hm, -⟩ := h
  exact hm

/-- An access that passes and that its page answers OKAY: its effect, and one more transaction served. -/
theorem writeAccess_okay {s : State} {m : Requester} {a : Nat} (h : s.Passes m a .write) (v : Nat) {f : State → State}
    (hf : (f (s.arrived m a)).answer.resp = .okay) :
    s.writeAccess m a v f = (f (s.arrived m a)).bump (Reg.BMX_M_SERVED (m.num + 1)) := by
  rw [writeAccess_passes h, settle_okay hf]

/-- The count of transactions served stands in the bus matrix's pages of the masters. -/
theorem State.rd_served (t : State) {m : Requester} (hm : m.num < 12) {b : Nat} (hb : ¬ (0x41000000 ≤ b ∧ b < 0x42000000)) :
    (t.bump (Reg.BMX_M_SERVED (m.num + 1))).rd b = t.rd b := by
  rw [State.rd_bump, if_neg (by simp only [Reg.BMX_M_SERVED]; omega)]

theorem exec_powerOnReset (s : State) : exec .powerOnReset s = .next (s.coldReset 0) := by rfl

theorem exec_coldReset_long (s : State) {n : Nat} (h : 1000 ≤ n) :
    exec (.coldReset n) s = .next (s.coldReset (s.rdN Reg.KSU_GLITCH_LOG)) := by
  have harm : exec (.coldReset n) s = execColdReset n s := by rfl
  rw [harm, execColdReset, if_pos h]

theorem exec_glitchTrip (die : Nat) (step level : Bool) (s : State) :
    exec (.glitchTrip die step level) s = .next (s.glitchTrip die step level) := by rfl

theorem exec_cpcRestartAll {s : State} {m : Requester} (h : s.Passes m Reg.CPC_RESTART .write) :
    exec (.cpcRestartAll m) s =
      .next (((s.arrived m Reg.CPC_RESTART).warmRestart 2).bump (Reg.BMX_M_SERVED (m.num + 1))) := by
  have harm : exec (.cpcRestartAll m) s = execCpcRestartAll m s := by rfl
  rw [harm, execCpcRestartAll, writeAccess_okay h _ (by rw [State.warmRestart_answer, State.arrived_answer])]

/-- A hart's release is read as it was when an access arrives. -/
theorem State.arrived_released {s : State} (m : Requester) (a : Nat) (h : Nat) : (s.arrived m a).released h = s.released h :=
  State.bit_congr (State.rd_arrived s m a (by decide)) h

theorem exec_hartRestart {s : State} {m : Requester} {h : Nat} (hlt : h < 4) (hp : s.Passes m (Reg.CPC_H_CTRL (h + 1)) .write) :
    exec (.hartRestart m h) s =
      .next (((s.arrived m (Reg.CPC_H_CTRL (h + 1))).restartHart h).bump (Reg.BMX_M_SERVED (m.num + 1))) := by
  have harm : exec (.hartRestart m h) s = execHartRestart m h s := by rfl
  have hok : ((s.arrived m (Reg.CPC_H_CTRL (h + 1))).restartHart h).answer.resp = .okay := by
    rw [State.restartHart_answer _ hlt, State.arrived_answer]
  rw [harm, execHartRestart, Nat.mod_eq_of_lt hlt, writeAccess_okay hp _ (f := fun t => t.restartHart h) hok]

theorem exec_hartNmi {s : State} {m : Requester} {h : Nat} (hlt : h < 4) (hrel : s.released h = true)
    (hp : s.Passes m (Reg.CPC_H_CTRL (h + 1)) .write) :
    exec (.hartNmi m h) s =
      .next (((s.arrived m (Reg.CPC_H_CTRL (h + 1))).nmiHart h).bump (Reg.BMX_M_SERVED (m.num + 1))) := by
  have harm : exec (.hartNmi m h) s = execHartNmi m h s := by rfl
  have hok : ((s.arrived m (Reg.CPC_H_CTRL (h + 1))).nmiHart h).answer.resp = .okay := by
    rw [State.nmiHart_answer ((State.arrived_released m _ h).trans hrel), State.arrived_answer]
  rw [harm, execHartNmi, Nat.mod_eq_of_lt hlt, writeAccess_okay hp _ (f := fun t => t.nmiHart h) hok]

theorem State.kickWdt_answer (s : State) : s.kickWdt.answer = s.answer := rfl

theorem State.kickWdt_wdtStart (s : State) : s.kickWdt.ctl.wdtStart = s.now := rfl

theorem exec_wdtKick {s : State} {m : Requester} (v : Nat) (h : s.Passes m Reg.CPC_WDT_KICK .write) :
    exec (.wdtKick m v) s = .next ((s.arrived m Reg.CPC_WDT_KICK).kickWdt.bump (Reg.BMX_M_SERVED (m.num + 1))) := by
  have harm : exec (.wdtKick m v) s = execWdtKick m v s := by rfl
  have hok : (s.arrived m Reg.CPC_WDT_KICK).kickWdt.answer.resp = .okay := by
    rw [State.kickWdt_answer, State.arrived_answer]
  rw [harm, execWdtKick, writeAccess_okay h v hok]

theorem exec_wdtExpire (s : State) : exec .wdtExpire s = .next s.wdtExpire := by rfl

theorem State.wdtExpire_enabled {s : State} (h : s.bit Reg.CPC_WDT_CFG 31 = true) :
    s.wdtExpire = (s.warmRestart 3).raise Src.CPC_WDT := by
  rw [State.wdtExpire, if_pos h]

theorem State.wdtExpire_disabled {s : State} (h : ¬ s.bit Reg.CPC_WDT_CFG 31 = true) : s.wdtExpire = s := by
  rw [State.wdtExpire, if_neg h]

theorem State.raise_bus (s : State) (src : Nat) : (s.raise src).bus = s.bus := congrArg Apart.bus (s.apart_raise src)

theorem State.raise_ctl (s : State) (src : Nat) : (s.raise src).ctl = s.ctl := congrArg Apart.ctl (s.apart_raise src)

theorem State.raise_keys (s : State) (src : Nat) : (s.raise src).keys = s.keys := congrArg Apart.keys (s.apart_raise src)

/-! ### The key slots (R396, R399) -/

theorem slotAddr_bounds {n : Nat} (h : n < 64) : 0x42101000 ≤ slotAddr n ∧ slotAddr n < 0x42101100 := by
  unfold slotAddr pageAddr; omega

/-- A slot is as it was where its status word and the key bytes are. -/
theorem State.slot_congr {s t : State} {n : Nat} (hrd : t.rd (slotAddr n) = s.rd (slotAddr n)) (hkeys : t.keys = s.keys) :
    t.slotWord n = s.slotWord n ∧ t.slotKey n = s.slotKey n := by
  rw [State.slotWord, State.slotWord, State.rdN, State.rdN, hrd, State.slotKey, State.slotKey, hkeys]
  exact ⟨rfl, rfl⟩

/-- The slots' page holds no register of Table 16.7: its words are table memory, reset to 0. -/
theorem regReset_slotPage (o : Nat) : regReset 2 0x10 o = 0 := by
  have hrows : ∀ r ∈ regRows 2, r.pgHi < 0x10 := by decide
  have hrow : rowAt 2 0x10 o = none := by
    rw [rowAt, List.find?_eq_none]
    intro r hr
    have := hrows r hr
    simp only [Bool.and_eq_true, Nat.ble_eq]
    omega
  have hpage : pageReset 2 0x10 o = none := rfl
  simp only [regReset, hpage, hrow]
  rfl

theorem resetVal_slotAddr {n : Nat} (h : n < 64) : resetVal (slotAddr n) = 0#32 := by
  obtain ⟨hlo, hhi⟩ := slotAddr_bounds h
  have hblock : blockOf (slotAddr n) = 2 := by unfold blockOf; omega
  have hpage : pageNo (slotAddr n) = 0x10 := by unfold pageNo; omega
  have hoff : 0x1000 ≤ offOf (slotAddr n) ∧ offOf (slotAddr n) < 0x1100 := by unfold offOf; omega
  have h32 : ¬ 2 ^ 32 ≤ slotAddr n := by omega
  have hheader : ¬ offOf (slotAddr n) < 0x100 := by omega
  have hmirror : ¬ 0xF000 ≤ offOf (slotAddr n) := by omega
  have hshadow : ¬ 0x8000 ≤ offOf (slotAddr n) := by omega
  simp only [resetVal, hblock, hpage, if_neg h32, if_neg hheader, if_neg hmirror, if_neg hshadow, regReset_slotPage]
  rfl

/-- A cold reset leaves every slot EMPTY. -/
theorem State.coldReset_slot (s : State) (log : Nat) {n : Nat} (h : n < 64) :
    (s.coldReset log).slotWord n = 0 ∧ (s.coldReset log).slotKey n = [] := by
  have hbounds := slotAddr_bounds h
  have hlog : slotAddr n ≠ Reg.KSU_GLITCH_LOG := by unfold Reg.KSU_GLITCH_LOG; omega
  refine ⟨?_, rfl⟩
  rw [State.slotWord, State.rdN, State.coldReset, State.rd_wrN, if_neg hlog]
  exact congrArg BitVec.toNat (resetVal_slotAddr h)

/-- The watchdog's restart and its raise leave every slot as it was. -/
theorem State.wdtExpire_slot (s : State) {n : Nat} (h : n < 64) :
    s.wdtExpire.slotWord n = s.slotWord n ∧ s.wdtExpire.slotKey n = s.slotKey n := by
  by_cases hen : s.bit Reg.CPC_WDT_CFG 31 = true
  · have hbounds := slotAddr_bounds h
    have hcalm : Calm (slotAddr n) := ⟨by omega, by omega, by omega⟩
    rw [State.wdtExpire_enabled hen]
    refine State.slot_congr ?_ ?_
    · rw [State.rd_raise _ _ hcalm, State.rd_warmRestart _ _ (by omega)]
    · rw [State.raise_keys, State.warmRestart_keys]
  · rw [State.wdtExpire_disabled hen]
    exact ⟨rfl, rfl⟩

/-! ### Each command's effect -/

theorem cpcRestartAll_effect {s : State} {m : Requester} (h : s.Passes m Reg.CPC_RESTART .write) :
    ∃ t, exec (.cpcRestartAll m) s = .next t ∧ t.bus.resv = [] ∧ t.ctl.wdtStart = s.now ∧ t.bit Reg.CPC_RESET_CAUSE 2 = true := by
  refine ⟨_, exec_cpcRestartAll h, ?_⟩
  rw [State.bump_bus, State.bump_ctl, State.warmRestart_wdtStart, State.arrived_now, State.bit_congr (State.rd_served _ h.num_lt (by decide))]
  exact ⟨State.warmRestart_resv _ 2, rfl, State.warmRestart_cause _ (by decide)⟩

/-- The write of CPC_RESTART leaves every slot as it was, on its way, by its restart and when it is counted. -/
theorem cpcRestartAll_slot {s : State} {m : Requester} (h : s.Passes m Reg.CPC_RESTART .write) {n : Nat} (hn : n < 64) :
    ∃ t, exec (.cpcRestartAll m) s = .next t ∧ t.slotWord n = s.slotWord n ∧ t.slotKey n = s.slotKey n := by
  have hbounds := slotAddr_bounds hn
  refine ⟨_, exec_cpcRestartAll h, State.slot_congr ?_ ?_⟩
  · rw [State.rd_served _ h.num_lt (by omega), State.rd_warmRestart _ _ (by omega), State.rd_arrived _ _ _ (by omega)]
  · rw [State.bump_keys, State.warmRestart_keys, State.arrived_keys]

theorem hartRestart_effect {s : State} {m : Requester} {h : Nat} (hlt : h < 4) (hrel : s.released h = true)
    (hp : s.Passes m (Reg.CPC_H_CTRL (h + 1)) .write) :
    ∃ t, exec (.hartRestart m h) s = .next t ∧ (∀ r ∈ t.bus.resv, r.1 ≠ h) ∧ t.bit Reg.CPC_STATUS h = true := by
  have hrel' : (s.arrived m (Reg.CPC_H_CTRL (h + 1))).released h = true := (State.arrived_released m _ h).trans hrel
  refine ⟨_, exec_hartRestart hlt hp, ?_⟩
  rw [State.bump_bus, State.bit_congr (State.rd_served _ hp.num_lt (by decide)), State.restartHart_of_released hrel']
  exact ⟨State.startHart_resv_ne _ h, State.startHart_status _ hlt⟩

theorem hartNmi_effect {s : State} {m : Requester} {h : Nat} (hlt : h < 4) (hrel : s.released h = true)
    (hp : s.Passes m (Reg.CPC_H_CTRL (h + 1)) .write) :
    ∃ t, exec (.hartNmi m h) s = .next t ∧ t.ctl.nmis = setNth s.ctl.nmis h (nthD s.ctl.nmis h 0 + 1) ∧
      ∀ r ∈ t.bus.resv, r.1 ≠ h := by
  have hrel' : (s.arrived m (Reg.CPC_H_CTRL (h + 1))).released h = true := (State.arrived_released m _ h).trans hrel
  refine ⟨_, exec_hartNmi hlt hrel hp, ?_⟩
  rw [State.bump_ctl, State.bump_bus, State.nmiHart_nmis hrel', State.arrived_ctl]
  exact ⟨rfl, State.nmiHart_resv_ne hrel'⟩

theorem wdtKick_effect {s : State} {m : Requester} (v : Nat) (h : s.Passes m Reg.CPC_WDT_KICK .write) :
    ∃ t, exec (.wdtKick m v) s = .next t ∧ t.ctl.wdtStart = s.now ∧ t.answer.resp = .okay := by
  refine ⟨_, exec_wdtKick v h, ?_⟩
  rw [State.bump_ctl, State.bump_answer, State.kickWdt_wdtStart, State.kickWdt_answer, State.arrived_now, State.arrived_answer]
  exact ⟨rfl, rfl⟩

theorem wdtExpire_effect {s : State} (h : s.bit Reg.CPC_WDT_CFG 31 = true) :
    ∃ t, exec .wdtExpire s = .next t ∧ t.bus.resv = [] ∧ t.ctl.wdtStart = s.now ∧ t.bit Reg.CPC_RESET_CAUSE 3 = true := by
  have hcalm : Calm Reg.CPC_RESET_CAUSE := ⟨by decide, by decide, by decide⟩
  refine ⟨_, exec_wdtExpire s, ?_⟩
  rw [State.wdtExpire_enabled h, State.raise_bus, State.raise_ctl, State.bit_congr (State.rd_raise _ _ hcalm)]
  exact ⟨s.warmRestart_resv 3, s.warmRestart_wdtStart 3, s.warmRestart_cause (by decide)⟩

/-- Settles O13: a warm restart ends in the start of the released harts, which keeps the cause, the watchdog's start and every register of the KSU; each reset of the device begins from registers and keys at their reset values. -/
theorem restartsComplete : Obligations.RestartsComplete :=
  ⟨fun _ _ h => cpcRestartAll_effect h,
    fun _ _ _ hlt hrel h => hartRestart_effect hlt hrel h,
    fun _ _ _ hlt hrel h => hartNmi_effect hlt hrel h,
    fun _ v _ h => wdtKick_effect v h,
    fun _ h => wdtExpire_effect h,
    fun s _ hslot => ⟨_, exec_powerOnReset s, s.coldReset_slot 0 hslot⟩,
    fun _ s _ hlong hslot => ⟨_, exec_coldReset_long s hlong, s.coldReset_slot _ hslot⟩,
    fun die step level s _ _ hslot => ⟨_, exec_glitchTrip die step level s, s.coldReset_slot _ hslot⟩,
    fun _ _ _ h hslot => cpcRestartAll_slot h hslot,
    fun s _ hslot => ⟨_, exec_wdtExpire s, s.wdtExpire_slot hslot⟩⟩

end Sys2Proof.Machine
end
